-- ==== Sys2Proof/Word.lean ====
section
/-!
DEFINITION. Words of the block: the byte and the 32-bit register word.
-/
namespace Sys2Proof

/-- One byte (R12). -/
abbrev Byte := BitVec 8

/-- One register word of the register port (R49). -/
abbrev Word := BitVec 32

end Sys2Proof
end

