-- ==== Sys2Proof/Config.lean ====
section
/-!
DEFINITION. What one build of the block fixes (the integrator parameters of R69) and the free values: constants
without a body, where the spec states that a value exists and not which it is. Nothing can evaluate them.
-/
namespace Sys2Proof

/-- Source of the IEEE 1500 wrapper serial port (QLA_WSP_SOURCE, R62, R69). -/
inductive WspSource where
  | tap
  | pins
deriving DecidableEq, Repr

/-- The integrator parameters (R69). -/
structure Params where
  /-- QLA_PLAT_PORTS: 8, 4 or 2. -/
  ports : Nat
  /-- QLA_PLAT_RATIO: 20, 15 or 10. -/
  ratio : Nat
  /-- QLA_BUMP_ORIENT is 180 rather than 0. -/
  orient180 : Bool
  /-- QLA_WSP_SOURCE. -/
  wsp : WspSource
  /-- QLA_REG_CLK_MAX: 400 or 200 (MHz). -/
  regClkMax : Nat
deriving DecidableEq, Repr

/-- The defaults of R69. (DESIGN CHOICE: log entry 3) -/
def Params.default : Params :=
  { ports := 8, ratio := 20, orient180 := false, wsp := .tap, regClkMax := 400 }

/-- The hardware random generator's draws (R188's SALT of a Valiant route, R189): free, one per draw. (DESIGN CHOICE: log entry 4) -/
opaque Config.randomSalt : Nat → BitVec 16

/-- The random value SALT drawn at an enrolment (R390): free, 32 bytes as one word, one per draw. (DESIGN CHOICE: log entry 4) -/
opaque Config.enrollSalt : Nat → BitVec 256

/-- The contents of the 16 KiB PUF SRAM, which nothing writes and no reset changes (R388): free, the silicon's own, as one word.
(DESIGN CHOICE: log entry 4) -/
opaque Config.puf : BitVec 131072

/-- The error-correction syndrome CODE of the PUF response with a SALT (R389, R390): free, 928 bytes as one word. (DESIGN CHOICE:
log entry 4) (DESIGN CHOICE: log entry 4) -/
opaque Config.pufCode : BitVec 131072 → BitVec 256 → BitVec 7424

/-- The 384-bit seed that the PUF array gives with a helper's CODE and SALT (R389). Free: the error correction is the silicon's own.
(DESIGN CHOICE: log entry 4) -/
opaque Config.pufSeed : BitVec 131072 → BitVec 7424 → BitVec 256 → BitVec 384

/-- The 448 extra random bits that the extractor SHA-384 gives from a seed (R389, FIPS 186-5 A.2.1): the spec does not say how it is
applied. (DESIGN CHOICE: log entry 4) -/
opaque Config.extraBits : BitVec 384 → BitVec 448

/-- The random bits of a signature's secret number (R396, FIPS 186-5 A.3.1): free, one per signing and try. (DESIGN CHOICE: log
entry 4) (DESIGN CHOICE: log entry 4) -/
opaque Config.signBits : Nat → Nat → BitVec 448

/-- A nonce of an SPDM response or request (R395, R398): free, one per draw. (DESIGN CHOICE: log entry 4) -/
opaque Config.nonce : Nat → BitVec 256

/-- SHA-384 of the Glearis firmware root public key, held in mask ROM (R8, R388's chapter): the spec gives no number.
(DESIGN CHOICE: log entry 4) -/
opaque Config.rootKeyHash : BitVec 384

/-- SHA-384 of the Nerbor station root public key, held in mask ROM (R398): the spec gives no number. (DESIGN CHOICE: log entry 4) -/
opaque Config.stationRootHash : BitVec 384

/-- SHA-384 of the mask ROM (measurement 1 of R397): the spec gives no number. (DESIGN CHOICE: log entry 4) -/
opaque Config.maskRomHash : BitVec 384

/-- The measurements that make up the TCB of a measurement summary hash (R395): the spec does not say which.
(DESIGN CHOICE: log entry 4) -/
opaque Config.tcbIndex : Nat → Bool

/-- What the statistics and pilot updates of R267 give where R267 divides by zero (the total offset or the reference
gain is 0), and what a mean over no windows gives: the spec states no result there. Free, one per use. (DESIGN CHOICE: log entry 4) -/
opaque Config.trackGap : Nat → Int

/-- The registers from which a sleeve's nine PRBS31 generators start (R102): the spec gives no seed. One set per test.
(DESIGN CHOICE: log entry 4) -/
opaque Config.prbsSeed : Nat → Nat → BitVec 31

/-- The cells of the host-side digital boundary, as a scan captures them (R18, R62): the spec gives neither their number nor their
order. (DESIGN CHOICE: log entry 4) -/
opaque Config.boundaryCells : Nat → List Bool

/-- The station's own format for what a command programs (R207, R250, R260): the spec gives the format to the station.
(DESIGN CHOICE: log entry 4) -/
opaque Config.stationFormat : List (BitVec 8) → List (BitVec 8)

/-- The seam temperature that the block's sensor reads (TLR_TEMP, R133, R131): the spec gives no number.
(DESIGN CHOICE: log entry 4) -/
opaque Config.seamTemp : Nat → BitVec 16

/-- The three slicer offset trims that a nulling measures, OFS_U, OFS_M and OFS_L (R110): the spec gives no numbers. One per
nulling. (DESIGN CHOICE: log entry 4) -/
opaque Config.offsetTrims : Nat → BitVec 18

/-- The APPLY_SLOT that the block names in an FFE_SET (R119): the spec gives no number. One per message.
(DESIGN CHOICE: log entry 4) -/
opaque Config.applySlot : Nat → BitVec 32

/-- What a 16-bit field of 0.5 ns units shows of an offset or a delay outside its range (RWT_STATUS.OFFSET and RWT_DELAY,
R225): the spec gives no number. (DESIGN CHOICE: log entry 4) -/
opaque Config.wide16 : Int → BitVec 16

end Sys2Proof
end

