-- ==== Sys2Proof/Syntax.lean ====
section
/-!
DEFINITION. The commands of the block: one constructor for each row of the opcode table, with the operands that the
row's event brings with it. Packets, flits and messages stand as the bits that arrive; the meanings decode them.
-/
namespace Sys2Proof

/-- A platform port P0 to P7. -/
abbrev PortId := BitVec 3

/-- A sleeve, 0 to 7 (R64). -/
abbrev SleeveNo := BitVec 3

/-- A lane of one direction, 0 to 71 (R64). -/
abbrev LaneNo := BitVec 7

/-- One write beat of a platform port's req channel: the 512 data bits and the 64 byte enables (R34 to R36). -/
structure Beat where
  data : BitVec 512
  be : BitVec 64
deriving DecidableEq, Repr

/-- The signal boxes A and B (R341). -/
inductive Box where
  | a
  | b
deriving DecidableEq, Repr

/-- Who accesses a register: the register port or a signal box (R435, R436). -/
inductive Requester where
  | port
  | box (b : Box)
deriving DecidableEq, Repr

/-- A direction of the seam: upstream is from the block to the station. -/
inductive Dir where
  | up
  | down
deriving DecidableEq, Repr

/-- The instructions of the IEEE 1149.1 TAP (R18, R62). -/
inductive TapInstr where
  | bypass
  | idcode
  | sample
  | preload
  | extest
  | wspSelect
deriving DecidableEq, Repr

/-- The instructions of the IEEE 1500 wrapper (R18, R63). -/
inductive WrapInstr where
  | wsBypass
  | wsExtest
  | wsIntestScan
deriving DecidableEq, Repr

/-- One measurement with a lane's monitor slicer (R106, R107, R110): the symbols counted above each of the 128 codes of a vertical
histogram, -64 first; the symbols that the main slicers decided at each of the four levels; and the symbols counted above the midpoint of
the narrowest sub-eye in one dwell at each phase of a phase scan: the 33 offsets from -16, or all 64 phases. -/
structure Histogram where
  above : Vector (BitVec 16) 128
  levels : Vector (BitVec 28) 4
  phases : Vector (BitVec 16) 64
deriving DecidableEq, Repr

/-- What the end of training, a retrain or a restore verification measured on one downstream lane (R76, R122, R123, R132): its arrival
offset in UI, and its verification. -/
structure LaneReport where
  lane : LaneNo
  arrival : Byte
  hist : Histogram
deriving DecidableEq, Repr

/-- The level codes that the nine lanes of a sleeve bring in one slot, lane j from bit 256 j on and the spare last (R71, R72). -/
structure SlvLine where
  slv : SleeveNo
  line : BitVec 2304
deriving DecidableEq, Repr

/-- The level codes that the lanes of a sleeve bring in one slot of a path, numbered in the path from 0 (R72, R154). -/
structure SlotLine where
  place : BitVec 5
  line : BitVec 2304
deriving DecidableEq, Repr

/-- An instruction loaded into the TAP, and the bits then shifted through the data register that it selects (R62). -/
structure TapLoad where
  ir : TapInstr
  tdi : List Bool
deriving DecidableEq, Repr

/-- An instruction loaded into WIR by one of the two routes to the wrapper's port, and the bits then shifted through the data register that
it selects (R62). -/
structure WrapLoad where
  via : WspSource
  wir : WrapInstr
  wsi : List Bool
deriving DecidableEq, Repr

/-- The bits that a checker out of lock takes on a lane of the sleeve under test: 31 to seed itself and the 1,024 that follow (R102). -/
structure PrbsBits where
  lane : BitVec 4
  got : BitVec 1055
deriving DecidableEq, Repr

/-- The standby box's health report (R348). -/
structure HealthRpt where
  passes : BitVec 16
  errors : Byte
deriving DecidableEq, Repr

/-- A taken Vetex command: a local one by its tag (R317), a remote one by its context (R326). -/
inductive CmdRef where
  | tag (t : BitVec 16)
  | context (c : BitVec 5)
deriving DecidableEq, Repr

/-- The commands: those with operands in the order of the opcode table, then those without. -/
inductive Instr where
  /-- HOST_REQUEST_PACKET (R37): A host request packet on a platform port req channel is taken whole and decoded. -/
  | hostRequestPacket (port : PortId) (cmd : BitVec 128) (beats : List Beat)
  /-- HOST_REQUEST_WAKE (R47): A platform request valid while PLAT is off starts a wake. -/
  | hostRequestWake (port : PortId)
  /-- TRANSACTION_ISSUE (R173): A waiting transaction obtains a manifest entry and is sent toward the seam. -/
  | transactionIssue (port : PortId)
  /-- SEGMENT_ADMIT (R176): The oldest unadmitted read segment of a port is admitted once the reply window has room. -/
  | segmentAdmit (port : PortId)
  /-- RESPONSE_PACKET_OPEN (R177): The block opens the response packet of a qualifying read on a port. -/
  | responsePacketOpen (port : PortId)
  /-- RESPONSE_BEAT_TRANSFER (R34): A response beat transfers to the host when rsp_ready is 1. -/
  | responseBeatTransfer (port : PortId)
  /-- REPLY_SINK_VIOLATION (R46): The 65th stalled cycle in a 1,024-cycle window puts the port in the violation state. -/
  | replySinkViolation (port : PortId)
  /-- REPLY_SINK_RECOVER (R46): A port leaves the violation state after 1,024 cycles without a stalled cycle. -/
  | replySinkRecover (port : PortId)
  /-- BLOCK_REQUEST_ISSUE (R41): The block issues a block request packet on a platform port breq channel. -/
  | blockRequestIssue (port : PortId)
  /-- BLOCK_RESPONSE (R42): A host response packet to a block request is taken on a brsp channel. -/
  | blockResponse (port : PortId) (info : BitVec 24) (beats : List (BitVec 512)) (poison : Bool)
  /-- BREQ_TIMEOUT (R43): A block request without a response within the block-to-host timeout fails. -/
  | breqTimeout (port : PortId) (btag : BitVec 12)
  /-- BTAG_RELEASE (R43): A timed-out BTAG becomes free after a second timeout period. -/
  | btagRelease (port : PortId) (btag : BitVec 12)
  /-- REGISTER_WRITE (R48): A register-port write to a register with no row of its own sets its fields. -/
  | registerWrite (addr : BitVec 24) (data : Word)
  /-- EVENT_CLEAR (R14): A write of ones to a W1C event register clears causes, with set winning. -/
  | eventClear (addr : BitVec 24) (data : Word)
  /-- COUNTER_READ (R14): A read of an RC field returns and clears it. -/
  | counterRead (addr : BitVec 24)
  /-- PAIR_LO_READ (R436): A read of a 64-bit pair's _LO register returns the low half and latches the high half. -/
  | pairLoRead (who : Requester) (addr : BitVec 24)
  /-- PAIR_LO_WRITE (R437): A write of a pair's _LO register is held pending in the requester's holder. -/
  | pairLoWrite (who : Requester) (addr : BitVec 24) (data : Word)
  /-- PAIR_HI_WRITE (R437): A write of a pair's _HI register applies both halves together. -/
  | pairHiWrite (who : Requester) (addr : BitVec 24) (data : Word)
  /-- BOX_REGISTER_WRITE (R340): A signal box writes a register, gated by the token. -/
  | boxRegisterWrite (box : Box) (addr : BitVec 24) (data : Word)
  /-- TAP_INSTRUCTION (R62): An IEEE 1149.1 instruction is loaded into the TAP. -/
  | tapInstruction (load : TapLoad)
  /-- WRAPPER_INSTRUCTION (R63): An IEEE 1500 instruction other than WS_BYPASS takes the block out of functional operation. -/
  | wrapperInstruction (load : WrapLoad)
  /-- PCM_HOST_REQ_CHANGE (R57): A change of pcm_host_req_i is acted on within 8 AO cycles. -/
  | pcmHostReqChange (v : BitVec 2)
  /-- PLAT_CLOCK_CHECK (R54): At the end of each 1,024 AO cycles the PCM checks the platform-cycle count. -/
  | platClockCheck (count : BitVec 16)
  /-- LOSS_OF_SIGNAL (R84): Amplitude below threshold for 64 UI marks a lane failed. -/
  | lossOfSignal (lane : LaneNo)
  /-- PHASE_TRACKER_LIMIT (R84): A phase tracker at its limit for 1,024 UI marks a lane failed. -/
  | phaseTrackerLimit (lane : LaneNo)
  /-- STUCK_LEVELS (R84): A level share outside 1 % to 50 % over 65,536 symbols marks a lane failed. -/
  | stuckLevels (lane : LaneNo)
  /-- SUBST_REQ (R85): A SUBST_REQ seam control flit is received and answered. -/
  | substReq (got : SlvLine)
  /-- SUBST_ACK (R85): A SUBST_ACK seam control flit is received and fixes the switch slot. -/
  | substAck (got : SlvLine)
  /-- RETIRE_REQ (R87): A RETIRE_REQ seam control flit is received and answered. -/
  | retireReq (got : SlvLine)
  /-- RETIRE_ACK (R87): A RETIRE_ACK seam control flit is received and fixes the retirement slot. -/
  | retireAck (got : SlvLine)
  /-- WIDTH_REQ (R93): A WIDTH_REQ seam control flit is received from the station. -/
  | widthReq (got : SlvLine)
  /-- WIDTH_ACK (R93): A WIDTH_ACK is received and the block sends WIDTH_CFM. -/
  | widthAck (got : SlvLine)
  /-- WIDTH_CFM (R93): A WIDTH_CFM is received from the station as initiator. -/
  | widthCfm (got : SlvLine)
  /-- SEAM_NAK (R82): A NAK seam control flit is received and acted on by reason. -/
  | seamNak (got : SlvLine)
  /-- SUBST_SWITCH (R85): At the switch slot a logical lane moves onto or off the spare. -/
  | substSwitch (dir : Dir) (slv : SleeveNo)
  /-- RETIRE_SWITCH (R87): At the named slot a sleeve is retired and leaves the usable mask. -/
  | retireSwitch (slv : SleeveNo)
  /-- WIDTH_GO (R92): SEAM_WIDTH_CTRL.GO starts, queues or refuses a width change. -/
  | widthGo (data : Word)
  /-- WIDTH_SWITCH (R93): A width change takes effect at a direction's switch slot. -/
  | widthSwitch (dir : Dir)
  /-- TEST_ENABLE (R101): SEAM_TEST_CTRL.ENABLE written 1 powers the sleeve and arranges the station's part. -/
  | testEnable (data : Word)
  /-- TEST_DISABLE (R101): SEAM_TEST_CTRL.ENABLE written 0 stops the test and returns the sleeve to the PCM. -/
  | testDisable (data : Word)
  /-- TEST_ACK (R101): TEST_ACK from the station starts or refuses the block's part of a test. -/
  | testAck (msg : BitVec 32)
  /-- PRBS_LOCK (R102): A PRBS31 checker declares lock after 1,024 error-free bits. -/
  | prbsLock (got : PrbsBits)
  /-- PRBS_LOSS (R102): A PRBS31 checker leaves lock after more than 256 errors in 1,024 bits. -/
  | prbsLoss (lane : BitVec 4) (first second : BitVec 512)
  /-- PHASE_TRACKER_SHIFT (R105): A tracker offset at magnitude 8 or more for 1 µs moves the sampling phase by one step. -/
  | phaseTrackerShift (lane : LaneNo) (offset : BitVec 5)
  /-- ROLLING_PASS_START (R117): INTERVAL_MS after the last pass in a sleeve, a rolling pass begins on the next lane. -/
  | rollingPassStart (slv : SleeveNo)
  /-- HISTOGRAM_DONE (R110): A vertical histogram completes and the pass search takes its next step. -/
  | histogramDone (lane : LaneNo) (h : Histogram)
  /-- POPULATION_TIMEOUT (R108): A histogram lacks its population within STARVE_MS and the pass ends STARVED. -/
  | populationTimeout (lane : LaneNo)
  /-- STARVED_RETRY (R108): RETRY_MS after a STARVED pass the lane is tried again. -/
  | starvedRetry (slv : SleeveNo)
  /-- PASS_LIMIT_TIMEOUT (R112): A pass exceeding PASS_LIMIT_US is abandoned. -/
  | passLimitTimeout (lane : LaneNo)
  /-- FFE_SET (R120): An FFE_SET from the station is applied or refused for an upstream lane. -/
  | ffeSet (msg : BitVec 96)
  /-- FFE_DONE (R119): An FFE_DONE from the station confirms a downstream FFE change. -/
  | ffeDone (msg : BitVec 96)
  /-- FFE_APPLY (R120): Accepted FFE values take effect at APPLY_SLOT. -/
  | ffeApply (lane : LaneNo)
  /-- TLR_CTRL_MEASURE (R124): TLR_CTRL.MEASURE measures the selected lane without changing settings. -/
  | tlrCtrlMeasure (data : Word)
  /-- TLR_CTRL_COMMIT (R114): TLR_CTRL.COMMIT commits host-written shadow values with MANUAL at 1. -/
  | tlrCtrlCommit (data : Word)
  /-- SNAP_FREEZE (R129): Setting TLR_SNAP_CTRL.FREEZE stops rebuilds and commits and abandons passes. -/
  | snapFreeze (data : Word)
  /-- SNAP_RELEASE (R129): Clearing FREEZE releases rebuilds and commits unless a brownout holds. -/
  | snapRelease (data : Word)
  /-- SNAP_RESTORE (R131): TLR_SNAP_CTRL.RESTORE checks the window image and loads or rejects it. -/
  | snapRestore (data : Word)
  /-- TRAINING_DONE (R122): Start-up or wake training completes and shadow values are committed. -/
  | trainingDone (lanes : List LaneReport)
  /-- RESTORE_VERIFY_DONE (R132): Verification of a restored image ends and RESTORE_DONE is raised. -/
  | restoreVerifyDone (lanes : List LaneReport)
  /-- RETRAIN_TAILORING_DONE (R123): The tailoring share of a retrain completes and each lane is verified. -/
  | retrainTailoringDone (lanes : List LaneReport)
  /-- DATA_FLIT_RECEIVE (R142): A dynamic data flit is received and accepted, held, dropped or discarded. -/
  | dataFlitReceive (slv : SleeveNo) (line : BitVec 2304)
  /-- LINK_CONTROL_RECEIVE (R145): A link control flit delivers ACK, NAK, bitmap, tickets or a retrain request. -/
  | linkControlReceive (slv : SleeveNo) (line : BitVec 2304)
  /-- T6_FLIT_RECEIVE (R154): A T6 flit is decoded, checked against the timetable and delivered. -/
  | t6FlitReceive (slv : SleeveNo) (got : SlotLine)
  /-- LNK_CTRL_RETRAIN (R156): LNK_CTRL.RETRAIN starts a retrain. -/
  | lnkCtrlRetrain (data : Word)
  /-- LINK_READY (R157): LINK_READY from the station names the resume slot. -/
  | linkReady (msg : BitVec 64)
  /-- SLEEPER_LINK_DOWN (R159): A LINK_DOWN Sleeper message from the station declares the link down. -/
  | sleeperLinkDown (msg : BitVec 32)
  /-- FLUSH_NOW (R161): LNK_CTRL.FLUSH_NOW ends the grace period and flushes. -/
  | flushNow (data : Word)
  /-- LNK_CTRL_RESTART (R161): LNK_CTRL.RESTART reruns the seam and link start-up after a flush. -/
  | lnkCtrlRestart (data : Word)
  /-- REQUEST_PACKET_RECEIVE (R179): A transaction request packet from another die is taken and served, forwarded or refused. -/
  | requestPacketReceive (track : BitVec 3) (hdr : BitVec 256) (data : List Byte) (flits : Nat)
  /-- REPLY_RECEIVE (R186): A T2 reply is matched to its entry and completed, or discarded as stale. -/
  | replyReceive (hdr : BitVec 256) (data : List Byte) (flits : Nat)
  /-- QUARANTINE_END (R174): A quarantined entry is freed after one further timeout period. -/
  | quarantineEnd (tag : BitVec 18)
  /-- TIME_RESP (R198): A TIME_RESP is stamped and paired with its exchange by ECHO. -/
  | timeResp (msg : BitVec 160)
  /-- RWT_RELOCK (R201): RWT_CTRL.RELOCK returns the railway time unit to unlocked. -/
  | rwtRelock (data : Word)
  /-- TTB_LOAD_GO (R208): TTB_LOAD_CTRL.GO starts loading a standby image. -/
  | ttbLoadGo (data : Word)
  /-- TTB_LOAD_FETCH_DONE (R208): The image has been read and its checks end the load. -/
  | ttbLoadFetchDone (fetched : Bool) (image : List Byte)
  /-- STATION_ACK (R207): A STATION_ACK accepts or refuses a STATION_PROG packet. -/
  | stationAck (hdr : BitVec 128) (data : List Byte) (flits : Nat)
  /-- TTB_CTRL_START (R209): TTB_CTRL.START arms the standby bank to start at G0. -/
  | ttbCtrlStart (data : Word)
  /-- TTB_CTRL_RESUME (R209): TTB_CTRL.RESUME arms the stopped active bank to start at G0. -/
  | ttbCtrlResume (data : Word)
  /-- TTB_CTRL_HALT (R212): TTB_CTRL.HALT requests a stop of the timetable. -/
  | ttbCtrlHalt (data : Word)
  /-- TTB_SWITCH_ARM (R210): TTB_SWITCH.ARM arms the standby for the boundary of EPOCH. -/
  | ttbSwitchArm (data : Word)
  /-- TTB_SWITCH_CANCEL (R210): TTB_SWITCH.CANCEL disarms the standby. -/
  | ttbSwitchCancel (data : Word)
  /-- FENCE_NOTICE (R222): A FENCE_NOTICE from the station drives N−1, swaps, group and migration outcomes. -/
  | fenceNotice (msg : BitVec 96)
  /-- CONTRIB (R230): A T5 CONTRIB packet is accumulated exactly into its group. -/
  | contrib (hdr : BitVec 256) (data : List Byte) (flits : Nat)
  /-- READY (R243): A T5 READY from the parent lets the group send its contributions. -/
  | ready (hdr : BitVec 256) (data : List Byte) (flits : Nat)
  /-- RESULT (R245): A T5 RESULT packet is written to the receiver's host output. -/
  | result (hdr : BitVec 256) (data : List Byte) (flits : Nat)
  /-- A2A_DATA (R245): A T5 A2A_DATA packet is written to host memory at ADDR. -/
  | a2aData (hdr : BitVec 256) (data : List Byte) (flits : Nat)
  /-- MCAST_DATA (R245): A T5 MCAST_DATA packet is written to host memory at a leaf. -/
  | mcastData (hdr : BitVec 256) (data : List Byte) (flits : Nat)
  /-- MCAST_DONE (R252): A MCAST_DONE completes a multicast OK or PARTIAL. -/
  | mcastDone (hdr : BitVec 256) (data : List Byte) (flits : Nat)
  /-- ABORT (R245): A T5 ABORT ends the group ABORTED and passes the abort on. -/
  | abort (hdr : BitVec 256) (data : List Byte) (flits : Nat)
  /-- MCAST_TIMEOUT (R252): No MCAST_DONE within MCAST_US completes the multicast with TIMEOUT. -/
  | mcastTimeout (group : BitVec 12)
  /-- GROUP_TIMEOUT (R255): A dynamic group not complete within GROUP_100US ends TIMEOUT. -/
  | groupTimeout (group : BitVec 12)
  /-- ABORT_ALL (R258): JCT_CTRL.ABORT_ALL aborts every open group. -/
  | abortAll (data : Word)
  /-- ASP_CTL (R268): An ASP_CTL at a contributor sets trim or mode from the named window. -/
  | aspCtl (msg : BitVec 96)
  /-- ASP_CTL_ACK (R268): An ASP_CTL_ACK confirms an ASP_CTL at the destination. -/
  | aspCtlAck (msg : BitVec 32)
  /-- ASP_CTL_TIMEOUT (R268): ASP_CTL unacknowledged within CTL_LEAD_US is resent, or the contributor is failed. -/
  | aspCtlTimeout (group : BitVec 12) (contrib : BitVec 5)
  /-- FALLBACK_COMPLETE (R274): FB_GROUP completes at the cycle's last ASP_RECV deadline plus FB_SLACK_US. -/
  | fallbackComplete (group : BitVec 12)
  /-- FALLBACK_HOLD_EXPIRY (R274): After FB_HOLD_MS in fallback with AUTO_RETURN the group recalibrates. -/
  | fallbackHoldExpiry (group : BitVec 12)
  /-- LOAD_BEACON (R295): A LOAD_BEACON updates site and tile loads. -/
  | loadBeacon (words : List Word)
  /-- BEACON_STALE (R295): A beacon value older than STALE_US is taken as 255. -/
  | beaconStale (tile : Bool) (num : BitVec 7)
  /-- MIG_BEGIN (R298): A MIG_BEGIN packet marks the record MIGRATING at the target. -/
  | migBegin (hdr : BitVec 128) (data : List Byte) (flits : Nat)
  /-- MIG_DONE (R298): A MIG_DONE packet delivers the record after cutover. -/
  | migDone (hdr : BitVec 128) (data : List Byte) (flits : Nat)
  /-- MIG_ABORT (R300): A MIG_ABORT packet abandons a migration at the target. -/
  | migAbort (hdr : BitVec 128) (data : List Byte) (flits : Nat)
  /-- RING_CONS_WRITE (R303): A write of MSH_RING_CONS_n frees ring slots, or is ignored if over count. -/
  | ringConsWrite (n : BitVec 6) (data : Word)
  /-- MBX_GO (R310): SBX_VTX_CTRL.MBX_GO makes the mailbox command ready to be taken. -/
  | mbxGo (data : Word)
  /-- RING_PROD_WRITE (R309): A write of SBX_RING_PROD makes ring commands ready, or is ignored as MALFORMED. -/
  | ringProdWrite (data : Word)
  /-- RING_BASE_LO_WRITE (R309): A write of SBX_RING_BASE_LO sets both ring counters to zero. -/
  | ringBaseLoWrite (data : Word)
  /-- RPL_ACK_WRITE (R317): A write of SBX_RPL_ACK frees a done reply slot. -/
  | rplAckWrite (data : Word)
  /-- VTX_CMD (R326): A remote Vetex command on T0 is run, resent a reply, or refused. -/
  | vtxCmd (hdr : BitVec 128) (data : List Byte) (flits : Nat)
  /-- VTX_REPLY (R327): A remote VTX_REPLY completes a VTX_FORWARD or relay. -/
  | vtxReply (hdr : BitVec 128) (data : List Byte) (flits : Nat)
  /-- MANAGEMENT_PACKET_DISCARD (R324): A malformed T0 packet is discarded with MALFORMED. -/
  | managementPacketDiscard (hdr : BitVec 128) (data : List Byte) (flits : Nat)
  /-- FORWARD_RESEND (R327): At 400, 800 and 1,200 µs without reply the forwarded command is resent. -/
  | forwardResend (rtag : BitVec 16)
  /-- FORWARD_TIMEOUT (R327): No remote reply 10 ms after the first send completes with REMOTE_TIMEOUT. -/
  | forwardTimeout (rtag : BitVec 16)
  /-- LINK_STATUS_GET (R329): Returns link and seam status. -/
  | linkStatusGet (ref : CmdRef)
  /-- WIDTH_SET (R329): Requests a width change as SEAM_WIDTH_CTRL.GO does. -/
  | widthSet (ref : CmdRef)
  /-- LINK_RETRAIN (R329): Starts a retrain of the link. -/
  | linkRetrain (ref : CmdRef)
  /-- LINK_FLUSH (R329): Ends a grace hold and flushes the link. -/
  | linkFlush (ref : CmdRef)
  /-- LINK_RESTART (R329): Restarts the link after a flush. -/
  | linkRestart (ref : CmdRef)
  /-- LINK_MODE_SET (R329): Writes the replay mode for the next link-up. -/
  | linkModeSet (ref : CmdRef)
  /-- TLR_MEASURE (R330): Measures a downstream lane with its committed values. -/
  | tlrMeasure (ref : CmdRef)
  /-- TLR_FREEZE (R330): Freezes or releases the calibration snapshot. -/
  | tlrFreeze (ref : CmdRef)
  /-- TLR_SNAP_READ (R330): Returns bytes of the frozen snapshot image. -/
  | tlrSnapRead (ref : CmdRef)
  /-- TLR_RESTORE (R330): Reads a snapshot image from host memory and restores it. -/
  | tlrRestore (ref : CmdRef) (fetched : Bool) (image : List Byte)
  /-- TTB_LOAD (R331): Loads a timetable image into the standby bank. -/
  | ttbLoad (ref : CmdRef)
  /-- TTB_START (R331): Starts the standby or resumes the stopped bank at G0. -/
  | ttbStart (ref : CmdRef)
  /-- TTB_ARM (R331): Arms a bank switch at an epoch boundary. -/
  | ttbArm (ref : CmdRef)
  /-- TTB_CANCEL (R331): Disarms an armed standby. -/
  | ttbCancel (ref : CmdRef)
  /-- TTB_HALT (R331): Stops the running timetable. -/
  | ttbHalt (ref : CmdRef)
  /-- TTB_STATUS_GET (R331): Returns timetable and deadline status. -/
  | ttbStatusGet (ref : CmdRef)
  /-- JCT_GROUP_OPEN (R242): Opens a junction group from its descriptor. -/
  | jctGroupOpen (ref : CmdRef)
  /-- JCT_GROUP_WAIT (R256): Replies when a junction group completes. -/
  | jctGroupWait (ref : CmdRef)
  /-- JCT_GROUP_CLOSE (R256): Frees a complete group or an idle timetabled group. -/
  | jctGroupClose (ref : CmdRef)
  /-- JCT_GROUP_ABORT (R256): Ends a group with ABORTED. -/
  | jctGroupAbort (ref : CmdRef)
  /-- JCT_START (R256): Starts the sends of an ALL_TO_ALL or MULTICAST group. -/
  | jctStart (ref : CmdRef)
  /-- JCT_BRANCH_SET (R250): Installs a branch-line entry and programs the station. -/
  | jctBranchSet (ref : CmdRef)
  /-- ASP_GROUP_OPEN (R260): Opens an analog sum group and, at the destination, its fallback group. -/
  | aspGroupOpen (ref : CmdRef)
  /-- ASP_GROUP_CLOSE (R278): Closes an analog sum group. -/
  | aspGroupClose (ref : CmdRef)
  /-- ASP_RECALIBRATE (R269): Starts a recalibration of an analog sum group. -/
  | aspRecalibrate (ref : CmdRef)
  /-- ASP_FALLBACK (R273): Starts a digital fallback without a budget breach. -/
  | aspFallback (ref : CmdRef)
  /-- ASP_GROUP_WAIT (R278): Replies when an analog sum group ends. -/
  | aspGroupWait (ref : CmdRef)
  /-- MSH_DIR_SET (R292): Installs 1 to 16 consignment records. -/
  | mshDirSet (ref : CmdRef)
  /-- MSH_DIR_DELETE (R292): Frees a consignment record unless it is migrating. -/
  | mshDirDelete (ref : CmdRef)
  /-- MSH_DIR_GET (R334): Returns a consignment record. -/
  | mshDirGet (ref : CmdRef)
  /-- MSH_POOL_SET (R301): Defines, replaces or deletes a work-ticket pool. -/
  | mshPoolSet (ref : CmdRef)
  /-- MSH_RING_SET (R303): Sets or clears a ring membership. -/
  | mshRingSet (ref : CmdRef)
  /-- MSH_BIND_STAGE (R284): Stages binding entries and optionally relays them. -/
  | mshBindStage (ref : CmdRef)
  /-- MSH_BIND_COMMIT (R285): Sets the release point of the staged generation. -/
  | mshBindCommit (ref : CmdRef)
  /-- MSH_BIND_CANCEL (R305): Discards the staged set and its release point. -/
  | mshBindCancel (ref : CmdRef)
  /-- MSH_BIND_GET (R334): Returns binding entries and generations. -/
  | mshBindGet (ref : CmdRef)
  /-- MSH_MIGRATE (R298): Migrates a record to a named candidate. -/
  | mshMigrate (ref : CmdRef)
  /-- PCM_STATE_GET (R335): Returns power state and masks. -/
  | pcmStateGet (ref : CmdRef)
  /-- PCM_POLICY_SET (R335): Sets the commanded power policy. -/
  | pcmPolicySet (ref : CmdRef)
  /-- PCM_WAKE (R335): Wakes the block to the widest width. -/
  | pcmWake (ref : CmdRef)
  /-- PCM_SLEEP (R335): Takes the block to width 0, or refuses. -/
  | pcmSleep (ref : CmdRef)
  /-- SPDM_EXCHANGE (R395): Answers one SPDM 1.2 request. -/
  | spdmExchange (ref : CmdRef)
  /-- IDN_KEY_GET (R336): Returns the key state and public key. -/
  | idnKeyGet (ref : CmdRef)
  /-- IDN_CHAIN_SET (R392): Reads, checks and installs a certificate chain. -/
  | idnChainSet (ref : CmdRef) (fetched : Bool) (chain : List Byte)
  /-- SBX_STATUS_GET (R337): Returns signal box status. -/
  | sbxStatusGet (ref : CmdRef)
  /-- SBX_FAILOVER (R357): Requests an orderly hand-over to the standby box. -/
  | sbxFailover (ref : CmdRef)
  /-- SBX_FW_STAGE (R360): Loads a firmware image into the standby box. -/
  | sbxFwStage (ref : CmdRef)
  /-- VTX_INFO (R337): Returns interpreter version and capacities. -/
  | vtxInfo (ref : CmdRef)
  /-- VTX_FORWARD (R327): Sends an embedded command to another die as remote Vetex. -/
  | vtxForward (ref : CmdRef)
  /-- DIAG_TEST_START (R338): Starts a test mode on a sleeve outside the usable mask. -/
  | diagTestStart (ref : CmdRef)
  /-- DIAG_TEST_READ (R338): Returns test lock and error counters without clearing them. -/
  | diagTestRead (ref : CmdRef)
  /-- DIAG_TEST_STOP (R338): Stops the running test mode. -/
  | diagTestStop (ref : CmdRef)
  /-- DIAG_FAULT_READ (R338): Returns fault log entries. -/
  | diagFaultRead (ref : CmdRef)
  /-- DIAG_REG_READ (R338): Returns register values without side effects. -/
  | diagRegRead (ref : CmdRef)
  /-- ACTIVE_BOX_FAULT (R350): An SRAM error, lock-up, fatal check or supply loss in the active box starts a fail-over. -/
  | activeBoxFault (cause : BitVec 4)
  /-- HEALTH_REPORT (R348): Every 1 ms the standby's health report is taken and judged. -/
  | healthReport (report : Option HealthRpt)
  /-- SELF_TEST_PASS (R348): A standby self-test pass completes. -/
  | selfTestPass (ok : Bool)
  /-- BOX_LINK_RETRY (R353): Every 1 ms an isolated box retries the box link and enters resync if it works. -/
  | boxLinkRetry (works : Bool)
  /-- BOX_TIE_RESP (R354): The station's BOX_TIE_RESP names the box that holds the token. -/
  | boxTieResp (msg : BitVec 32)
  /-- SBX_CTRL_FAILOVER (R357): SBX_CTRL.FAILOVER requests an orderly hand-over. -/
  | sbxCtrlFailover (data : Word)
  /-- IMAGE_LOAD_DONE (R359): The mask-ROM loader accepts or rejects a firmware image. -/
  | imageLoadDone (box : Box) (fetched : Bool) (image : List Byte)
  /-- STARTUP_SELF_TEST_DONE (R342): A box completes start-up self-test and may take the token. -/
  | startupSelfTestDone (box : Box) (ok : Bool)
  /-- FW_ADDR_HI_WRITE (R412): The first write of SBX_FW_ADDR_HI after AO_UP begins FW_LOAD. -/
  | fwAddrHiWrite (data : Word)
  /-- PCM_CTRL_SLEEP (R387): PCM_CTRL.SLEEP goes to width 0 as PCM_SLEEP does. -/
  | pcmCtrlSleep (data : Word)
  /-- PCM_CTRL_WAKE (R372): PCM_CTRL.WAKE starts a wake. -/
  | pcmCtrlWake (data : Word)
  /-- WAKE_READY (R96): WAKE_READY names the slot at which the first sleeve is admitted. -/
  | wakeReady (msg : BitVec 64)
  /-- POWER_GOOD_TIMEOUT (R387): A domain's power-good not rising within 1 µs raises DOMAIN_FAULT. -/
  | powerGoodTimeout (domain : BitVec 3)
  /-- BROWNOUT_WARN (R385): A brownout warning freezes the snapshot and drives pcm_brownout_o. -/
  | brownoutWarn (msg : BitVec 96)
  /-- BROWNOUT_END (R385): BROWNOUT_END releases the brownout hold. -/
  | brownoutEnd (msg : BitVec 64)
  /-- DERIVE (R389): IDN_CTRL.DERIVE starts key derivation from the helper image. -/
  | derive (data : Word)
  /-- ENROLL (R390): IDN_CTRL.ENROLL starts enrolment of a new key. -/
  | enroll (data : Word)
  /-- AUTHKEY_LOCK (R399): Setting LOCK_0 or LOCK_1 locks an authorisation key slot. -/
  | authkeyLock (data : Word)
  /-- SPDM_MESSAGE (R398): An SPDM Sleeper message advances mutual authentication with the station. -/
  | spdmMessage (words : List Word)
  /-- NEG_AGREE (R410): A NEG_AGREE is checked and answered with NEG_CONFIRM. -/
  | negAgree (msg : BitVec 128)
  /-- TRAIN_START (R413): A TRAIN_START from the station fixes the sleeves to train. -/
  | trainStart (msg : BitVec 32)
  /-- TRAIN_DONE (R413): A TRAIN_DONE from the station reports its usable sleeves. -/
  | trainDone (msg : BitVec 32)
  /-- SLEEPER_MESSAGE_DISCARD (R407): A Sleeper message with bad CRC, short LEN or unknown or unpermitted TYPE is discarded. -/
  | sleeperMessageDiscard (blocks : List (BitVec 34))
  /-- FLT_RD_WRITE (R423): A write of FLT_RD advances the read index, or is ignored if it would raise UNREAD. -/
  | fltRdWrite (data : Word)
  /-- FORWARDED_CLOCK_FAIL (R87): A sleeve's forwarded clock fails in the downstream direction, so CLK_FAIL is set, every lane of the sleeve fails and the block requests retirement. -/
  | forwardedClockFail (slv : SleeveNo)
  /-- AO_CLOCK_LOSS (R52): The station's AO clock stops and the block is held in AO reset. -/
  | aoClockLoss
  /-- COLD_RESET (R382): ao_rst_n_i is asserted and resets the whole block. -/
  | coldReset
  /-- COLD_RESET_RELEASE (R412): Release of ao_rst_n_i begins start-up at AO_UP. -/
  | coldResetRelease
  /-- PLAT_RESET (R383): plat_rst_n_i falls in service: link down, width 0, timetable stopped. -/
  | platReset
  /-- PLAT_RESET_RELEASE (R383): plat_rst_n_i release restarts start-up from NEGOTIATED. -/
  | platResetRelease
  /-- REG_RESET (R382): reg_rst_n_i resets the register port and abandons any access. -/
  | regReset
  /-- TAP_RESET (R382): jtag_trst_n_i resets the IEEE 1149.1 TAP. -/
  | tapReset
  /-- CTRL_RESEND_TIMEOUT (R82): A seam control request unanswered for 1 µs, or due after a NAK, is sent again. -/
  | ctrlResendTimeout
  /-- WIDTH_GO_DEQUEUE (R92): A queued width change starts when the change in progress ends. -/
  | widthGoDequeue
  /-- ADDED_SLEEVES_READY (R94): Added sleeves pass deskew and scrambler lock, so the ACK or CFM is sent. -/
  | addedSleevesReady
  /-- WIDTH_LOCK_TIMEOUT (R94): Added sleeves not ready within 5 µs end the increase with NAK 0x03 or RESULT 0x06. -/
  | widthLockTimeout
  /-- CRC_WINDOW_END (R89): A 1 ms railway-time window ends and per-sleeve CRC counts restart. -/
  | crcWindowEnd
  /-- SLEEPER_LOCK (R98): The Sleeper receiver locks after 64 valid blocks. -/
  | sleeperLock
  /-- SLEEPER_LOSS (R98): 16 invalid headers in 64 blocks make the Sleeper receiver lose lock. `headers` are the sync headers of the blocks
  that have come since the last such command. -/
  | sleeperLoss
  /-- SLEEPER_LOSS_TIMEOUT (R99): The Sleeper lane is out of lock for 10 ms at width 0 and the link is declared down. -/
  | sleeperLossTimeout
  /-- TEST_REQ_TIMEOUT (R101): TEST_REQ unanswered for 100 µs is resent, or the test fails with DIAG_PEER. -/
  | testReqTimeout
  /-- SNAPSHOT_REBUILD (R128): A snapshot rebuild completes with a new generation, setting FROZEN after a freeze. -/
  | snapshotRebuild
  /-- FLIT_SLOT_SEND (R138): In each flit slot the sender fills sleeves by precedence. -/
  | flitSlotSend
  /-- REPLAY_TIMER (R141): The replay timer expires and the sender resends by its mode. -/
  | replayTimer
  /-- ACK_TIMER (R145): ACK_MAX_NS after a change in ACK or tickets a link control flit is sent. -/
  | ackTimer
  /-- KEEPALIVE_TIMER (R145): A KEEPALIVE interval passes and a link control flit is sent. -/
  | keepaliveTimer
  /-- RECEIVER_REPLAY_PERIOD (R156): A REPLAY_NS period passes with the awaited flit unaccepted and the receiver count rises. -/
  | receiverReplayPeriod
  /-- SLEEPER_LINK_RETRAIN (R157): A LINK_RETRAIN Sleeper message from the station starts a retrain. -/
  | sleeperLinkRetrain
  /-- LINK_RESUME (R157): At the named resume slot the link resumes and each sender resends its siding. -/
  | linkResume
  /-- RETRAIN_TIMEOUT (R158): A retrain not ended within 100 µs fails. -/
  | retrainTimeout
  /-- GRACE_RETRAIN_TIMER (R160): Every 1 ms of a grace hold a retrain is started. -/
  | graceRetrainTimer
  /-- GRACE_EXPIRY (R161): The grace period ends without a successful retrain and the block flushes. -/
  | graceExpiry
  /-- VALIANT_FORWARD (R190): A T3 request naming this die as intermediate is sent on T4 once tickets allow. -/
  | valiantForward
  /-- MANIFEST_SWEEP (R183): Every T/4 the manifest sweeps entries and times out those at their fourth sweep. -/
  | manifestSweep
  /-- PATH_BOUNDARY (R213): At each 64 ns path boundary the TTB advances path, cycle and epoch and runs due actions. -/
  | pathBoundary
  /-- SYNC_SET_START (R198): Every INTERVAL_US a time set of 8 exchanges begins. -/
  | syncSetStart
  /-- TIME_REQ_SEND (R198): Each 1 µs within a set the block sends TIME_REQ and stamps t1. -/
  | timeReqSend
  /-- TIME_EXCHANGE_TIMEOUT (R198): An exchange without TIME_RESP within 10 µs is discarded. -/
  | timeExchangeTimeout
  /-- SYNC_SET_END (R200): A set ends and its offset steps, locks or checks railway time. -/
  | syncSetEnd
  /-- STATION_ACK_TIMEOUT (R207): No station acknowledgement within 10 ms fails the programming with TTB_STATION. -/
  | stationAckTimeout
  /-- BINDING_RELEASE (R285): At its release point the staged binding generation replaces the current one. -/
  | bindingRelease
  /-- LOAD_REPORT_TIMER (R295): Every REPORT_US the block sends LOAD_REPORT with its WORK_LOAD. -/
  | loadReportTimer
  /-- HEAT_WINDOW_END (R297): At the end of a heat window hot records are found and a migration may start. -/
  | heatWindowEnd
  /-- COMMAND_TAKE (R311): A ready command is taken once its take is journalled and a reply slot is available. -/
  | commandTake
  /-- RPL_HDR_READ (R317): A read of SBX_RPL_HDR returns a reply status and marks it read. -/
  | rplHdrRead
  /-- CPL_FIFO_READ (R319): A read of SBX_CPL_FIFO removes the oldest completion tag. -/
  | cplFifoRead
  /-- GENERATION_COMMIT (R345): The standby acknowledges a journal generation and it is committed. -/
  | generationCommit
  /-- HEARTBEAT_TIMEOUT (R350): No heartbeat from the active box for 16 µs starts a fail-over. -/
  | heartbeatTimeout
  /-- TAKEOVER_DONE (R350): The new active box completes its takeover and sets INTERP_READY. -/
  | takeoverDone
  /-- BOX_LINK_LOSS (R353): No link heartbeat for 10 µs isolates the standby. -/
  | boxLinkLoss
  /-- RESYNC_DONE (R353): A full state copy completes and the box enters standby. -/
  | resyncDone
  /-- TOKEN_FAULT (R354): The token registers disagree, freezing the token and sending BOX_TIE. -/
  | tokenFault
  /-- BOX_TIE_RESEND (R354): Every 100 µs without answer BOX_TIE is sent again. -/
  | boxTieResend
  /-- TIE_SETTLEMENT (R354): No answer 10 ms after the first BOX_TIE settles the tie in favour of the old holder. -/
  | tieSettlement
  /-- TAKEBACK_HOLDOFF (R356): Box A's hold-off in standby expires and take-back begins. -/
  | takebackHoldoff
  /-- QUIESCENT_POINT (R357): A quiescent point is reached and the token is handed over. -/
  | quiescentPoint
  /-- TAKEBACK_WAIT_TIMEOUT (R357): No quiescent point within TAKEBACK_WAIT_US resumes commands for 10 ms. -/
  | takebackWaitTimeout
  /-- TAKEBACK_RETRY (R357): 10 ms after a failed wait the hand-over is tried again. -/
  | takebackRetry
  /-- POLICY_WINDOW_END (R369): A WINDOW_US ends and the PCM may narrow by one width state. -/
  | policyWindowEnd
  /-- USE_HIGH (R369): Use above HIGH_PCT or a stalled queue for 1 µs makes the PCM widen. -/
  | useHigh
  /-- SLEEPER_IDLE_TIMEOUT (R369): SLEEPER_IDLE_US without dynamic flits takes the block to width 0. -/
  | sleeperIdleTimeout
  /-- SLEEPER_PREFERRED_IDLE (R369): Under Sleeper preferred, no queued flit and an empty siding take the block to width 0. -/
  | sleeperPreferredIdle
  /-- RETAIN_ENTRY (R364): Held Sleeper mode enters retained Sleeper mode once its conditions hold. -/
  | retainEntry
  /-- SLEEP_STEP_DONE (R371): A sleep step completes and the next step, or a held wake, begins. -/
  | sleepStepDone
  /-- STATION_WAKE (R372): A WAKE message from the station starts a wake. -/
  | stationWake
  /-- WAKE_AT (R372): Railway time reaching PCM_WAKE_AT starts a wake. -/
  | wakeAt
  /-- WAKE_ACK (R373): WAKE_ACK from the station confirms a wake request. -/
  | wakeAck
  /-- WAKE_DONE (R373): The wake completes with the link up and pcm_ports_ready_o at 1. -/
  | wakeDone
  /-- DERIVE_DONE (R389): Derivation ends with KEY_READY or KEY_FAIL. -/
  | deriveDone
  /-- ENROLL_DONE (R390): Enrolment ends with the helper image written and KEY_READY. -/
  | enrollDone
  /-- SPDM_SIGN_DONE (R396): An SPDM response signature completes. -/
  | spdmSignDone
  /-- NEG_OFFER_TIMEOUT (R411): No NEG_AGREE 100 µs after NEG_OFFER resends it, or holds start-up after ten. -/
  | negOfferTimeout
  /-- TRAIN_MSG_TIMEOUT (R416): An unanswered training message is resent every 100 µs, holding start-up after ten. -/
  | trainMsgTimeout
  /-- FAULT_LOG_INTAKE (R426): Pending and new occurrences are taken into the intake and entries written to the ring. -/
  | faultLogIntake
  /-- AO_CLOCK_RETURN (R52): The station's AO clock returns after a loss, the block leaves AO reset and makes a cold start. -/
  | aoClockReturn
deriving DecidableEq, Repr

end Sys2Proof
end

