-- ==== Sys2Proof/WellFormed.lean ====
section
/-!
DEFINITION. Which operands the spec's own numbering admits: a lane number is at most 71 (R64), a lane of the sleeve under
test at most 8 (R102), a packet or message is no longer than its header can say.
-/
namespace Sys2Proof

/-- A lane of one direction exists (R64). -/
def laneOk (l : LaneNo) : Bool := l.toNat < 72

/-- The operands of a command lie in the ranges that the spec gives them. (DEDUCED: log entry 68) -/
def Instr.wellFormed : Instr → Bool
  | .lossOfSignal l | .phaseTrackerLimit l | .stuckLevels l => laneOk l
  | .phaseTrackerShift l _ | .histogramDone l _ | .populationTimeout l | .passLimitTimeout l | .ffeApply l => laneOk l
  | .prbsLock g => g.lane.toNat ≤ 8
  | .prbsLoss l _ _ => l.toNat ≤ 8
  | .trainingDone ls | .restoreVerifyDone ls | .retrainTailoringDone ls => ls.all (fun r => laneOk r.lane)
  | .spdmMessage ws | .loadBeacon ws => ws.length ≤ 255
  | .hostRequestPacket .. | .hostRequestWake .. | .transactionIssue .. | .segmentAdmit .. | .responsePacketOpen ..
  | .responseBeatTransfer .. | .replySinkViolation .. | .replySinkRecover .. | .blockRequestIssue .. | .blockResponse ..
  | .breqTimeout .. | .btagRelease .. | .registerWrite .. | .eventClear .. | .counterRead .. | .pairLoRead ..
  | .pairLoWrite .. | .pairHiWrite .. | .boxRegisterWrite .. | .tapInstruction .. | .wrapperInstruction ..
  | .pcmHostReqChange .. | .platClockCheck .. | .substReq .. | .substAck .. | .retireReq .. | .retireAck .. | .widthReq ..
  | .widthAck .. | .widthCfm .. | .seamNak .. | .substSwitch .. | .retireSwitch .. | .widthGo .. | .widthSwitch ..
  | .testEnable .. | .testDisable .. | .testAck .. | .rollingPassStart .. | .starvedRetry .. | .ffeSet .. | .ffeDone ..
  | .tlrCtrlMeasure .. | .tlrCtrlCommit .. | .snapFreeze .. | .snapRelease .. | .snapRestore .. | .dataFlitReceive ..
  | .linkControlReceive .. | .t6FlitReceive .. | .lnkCtrlRetrain .. | .linkReady .. | .sleeperLinkDown .. | .flushNow ..
  | .lnkCtrlRestart .. | .requestPacketReceive .. | .replyReceive .. | .quarantineEnd .. | .timeResp .. | .rwtRelock ..
  | .ttbLoadGo .. | .ttbLoadFetchDone .. | .stationAck .. | .ttbCtrlStart .. | .ttbCtrlResume .. | .ttbCtrlHalt ..
  | .ttbSwitchArm .. | .ttbSwitchCancel .. | .fenceNotice .. | .contrib .. | .ready .. | .result .. | .a2aData ..
  | .mcastData .. | .mcastDone .. | .abort .. | .mcastTimeout .. | .groupTimeout .. | .abortAll .. | .aspCtl ..
  | .aspCtlAck .. | .aspCtlTimeout .. | .fallbackComplete .. | .fallbackHoldExpiry .. | .beaconStale .. | .migBegin ..
  | .migDone .. | .migAbort .. | .ringConsWrite .. | .mbxGo .. | .ringProdWrite .. | .ringBaseLoWrite .. | .rplAckWrite ..
  | .vtxCmd .. | .vtxReply .. | .managementPacketDiscard .. | .forwardResend .. | .forwardTimeout .. | .linkStatusGet ..
  | .widthSet .. | .linkRetrain .. | .linkFlush .. | .linkRestart .. | .linkModeSet .. | .tlrMeasure .. | .tlrFreeze ..
  | .tlrSnapRead .. | .tlrRestore .. | .ttbLoad .. | .ttbStart .. | .ttbArm .. | .ttbCancel .. | .ttbHalt ..
  | .ttbStatusGet .. | .jctGroupOpen .. | .jctGroupWait .. | .jctGroupClose .. | .jctGroupAbort .. | .jctStart ..
  | .jctBranchSet .. | .aspGroupOpen .. | .aspGroupClose .. | .aspRecalibrate .. | .aspFallback .. | .aspGroupWait ..
  | .mshDirSet .. | .mshDirDelete .. | .mshDirGet .. | .mshPoolSet .. | .mshRingSet .. | .mshBindStage .. | .mshBindCommit ..
  | .mshBindCancel .. | .mshBindGet .. | .mshMigrate .. | .pcmStateGet .. | .pcmPolicySet .. | .pcmWake .. | .pcmSleep ..
  | .spdmExchange .. | .idnKeyGet .. | .idnChainSet .. | .sbxStatusGet .. | .sbxFailover .. | .sbxFwStage .. | .vtxInfo ..
  | .vtxForward .. | .diagTestStart .. | .diagTestRead .. | .diagTestStop .. | .diagFaultRead .. | .diagRegRead ..
  | .activeBoxFault .. | .healthReport .. | .selfTestPass .. | .boxLinkRetry .. | .boxTieResp .. | .sbxCtrlFailover ..
  | .imageLoadDone .. | .startupSelfTestDone .. | .fwAddrHiWrite .. | .pcmCtrlSleep .. | .pcmCtrlWake .. | .wakeReady ..
  | .powerGoodTimeout .. | .brownoutWarn .. | .brownoutEnd .. | .derive .. | .enroll .. | .authkeyLock .. | .negAgree ..
  | .trainStart .. | .trainDone .. | .addedSleevesReady | .sleeperMessageDiscard .. | .fltRdWrite .. | .forwardedClockFail .. | .aoClockLoss | .coldReset | .coldResetRelease
  | .platReset | .platResetRelease | .regReset | .tapReset | .ctrlResendTimeout | .widthGoDequeue
  | .widthLockTimeout | .crcWindowEnd | .sleeperLock | .sleeperLoss | .sleeperLossTimeout | .testReqTimeout
  | .snapshotRebuild | .flitSlotSend | .replayTimer | .ackTimer | .keepaliveTimer | .receiverReplayPeriod
  | .sleeperLinkRetrain | .linkResume | .retrainTimeout | .graceRetrainTimer | .graceExpiry | .valiantForward
  | .manifestSweep | .pathBoundary | .syncSetStart | .timeReqSend | .timeExchangeTimeout | .syncSetEnd | .stationAckTimeout
  | .bindingRelease | .loadReportTimer | .heatWindowEnd | .commandTake | .rplHdrRead | .cplFifoRead | .generationCommit
  | .heartbeatTimeout | .takeoverDone | .boxLinkLoss | .resyncDone | .tokenFault | .boxTieResend | .tieSettlement
  | .takebackHoldoff | .quiescentPoint | .takebackWaitTimeout | .takebackRetry | .policyWindowEnd | .useHigh
  | .sleeperIdleTimeout | .sleeperPreferredIdle | .retainEntry | .sleepStepDone | .stationWake | .wakeAt | .wakeAck
  | .wakeDone | .deriveDone | .enrollDone | .spdmSignDone | .negOfferTimeout | .trainMsgTimeout | .faultLogIntake
  | .aoClockReturn => true

end Sys2Proof
end

