-- ==== Sys2Proof/Decode.lean ====
section
/-!
DEFINITION. The table of the block's commands gives no row any bits: a command is an event at a port, a pin or a message
lane and is spelt by no word. So no word decodes to a command.
-/
namespace Sys2Proof

/-- The command that a word spells by the table's bits: no row of the table has bits. (DESIGN CHOICE: log entry 1) -/
def decodeTableWord (_nbits _w : Nat) : Option Instr := none

end Sys2Proof
end

