-- ==== Sys2Proof/Machine/Bits.lean ====
section
/-!
DEFINITION. Bit fields and bytes: the reading and writing of a field of a word (R13), and the little-endian joining and splitting
of bytes (R12).
-/
namespace Sys2Proof

/-- Bits `lo + n - 1` down to `lo` of a word, as the layouts of the spec number them (R13). -/
def bits {w : Nat} (x : BitVec w) (lo n : Nat) : BitVec n := x.extractLsb' lo n

/-- The same field, as a number. -/
def fld {w : Nat} (x : BitVec w) (lo n : Nat) : Nat := (x.extractLsb' lo n).toNat

/-- One bit of a word. -/
def bit {w : Nat} (x : BitVec w) (i : Nat) : Bool := x.getLsbD i

/-- The word `x` with bits `lo + n - 1 .. lo` replaced by the low `n` bits of the number `v`. -/
def putField {w : Nat} (x : BitVec w) (lo n v : Nat) : BitVec w :=
  (x &&& ~~~((BitVec.ofNat w (2 ^ n - 1)) <<< lo)) ||| ((BitVec.ofNat w (v % 2 ^ n)) <<< lo)

/-- A one-bit number from a truth value. -/
def b2n (b : Bool) : Nat := if b then 1 else 0

/-- The number that little-endian bytes spell (R12). -/
def leNat : List Byte → Nat
  | [] => 0
  | b :: bs => b.toNat + 256 * leNat bs

/-- The `n` little-endian bytes of a number (R12). -/
def leBytes : Nat → Nat → List Byte
  | 0, _ => []
  | n + 1, v => BitVec.ofNat 8 v :: leBytes n (v / 256)

/-- `n` bytes of a structure from an offset, zero where the structure has ended. -/
def slice (bs : List Byte) (off n : Nat) : List Byte :=
  let t := (bs.drop off).take n
  t ++ List.replicate (n - t.length) 0

/-- The little-endian field of `n` bytes at an offset of a structure. -/
def leAt (bs : List Byte) (off n : Nat) : Nat := leNat ((bs.drop off).take n)

/-- The same field as a bit vector. -/
def leWord (w : Nat) (bs : List Byte) (off n : Nat) : BitVec w := BitVec.ofNat w (leAt bs off n)

/-- Bytes `off` to `off + n - 1` of a structure are zero. -/
def zeroAt (bs : List Byte) (off n : Nat) : Bool := ((bs.drop off).take n).all (· == 0)

/-- The bytes of a bit vector, byte 0 from bits 7:0. -/
def bvBytes {w : Nat} (x : BitVec w) : List Byte := leBytes (w / 8) x.toNat

end Sys2Proof
end

