-- ==== Sys2Proof/Machine/Code.lean ====
section
/-!
DEFINITION. The codes of the seam and of the images: CRC-64 and CRC-32 (R18), the shortened RS(544,514) code of a
timetabled flit (R153, R154), and what a lane carries: slot bytes, Gray levels, the scrambler and PRBS31 (R71 to R75, R97,
R102).
-/
namespace Sys2Proof.Machine

/-! ## Cyclic redundancy checks (R18) -/

/-- One bit of the CRC-64 of R18: `c` shifted left, and the polynomial added where a 1 left it. -/
def crc64Bit (c : BitVec 64) : BitVec 64 :=
  if c.getLsbD 63 then (c <<< 1) ^^^ 0x42F0E1EBA9EA3693#64 else c <<< 1

/-- `n` bits of the CRC-64. -/
def crc64Bits : Nat → BitVec 64 → BitVec 64
  | 0, c => c
  | n + 1, c => crc64Bits n (crc64Bit c)

/-- The CRC-64 of bytes in ascending order, each most significant bit first, from initial value 0 (R18, R137). -/
def crc64 (bs : List Byte) : BitVec 64 :=
  bs.foldl (fun c b => crc64Bits 8 (c ^^^ (b.setWidth 64).shiftLeft 56)) 0

/-- One bit of the reflected CRC-32. -/
def crc32Bit (c : Word) : Word :=
  if c.getLsbD 0 then (c >>> 1) ^^^ 0xEDB88320#32 else c >>> 1

/-- `n` bits of the CRC-32. -/
def crc32Bits : Nat → Word → Word
  | 0, c => c
  | n + 1, c => crc32Bits n (crc32Bit c)

/-- The CRC-32 of R18: polynomial 0x04C11DB7 with input and output reflected, initial value and final XOR all ones. -/
def crc32 (bs : List Byte) : Word :=
  ~~~(bs.foldl (fun c b => crc32Bits 8 (c ^^^ b.setWidth 32)) 0xFFFFFFFF#32)

/-! ## The field GF(2^10) of R153 -/

/-- A product of degree below 20, reduced by x^10 + x^3 + 1 from bit `10 + n - 1` down. -/
def gfReduce : Nat → Nat → Nat
  | 0, v => v
  | n + 1, v => gfReduce n (if v.testBit (10 + n) then v ^^^ (0x409 <<< n) else v)

/-- The carry-less product of `a` with the low `n` bits of `b`. -/
def gfClmul (a b : Nat) : Nat → Nat
  | 0 => 0
  | n + 1 => (if b.testBit n then a <<< n else 0) ^^^ gfClmul a b n

/-- The product in the field. -/
def gfMul (a b : Nat) : Nat := gfReduce 10 (gfClmul a b 10)

/-- The power `n` of the field's generator, x. -/
def gfExp : Nat → Nat
  | 0 => 1
  | n + 1 => gfMul (gfExp n) 2

/-- The square of a power: `a` to the power 2^n - 2, the inverse of a non-zero `a` for n = 10. -/
def gfInvSteps (a : Nat) : Nat → Nat
  | 0 => 1
  | n + 1 => let r := gfInvSteps a n; gfMul (gfMul r r) a

/-- The inverse of a non-zero element: its power 1,022, which is twice 511. -/
def gfInv (a : Nat) : Nat := let r := gfInvSteps a 9; gfMul r r

/-- The value of a polynomial, highest coefficient first. -/
def gfEval (p : List Nat) (x : Nat) : Nat := p.foldl (fun acc c => gfMul acc x ^^^ c) 0

/-- The sum of two polynomials, lowest coefficient first. -/
def gfAdd : List Nat → List Nat → List Nat
  | [], q => q
  | p, [] => p
  | a :: p, b :: q => (a ^^^ b) :: gfAdd p q

/-- A polynomial times a constant. -/
def gfScale (c : Nat) (p : List Nat) : List Nat := p.map (gfMul c)

/-- The product of two polynomials, lowest coefficient first. -/
def gfPolyMul : List Nat → List Nat → List Nat
  | [], _ => []
  | a :: p, q => gfAdd (gfScale a q) (0 :: gfPolyMul p q)

/-- The generator of clause 91, lowest coefficient first: the product of x - x^j for j from 0 to `n` - 1. (PRESUMED: log entry 55) -/
def rsGen : Nat → List Nat
  | 0 => [1]
  | n + 1 => gfPolyMul (rsGen n) [gfExp n, 1]

/-! ## The code of a timetabled flit (R153, R154) -/

/-- One message symbol through the division by the generator; the remainder and the generator's lower 30 coefficients
stand highest first. -/
def rsStep (g rem : List Nat) (m : Nat) : List Nat :=
  let f := m ^^^ rem.headD 0
  List.zipWith (fun r c => r ^^^ gfMul f c) (rem.tail ++ [0]) g

/-- The 30 parity symbols of a message: the remainder of message times x^30 by the generator (R153). (PRESUMED: log entry 55) -/
def rsParity (msg : List Nat) : List Nat :=
  let g := ((rsGen 30).take 30).reverse
  msg.foldl (rsStep g) (List.replicate 30 0)

/-- The syndromes of a received word: its values at x^0 to x^29. -/
def rsSyndromes (r : List Nat) : List Nat := (List.range 30).map fun j => gfEval r (gfExp j)

/-- The state of the Berlekamp and Massey iteration: locator, previous locator, length, shift, previous discrepancy. -/
structure RsSearch where
  c : List Nat
  b : List Nat
  l : Nat
  m : Nat
  d : Nat

/-- The discrepancy at step `n`. -/
def rsDiscrepancy (s : List Nat) (c : List Nat) (n : Nat) : Nat :=
  ((List.range (n + 1)).map fun i => gfMul (c.getD i 0) (s.getD (n - i) 0)).foldl (· ^^^ ·) 0

/-- One step of the iteration. -/
def rsSearchStep (s : List Nat) (st : RsSearch) (n : Nat) : RsSearch :=
  let d := rsDiscrepancy s st.c n
  if d = 0 then { st with m := st.m + 1 } else
    let c' := gfAdd st.c (List.replicate st.m 0 ++ gfScale (gfMul d (gfInv st.d)) st.b)
    if 2 * st.l ≤ n then { c := c', b := st.c, l := n + 1 - st.l, m := 1, d := d } else { st with c := c', m := st.m + 1 }

/-- The error locator, lowest coefficient first, and its length. -/
def rsLocator (s : List Nat) : List Nat × Nat :=
  let r := (List.range 30).foldl (rsSearchStep s) { c := [1], b := [1], l := 0, m := 1, d := 1 }
  (r.c, r.l)

/-- The formal derivative over a field of characteristic 2. -/
def gfDeriv (p : List Nat) : List Nat := p.tail.mapIdx fun i c => if i % 2 = 0 then c else 0

/-- Received symbols, symbol 0 first, corrected in at most 15 places: the symbols and the number corrected; none when
the word lies near no codeword. (PRESUMED: log entry 55) -/
def rsDecode (r : List Nat) : Option (List Nat × Nat) :=
  let s := rsSyndromes r
  if s.all (· == 0) then some (r, 0) else
    let (lam, l) := rsLocator s
    let omega := (gfPolyMul s lam).take 30
    let n := r.length
    let places := (List.range n).filter fun m => gfEval lam.reverse (gfExp (1023 - (n - 1 - m))) == 0
    if l > 15 || places.length != l then none else
      let fixed := r.mapIdx fun m v =>
        if places.contains m then
          let x := gfExp (n - 1 - m)
          let xi := gfExp (1023 - (n - 1 - m))
          v ^^^ gfMul x (gfMul (gfEval omega.reverse xi) (gfInv (gfEval (gfDeriv lam).reverse xi)))
        else v
      if (rsSyndromes fixed).all (· == 0) then some (fixed, l) else none

/-- Symbol m of a flit: flit bits 10m + 9 to 10m (R153). -/
def t6Symbols (f : BitVec 2048) : List Nat := (List.range 204).map fun m => fld f (10 * m) 10

/-- Symbols placed as flit bits. -/
def symbolBits : List Nat → Nat
  | [] => 0
  | v :: vs => v % 1024 + 1024 * symbolBits vs

/-- A timetabled flit from its header and payload: CRC-64 over bytes 0 to 207, zero bits 1,728 to 1,739, and the
parity (R153). (PRESUMED: log entry 55) -/
def t6Encode (hdr : BitVec 64) (payload : BitVec 1600) : BitVec 2048 :=
  let body : BitVec 1664 := payload ++ hdr
  let msg : BitVec 2048 := (crc64 (bvBytes body) ++ body).setWidth 2048
  let sy := (t6Symbols msg).take 174
  BitVec.ofNat 2048 (symbolBits (sy ++ rsParity sy))

/-- A timetabled flit as received: its header, its payload and the number of symbols corrected; none when decoding fails
or the CRC does not match (R154). (PRESUMED: log entry 55) -/
def t6Decode (f : BitVec 2048) : Option (BitVec 64 × BitVec 1600 × Nat) :=
  match rsDecode (t6Symbols f) with
  | none => none
  | some (sy, n) =>
    let g := BitVec.ofNat 2048 (symbolBits sy)
    if crc64 (bvBytes (bits g 0 1664)) = bits g 1664 64 then some (bits g 0 64, bits g 64 1600, n) else none

/-! ## The sequence of x^31 + x^28 + 1 (R18, R75, R97, R102)

A generator's register holds its next 31 bits, the next to leave in bit 0. Each later bit is the sum of those 28 and 31 places
before it. -/

/-- 28 bits more of a sequence of which `n` are known, the first in bit 0. -/
def seqGrow (k n : Nat) : Nat := k + ((k >>> (n - 31)) ^^^ (k >>> (n - 28))) % 2 ^ 28 * 2 ^ n

/-- The first 31 + 28 r bits of the sequence that a register starts, the first in bit 0. -/
def seqBits (y : BitVec 31) : Nat → Nat
  | 0 => y.toNat
  | r + 1 => seqGrow (seqBits y r) (31 + 28 * r)

/-- The next `w` bits of a generator, the first in bit 0. -/
def seqTake (w : Nat) (y : BitVec 31) : BitVec w := BitVec.ofNat w (seqBits y (w / 28))

/-- The generator's register `w` bits later. -/
def seqDrop (w : Nat) (y : BitVec 31) : BitVec 31 := BitVec.ofNat 31 (seqBits y (w / 28 + 1) >>> w)

/-- A product of two polynomials of degree below 31, reduced by x^31 + x^3 + 1, which the sequence's recurrence divides. -/
def seqReduce (v : Nat) : Nat :=
  let f (v : Nat) : Nat := (v % 2 ^ 31) ^^^ (v >>> 31) ^^^ ((v >>> 31) <<< 3)
  f (f v)

/-- x to the power `e`, a number of at most `n` bits. -/
def seqPow : Nat → Nat → Nat
  | _, 0 => 1
  | e, n + 1 =>
    let r := seqPow (e / 2) n
    let q := seqReduce (gfClmul r r 31)
    if e % 2 = 1 then seqReduce (2 * q) else q

/-- The generator's register `e` bits later, by jump-ahead: the sequence has period 2^31 - 1 (R75). -/
def seqJump (e : Nat) (y : BitVec 31) : BitVec 31 :=
  let c := seqPow (e % (2 ^ 31 - 1)) 31
  let b := seqBits y 2
  BitVec.ofNat 31 (((List.range 31).filter c.testBit).foldl (fun acc i => acc ^^^ (b >>> i)) 0)

/-- A seed as a register: its most significant bit leaves first. (PRESUMED: log entry 55) -/
def seqSeed (seed : Nat) : BitVec 31 := (BitVec.ofNat 31 seed).reverse

/-! ## Lanes (R71, R72, R75, R85, R115)

A level code 0 to 3 stands for level -3, -1, +1 or +3. A lane's 256 bits of one slot are its 128 symbols in order of sending, the
first in bits 1:0; a sleeve's line is its nine physical lanes, lane 0 lowest and the spare highest. -/

/-- The lower bit of every symbol of a lane. -/
def lowBits : BitVec 256 := BitVec.ofNat 256 ((2 ^ 256 - 1) / 3)

/-- The Gray mapping of R71, on every symbol of a lane: bit pairs to level codes, and as well level codes to bit pairs. -/
def grayLane (x : BitVec 256) : BitVec 256 := x ^^^ ((x >>> 1) &&& lowBits)

/-- Bits in order of sending as symbols: the first bit of each pair is the more significant (R71, R75, R102). -/
def seqPairs (x : BitVec 256) : BitVec 256 := ((x &&& lowBits) <<< 1) ||| ((x >>> 1) &&& lowBits)

/-- The PAM4 level of a level code (R71). -/
def levelOf (code : BitVec 2) : Int := 2 * (code.toNat : Int) - 3

/-- The 32 bytes that data lane `j` carries of a slot: slot bytes j, j + 8 and so on up to j + 248 (R72). -/
def laneBytes (slot : BitVec 2048) (j : Nat) : BitVec 256 :=
  (List.range 32).foldl (fun acc i => acc ||| ((bits slot (8 * (j + 8 * i)) 8).setWidth 256 <<< (8 * i))) 0

/-- The slot whose data lanes carry the bytes given (R72). -/
def slotOfLanes (lane : Nat → BitVec 256) : BitVec 2048 :=
  (List.range 8).foldl (fun acc j =>
    (List.range 32).foldl (fun acc i => acc ||| ((bits (lane j) (8 * i) 8).setWidth 2048 <<< (8 * (j + 8 * i)))) acc) 0

/-- The scrambler's bits for a logical lane in slot `n`: data lane `j` of sleeve `k`, or its spare as lane 8 (R75). -/
def laneKey (k j n : Nat) : BitVec 256 :=
  seqPairs (seqTake 256 (seqJump (256 * (n % 2 ^ 20)) (seqSeed (0x2D2D0000 + 16 * k + j))))

/-- The level codes of a logical lane's scrambled data (R71, R75). -/
def laneUp (k j n : Nat) (x : BitVec 256) : BitVec 256 := grayLane (x ^^^ laneKey k j n)

/-- The data of a logical lane from its level codes (R71, R75). -/
def laneDown (k j n : Nat) (x : BitVec 256) : BitVec 256 := grayLane x ^^^ laneKey k j n

/-- Nine lanes of a sleeve joined. -/
def lineOfLanes (lane : Nat → BitVec 256) : BitVec 2304 :=
  (List.range 9).foldl (fun acc j => acc ||| ((lane j).setWidth 2304 <<< (256 * j))) 0

/-- One physical lane of a line. -/
def lineLane (line : BitVec 2304) (j : Nat) : BitVec 256 := bits line (256 * j) 256

/-- A slot as sleeve `k` sends it in slot `n`: each data lane on itself, unless the spare carries it as its repair; the spare with the
lane that it carries, under repair or under rolling tailoring, or with its own scrambler sequence (R72, R75, R85, R115).
(DESIGN CHOICE: log entry 13; PRESUMED: log entry 55) -/
def sendLine (spareState : BitVec 2) (spareLane : Nat) (k n : Nat) (slot : BitVec 2048) : BitVec 2304 :=
  let logical (j : Nat) : BitVec 256 := laneUp k j n (if j = 8 then 0 else laneBytes slot j)
  lineOfLanes fun j =>
    if j = 8 then logical (if spareState = 1 || spareState = 2 then spareLane else 8)
    else if spareState = 1 && j = spareLane then 0
    else logical j

/-- The slot that a line brings: a data lane that the spare carries is read from the spare (R75, R85, R115). -/
def recvLine (spareState : BitVec 2) (spareLane : Nat) (k n : Nat) (line : BitVec 2304) : BitVec 2048 :=
  slotOfLanes fun j =>
    laneDown k j n (lineLane line (if (spareState = 1 || spareState = 2) && j = spareLane then 8 else j))

/-- The deskew delay of a lane in UI: 40 less its measured offset (R76). -/
def deskew (offset : Nat) : Nat := 40 - offset

/-! ## PRBS31 (R18, R102) -/

/-- The wrong bits among `w` received, against the bits expected. -/
def wrongBits {w : Nat} (got want : BitVec w) : Nat := ((List.range w).filter (got ^^^ want).getLsbD).length

/-- The line of a sleeve under test: the generators' sequences, normal or inverted, on the lanes of a mask; other lanes as they are
(R71, R102). -/
def prbsLine (gens : Vector (BitVec 31) 9) (mask : Nat) (inverted : Bool) (line : BitVec 2304) : BitVec 2304 :=
  lineOfLanes fun j =>
    if mask.testBit j then
      let x := seqTake 256 (gens.toList.getD j 0)
      grayLane (seqPairs (if inverted then ~~~x else x))
    else lineLane line j

/-! ## The Sleeper line (R97) -/

/-- A block's 32 bits scrambled, or descrambled, at its place on the line, the least significant bit first; the header is not
scrambled (R97). (PRESUMED: log entry 55) -/
def slpScramble (n : Nat) (b : BitVec 34) : BitVec 34 :=
  b ^^^ (0#2 ++ seqTake 32 (seqJump (32 * n) (seqSeed 0x2D2D0100)))

end Sys2Proof.Machine
end

