-- ==== Sys2Proof/Machine/Arith.lean ====
section
/-!
DEFINITION. The junction's arithmetic: the element formats, the exact accumulator, rounding and the output formats (R226 to
R237).
-/
namespace Sys2Proof.Machine

/-! ## Formats (R226, R227) -/

/-- The shape of a float format: exponent bits, mantissa bits, bias. -/
structure FloatFmt where
  e : Nat
  m : Nat
  bias : Int
  /-- The all-ones exponent codes infinities and NaNs. -/
  ieee : Bool
  /-- E4M3: S.1111.111 is NaN and there is no infinity. -/
  e4m3 : Bool
deriving DecidableEq, Repr

/-- The float shape of a FORMAT code, block-scaled forms by their element (R226). -/
def floatFmt (f : Nat) : Option FloatFmt :=
  if f = 0x00 then some { e := 8, m := 23, bias := 127, ieee := true, e4m3 := false }
  else if f = 0x01 then some { e := 5, m := 10, bias := 15, ieee := true, e4m3 := false }
  else if f = 0x02 then some { e := 8, m := 7, bias := 127, ieee := true, e4m3 := false }
  else if f = 0x03 || f = 0x13 then some { e := 4, m := 3, bias := 7, ieee := false, e4m3 := true }
  else if f = 0x04 || f = 0x14 then some { e := 5, m := 2, bias := 15, ieee := true, e4m3 := false }
  else if f = 0x05 || f = 0x15 then some { e := 2, m := 3, bias := 1, ieee := false, e4m3 := false }
  else if f = 0x06 || f = 0x16 then some { e := 3, m := 2, bias := 3, ieee := false, e4m3 := false }
  else if f = 0x07 || f = 0x17 then some { e := 2, m := 1, bias := 1, ieee := false, e4m3 := false }
  else none

/-- FORMAT is one of the codes of R226. -/
def formatOk (f : Nat) : Bool :=
  f ≤ 0x09 || (0x0C ≤ f && f ≤ 0x0E) || (0x13 ≤ f && f ≤ 0x17)

/-- A block-scaled form. -/
def isMx (f : Nat) : Bool := 0x13 ≤ f && f ≤ 0x17

/-- A partial form (R237). -/
def isPartial (f : Nat) : Bool := 0x0C ≤ f && f ≤ 0x0E

/-- The integer class of R226. -/
def isInt (f : Nat) : Bool := f == 0x08 || f == 0x09 || f == 0x0D

/-- Bits of one element. -/
def elemBits (f : Nat) : Nat :=
  if f = 0x00 || f = 0x09 then 32 else if f = 0x01 || f = 0x02 then 16
  else if f = 0x03 || f = 0x04 || f = 0x08 || f = 0x13 || f = 0x14 then 8
  else if f = 0x05 || f = 0x06 || f = 0x15 || f = 0x16 then 6 else if f = 0x07 || f = 0x17 then 4
  else if f = 0x0E then 384 else 64

/-- The packing unit in elements (R227). -/
def packUnit (f : Nat) : Nat :=
  if isMx f then 32 else if f = 0x05 || f = 0x06 then 4 else if f = 0x07 then 2 else 1

/-- Bytes of one MX record: the scale and 32 elements (R227). -/
def mxRecord (f : Nat) : Nat := 1 + 4 * elemBits f

/-- The bytes of `n` elements. -/
def elemBytes (f n : Nat) : Nat := if isMx f then n / 32 * mxRecord f else n * elemBits f / 8

/-- The code of element `i` of a run, and the scale of its MX record (R227). -/
def elemCode (f : Nat) (bs : List Byte) (i : Nat) : Nat × Nat :=
  let w := elemBits f
  if isMx f then
    let r := (bs.drop (i / 32 * mxRecord f)).take (mxRecord f)
    (leNat (r.drop 1) / 2 ^ (w * (i % 32)) % 2 ^ w, leNat (r.take 1))
  else
    let u := packUnit f
    let k := u * w / 8
    let g := leNat ((bs.drop (i / u * k)).take k)
    (g / 2 ^ (w * (i % u)) % 2 ^ w, 127)

/-! ## Contributions (R228 to R230) -/

/-- What one element adds: flags, and a number of units of 2^-160. -/
structure Contribution where
  nan : Bool
  pos : Bool
  neg : Bool
  sum : Int
deriving DecidableEq, Repr

/-- The two's-complement value of `n` bits. -/
def toSigned (n v : Nat) : Int := if v < 2 ^ (n - 1) then v else (v : Int) - 2 ^ n

/-- A finite amount. -/
def finiteC (v : Int) : Contribution := { nan := false, pos := false, neg := false, sum := v }

/-- A NaN. -/
def nanC : Contribution := { nan := true, pos := false, neg := false, sum := 0 }

/-- An infinity of a sign. -/
def infC (neg : Bool) : Contribution := { nan := false, pos := !neg, neg := neg, sum := 0 }

/-- What a float code adds, its exponent raised by `x` (R228, R230). -/
def floatC (s : FloatFmt) (code : Nat) (x : Int) : Contribution :=
  let neg := code.testBit (s.e + s.m)
  let ex := code / 2 ^ s.m % 2 ^ s.e
  let ma := code % 2 ^ s.m
  if s.ieee && ex = 2 ^ s.e - 1 then (if ma = 0 then infC neg else nanC)
  else if s.e4m3 && ex = 15 && ma = 7 then nanC
  else
    let m : Nat := if ex = 0 then ma else ma + 2 ^ s.m
    let e : Int := (if ex = 0 then 1 else (ex : Int)) - s.bias - s.m + x + 160
    let v : Int := (m : Int) * 2 ^ e.toNat
    finiteC (if neg then -v else v)

/-- The contribution of an element code with its scale (R228, R230). (DEDUCED: log entry 37) -/
def contribution (f code scale : Nat) : Contribution :=
  match floatFmt f with
  | some s => if isMx f && scale = 0xFF then nanC else floatC s code ((scale : Int) - 127)
  | none =>
    if f = 0x08 then finiteC (toSigned 8 code * 2 ^ 160)
    else if f = 0x09 then finiteC (toSigned 32 code * 2 ^ 160)
    else if f = 0x0C then
      if code = 0x8000000000000000 then nanC else if code = 0x8000000000000001 then infC true
      else if code = 0x7FFFFFFFFFFFFFFF then infC false else finiteC (toSigned 64 code * 2 ^ 136)
    else if f = 0x0D then finiteC (toSigned 64 code * 2 ^ 160)
    else { nan := code.testBit 383, pos := code.testBit 382, neg := code.testBit 381, sum := toSigned 380 (code % 2 ^ 380) }

/-- SUM of an accumulator (R229). -/
def accSum (a : BitVec 384) : Int := toSigned 380 (fld a 0 380)

/-- The accumulator word of its flags and SUM (R229): NAN stands with a NaN or with both infinities. -/
def accWord (nan pos neg : Bool) (v : Int) : BitVec 384 :=
  BitVec.ofBool (nan || (pos && neg)) ++ BitVec.ofBool pos ++ BitVec.ofBool neg ++ 0#1 ++ BitVec.ofInt 380 v

/-- A contribution added exactly (R230): the flags by OR, the sum as an integer. -/
def accAdd (a : BitVec 384) (c : Contribution) : BitVec 384 :=
  accWord (bit a 383 || c.nan) (bit a 382 || c.pos) (bit a 381 || c.neg) (accSum a + c.sum)

/-- The contributions of `n` elements of a run of bytes. -/
def contributions (f : Nat) (bs : List Byte) (n : Nat) : List Contribution :=
  (List.range n).map fun i => let (c, x) := elemCode f bs i; contribution f c x

/-- A run of contributions added to the accumulators from an offset on. -/
def accRun : List (BitVec 384) → Nat → List Contribution → List (BitVec 384)
  | [], _, _ => []
  | a :: as, n + 1, cs => a :: accRun as n cs
  | as, 0, [] => as
  | a :: as, 0, c :: cs => accAdd a c :: accRun as 0 cs

/-! ## Rounding (R233, R234) -/

/-- The 24-bit draw of stochastic rounding for the element at offset `i` (R234). -/
def draw24 (seed : Word) (salt : Byte) (i : Nat) : Nat :=
  let key : BitVec 64 := seed ++ salt ++ BitVec.ofNat 24 i
  let z := key + 0x9E3779B97F4A7C15#64
  let z := (z ^^^ (z >>> 30)) * 0xBF58476D1CE4E5B9#64
  let z := (z ^^^ (z >>> 27)) * 0x94D049BB133111EB#64
  let z := z ^^^ (z >>> 31)
  fld z 40 24

/-- `a` divided by 2^`sh`, rounded to an integer: to nearest with ties to even, or by the draw (R233, R234). -/
def roundQ (a sh : Nat) (stochastic : Bool) (r : Nat) : Nat :=
  let q := a / 2 ^ sh
  let rem := a % 2 ^ sh
  if stochastic then q + (if 2 ^ 24 ≤ rem * 2 ^ 24 / 2 ^ sh + r then 1 else 0)
  else if 2 ^ sh < 2 * rem || (2 ^ sh = 2 * rem && q % 2 = 1) then q + 1 else q

/-- ⌊log2 a⌋ for a above 0. -/
def flog2 (a : Nat) : Int := (Nat.log2 a : Int)

/-- The largest finite code of a float format, without sign. -/
def maxCode (s : FloatFmt) : Nat :=
  if s.ieee then 2 ^ (s.e + s.m) - 2 ^ s.m - 1 else if s.e4m3 then 0x7E else 2 ^ (s.e + s.m) - 1

/-- The NaN code of an output format (R235). -/
def nanCode (f : Nat) : Nat :=
  if f = 0x00 then 0x7FC00000 else if f = 0x01 then 0x7E00 else if f = 0x02 then 0x7FC0
  else if f = 0x03 || f = 0x13 then 0x7F else 0x7E

/-- |x| = a × 2^-k rounded to a format: its code without sign; beyond the largest finite value one more than its code's
range, as `maxCode + 1` or above (R233). -/
def roundCode (s : FloatFmt) (a k : Nat) (stochastic : Bool) (r : Nat) : Nat :=
  if a = 0 then 0 else
    let emin : Int := 1 - s.bias
    let e := max (flog2 a - k) emin
    let sh := (e - s.m + k).toNat
    let q := roundQ a sh stochastic r
    -- q below 2^m is subnormal; each further binade adds one to the exponent field
    if q < 2 ^ s.m then q
    else
      let (q, e) := if q = 2 ^ (s.m + 1) then (2 ^ s.m, e + 1) else (q, e)
      (e + s.bias).toNat * 2 ^ s.m + (q - 2 ^ s.m)

/-- A finite sum in a plain float format: the code with its sign, and whether the range was exceeded (R233, R235). -/
def outFloat (s : FloatFmt) (v : Int) (stochastic : Bool) (r : Nat) : Nat × Bool :=
  let c := roundCode s v.natAbs 160 stochastic r
  let big := maxCode s < c
  let c := if big then (if s.ieee then (2 ^ s.e - 1) * 2 ^ s.m else maxCode s) else c
  (if c = 0 then 0 else (if v < 0 then 2 ^ (s.e + s.m) else 0) + c, big)

/-- One accumulator in a plain float format (R233, R235). -/
def outElem (f : Nat) (s : FloatFmt) (a : BitVec 384) (stochastic : Bool) (r : Nat) : Nat × Bool :=
  let sign (neg : Bool) : Nat := if neg then 2 ^ (s.e + s.m) else 0
  if bit a 383 then (nanCode f, false)
  else if bit a 382 || bit a 381 then
    (sign (bit a 381) + (if s.ieee then (2 ^ s.e - 1) * 2 ^ s.m else maxCode s), false)
  else outFloat s (accSum a) stochastic r

/-- One accumulator as INT32 (R236). -/
def outInt (a : BitVec 384) (saturate : Bool) : Nat × Bool :=
  let v := accSum a / 2 ^ 160
  if saturate && v < -2 ^ 31 then (0x80000000, true)
  else if saturate && 2 ^ 31 - 1 < v then (0x7FFFFFFF, true)
  else ((v % 2 ^ 32).toNat, false)

/-- The elements of one MX block in bits, lowest first. -/
def packBits (w : Nat) : List Nat → Nat
  | [] => 0
  | c :: cs => c % 2 ^ w + 2 ^ w * packBits w cs

/-- One MX block of 32 accumulators (R235): its record and whether an element saturated; `r` gives each element's draw.
(DEDUCED: log entry 37) -/
def outMx (f : Nat) (s : FloatFmt) (as : List (BitVec 384)) (stochastic : Bool) (r : Nat → Nat) : List Byte × Bool :=
  let w := elemBits f
  if as.any (fun a => bit a 383 || bit a 382 || bit a 381) then
    (0xFF#8 :: leBytes (4 * w) (packBits w (as.map fun _ => nanCode f)), false)
  else
    let big := (as.map fun a => (accSum a).natAbs).foldl max 0
    if big = 0 then (127#8 :: leBytes (4 * w) 0, false)
    else
      let emax : Int := if f = 0x13 then 8 else 15
      let x := (max 0 (min 254 (flog2 big - 160 - emax + 127))).toNat
      let one (i : Nat) (a : BitVec 384) : Nat × Bool :=
        let v := accSum a
        let c := roundCode s v.natAbs (33 + x) stochastic (r i)
        let large := maxCode s < c
        let c := min c (maxCode s)
        (if c = 0 then 0 else (if v < 0 then 2 ^ (s.e + s.m) else 0) + c, large)
      let es := as.mapIdx one
      (BitVec.ofNat 8 x :: leBytes (4 * w) (packBits w (es.map (·.1))), es.any (·.2))

/-- Accumulators in runs of 32. -/
def runs32 : Nat → List (BitVec 384) → List (List (BitVec 384))
  | 0, _ => []
  | n + 1, as => as.take 32 :: runs32 n (as.drop 32)

/-- The partial form of an accumulator (R237). -/
def outPartial (f : Nat) (a : BitVec 384) : List Byte :=
  if f = 0x0E then bvBytes a
  else if f = 0x0D then leBytes 8 ((accSum a / 2 ^ 160) % 2 ^ 64).toNat
  else if bit a 383 then leBytes 8 0x8000000000000000
  else if bit a 381 then leBytes 8 0x8000000000000001
  else if bit a 382 then leBytes 8 0x7FFFFFFFFFFFFFFF
  else leBytes 8 ((accSum a / 2 ^ 136) % 2 ^ 64).toNat

/-- The partial form that an INSET fixes (R237). -/
def partialForm (inset : Word) : Nat :=
  let within (m : Nat) : Bool := inset &&& ~~~(BitVec.ofNat 32 m) == 0
  -- integer class: INT8, INT32, Q64I; the narrow floats: FP16, FP8, FP6, FP4 and Q64F
  if within (2 ^ 8 + 2 ^ 9 + 2 ^ 13) then 0x0D
  else if within (2 ^ 1 + 2 ^ 3 + 2 ^ 4 + 2 ^ 5 + 2 ^ 6 + 2 ^ 7 + 2 ^ 12) then 0x0C else 0x0E

/-- Accumulators in an output format, the first at offset `i0` of its group: bytes, and whether an output overflowed or
saturated (R233 to R237). -/
def output (f : Nat) (stochastic saturate : Bool) (seed : Word) (salt : Byte) (i0 : Nat) (as : List (BitVec 384)) :
    List Byte × Bool :=
  if isPartial f then (as.flatMap (outPartial f), false)
  else
    match floatFmt f with
    | some s =>
      if isMx f then
        let rs := (runs32 (as.length / 32) as).mapIdx fun k b =>
          outMx f s b stochastic fun i => draw24 seed salt (i0 + 32 * k + i)
        (rs.flatMap (·.1), rs.any (·.2))
      else
        let es := as.mapIdx fun i a => outElem f s a stochastic (draw24 seed salt (i0 + i))
        (es.flatMap fun e => leBytes (elemBits f / 8) e.1, es.any (·.2))
    | none =>
      let es := as.map fun a => outInt a saturate
      (es.flatMap fun e => leBytes 4 e.1, es.any (·.2))

end Sys2Proof.Machine
end

