-- ==== Sys2Proof/Machine/Operands.lean ====
section
/-!
DEFINITION. The layouts of what travels: the headers of packets and flits, the payloads of control flits and messages,
and the bytes of a packet (R81, R136, R145, R152, R165, R244, R324, R408). Each header is a structure with the reading of its
word and the writing of it.
-/
namespace Sys2Proof.Machine

/-- The transaction packet header of R165. -/
structure THdr where
  /-- ADDR. -/
  addr : BitVec 64
  /-- CVER. -/
  cver : BitVec 32
  /-- GEN. -/
  gen : BitVec 16
  /-- LDEST. -/
  ldest : BitVec 16
  /-- TAG. -/
  tag : BitVec 18
  /-- SRC. -/
  src : BitVec 14
  /-- DEST. -/
  dest : BitVec 14
  /-- VIA. -/
  via : BitVec 7
  /-- LEN. -/
  len : BitVec 24
  /-- POOL. -/
  pool : BitVec 12
  /-- ATTEMPT. -/
  attempt : BitVec 2
  /-- FWD. -/
  fwd : BitVec 1
  /-- STATUS. -/
  status : BitVec 8
  /-- OP. -/
  op : BitVec 8
  /-- POISON. -/
  poison : BitVec 1
  /-- VSITE. -/
  vsite : BitVec 7
  /-- reserved. -/
  rsv : BitVec 12
deriving DecidableEq, Repr

/-- The fields of the header word (R165). -/
def THdr.ofBits (w : BitVec 256) : THdr :=
  {
    addr := bits w 192 64
    cver := bits w 160 32
    gen := bits w 144 16
    ldest := bits w 128 16
    tag := bits w 110 18
    src := bits w 96 14
    dest := bits w 82 14
    via := bits w 75 7
    len := bits w 51 24
    pool := bits w 39 12
    attempt := bits w 37 2
    fwd := bits w 36 1
    status := bits w 28 8
    op := bits w 20 8
    poison := bits w 19 1
    vsite := bits w 12 7
    rsv := bits w 0 12
  }

/-- The header word of the fields (R165). -/
def THdr.toBits (h : THdr) : BitVec 256 :=
  h.addr ++ h.cver ++ h.gen ++ h.ldest ++ h.tag ++ h.src ++ h.dest ++ h.via ++ h.len ++ h.pool ++ h.attempt ++
    h.fwd ++ h.status ++ h.op ++ h.poison ++ h.vsite ++ h.rsv

/-- The management header of R324. -/
structure MHdr where
  /-- SRC. -/
  src : BitVec 14
  /-- DEST. -/
  dest : BitVec 14
  /-- RTAG. -/
  rtag : BitVec 16
  /-- LEN. -/
  len : BitVec 13
  /-- reserved. -/
  rsv : BitVec 63
  /-- OP. -/
  op : BitVec 8
deriving DecidableEq, Repr

/-- The fields of the header word (R324). -/
def MHdr.ofBits (w : BitVec 128) : MHdr :=
  {
    src := bits w 114 14
    dest := bits w 100 14
    rtag := bits w 84 16
    len := bits w 71 13
    rsv := bits w 8 63
    op := bits w 0 8
  }

/-- The header word of the fields (R324). -/
def MHdr.toBits (h : MHdr) : BitVec 128 :=
  h.src ++ h.dest ++ h.rtag ++ h.len ++ h.rsv ++ h.op

/-- The junction packet header of R244. -/
structure JHdr where
  /-- ADDR. -/
  addr : BitVec 64
  /-- SRC. -/
  src : BitVec 14
  /-- DEST. -/
  dest : BitVec 14
  /-- GROUP. -/
  group : BitVec 12
  /-- TREE. -/
  tree : BitVec 12
  /-- ELEM_OFF. -/
  elemOff : BitVec 17
  /-- ELEMS. -/
  elems : BitVec 17
  /-- LEN. -/
  len : BitVec 24
  /-- FORMAT. -/
  format : BitVec 5
  /-- MEMBER. -/
  member : BitVec 8
  /-- POISON. -/
  poison : BitVec 1
  /-- OP. -/
  op : BitVec 8
  /-- STATUS. -/
  status : BitVec 8
  /-- WEIGHT. -/
  weight : BitVec 21
  /-- reserved. -/
  rsv : BitVec 31
deriving DecidableEq, Repr

/-- The fields of the header word (R244). -/
def JHdr.ofBits (w : BitVec 256) : JHdr :=
  {
    addr := bits w 192 64
    src := bits w 178 14
    dest := bits w 164 14
    group := bits w 152 12
    tree := bits w 140 12
    elemOff := bits w 123 17
    elems := bits w 106 17
    len := bits w 82 24
    format := bits w 77 5
    member := bits w 69 8
    poison := bits w 68 1
    op := bits w 60 8
    status := bits w 52 8
    weight := bits w 31 21
    rsv := bits w 0 31
  }

/-- The header word of the fields (R244). -/
def JHdr.toBits (h : JHdr) : BitVec 256 :=
  h.addr ++ h.src ++ h.dest ++ h.group ++ h.tree ++ h.elemOff ++ h.elems ++ h.len ++ h.format ++ h.member ++
    h.poison ++ h.op ++ h.status ++ h.weight ++ h.rsv

/-- The header of a dynamic data flit (R136), which a link control flit uses in part (R145). -/
structure DHdr where
  /-- KIND. -/
  kind : BitVec 3
  /-- TRACK. -/
  track : BitVec 3
  /-- TKT_SHARED. -/
  shared : BitVec 1
  /-- SOP. -/
  sop : BitVec 1
  /-- EOP. -/
  eop : BitVec 1
  /-- LEN. -/
  len : BitVec 8
  /-- SEQ. -/
  seq : BitVec 12
  /-- ACK. -/
  ack : BitVec 12
  /-- NAK. -/
  nak : BitVec 1
  /-- TKT_SEL. -/
  sel : BitVec 3
  /-- TKT_COUNT. -/
  count : BitVec 12
  /-- reserved. -/
  rsv : BitVec 7
deriving DecidableEq, Repr

/-- The fields of the header word (R136). -/
def DHdr.ofBits (w : BitVec 64) : DHdr :=
  {
    kind := bits w 61 3
    track := bits w 58 3
    shared := bits w 57 1
    sop := bits w 56 1
    eop := bits w 55 1
    len := bits w 47 8
    seq := bits w 35 12
    ack := bits w 23 12
    nak := bits w 22 1
    sel := bits w 19 3
    count := bits w 7 12
    rsv := bits w 0 7
  }

/-- The header word of the fields (R136). -/
def DHdr.toBits (h : DHdr) : BitVec 64 :=
  h.kind ++ h.track ++ h.shared ++ h.sop ++ h.eop ++ h.len ++ h.seq ++ h.ack ++ h.nak ++ h.sel ++ h.count ++ h.rsv

/-- The header of a timetabled flit (R152). -/
structure T6Hdr where
  /-- KIND. -/
  kind : BitVec 3
  /-- TRACK. -/
  track : BitVec 3
  /-- PATH. -/
  path : BitVec 16
  /-- SLOT. -/
  slot : BitVec 5
  /-- SLEEVE. -/
  sleeve : BitVec 3
  /-- LEN. -/
  len : BitVec 8
  /-- SOP. -/
  sop : BitVec 1
  /-- EOP. -/
  eop : BitVec 1
  /-- ENTRY. -/
  entry : BitVec 17
  /-- reserved. -/
  rsv : BitVec 7
deriving DecidableEq, Repr

/-- The fields of the header word (R152). -/
def T6Hdr.ofBits (w : BitVec 64) : T6Hdr :=
  {
    kind := bits w 61 3
    track := bits w 58 3
    path := bits w 42 16
    slot := bits w 37 5
    sleeve := bits w 34 3
    len := bits w 26 8
    sop := bits w 25 1
    eop := bits w 24 1
    entry := bits w 7 17
    rsv := bits w 0 7
  }

/-- The header word of the fields (R152). -/
def T6Hdr.toBits (h : T6Hdr) : BitVec 64 :=
  h.kind ++ h.track ++ h.path ++ h.slot ++ h.sleeve ++ h.len ++ h.sop ++ h.eop ++ h.entry ++ h.rsv

/-- The payload of a seam control flit (R81). -/
structure SeamCtl where
  /-- bytes 8 to 239, reserved or zero. -/
  rest : BitVec 1856
  /-- SWITCH_AFTER. -/
  after : BitVec 16
  /-- NAK_REASON. -/
  nak : BitVec 8
  /-- TARGET_MASK. -/
  target : BitVec 8
  /-- reserved. -/
  rsv2 : BitVec 2
  /-- REASON. -/
  reason : BitVec 2
  /-- LANE. -/
  lane : BitVec 4
  /-- reserved. -/
  rsv1 : BitVec 5
  /-- SLEEVE. -/
  sleeve : BitVec 3
  /-- XID. -/
  xid : BitVec 8
  /-- TYPE. -/
  type : BitVec 8
deriving DecidableEq, Repr

/-- The fields of the header word (R81). -/
def SeamCtl.ofBits (w : BitVec 1920) : SeamCtl :=
  {
    rest := bits w 64 1856
    after := bits w 48 16
    nak := bits w 40 8
    target := bits w 32 8
    rsv2 := bits w 30 2
    reason := bits w 28 2
    lane := bits w 24 4
    rsv1 := bits w 19 5
    sleeve := bits w 16 3
    xid := bits w 8 8
    type := bits w 0 8
  }

/-- The header word of the fields (R81). -/
def SeamCtl.toBits (h : SeamCtl) : BitVec 1920 :=
  h.rest ++ h.after ++ h.nak ++ h.target ++ h.rsv2 ++ h.reason ++ h.lane ++ h.rsv1 ++ h.sleeve ++ h.xid ++ h.type

/-! ## Packets and flits -/

/-- The flits that a packet of `n` header and data bytes occupies (R165). -/
def flitsOf (n : Nat) : Nat := (n + 239) / 240

/-- The bytes of a packet in runs of 240. -/
def chunks240 : Nat → List Byte → List (List Byte)
  | 0, _ => []
  | n + 1, bs => bs.take 240 :: chunks240 n (bs.drop 240)

/-- A whole data flit or control flit: header, payload and the CRC-64 trailer (R137). -/
def sealFlit (hdr : BitVec 64) (payload : BitVec 1920) : BitVec 2048 :=
  let body : BitVec 1984 := payload ++ hdr
  crc64 (bvBytes body) ++ body

/-- The trailer matches (R137). -/
def crcOk (f : BitVec 2048) : Bool := crc64 (bvBytes (bits f 0 1984)) = bits f 1984 64

/-- The payload of a flit with a 240-byte payload. -/
def payloadOf (f : BitVec 2048) : BitVec 1920 := bits f 64 1920

/-- Payload bytes, zero beyond them (R136). -/
def payloadBits (bs : List Byte) : BitVec 1920 := BitVec.ofNat 1920 (leNat bs)

/-- What a link control flit's payload carries (R145): the missing flits, the six counts and RETRAIN. -/
structure LinkCtl where
  missing : BitVec 256
  counts : Vector (BitVec 12) 6
  retrain : Bool
deriving DecidableEq, Repr

/-- The payload of a link control flit (R145). -/
def LinkCtl.toBits (c : LinkCtl) : BitVec 1920 :=
  let n := (List.range 6).foldl (fun acc i => acc + (c.counts[i]!).toNat * 2 ^ (256 + 16 * i)) c.missing.toNat
  BitVec.ofNat 1920 (n + b2n c.retrain * 2 ^ 352)

/-- A link control payload read (R145). -/
def LinkCtl.ofBits (p : BitVec 1920) : LinkCtl :=
  { missing := bits p 0 256, counts := Vector.ofFn fun i => bits p (256 + 16 * i.val) 12, retrain := bit p 352 }

/-- TKT_SEL of ticket kind `i` in the order T0, T1, T3, T4, T5, shared (R136). -/
def selOf (i : Nat) : BitVec 3 := if i = 0 then 0 else if i = 1 then 1 else if i = 2 then 3 else if i = 3 then 4 else if i = 4 then 5 else 7

/-- The ticket kind of a TKT_SEL; none for a reserved code (R136). -/
def kindOfSel (s : BitVec 3) : Option (Fin 6) :=
  if s = 0 then some 0 else if s = 1 then some 1 else if s = 3 then some 2 else if s = 4 then some 3
  else if s = 5 then some 4 else if s = 7 then some 5 else none

/-- The ticket kind of a track; none for T2, which carries no tickets (R146, R150). -/
def kindOfTrack (t : BitVec 3) : Option (Fin 6) :=
  if t = 0 then some 0 else if t = 1 then some 1 else if t = 3 then some 2 else if t = 4 then some 3
  else if t = 5 then some 4 else none

/-! ## Sleeper messages (R405, R408) -/

/-- `n` payload words of a message from its bits. (DEDUCED: log entry 21) -/
def msgWords (n : Nat) (v : Nat) : List Word := (List.range n).map fun i => BitVec.ofNat 32 (v / 2 ^ (32 * i))

/-- The bits of payload words. -/
def wordsNat : List Word → Nat
  | [] => 0
  | w :: ws => w.toNat + 2 ^ 32 * wordsNat ws

/-- The bytes of payload words (R408: SPDM). -/
def wordsBytes (ws : List Word) : List Byte := ws.flatMap fun w => bvBytes w

/-- Bytes as words, the last padded with zeros (R408). -/
def bytesWords (bs : List Byte) : List Word := msgWords ((bs.length + 3) / 4) (leNat bs)

/-- The header word of a message (R405). -/
def msgHeader (type mseq : Byte) (len : Nat) : Word := type ++ BitVec.ofNat 8 len ++ mseq ++ 0#8

/-- The 34-bit blocks of a message (R405): the control block, the data blocks, and the CRC-32 over header and payload. -/
def msgBlocks (type mseq : Byte) (ws : List Word) : List (BitVec 34) :=
  let h := msgHeader type mseq ws.length
  let c := crc32 (wordsBytes (h :: ws))
  ((0b10#2 ++ h) :: ws.map (fun w => 0b01#2 ++ w)) ++ [0b01#2 ++ c]

/-- The LEN that a message type defines: least words (R407, R408); none for a type the block does not take. -/
def msgLen (type : Byte) : Option Nat :=
  if type = 0x02 then some 4 else if type = 0x08 then some 1 else if type = 0x11 then some 5
  else if type = 0x18 || type = 0x19 then some 3 else if type = 0x20 || type = 0x21 then some 1
  else if type = 0x23 then some 1 else if type = 0x28 then some 0 else if type = 0x29 then some 2
  else if type = 0x2A then some 1 else if type = 0x31 then some 0 else if type = 0x32 then some 2
  else if type = 0x33 then some 0 else if type = 0x38 then some 3 else if type = 0x39 then some 2
  else if type = 0x40 then some 3 else if type = 0x48 then some 1 else if type = 0x50 then some 3
  else if type = 0x51 then some 1 else if type = 0x59 then some 1 else none

end Sys2Proof.Machine
end

