-- ==== Sys2Proof/Machine/State.lean ====
section
/-!
DEFINITION. The state of the block: every register, queue, store, counter, mode and pin that the spec names, as plain
data, the commands waiting, the stop reasons, and the state after reset. Register fields that software writes or reads
back stand in `regs`; status fields that show a unit's state are computed from that unit when the register is read.
-/
namespace Sys2Proof.Machine

/-! ## Pins -/

/-- The input pins that hold a level (R48, R51 to R57, R62). -/
structure Pins where
  /-- ao_rst_n_i. -/
  aoRstN : Bool
  /-- The station's AO clock is present (R52). -/
  aoClk : Bool
  /-- plat_rst_n_i. -/
  platRstN : Bool
  /-- pcm_host_req_i. -/
  hostReq : BitVec 2
  /-- The count of the last platform-clock check was correct (R54). -/
  platClkOk : Bool
deriving DecidableEq, Repr

/-- When a limit began to run: railway time in ns, and the ticks of the AO clock's ten to a cycle (R17). -/
structure Mark where
  rail : Nat
  ticks : Nat
deriving DecidableEq, Repr

/-- The output pins of the interrupt, power and register-port groups (R49, R51, R52, R58, R59). -/
structure Outs where
  irqFault : Bool
  irqCmpl : Bool
  irqInfo : Bool
  /-- ao_ref_clk_o runs; it is driven 0 otherwise (R52). -/
  aoRefClk : Bool
  aoClkOk : Bool
  pcmState : BitVec 3
  portsReady : Bool
  brownout : Bool
  /-- reg_ack_o, reg_rdata_o and reg_err_o of the last access. -/
  regAck : Bool
  regRdata : Word
  regErr : Bool
deriving DecidableEq, Repr

/-- One thing that the block drove out of a channel, a lane or a message lane. The newest stands first in `State.out`:
the model's own record of its outputs. -/
inductive Emit where
  /-- A Sleeper lane message: TYPE, MSEQ and payload words (R405). -/
  | sleeper (type mseq : Byte) (words : List Word)
  /-- The flits of one upstream flit slot, by sleeve (R138); a sleeve not listed carries filler. -/
  | slot (n : BitVec 32) (flits : List (SleeveNo × BitVec 2048))
  /-- A beat of a port's rsp channel (R39). -/
  | rspBeat (port : PortId) (info : Word) (data : BitVec 512) (sop eop poison : Bool)
  /-- A beat of a port's breq channel: the command, and of a write the data and its byte enables (R35, R36, R41). -/
  | breqBeat (port : PortId) (cmd : BitVec 96) (data : BitVec 512) (be : BitVec 64) (sop eop : Bool)
  /-- Programming of the station on T0 in the station's own format: the number of the packet (R207). -/
  | note (what : Byte) (value : Nat)
deriving DecidableEq, Repr

/-! ## The fault log (R420 to R431) -/

/-- One occurrence on its way to the fault log, with the fields of the entry it becomes (R424). -/
structure Occ where
  /-- Railway time of detection, or the AO cycle count while unlocked. -/
  time : BitVec 64
  unlocked : Bool
  /-- The AO cycle in which it arose (R426). -/
  cycle : Nat
  cls : Byte
  detect : Byte
  cost : Byte
  multi : Bool
  /-- 0b01 fault, 0b11 info. -/
  line : BitVec 2
  enabled : Bool
  evtOff : BitVec 16
  bitNo : Byte
  repeats : Nat
  detail : BitVec 80
deriving DecidableEq, Repr

/-- An entry of the ring. -/
structure FltEntry where
  seq : BitVec 32
  occ : Occ
deriving DecidableEq, Repr

/-- The pending class 0x0F entry (R426): the occurrences lost, and SEQ and time at the first of them. -/
structure LostInfo where
  count : Nat
  seqBefore : BitVec 32
  time : BitVec 64
  unlocked : Bool
  enabled : Bool
deriving DecidableEq, Repr

/-- The fault log. -/
structure Flt where
  /-- Occurrences pending at their sources, oldest first (R426). -/
  pend : List Occ
  /-- The intake queue, at most 64, oldest first. -/
  intake : List Occ
  /-- The entries of the ring, oldest first, at most 1,024; entry SEQ stands at index SEQ mod 1,024 (R423). -/
  ring : List FltEntry
  /-- FLT_SEQ, and in its low bits FLT_WR. -/
  seq : BitVec 32
  /-- FLT_STATUS.UNREAD. -/
  unread : Nat
  lost : Option LostInfo
deriving DecidableEq, Repr

/-! ## The seam (R70 to R103) -/

/-- One sleeve in one direction: the fields of SEAM_SLV_TX_k and SEAM_SLV_RX_k (R103). -/
structure Slv where
  clkFail : Bool
  spareState : BitVec 2
  spareLane : BitVec 4
  failed : BitVec 9
deriving DecidableEq, Repr

/-- What an exchange of seam control flits is about (R81). -/
inductive ExKind where
  /-- SUBST_REQ with its REASON, for a downstream lane. -/
  | subst (slv : SleeveNo) (lane : BitVec 4) (reason : BitVec 2)
  | retire (slv : SleeveNo)
  | width (target : Byte)
deriving DecidableEq, Repr

/-- The block's own exchange (R82). -/
structure Exch where
  kind : ExKind
  xid : Byte
  sends : Nat
  /-- A NAK 0x02, 0x04 or 0x05 has arrived and the request is due again with a new XID. -/
  renew : Bool
  /-- Its last send, or the NAK. -/
  since : Mark
deriving DecidableEq, Repr

/-- A switch fixed for a slot (R81): on or off the spare in one direction, or a retirement. -/
structure SubstSw where
  dir : Dir
  slv : SleeveNo
  lane : BitVec 4
  reason : BitVec 2
  slot : BitVec 32
deriving DecidableEq, Repr

/-- A width change in progress (R92 to R95). -/
structure WidthChange where
  /-- The block started it; otherwise the station did. -/
  mine : Bool
  /-- The PCM started it rather than a GO. -/
  byPcm : Bool
  target : Byte
  /-- The station's XID when it is the initiator. -/
  xid : Byte
  /-- Sleeves that the change adds. -/
  added : Byte
  /-- The slots of filler that came on the logical lanes of the added sleeves, at most four of each lane (R75, R94). -/
  phase : List (LaneNo × BitVec 32)
  /-- The added sleeves are ready on the block's side (R94). -/
  ready : Bool
  /-- The station's WIDTH_ACK has come (initiator), or the block's has gone (responder). -/
  acked : Bool
  upSlot : Option (BitVec 32)
  dnSlot : Option (BitVec 32)
  upDone : Bool
  dnDone : Bool
  /-- The request, from which the 5 µs of R94 run. -/
  since : Mark
deriving DecidableEq, Repr

/-- A queued GO (R92). -/
structure QueuedGo where
  target : BitVec 4
  force : Bool
deriving DecidableEq, Repr

/-- The test mode on one sleeve (R100 to R102). -/
structure TestMode where
  /-- A test has run since cold reset (R338). -/
  everRun : Bool
  /-- TEST_REQ has been sent and waits for TEST_ACK. -/
  waiting : Bool
  sends : Nat
  running : Bool
  /-- The sleeve was powered for the test. -/
  poweredFor : Bool
  /-- The last TEST_REQ sent. -/
  since : Mark
  /-- The PRBS31 generators and checkers of the nine lanes: their registers, the next bit to leave in bit 0 (R102). -/
  gens : Vector (BitVec 31) 9
  checks : Vector (BitVec 31) 9
  locked : BitVec 9
  /-- Bits compared by each lane's checker while locked (SEAM_PRBS_BITS). -/
  compared : Vector (BitVec 64) 9
deriving DecidableEq, Repr

/-- The seam. -/
structure Seam where
  up : Vector Slv 8
  dn : Vector Slv 8
  retired : Byte
  usable : Byte
  powered : Byte
  upSlot : BitVec 32
  dnSlot : BitVec 32
  /-- The slot counters run: training has ended (R74). -/
  counting : Bool
  skew : Vector Word 8
  nextXid : Byte
  mine : Option Exch
  /-- Exchanges that wait for the one outstanding (R82). -/
  want : List ExKind
  /-- The last request of the station by TYPE and XID, and the block's answer (R82). -/
  answered : Option (Byte × Byte × BitVec 1920)
  /-- Control flits waiting for a slot (R80). -/
  ctlOut : List (BitVec 1920)
  /-- The last good control flit received and its slot: further copies are ignored (R80). -/
  ctlSeen : Option (BitVec 32 × BitVec 1920)
  /-- The level codes on the upstream lanes of each powered sleeve in the slot last sent (R71, R72, R75). -/
  line : List (SleeveNo × BitVec 2304)
  subst : List SubstSw
  retireAt : List (SleeveNo × Option (BitVec 32) × Option (BitVec 32))
  /-- The sleeve retired last, and the downstream slot in which it was: what still comes on it in that slot is lost (R162). -/
  lastRetired : Option (SleeveNo × BitVec 32)
  width : Option WidthChange
  queued : Option QueuedGo
  /-- Consecutive abandonments per exchange (R88). -/
  abandoned : List (ExKind × Nat)
  /-- Lanes whose repair the station refused with NAK 0x07 (R85). -/
  refused : List ExKind
  /-- CRC-64 failures per sleeve in the current 1 ms window (R89). -/
  crcWin : Vector Nat 8
  /-- Consecutive low eye measurements per downstream lane (R84). -/
  lowEye : List (LaneNo × Nat)
  test : TestMode
  /-- When power switches last began to close (R368). -/
  switchFrom : Mark
deriving DecidableEq, Repr

/-- The Sleeper lane (R97 to R99, R405). -/
structure Slp where
  txActive : Bool
  lock : Bool
  /-- MSEQ of the next message sent. -/
  mseq : Byte
  /-- Messages waiting, each with its queue of R406. -/
  queue : List (Nat × Byte × List Word)
  /-- Railway time of the last loss of lock. -/
  lostAt : Nat
  /-- Of the blocks received last in lock, at most 63, oldest first: whether their sync header was invalid (R98). -/
  heads : List Bool
  /-- The number of the next 34-bit block that the transmitter has free, and the scrambled blocks of the messages sent last (R97). -/
  block : Nat
  line : List (BitVec 34)
deriving DecidableEq, Repr

/-! ## Tailoring (R104 to R133) -/

/-- Where a pass on a downstream lane stands (R110, R122). -/
inductive PassStep where
  /-- Start-up training's sweep of the CTLE codes: code `i` is being measured, with the best eye so far and its code. -/
  | ctle (i best code : Nat)
  /-- Its coarse scan of all sampling phases. -/
  | coarse
  /-- Training of the lane has come to its end, well or not; the verification is to come. -/
  | done (ok : Bool)
  /-- Its verification has passed with an eye, and the commit waits for the release of a freeze (R129, R419). -/
  | waiting (eye : Nat)
  /-- The opening eye measurement of R111. -/
  | opening
  /-- Search over setting number `p` (CTLE 0, DFE 1 to 6, FFE pre 7, FFE post 8): the eye before the first step. -/
  | base (p : Nat)
  /-- A step up or down of setting `p` has been made and is being measured. -/
  | attempt (p : Nat) (up : Bool) (best steps : Nat)
  | thresholds
  | phase
  | closing
  /-- Verification of the committed values at the end (R115). -/
  | verify
deriving DecidableEq, Repr

/-- A rolling pass (R110 to R118). -/
structure Pass where
  lane : LaneNo
  step : PassStep
  /-- The eye with the committed values, in level codes (R111). -/
  opening : Nat
  /-- Nulling and peer FFE steps are permitted (R115, R118). -/
  full : Bool
  /-- The lane's traffic is on the spare (R115). -/
  onSpare : Bool
  /-- An FFE_SET of the pass waits for FFE_DONE. -/
  ffeWait : Bool
  startedAt : Nat
  /-- It belongs to training (R122), in which all lanes have one. -/
  train : Bool
  /-- The start of the measurement under way (R107), and the granted paths that it has had (R118). -/
  since : Mark
  granted : Nat
deriving DecidableEq, Repr

/-- One lane's tailoring record: committed and shadow values (R113), quality and counters (R125, R133). -/
structure TlrLane where
  act : BitVec 128
  shd : BitVec 128
  tracker : BitVec 5
  qual : Word
  passes : BitVec 16
  commits : Byte
  starved : Byte
  time : BitVec 64
deriving DecidableEq, Repr

/-- The tailoring unit's own mode (TLR_STATUS.STATE without the frozen state). -/
inductive TlrMode where
  | idle
  | training
  | restoring
  | service
  | retrain
deriving DecidableEq, Repr

/-- Tailoring. -/
structure Tlr where
  mode : TlrMode
  /-- Downstream receive lanes 0 to 71. -/
  rx : Vector TlrLane 72
  /-- Upstream transmit lanes: committed and shadow transmit records, and an FFE_SET waiting for its slot. -/
  tx : Vector TlrLane 72
  ffeDue : List (LaneNo × BitVec 96)
  passes : List (SleeveNo × Pass)
  /-- The lane whose turn is next in each sleeve (R117). -/
  turn : Vector (Fin 9) 8
  /-- Railway time at which the last pass in each sleeve ended. -/
  lastEnd : Vector Nat 8
  starvedMask : Byte
  measuring : Option LaneNo
  /-- The start of the measure-only run (R107). -/
  measureFrom : Mark
  /-- The AO cycle of the last commits, and the records as they were before them (R121). -/
  recentAt : Nat
  recent : List (LaneNo × TlrLane)
  /-- A rebuild of the snapshot is due, with its CAUSE. -/
  rebuild : Option (BitVec 2)
  /-- The host's freeze or a brownout's (R129, R130). -/
  frozenHost : Bool
  frozenBrown : Bool
  frozen : Bool
  restored : Bool
  /-- A RESTORE waits for the station's physical endpoint ID (R131). -/
  restoreDue : Bool
  reject : BitVec 4
  imageCause : BitVec 2
  /-- GENERATION of the image in the window (TLR_SNAP_GEN); 0 before the first. -/
  gen : BitVec 32
  temp : BitVec 16
  /-- Sleeves trained alone after a restore (R132). -/
  leftOut : Byte
  /-- The image's map and records are committed values (R383: there is something to resume from). -/
  committed : Bool
deriving DecidableEq, Repr

/-! ## The link layer (R134 to R164) -/

/-- LNK_STATUS.STATE. -/
inductive LinkSt where
  | notUp
  | up
  | retrain
  | grace
  | flushed
deriving DecidableEq, Repr

/-- A dynamic flit before it is numbered: its track, ends and valid payload bytes (R136). -/
structure OutFlit where
  track : BitVec 3
  sop : Bool
  eop : Bool
  data : List Byte
deriving DecidableEq, Repr

/-- A flit in the siding (R140, R141). -/
structure SideFlit where
  seq : BitVec 12
  shared : Bool
  flit : OutFlit
  replays : Nat
  /-- Due to be sent again. -/
  again : Bool
deriving DecidableEq, Repr

/-- A flit in the receive pool or the reorder area (R143, R148). -/
structure RxFlit where
  seq : BitVec 12
  shared : Bool
  flit : OutFlit
deriving DecidableEq, Repr

/-- A retrain in progress (R157). -/
structure Retrain where
  startedAt : Nat
  tailored : Bool
  /-- The slots that the station's LINK_READY named: upstream and downstream. -/
  resume : Option (BitVec 32 × BitVec 32)
  /-- A count of 16 was reached meanwhile: link down at the end (R162). -/
  downAfter : Bool
  /-- The grace period ended meanwhile. -/
  inGrace : Bool
deriving DecidableEq, Repr

/-- The link layer. -/
structure Lnk where
  st : LinkSt
  gen : BitVec 2
  trackMask : Byte
  selective : Bool
  /-- Outbound queues of T0 to T5 (R160). -/
  outq : Vector (List OutFlit) 6
  /-- When each queue last took a flit while empty, or sent one (R369). -/
  heldFrom : Vector Mark 6
  /-- Oldest first. -/
  siding : List SideFlit
  nextSeq : BitVec 12
  acked : BitVec 12
  stalled : Bool
  /-- Tickets held, by kind T0, T1, T3, T4, T5, shared (LNK_TKT_TX_n). -/
  held : Vector Nat 6
  /-- The station's pool by kind, from negotiation (R146, R149). -/
  peerPool : Vector Nat 6
  /-- The last cumulative count received by kind (R149). -/
  lastCount : Vector (BitVec 12) 6
  /-- The round robin of R151: the track in turn (0 T4, 1 T3, 2 T5, 3 T1) and the flits left of its weight. -/
  turn : Fin 4
  left : Nat
  lastAcc : BitVec 12
  gap : Bool
  /-- Periods in which the awaited flit was not accepted (R156). -/
  rxCount : Nat
  reorder : List RxFlit
  /-- Accepted flits not yet freed, oldest first. -/
  pool : List RxFlit
  /-- Cumulative counts of returned tickets by kind (R148). -/
  returned : Vector (BitVec 12) 6
  tktSel : Fin 6
  /-- A link control flit is due; with NAK; with RETRAIN (R145). -/
  ctlDue : Bool
  nakDue : Bool
  retrainDue : Bool
  /-- The ACK or ticket counts changed since they were last sent, and since when (R145). -/
  ackDirty : Bool
  dirtyFrom : Mark
  /-- The last link control flit sent; the last advance of the ACK or expiry of the replay timer; the receiver's period of R156; the last
  retrain of a grace hold, or its start (R141, R145, R156, R160). -/
  ctlFrom : Mark
  replayFrom : Mark
  gapFrom : Mark
  graceFrom : Mark
  retrains : BitVec 16
  retrainFails : Nat
  retraining : Option Retrain
  downAt : Nat
  downCause : Byte
  /-- Entries that the last flush completed (R161, R329). -/
  flushedEntries : Nat
deriving DecidableEq, Repr

/-! ## Transactions (R165 to R195) -/

/-- How a transaction names what its reply completes. -/
inductive Owner where
  /-- Segment `seg` of the host request with serial `req` on `port`. -/
  | host (port : PortId) (req seg : Nat)
  /-- Page `page` of a migration (R298). -/
  | copy (page : Nat)
deriving DecidableEq, Repr

/-- What a resolution gives (R283). -/
structure Dest where
  phys : BitVec 14
  ldest : BitVec 16
  gen : BitVec 16
  cver : BitVec 32
  pool : BitVec 12
  /-- The address sent. -/
  addr : BitVec 64
deriving DecidableEq, Repr

/-- A transaction waiting at a port's issue queue (R173), with its resolution. -/
structure Txn where
  owner : Owner
  op : Byte
  dest : Option Dest
  len : Nat
  data : List Byte
  attempt : Nat
  /-- The entry that a segment sent again keeps (R185). -/
  tag : Option Nat
  /-- A segment: admitted under R176. -/
  admitted : Bool
  /-- Holder that gave the failure (R296). -/
  avoid : Option (BitVec 16)
deriving DecidableEq, Repr

/-- A read segment's stage (R170, R176 to R178). -/
inductive SegSt where
  | waiting
  | sent
  | ready
  | failed (status : Byte)
deriving DecidableEq, Repr

/-- A segment of a host request: one transaction of it (R170), or one of the two of a mirrored write (R290). -/
structure Seg where
  addr : BitVec 64
  len : Nat
  st : SegSt
  data : List Byte
  poison : Bool
  admitted : Bool
  withdrawn : Bool
deriving DecidableEq, Repr

/-- A host request in progress (R169). -/
structure HostReq where
  serial : Nat
  htag : BitVec 16
  op : Byte
  addr : BitVec 64
  len : Nat
  dest : BitVec 16
  segs : List Seg
  /-- Holders already tried without success (R296). -/
  avoid : Option (BitVec 16)
  opened : Bool
  /-- Beats sent of an open packet. -/
  sent : Nat
  /-- Its response beat stands in the queue of single beats, or the request has completed. -/
  finished : Bool
deriving DecidableEq, Repr

/-- What a block request is for: where its response goes. -/
inductive Purpose where
  /-- Piece `off` of the served entry `tag` (R179). -/
  | served (tag : Nat) (off : Nat)
  /-- The slot header of ring membership `n` for the served entry `tag` (R303). -/
  | ringHdr (tag : Nat) (n : Nat)
  /-- The Vetex ring: header or parameters of the command with count `c` (R309). -/
  | vtxHdr (c : BitVec 16)
  | vtxPar (c : BitVec 16)
  /-- A streamed timetable segment (R221). -/
  | segment (bank : Bool) (i : Nat)
  /-- Data of the SEND_HOST or ASP_SEND entry `entry` due in path `g` (R216, R263). -/
  | sendData (bank : Bool) (entry : Nat) (g : Nat) (off : Nat)
  /-- LOCAL operand of a junction group (R242), or the buffer of an ALL_TO_ALL or a MULTICAST (R247). -/
  | jctLocal (group : BitVec 12) (off : Nat)
  | jctSend (group : BitVec 12) (member : Nat) (off : Nat)
  /-- A page or part of a page read for migration (R298). -/
  | page (p : Nat) (off : Nat)
  /-- A write whose response nothing waits for (R217, R245, R247, R270). -/
  | posted
  /-- The same, of T6 data that stands in receive staging until the port takes it (R217). -/
  | t6Data
deriving DecidableEq, Repr

/-- A block request (R41). -/
structure Breq where
  write : Bool
  addr : BitVec 64
  len : Nat
  data : List Byte
  poison : Bool
  purpose : Purpose
  /-- The source of the packet that it serves (R187), and its place among those of requests served with FWD at 1 (R299). -/
  src : Option (BitVec 14) := none
  order : Option Nat := none
deriving DecidableEq, Repr

/-- A block request outstanding under its BTAG since it was issued; `dead` once it has timed out (R43). -/
structure BreqOut where
  btag : BitVec 12
  req : Breq
  dead : Bool
  since : Mark
deriving DecidableEq, Repr

/-- One platform port. -/
structure Port where
  /-- The port request table, oldest first (R169). -/
  reqs : List HostReq
  nextSerial : Nat
  issue : List Txn
  /-- Single-beat responses waiting, in completion order: HTAG and STATUS (R177). -/
  beats : List (BitVec 16 × Byte)
  violation : Bool
  /-- Read segments admitted in the last 1,024 platform cycles: cycle and bytes (R45). -/
  pace : List (Nat × Nat)
  breqs : List Breq
  outs : List BreqOut
  nextBtag : BitVec 12
  /-- platN_req_valid_i rose while PLAT was off (R47). -/
  waiting : Bool
  /-- Statuses of failed segments of open packets, logged against the HTAG (R178), oldest first. -/
  logged : List (BitVec 16 × Byte)
deriving DecidableEq, Repr

/-- An originated manifest entry (R171). -/
structure Orig where
  owner : Owner
  op : Byte
  dest : Dest
  len : Nat
  attempt : Nat
  /-- Sweeps since the send (R183). -/
  sweeps : Nat
  /-- Frees after one further period (R174). -/
  quarantined : Bool
  /-- No longer completes to the host (R178). -/
  withdrawn : Bool
  valiant : Bool
deriving DecidableEq, Repr

/-- A served manifest entry (R171, R179, R180). -/
structure Served where
  hdr : BitVec 256
  track : BitVec 3
  /-- Pieces whose block response is awaited. -/
  left : Nat
  data : List Byte
  poison : Bool
  status : Byte
  /-- Ring membership of a work ticket. -/
  ring : Option Nat
deriving DecidableEq, Repr

/-- A manifest entry. -/
inductive Entry where
  | orig (o : Orig)
  | served (s : Served)
deriving DecidableEq, Repr

/-- A packet taken whole from the receive pool and not yet dealt with (R173, R190). -/
structure RxPacket where
  track : BitVec 3
  hdr : BitVec 256
  data : List Byte
  /-- Its flits, whose buffers stay committed. -/
  held : List RxFlit
deriving DecidableEq, Repr

/-- The manifest. -/
structure Mnf where
  /-- Entries in use by TAG, ascending. -/
  entries : List (Nat × Entry)
  nextTag : Nat
  full : Bool
  /-- Requests from other dies that wait for an entry or for T3 tickets, oldest first. -/
  waiting : List RxPacket
  /-- T3 requests to forward on T4, oldest first (R190). -/
  fwd : List RxPacket
  /-- Served entries whose reply is complete and waits for the T2 queue, in order of completion (R174). -/
  ready : List Nat
  /-- SALT and the time of its draw, per destination (R189). -/
  salts : List (BitVec 14 × BitVec 16 × Nat)
  sweeps : Nat
  /-- Block requests of requests served with FWD at 1 so far (R299). -/
  nextOrder : Nat
  /-- The last manifest sweep (R183). -/
  sweptAt : Mark
deriving DecidableEq, Repr

/-! ## Railway time and timetables (R196 to R225) -/

/-- RWT_STATUS.STATE. -/
inductive RwtSt where
  | unlocked
  | locking
  | locked
  | lost
deriving DecidableEq, Repr

/-- An exchange of a time set (R198): MSEQ of its TIME_REQ, t1, and delay and offset once answered. -/
structure TimeExch where
  mseq : Byte
  t1 : Int
  /-- Delay and offset in units of 0.5 ns, and Q. -/
  got : Option (Int × Int × BitVec 2)
  /-- Its TIME_RESP did not arrive in time. -/
  dead : Bool
deriving DecidableEq, Repr

/-- The railway time unit. -/
structure Rwt where
  /-- Railway time in ns. -/
  now : Nat
  /-- Ticks for which the count is held after a backward step (R200). -/
  hold : Nat
  /-- Ticks of the AO cycle in progress. -/
  sub : Nat
  st : RwtSt
  inSet : Bool
  sets : Bool
  /-- The last set's start. -/
  setFrom : Mark
  exch : List TimeExch
  goodRun : Nat
  lostRun : Nat
  failRun : Nat
  offset : BitVec 16
  delay : BitVec 16
  q : BitVec 2
deriving DecidableEq, Repr

/-- A timetable entry (R204). -/
structure TtEntry where
  path : Nat
  sleeves : Byte
  first : Nat
  last : Nat
  kind : BitVec 4
  group : Bool
  peer : BitVec 16
  matchIx : BitVec 17
  opx : Byte
  port : PortId
  sop : Bool
  eop : Bool
  addr : BitVec 64
  len : Nat
  aux : BitVec 64
deriving DecidableEq, Repr

/-- A loaded bank (R203, R208). -/
structure Bank where
  entries : List TtEntry
  cycle : Nat
  bindGen : Option (BitVec 16)
  variantOf : Option (BitVec 14)
  window : Nat
  mask : Byte
  seed : Word
  job : Word
  streamed : Bool
  /-- Destination tile and CONSTANT_NS (R206). -/
  routes : List (BitVec 7 × Nat)
  branches : List (BitVec 128)
  /-- Segments in the ring of a streamed bank, each with the pass that fetched it (R221). -/
  present : List (Nat × Nat)
  segCrc : List Word
  /-- The next segment in cyclic order, counted over all passes, and the segments to be fetched again. -/
  nextSeg : Nat
  again : List Nat
  /-- Segments already reported late in this cycle. -/
  late : List Nat
  /-- Host address of the image, for segment fetches. -/
  base : BitVec 64
  entryOff : Nat
deriving DecidableEq, Repr

/-- TTB_STATUS.STATE. -/
inductive TtbSt where
  | idle
  | startArmed
  | running
  | stopped
deriving DecidableEq, Repr

/-- TTB_STATUS.STANDBY. -/
inductive StbSt where
  | empty
  | loading
  | ready
  | armed
deriving DecidableEq, Repr

/-- A load in progress (R208): its address, port and STREAM, whether the standby it found is armed and so stays untouched, and
the checked bank while its station section is being acknowledged. -/
structure Load where
  addr : BitVec 64
  port : PortId
  stream : Bool
  keep : Bool
  bank : Option Bank
deriving DecidableEq, Repr

/-- An N-1 switch armed by a FENCE_NOTICE (R222). -/
structure N1 where
  die : BitVec 14
  fence : Nat
  /-- The boundary B. -/
  atG : Nat
deriving DecidableEq, Repr

/-- A stop that falls at the first path boundary of path `atG` or later (R212, R222), with the notice's die and time where a
FENCE_NOTICE caused it. -/
structure Stop where
  atG : Nat
  reason : BitVec 4
  die : BitVec 14
  fence : Nat
deriving DecidableEq, Repr

/-- How a receive entry is treated: executed, refused with PROTOCOL (R248, R261), or its segment is missing (R221). -/
inductive RecvKind where
  | run
  | protocol
  | stream
deriving DecidableEq, Repr

/-- A receive entry whose path has begun (R218): the entry, the path and cycle it is due in, and what has arrived. -/
structure OpenRecv where
  index : Nat
  e : TtEntry
  due : Nat
  /-- The receive deadline, in ns. -/
  deadline : Nat
  epoch : BitVec 16
  job : Word
  kind : RecvKind
  /-- The last RECV_JCT entry of its group in the cycle (R249). -/
  last : Bool
  /-- Flits that arrived in time, and their data. -/
  seen : List Nat
  data : List (Nat × List Byte)
  poison : Bool
  /-- Its deadline has passed. -/
  closed : Bool
deriving DecidableEq, Repr

/-- T6 data staged for the send entry `entry` of a bank, due in path `g` (R216), and the bytes to send once they are made. -/
structure Staged where
  bank : Bool
  entry : Nat
  g : Nat
  /-- Bytes to be read, and the pieces that have come. -/
  need : Nat
  pieces : List (Nat × List Byte)
  /-- The bytes to send, and whether nothing is to be sent (R274). -/
  out : Option (List Byte)
  silent : Bool
deriving DecidableEq, Repr

/-- An upstream T6 flit due in the current path: its slot, sleeve, entry and place among the entry's flits. -/
structure DueFlit where
  slot : Nat
  slv : SleeveNo
  index : Nat
  e : TtEntry
  piece : Nat
deriving DecidableEq, Repr

/-- The timetable sequencer. -/
structure Ttb where
  banks : Vector (Option Bank) 2
  active : Bool
  st : TtbSt
  standby : StbSt
  load : Option Load
  /-- G0 of a start armed. -/
  g0 : Nat
  /-- The start armed is a RESUME. -/
  resume : Bool
  /-- The path last begun. -/
  path : Nat
  /-- G of the first path of the cycle in force; the epoch; the cycles since the bank came into force. -/
  cycleG : Nat
  epoch : BitVec 16
  cycleNo : Nat
  haltReason : BitVec 4
  /-- Epoch of the arm. -/
  armEpoch : BitVec 16
  n1 : Option N1
  stops : List Stop
  recv : List OpenRecv
  staged : List Staged
  /-- Entries with a log entry: index, epoch, and 1 for a flit that matches no entry (R219). -/
  logged : List (Nat × BitVec 16 × Bool)
  due : List DueFlit
  upMask : Byte
  dnMask : Byte
  dlLast : Word
deriving DecidableEq, Repr

/-! ## The junction (R226 to R258) -/

/-- Where a junction group's output goes (R242). -/
inductive OutKind where
  | host
  | parent
  | branch
deriving DecidableEq, Repr

/-- A member of a junction group. -/
structure Member where
  phys : BitVec 14
  /-- Elements accepted. -/
  elems : Nat
  bytes : Nat
  excused : Bool
  poisoned : Bool
  /-- READY received from this member as parent, or chunk sent (ALL_TO_ALL). -/
  done : Bool
deriving DecidableEq, Repr

/-- JCT_GRP_STATE.STATE. -/
inductive GrpSt where
  | opened
  | accumulating
  | complete
  | ended
deriving DecidableEq, Repr

/-- A junction group. -/
structure JGroup where
  num : BitVec 12
  operation : BitVec 2
  t6 : Bool
  accBase : Nat
  elems : Nat
  inset : Word
  outFormat : BitVec 5
  round : Bool
  saturate : Bool
  salt : Byte
  seed : Word
  skip : Bool
  hasLocal : Bool
  localAddr : BitVec 64
  localPort : PortId
  localFormat : BitVec 5
  outKind : OutKind
  outAddr : BitVec 64
  outPort : PortId
  parent : BitVec 14
  tree : BitVec 12
  chunk : Nat
  members : List Member
  own : Option Nat
  acc : List (BitVec 384)
  /-- Leaf contributions accepted, per element (R231). -/
  leaves : List Nat
  st : GrpSt
  result : BitVec 4
  bitmap : BitVec 256
  poison : Bool
  /-- READY received from the parent: its group number and this die's place among its members (R243). -/
  ready : Option (BitVec 12 × Byte)
  /-- A timetabled group's accumulators as its last completion of the current cycle left them, with poison (R248, R249). -/
  held : Option (List (BitVec 384) × Bool)
  /-- RESULT packets have been written for this group (R245). -/
  results : Bool
  /-- Dynamic chunks taken. -/
  chunks : Nat
  openedAt : Mark
  /-- Sends of ALL_TO_ALL or MULTICAST started by JCT_START. -/
  started : Bool
  /-- Bytes of the LOCAL or send buffer that have arrived. -/
  buffer : List (Nat × List Byte)
  /-- This group serves an analog sum group as FB_GROUP (R274). -/
  fallback : Bool
  /-- When JCT_START started a MULTICAST, from which its MCAST_US runs (R252). -/
  since : Mark
  /-- Bytes of the group's operands that stand in junction staging or are being read into it (R240). -/
  staged : Nat
  /-- The members that were complete when the group ended (R258). -/
  doneAt : Nat
deriving DecidableEq, Repr

/-- The junction. -/
structure Jct where
  groups : List JGroup
  /-- Branch-line store: number and entry (R250). -/
  branches : List (BitVec 12 × BitVec 128)
  last : Word
  /-- JCT_ELEMS. -/
  elems : BitVec 64
  /-- The 64 KiB T6 intake queue, oldest first: the platform cycle at which a flit has drained, its bytes, and the bytes per platform cycle
  at which its format drains (R238, R239). -/
  intake : List (Rat × Nat × Nat)
  /-- Operands that wait for room in staging, oldest first: a group, and its LOCAL buffer or the part that it sends to a member (R240). -/
  reads : List (BitVec 12 × Option Nat)
  /-- READYs received for groups not open yet: sender, its group number, this die's place (R243). -/
  readies : List (BitVec 14 × BitVec 12 × Byte)
deriving DecidableEq, Repr

/-! ## The analog sum path (R259 to R280) -/

/-- ASP_GRP_STATE.STATE. -/
inductive AspSt where
  | recal
  | analog
  | pending
  | fallback
  | ended
deriving DecidableEq, Repr

/-- A contributor as the destination tracks it (R267, R268). The gain and offset are exact rationals. -/
structure Contrib where
  phys : BitVec 14
  state : BitVec 2
  gain : Rat
  offset : Rat
  /-- The trim in force. -/
  trim : BitVec 16
  /-- Trims sent that are in force from a window on: its epoch and index, and the trim, oldest first (R268, R269). -/
  trims : List ((BitVec 16 × BitVec 16) × BitVec 16)
  badPairs : Nat
  onWave : Bool
deriving DecidableEq, Repr

/-- An analog group at its destination. -/
structure AspDest where
  num : BitVec 12
  inset : Word
  scaleExp : BitVec 8
  outFormat : BitVec 5
  pilot : Nat
  elems : Nat
  outAddr : BitVec 64
  outPort : PortId
  recAddr : BitVec 64
  budget : Nat
  fbGroup : BitVec 12
  skip : Bool
  autoReturn : Bool
  st : AspSt
  result : BitVec 4
  cons : List Contrib
  total : Rat
  gRef : Rat
  lastResidual : BitVec 16
  seq : Byte
  /-- Windows of a recalibration still to come, and the first window's epoch and index. -/
  recalLeft : Nat
  recalFrom : BitVec 16 × BitVec 16
  /-- Sums of the pilot pairs of a recalibration: per contributor, pairs and sum of differences; and sum of means. -/
  pairs : List (Nat × Rat)
  means : Nat × Rat
  /-- The boundary at which a fallback begins. -/
  fbFrom : Option (BitVec 16 × BitVec 16)
  fbSince : Nat
  returning : Bool
  /-- A window of the current cycle belonged to the fallback; and when FB_GROUP completes for the cycles that have ended, oldest first (R274). -/
  fbUsed : Bool
  fbDue : List Nat
  /-- Contributors fenced under SKIP_FENCED that still stand in O, with their T_FENCE (R276). -/
  fences : List (Nat × Nat)
  /-- Windows played out from the first of these times and before the second are STALE (R276). -/
  staleFrom : Nat
  staleTo : Nat
deriving DecidableEq, Repr

/-- A contributor membership. -/
structure AspMem where
  num : BitVec 12
  n : Nat
  contrib : Nat
  dest : BitVec 14
  inset : Word
  scaleExp : BitVec 8
  pilot : Nat
  elems : Nat
  inAddr : BitVec 64
  inPort : PortId
  fbGroup : BitVec 12
  skip : Bool
  trim : BitVec 16
  mode : BitVec 3
  /-- Messages waiting for their FROM window: epoch, window, mode, trim, SEQ. -/
  ctls : List (BitVec 16 × BitVec 16 × BitVec 3 × BitVec 16 × Byte)
  /-- Windows of a recalibration still to send (R269). -/
  recal : Nat
  ended : Bool
  result : BitVec 4
deriving DecidableEq, Repr

/-- An ASP_CTL that no ASP_CTL_ACK has answered (R268). -/
structure CtlOut where
  group : BitVec 12
  contrib : Nat
  seq : Byte
  sends : Nat
  msg : BitVec 96
  since : Mark
deriving DecidableEq, Repr

/-- The analog sum path. -/
structure Asp where
  dests : List AspDest
  mems : List AspMem
  /-- ASP_CTL messages without acknowledge, oldest first; those of a group that has been closed among them. -/
  ctls : List CtlOut
deriving DecidableEq, Repr

/-- The analog sum path at reset. -/
def Asp.reset : Asp := { dests := [], mems := [], ctls := [] }

/-! ## Marshalling (R281 to R307) -/

/-- The release point of a staged generation (R285). -/
inductive Release where
  | epoch (e : BitVec 16)
  | time (t : Nat)
deriving DecidableEq, Repr

/-- A staged binding entry: logical ID, entry, and whether a command staged it (R289). -/
structure Stage where
  lid : BitVec 16
  entry : BitVec 64
  byCommand : Bool
deriving DecidableEq, Repr

/-- A consignment record in its directory slot (R291). -/
structure DirRec where
  slot : Nat
  base : BitVec 64
  localBase : BitVec 64
  pages : Nat
  version : BitVec 32
  holders : List (BitVec 16)
  flags : Byte
  migTarget : Byte
  hotCount : BitVec 16
  movedAt : BitVec 64
deriving DecidableEq, Repr

/-- A pool (R301). -/
structure Pool where
  num : BitVec 12
  maxLen : Nat
  members : List (BitVec 16)
  lastChosen : Nat
deriving DecidableEq, Repr

/-- A ring membership (R303). -/
structure Ring where
  pool : BitVec 12
  slotLog : Nat
  slotsLog : Nat
  addr : BitVec 64
  prod : BitVec 32
  cons : BitVec 32
  /-- Slots taken by tickets whose writes are under way. -/
  taken : Nat
deriving DecidableEq, Repr

/-- A beacon value with the time it came (R295). -/
structure Beacon where
  tile : Bool
  num : BitVec 7
  load : Byte
  time : Nat
  stale : Bool
deriving DecidableEq, Repr

/-- MSH_MIG_STATUS.STATE. -/
inductive MigSt where
  | idle
  | copying
  | cutover
  | final
  | done
  | abandoned
  | fault
deriving DecidableEq, Repr

/-- The migration of this block (R298). -/
structure Mig where
  st : MigSt
  slot : Nat
  round : Nat
  /-- Pages still to copy in this round, and pages dirty for the next. -/
  todo : List Nat
  dirty : List Nat
  flying : List Nat
  fault : Bool
  /-- Manifest entries reserved at cutover for final copies that have not taken theirs (R298). -/
  reserved : Nat
deriving DecidableEq, Repr

/-- Heat counts of a record: total and per candidate physical ID (R297). -/
structure Heat where
  slot : Nat
  total : Nat
  per : List (BitVec 14 × Nat)
deriving DecidableEq, Repr

/-- The marshalling unit. -/
structure Msh where
  /-- Binding entries by logical ID ascending, and the entry that every logical ID not listed has (R281, R286). -/
  bind : List (Nat × BitVec 64)
  bindRest : BitVec 64
  current : BitVec 16
  staged : List Stage
  hasStage : Bool
  release : Option Release
  dir : List DirRec
  pools : List Pool
  rings : Vector (Option Ring) 64
  beacons : List Beacon
  heat : List Heat
  mig : Mig
  workLoad : Byte
  /-- FENCE_NOTICEs whose swaps belong to the staged generation, physical ID and T_FENCE, in their order (R289). -/
  fences : List (BitVec 14 × Nat)
  /-- Records being migrated to this block for which a forwarded request has come: their cutover is past (R299, R300). -/
  cutSeen : List Nat
  /-- When LOAD_REPORT was last sent, and when the heat window began (R295, R297). -/
  reportAt : Mark
  heatAt : Mark
deriving DecidableEq, Repr

/-! ## Vetex (R308 to R338) -/

/-- A reply slot's state (R317). -/
inductive SlotSt where
  | running
  | unread
  | read
deriving DecidableEq, Repr

/-- A reply slot, with the command it runs (R317, R321). -/
structure Slot where
  tag : BitVec 16
  st : SlotSt
  /-- Command header and parameters. -/
  cmd : List Byte
  status : BitVec 16
  data : List Byte
  rerun : Bool
  /-- It waits for a later event and counts as complete under R315. -/
  waits : Bool
  order : Nat
deriving DecidableEq, Repr

/-- A remote context (R326). -/
structure Ctx where
  num : BitVec 5
  src : BitVec 14
  rtag : BitVec 16
  running : Bool
  cmd : List Byte
  status : BitVec 16
  data : List Byte
  /-- Remote commands completed since its own. -/
  age : Nat
  waits : Bool
  order : Nat
  rerun : Bool
deriving DecidableEq, Repr

/-- Something a taken command waits for. -/
inductive Wait where
  | width
  /-- A width change queued behind the one in progress (R92). -/
  | widthQueued
  | retrain
  | flush
  | linkUp
  | measure
  | freeze
  | restore
  | load
  | start
  | arm
  | halt
  | group (g : BitVec 12)
  | aspGroup (g : BitVec 12)
  | station (rtags : List (BitVec 16))
  | wake
  | sleep
  | standby
  | handover
  | image
  | test
  | spdm
  | forward (rtag : BitVec 16)
  /-- The marshalling unit's EN (R283). -/
  | resolve
deriving DecidableEq, Repr

/-- A command sent to another die (R288, R327): a VTX_FORWARD, or a relay copy. -/
structure Fwd where
  rtag : BitVec 16
  dest : BitVec 14
  cmd : List Byte
  sends : Nat
  relay : Bool
  /-- A send found no ticket and waits for the next time. -/
  missed : Bool
  /-- When it was first sent, or should have been. -/
  since : Mark
deriving DecidableEq, Repr

/-- What a station programming serves (R207, R250, R260). -/
inductive ProgFor where
  | load
  | branch (ref : CmdRef) (num : BitVec 12) (entry : BitVec 128)
  | asp (ref : CmdRef)
deriving DecidableEq, Repr

/-- STATION_PROG packets not all answered (R207): the RTAGs that await an answer, and the packets that still wait for T0. -/
structure Prog where
  what : ProgFor
  rtags : List (BitVec 16)
  rest : List (BitVec 16 × List Byte)
  since : Mark
deriving DecidableEq, Repr

/-- The Vetex interpreter. -/
structure Vtx where
  slots : List Slot
  ctxs : List Ctx
  cpl : List (BitVec 16)
  /-- SBX_RING_PROD and SBX_RING_CONS. -/
  prod : BitVec 16
  cons : BitVec 16
  mbxGo : Bool
  /-- The command fetched from the ring at CONS: header, then all of it. -/
  fetched : Option (List Byte)
  fetchBusy : Bool
  /-- Remote commands waiting to be taken: context numbers, oldest first. -/
  remoteReady : List (BitVec 5)
  waits : List (CmdRef × Wait)
  fwds : List Fwd
  progs : List Prog
  nextRtag : BitVec 16
  nextOrder : Nat
  /-- The stall of the mailbox, and that of the ring, have been raised (R318). -/
  mbxStalled : Bool
  ringStalled : Bool
deriving DecidableEq, Repr

/-! ## Signal boxes (R339 to R362) -/

/-- The box states of R341. -/
inductive BoxSt where
  | reset
  | loading
  | selfTest
  | active
  | standby
  | isolated
  | resync
  | failed
  | rejected
deriving DecidableEq, Repr

/-- One signal box. -/
structure BoxRec where
  st : BoxSt
  /-- Version bytes of the accepted image and the code of the last rejection (SBX_FW_VER). -/
  ver : BitVec 24
  code : BitVec 4
  /-- SHA-384 of the header and body of the image (R397). -/
  imageHash : BitVec 384
deriving DecidableEq, Repr

/-- A configuration write recorded in a generation (R347). -/
structure CfgWrite where
  addr : BitVec 24
  data : Word
  rw : Bool
deriving DecidableEq, Repr

/-- The signal boxes. -/
structure Sbx where
  a : BoxRec
  b : BoxRec
  /-- The token holder, and whether any box holds it yet. -/
  holder : Box
  held : Bool
  /-- The token registers agree. -/
  tokenOk : Bool
  tie : Bool
  tieAt : Nat
  /-- When BOX_TIE was last sent, when the isolated box last tried the link, and when the standby last reported or should have. -/
  tieSent : Mark
  linkTried : Mark
  reportAt : Nat
  /-- A failure of the active box to be served after the tie. -/
  deferred : Option (BitVec 4)
  ready : Bool
  /-- A take-over in progress: its cause, the box that lost the token, and whether it is a lone start (R350, R352). -/
  takeover : Option (BitVec 4 × Box × Bool)
  lone : Bool
  /-- Last committed generation (SBX_JRNL). -/
  gen : BitVec 32
  /-- A generation is uncommitted: it holds first reads, takes from the completion FIFO, or the completion of a write. -/
  sending : Bool
  /-- The reply slots, contexts, FIFO and ring position of the last committed generation. -/
  journal : Vtx
  writes : List CfgWrite
  foInfo : Word
  foTime : BitVec 64
  foAt : Nat
  healthSt : BitVec 4
  healthErr : Byte
  healthPasses : BitVec 16
  healthTime : BitVec 64
  missed : Nat
  passes : BitVec 16
  /-- Railway time from which the take-back hold-off runs. -/
  holdFrom : Option Nat
  /-- An orderly hand-over waits for a quiescent point (R357), since when, and whether commands are held. -/
  wantHand : Bool
  handFrom : Nat
  quiesce : Bool
  /-- FW_LOAD has begun since AO_UP. -/
  loadBegun : Bool
deriving DecidableEq, Repr

/-! ## Power, identity, start-up -/

/-- What the power manager is doing (R363 to R375). -/
inductive PwrSt where
  /-- Reset or start-up. -/
  | start
  | awake
  /-- Going to width 0. -/
  | sleeping
  | held
  | retained
  | waking
deriving DecidableEq, Repr

/-- A slot as R369 measures it: the dynamic flits sent and received, and the unreserved slots of the usable sleeves. -/
structure SlotUse where
  up : Nat
  capUp : Nat
  dn : Nat
  capDn : Nat
deriving DecidableEq, Repr

/-- The power and clock manager. -/
structure Pcm where
  st : PwrSt
  /-- A wake held for a sleep step, for Sleeper lock or for the platform clock. -/
  wakeHeld : Bool
  wakeCause : BitVec 4
  wakeSlow : Bool
  wakeFrom : Nat
  wakeTarget : Byte
  wakeAcked : Bool
  wakeSlot : Option (BitVec 32 × BitVec 32)
  /-- The first sleeve of a wake runs, and the others are being added (R96, R373). -/
  joining : Bool
  duration : BitVec 24
  platCount : BitVec 16
  brown : Bool
  holdup : BitVec 16
  brownTime : BitVec 64
  /-- Domains with a power fault. -/
  domFault : Byte
  /-- Slot use since the last window: dynamic and unreserved slots, up and down (R369). -/
  useUp : Nat
  capUp : Nat
  useDn : Nat
  capDn : Nat
  lastDyn : Nat
  windowAt : Nat
  /-- The use of the last slots, newest first, at most the 500 of 1 µs (R72, R369). -/
  recent : List SlotUse
  /-- A sleep begun by a command or the register is under way. -/
  sleepCmd : Bool
  /-- The AO cycle in which the last sleep was decided (R386). -/
  sleepAt : Nat
deriving DecidableEq, Repr

/-- IDN_STATUS.KEY_STATE. -/
inductive KeySt where
  | absent
  | underway
  | ready
  | failed
deriving DecidableEq, Repr

/-- STATION_AUTH. -/
inductive AuthSt where
  | notRun
  | passed
  | failed
deriving DecidableEq, Repr

/-- Where an SPDM connection stands (R395, R396). -/
inductive SpdmSt where
  | start
  | version
  | capabilities
  | negotiated
  /-- Every connection returned to its start by a new chain (R403). -/
  | resync
deriving DecidableEq, Repr

/-- Who asks the block over SPDM: local host software, a die over remote Vetex, or the station (R395, R396, R398). -/
inductive SpdmPeer where
  | host
  | remote (src : BitVec 14)
  | station
deriving DecidableEq, Repr

/-- An SPDM responder connection: the requester, its state and its transcripts. Connections stand in order of last use. -/
structure SpdmConn where
  peer : SpdmPeer
  st : SpdmSt
  /-- The messages A (version, capabilities, algorithms), B (certificates), and L (measurements). -/
  msgA : List Byte
  msgB : List Byte
  msgL : List Byte
deriving DecidableEq, Repr

/-- The block's own exchange with the station as requester (R398): the requests answered, the transcripts, the certificate
chain read so far, and the request that awaits its response. -/
structure SpdmReq where
  step : Nat
  msgA : List Byte
  msgB : List Byte
  chain : List Byte
  request : List Byte
deriving DecidableEq, Repr

/-- A response waiting for its signature (R396). -/
structure Signing where
  ref : Option CmdRef
  response : List Byte
  digest : BitVec 384
deriving DecidableEq, Repr

/-- The identity unit. -/
structure Idn where
  key : KeySt
  reject : BitVec 4
  /-- The private key, 0 where none is held, and the public key of 97 bytes (R389). -/
  privkey : BitVec 384
  pubkey : List Byte
  enrolling : Bool
  chain : List Byte
  locked0 : Bool
  locked1 : Bool
  valid0 : Bool
  valid1 : Bool
  ctr0 : BitVec 64
  ctr1 : BitVec 64
  auth : AuthSt
  conns : List SpdmConn
  req : Option SpdmReq
  /-- The block has accepted the station; the station has accepted the block. -/
  stationOk : Bool
  blockOk : Bool
  /-- The serialNumber of the station's leaf certificate (R398). -/
  serial : List Byte
  signing : List Signing
deriving DecidableEq, Repr

/-- Start-up (R412 to R416). -/
structure Boot where
  /-- GBL_START.STEP, and FAIL_CODE while it is 0xF. -/
  step : BitVec 4
  fail : BitVec 4
  /-- The step at which a hold arose. -/
  heldAt : BitVec 4
  /-- How far start-up has come since the last cold reset (R415): the highest step begun, where 1 is AO_UP passed, 9 LINK_UP
  passed and 10 READY. -/
  reached : BitVec 4
  offers : Nat
  offerSelective : Bool
  offerGrace : BitVec 20
  phys : BitVec 14
  physValid : Bool
  /-- The generation of the last accepted negotiation (R439). -/
  gen : BitVec 2
  /-- Training: own and peer masks, own and peer usable, messages resent, restore. -/
  ownMask : Byte
  peerMask : Option Byte
  ownUsable : Option Byte
  peerUsable : Option Byte
  trainSends : Nat
  /-- The last send of an offer or of a training message (R411, R416). -/
  sentAt : Mark
  restore : Bool
  /-- A restart rather than a cold start. -/
  again : Bool
deriving DecidableEq, Repr

/-- The test access beside the TAP's instruction: the data registers of the TAP and of the wrapper, first bit out first, the wrapper's
instruction, and what the last scan shifted out (R18, R62). -/
structure Access where
  boundary : List Bool
  wir : WrapInstr
  wby : Bool
  wbr : List Bool
  tdo : List Bool
deriving DecidableEq, Repr

/-- The block. -/
structure State where
  /-- The commands waiting, first in first out. -/
  pending : List Instr
  par : Params
  pins : Pins
  outs : Outs
  out : List Emit
  /-- Cycles of the AO clock since ao_rst_n_i was released. -/
  aoCycles : Nat
  /-- The next draw of a free value (the model's own counter). -/
  free : Nat
  /-- The IEEE 1149.1 instruction in force, and functional operation left under R63. -/
  tap : TapInstr
  wrapped : Bool
  access : Access
  /-- Register fields that hold what was written or last recorded: offset and value, ascending, none at its reset value. -/
  regs : List (Nat × Word)
  /-- The high latches and write holders of the 64-bit pairs, per requester (R436, R437). -/
  latches : List (Requester × Nat × Word)
  holders : List (Requester × Nat × Word)
  flt : Flt
  slp : Slp
  seam : Seam
  tlr : Tlr
  lnk : Lnk
  ports : Vector Port 8
  mnf : Mnf
  rwt : Rwt
  ttb : Ttb
  jct : Jct
  asp : Asp
  msh : Msh
  vtx : Vtx
  sbx : Sbx
  pcm : Pcm
  idn : Idn
  boot : Boot
deriving DecidableEq, Repr

/-! ## Stop reasons -/

/-- Why a step can stop with a fault. -/
inductive Fault where
  /-- Raised by a command on a lane when its operand names a lane above 71 (R64): there is no such lane in the block, so
  no such event exists. Safe: the model stops where the hardware has nothing to do. -/
  | noSuchLane (lane : LaneNo)
  /-- Raised by a command on one lane of the sleeve under test when its operand names a lane above 8 (R102). Safe, as
  above. -/
  | noSuchTestLane (lane : BitVec 4)
deriving DecidableEq, Repr

/-- Why a step can refuse a command. -/
inductive Refusal where
  /-- Raised by the dispatch for a command that has no meaning yet. Safe: nothing can be proved of what it does. -/
  | notModelled (mnemonic : String)
deriving DecidableEq, Repr

/-! ## Reset -/

/-- A sleeve in one direction after a cold reset: nothing failed, the spare idle (R90, R103). -/
def Slv.reset : Slv := { clkFail := false, spareState := 0, spareLane := 0, failed := 0 }

/-- The seam after a cold reset (R103, R440). (DESIGN CHOICE: log entry 3) -/
def Seam.reset : Seam :=
  { up := Vector.replicate 8 Slv.reset, dn := Vector.replicate 8 Slv.reset, retired := 0, usable := 0, powered := 0,
    upSlot := 0, dnSlot := 0, counting := false, skew := Vector.replicate 8 0, nextXid := 0, mine := none, want := [],
    answered := none, ctlOut := [], ctlSeen := none, line := [], subst := [], retireAt := [], lastRetired := none, width := none, queued := none, abandoned := [],
    refused := [], crcWin := Vector.replicate 8 0, lowEye := [], switchFrom := ⟨0, 0⟩,
    test := { everRun := false, waiting := false, sends := 0, running := false, poweredFor := false, since := ⟨0, 0⟩,
              gens := Vector.replicate 9 0, checks := Vector.replicate 9 0, locked := 0, compared := Vector.replicate 9 0 } }

/-- A lane's tailoring record after a cold reset (R133, R441). (DESIGN CHOICE: log entry 3) -/
def TlrLane.reset : TlrLane :=
  { act := 0, shd := 0, tracker := 0, qual := 0, passes := 0, commits := 0, starved := 0, time := 0 }

/-- Tailoring after a cold reset (R133, R441). -/
def Tlr.reset : Tlr :=
  { mode := .idle, rx := Vector.replicate 72 TlrLane.reset, tx := Vector.replicate 72 TlrLane.reset, ffeDue := [],
    passes := [], turn := Vector.replicate 8 0, lastEnd := Vector.replicate 8 0, starvedMask := 0, measuring := none, measureFrom := ⟨0, 0⟩, recentAt := 0, recent := [],
    rebuild := none, frozenHost := false, frozenBrown := false, frozen := false, restored := false, restoreDue := false, reject := 0,
    imageCause := 0, gen := 0, temp := 0, leftOut := 0, committed := false }

/-- The link layer before link-up (R139, R164, R442). (DESIGN CHOICE: log entry 3) -/
def Lnk.reset : Lnk :=
  { st := .notUp, gen := 0, trackMask := 0, selective := false, outq := Vector.replicate 6 [], heldFrom := Vector.replicate 6 ⟨0, 0⟩, siding := [], nextSeq := 0,
    acked := 0xFFF, stalled := false, held := Vector.replicate 6 0, peerPool := Vector.replicate 6 0,
    lastCount := Vector.replicate 6 0, turn := 0, left := 0, lastAcc := 0xFFF, gap := false, rxCount := 0, reorder := [],
    pool := [], returned := Vector.replicate 6 0, tktSel := 0, ctlDue := false, nakDue := false, retrainDue := false,
    ackDirty := false, dirtyFrom := ⟨0, 0⟩, ctlFrom := ⟨0, 0⟩, replayFrom := ⟨0, 0⟩, gapFrom := ⟨0, 0⟩, graceFrom := ⟨0, 0⟩, retrains := 0, retrainFails := 0, retraining := none, downAt := 0, downCause := 0,
    flushedEntries := 0 }

/-- A platform port after reset (R195, R443). -/
def Port.reset : Port :=
  { reqs := [], nextSerial := 0, issue := [], beats := [], violation := false, pace := [], breqs := [],
    outs := [], nextBtag := 0, waiting := false, logged := [] }

/-- The manifest after reset (R443). -/
def Mnf.reset : Mnf :=
  { entries := [], nextTag := 0, full := false, waiting := [], fwd := [], ready := [], salts := [], sweeps := 0, nextOrder := 0, sweptAt := { rail := 0, ticks := 0 } }

/-- Railway time at the release of ao_rst_n_i (R196, R445). -/
def Rwt.reset : Rwt :=
  { now := 0, hold := 0, sub := 0, st := .unlocked, inSet := false, sets := false, setFrom := { rail := 0, ticks := 0 }, exch := [], goodRun := 0, lostRun := 0,
    failRun := 0, offset := 0, delay := 0, q := 0 }

/-- The timetable sequencer after reset (R444). -/
def Ttb.reset : Ttb :=
  { banks := Vector.replicate 2 none, active := false, st := .idle, standby := .empty, load := none, g0 := 0,
    resume := false, path := 0, cycleG := 0, epoch := 0, cycleNo := 0, haltReason := 0, armEpoch := 0, n1 := none,
    stops := [], recv := [], staged := [], logged := [], due := [], upMask := 0, dnMask := 0, dlLast := 0 }

/-- The junction after reset (R446). -/
def Jct.reset : Jct :=
  { groups := [], branches := [], last := 0, elems := 0, intake := [], reads := [], readies := [] }

/-- The marshalling unit after a cold reset: every binding entry unbound with GEN 0 (R281, R448). -/
def Msh.reset : Msh :=
  { bind := [], bindRest := 0, current := 0, staged := [], hasStage := false, release := none, dir := [], pools := [],
    rings := Vector.replicate 64 none, beacons := [], heat := [],
    mig := { st := .idle, slot := 0, round := 0, todo := [], dirty := [], flying := [], fault := false, reserved := 0 }, workLoad := 0,
    fences := [], cutSeen := [], reportAt := ⟨0, 0⟩, heatAt := ⟨0, 0⟩ }

/-- The Vetex interpreter after a cold reset (R320). -/
def Vtx.reset : Vtx :=
  { slots := [], ctxs := [], cpl := [], prod := 0, cons := 0, mbxGo := false, fetched := none, fetchBusy := false,
    remoteReady := [], waits := [], fwds := [], progs := [], nextRtag := 0, nextOrder := 0, mbxStalled := false,
    ringStalled := false }

/-- A signal box in reset (R341, R362). -/
def BoxRec.reset : BoxRec := { st := .reset, ver := 0, code := 0, imageHash := 0 }

/-- The signal boxes after a cold reset (R362, R449). -/
def Sbx.reset : Sbx :=
  { a := BoxRec.reset, b := BoxRec.reset, holder := .a, held := false, tokenOk := true, tie := false, tieAt := 0, tieSent := ⟨0, 0⟩, linkTried := ⟨0, 0⟩, reportAt := 0,
    deferred := none, ready := false, takeover := none, lone := false, gen := 0, sending := false, journal := Vtx.reset,
    writes := [], foInfo := 0, foTime := 0, foAt := 0, healthSt := 0, healthErr := 0, healthPasses := 0, healthTime := 0,
    missed := 0, passes := 0, holdFrom := none, wantHand := false, handFrom := 0, quiesce := false, loadBegun := false }

/-- The power manager after a cold reset (R387, R450). -/
def Pcm.reset : Pcm :=
  { st := .start, wakeHeld := false, wakeCause := 0, wakeSlow := false, wakeFrom := 0, wakeTarget := 0, wakeAcked := false,
    wakeSlot := none, joining := false, duration := 0, platCount := 0, brown := false, holdup := 0, brownTime := 0, domFault := 0,
    useUp := 0, capUp := 0, useDn := 0, capDn := 0, lastDyn := 0, windowAt := 0, recent := [], sleepCmd := false, sleepAt := 0 }

/-- The identity unit after a cold reset (R391, R401, R451). -/
def Idn.reset : Idn :=
  { key := .absent, reject := 0, privkey := 0, pubkey := [], enrolling := false, chain := [], locked0 := false, locked1 := false,
    valid0 := false, valid1 := false, ctr0 := 0, ctr1 := 0, auth := .notRun, conns := [], req := none, stationOk := false,
    blockOk := false, serial := [], signing := [] }

/-- Start-up in step RESET (R412, R439). -/
def Boot.reset : Boot :=
  { step := 0, fail := 0, heldAt := 0, reached := 0, offers := 0, offerSelective := false, offerGrace := 0, phys := 0,
    physValid := false, gen := 0, ownMask := 0, peerMask := none, ownUsable := none, peerUsable := none, trainSends := 0, sentAt := { rail := 0, ticks := 0 },
    restore := false, again := false }

/-- The fault log after a cold reset (R423, R452). -/
def Flt.reset : Flt := { pend := [], intake := [], ring := [], seq := 0, unread := 0, lost := none }

/-- The Sleeper lane with the block in AO reset (R103). -/
def Slp.reset : Slp := { txActive := false, lock := false, mseq := 0, queue := [], lostAt := 0, heads := [], block := 0, line := [] }

/-- The block in cold reset, with the parameters `p`, the levels of the pins that survive it, and the bit of
PCM_RST_CAUSE that tells why (R382, R387). (DESIGN CHOICE: log entry 3; PRESUMED: log entry 9) -/
def State.cold (p : Params) (pins : Pins) : State :=
  { pending := [], par := p, pins := pins,
    outs := { irqFault := false, irqCmpl := false, irqInfo := false, aoRefClk := pins.aoClk, aoClkOk := pins.aoClk, pcmState := 0,
              portsReady := false, brownout := false, regAck := false, regRdata := 0, regErr := false },
    out := [], aoCycles := 0, free := 0, tap := .idcode, wrapped := false,
    access := { boundary := [], wir := .wsBypass, wby := false, wbr := [], tdo := [] }, regs := [], latches := [], holders := [],
    flt := Flt.reset, slp := Slp.reset, seam := Seam.reset, tlr := Tlr.reset, lnk := Lnk.reset,
    ports := Vector.replicate 8 Port.reset, mnf := Mnf.reset, rwt := Rwt.reset, ttb := Ttb.reset, jct := Jct.reset,
    asp := Asp.reset, msh := Msh.reset, vtx := Vtx.reset, sbx := Sbx.reset, pcm := Pcm.reset,
    idn := Idn.reset, boot := Boot.reset }

/-- The block right after reset: ao_rst_n_i is at 0 with the AO clock present, the other pins at their reset levels, and
every register at the value R439 to R452 give (an unlisted register reads its reset value). (DESIGN CHOICE: log entry 3) -/
def State.reset : State :=
  State.cold Params.default
    { aoRstN := false, aoClk := true, platRstN := false, hostReq := 0, platClkOk := true }

end Sys2Proof.Machine
end

