-- ==== Sys2Proof/Machine/Regs.lean ====
section
/-!
DEFINITION. The register map (R432 to R452): the offset and the access codes of every register, the place of every
field, the reset value of every register, and every cause with its companion counter, its line and its class (R420).
-/
namespace Sys2Proof.Machine

/-- A field of a register: the register's offset, the lowest bit and the width. -/
structure Field where
  reg : Nat
  lo : Nat
  n : Nat
deriving DecidableEq, Repr

/-- The interrupt line of a cause (R51). -/
inductive Line where
  | fault
  | cmpl
  | info
deriving DecidableEq, Repr

/-- A cause: its event register, its bit, its companion counter (R15), its line and its class (R420, R421). -/
structure Cause where
  evt : Nat
  bitNo : Nat
  cnt : Nat
  line : Line
  cls : Nat
deriving DecidableEq, Repr

/-- The power domains that hold registers (R432). -/
inductive Dom where
  | ao
  | plat
  | trk
  | ctl
deriving DecidableEq, Repr

/-- `count` registers from `lo` in steps of `step`, with the bits of each access code (R14): RW, W1C, W1S and RC. -/
structure RegRow where
  lo : Nat
  count : Nat
  step : Nat
  rw : Word
  w1c : Word
  w1s : Word
  rc : Word
deriving DecidableEq, Repr

/-! ## Offsets (R439 to R452) -/

/-- SEAM_STATUS (R103). -/
def R.SEAM_STATUS : Nat := 0x010000
/-- SEAM_WIDTH_CTRL (R103). -/
def R.SEAM_WIDTH_CTRL : Nat := 0x010004
/-- SEAM_CTRL (R103). -/
def R.SEAM_CTRL : Nat := 0x010008
/-- SEAM_DET_CFG (R103). -/
def R.SEAM_DET_CFG : Nat := 0x01000C
/-- SEAM_EVT (R103). -/
def R.SEAM_EVT : Nat := 0x010010
/-- SEAM_EVT_EN (R103). -/
def R.SEAM_EVT_EN : Nat := 0x010014
/-- SEAM_SLP_STATUS (R103). -/
def R.SEAM_SLP_STATUS : Nat := 0x010018
/-- SEAM_EVT_CNT (R103); 9 registers in steps of 4. -/
def R.SEAM_EVT_CNT : Nat := 0x010020
/-- SEAM_SLV_TX (R103); 8 registers in steps of 8. -/
def R.SEAM_SLV_TX : Nat := 0x010100
/-- SEAM_SLV_RX (R103); 8 registers in steps of 8. -/
def R.SEAM_SLV_RX : Nat := 0x010104
/-- SEAM_SKEW (R103); 8 registers in steps of 4. -/
def R.SEAM_SKEW : Nat := 0x010180
/-- SEAM_TEST_CTRL (R103). -/
def R.SEAM_TEST_CTRL : Nat := 0x010300
/-- SEAM_TEST_LOCK (R103). -/
def R.SEAM_TEST_LOCK : Nat := 0x010304
/-- SEAM_PRBS_ERR (R103); 9 registers in steps of 4. -/
def R.SEAM_PRBS_ERR : Nat := 0x010310
/-- SEAM_PRBS_BITS_LO (R103). -/
def R.SEAM_PRBS_BITS_LO : Nat := 0x010338
/-- SEAM_PRBS_BITS_HI (R103). -/
def R.SEAM_PRBS_BITS_HI : Nat := 0x01033C
/-- TLR_CTRL (R133). -/
def R.TLR_CTRL : Nat := 0x020000
/-- TLR_STATUS (R133). -/
def R.TLR_STATUS : Nat := 0x020004
/-- TLR_CFG (R133). -/
def R.TLR_CFG : Nat := 0x020008
/-- TLR_CFG2 (R133). -/
def R.TLR_CFG2 : Nat := 0x02000C
/-- TLR_ROLL_CFG (R133). -/
def R.TLR_ROLL_CFG : Nat := 0x020010
/-- TLR_EVT (R133). -/
def R.TLR_EVT : Nat := 0x020014
/-- TLR_EVT_EN (R133). -/
def R.TLR_EVT_EN : Nat := 0x020018
/-- TLR_EVT_CNT (R133); 7 registers in steps of 4. -/
def R.TLR_EVT_CNT : Nat := 0x020020
/-- TLR_TEMP (R133). -/
def R.TLR_TEMP : Nat := 0x020040
/-- TLR_LANE_ACT (R133); 4 registers in steps of 4. -/
def R.TLR_LANE_ACT : Nat := 0x020100
/-- TLR_LANE_SHD (R133); 4 registers in steps of 4. -/
def R.TLR_LANE_SHD : Nat := 0x020110
/-- TLR_LANE_QUAL (R133). -/
def R.TLR_LANE_QUAL : Nat := 0x020120
/-- TLR_LANE_STAT (R133). -/
def R.TLR_LANE_STAT : Nat := 0x020124
/-- TLR_LANE_TIME_LO (R133). -/
def R.TLR_LANE_TIME_LO : Nat := 0x020130
/-- TLR_LANE_TIME_HI (R133). -/
def R.TLR_LANE_TIME_HI : Nat := 0x020134
/-- TLR_SNAP_CTRL (R133). -/
def R.TLR_SNAP_CTRL : Nat := 0x020200
/-- TLR_SNAP_STATUS (R133). -/
def R.TLR_SNAP_STATUS : Nat := 0x020204
/-- TLR_SNAP_GEN (R133). -/
def R.TLR_SNAP_GEN : Nat := 0x020208
/-- TLR_SNAP_WIN (R133); 394 registers in steps of 4. -/
def R.TLR_SNAP_WIN : Nat := 0x021000
/-- LNK_CTRL (R164). -/
def R.LNK_CTRL : Nat := 0x030000
/-- LNK_STATUS (R164). -/
def R.LNK_STATUS : Nat := 0x030004
/-- LNK_TIMER_CFG (R164). -/
def R.LNK_TIMER_CFG : Nat := 0x030008
/-- LNK_GRACE (R164). -/
def R.LNK_GRACE : Nat := 0x03000C
/-- LNK_ARB (R164). -/
def R.LNK_ARB : Nat := 0x030010
/-- LNK_TX_SEQ (R164). -/
def R.LNK_TX_SEQ : Nat := 0x030014
/-- LNK_RX_SEQ (R164). -/
def R.LNK_RX_SEQ : Nat := 0x030018
/-- LNK_REPLAY (R164). -/
def R.LNK_REPLAY : Nat := 0x03001C
/-- LNK_EVT (R164). -/
def R.LNK_EVT : Nat := 0x030020
/-- LNK_EVT_EN (R164). -/
def R.LNK_EVT_EN : Nat := 0x030024
/-- LNK_EVT_CNT (R164); 9 registers in steps of 4. -/
def R.LNK_EVT_CNT : Nat := 0x030040
/-- LNK_TKT_TX (R164); 6 registers in steps of 4. -/
def R.LNK_TKT_TX : Nat := 0x030080
/-- LNK_POOL_RX (R164). -/
def R.LNK_POOL_RX : Nat := 0x0300A0
/-- LNK_FEC_CORR (R164). -/
def R.LNK_FEC_CORR : Nat := 0x0300B0
/-- LNK_FEC_UNCORR (R164). -/
def R.LNK_FEC_UNCORR : Nat := 0x0300B4
/-- LNK_CRC_ERR (R164); 8 registers in steps of 4. -/
def R.LNK_CRC_ERR : Nat := 0x0300C0
/-- MNF_CTRL (R195). -/
def R.MNF_CTRL : Nat := 0x040000
/-- MNF_STATUS (R195). -/
def R.MNF_STATUS : Nat := 0x040004
/-- MNF_TIMEOUT (R195). -/
def R.MNF_TIMEOUT : Nat := 0x040008
/-- MNF_BREQ_TIMEOUT (R195). -/
def R.MNF_BREQ_TIMEOUT : Nat := 0x04000C
/-- MNF_VAL_CFG (R195). -/
def R.MNF_VAL_CFG : Nat := 0x040010
/-- MNF_SVC_CFG (R195). -/
def R.MNF_SVC_CFG : Nat := 0x040014
/-- MNF_EVT (R195). -/
def R.MNF_EVT : Nat := 0x040020
/-- MNF_EVT_EN (R195). -/
def R.MNF_EVT_EN : Nat := 0x040024
/-- MNF_EVT_CNT (R195); 12 registers in steps of 4. -/
def R.MNF_EVT_CNT : Nat := 0x040040
/-- MNF_PORT_CFG (R195); 8 registers in steps of 4. -/
def R.MNF_PORT_CFG : Nat := 0x040100
/-- MNF_PORT_STAT (R195); 8 registers in steps of 4. -/
def R.MNF_PORT_STAT : Nat := 0x040120
/-- MNF_PORT_WIN (R195); 8 registers in steps of 4. -/
def R.MNF_PORT_WIN : Nat := 0x040140
/-- MNF_TILE_MASK (R195); 4 registers in steps of 4. -/
def R.MNF_TILE_MASK : Nat := 0x040200
/-- MNF_VIA_SITES (R195); 3 registers in steps of 4. -/
def R.MNF_VIA_SITES : Nat := 0x040210
/-- TTB_CTRL (R224). -/
def R.TTB_CTRL : Nat := 0x050000
/-- TTB_STATUS (R224). -/
def R.TTB_STATUS : Nat := 0x050004
/-- TTB_START_LO (R224). -/
def R.TTB_START_LO : Nat := 0x050008
/-- TTB_START_HI (R224). -/
def R.TTB_START_HI : Nat := 0x05000C
/-- TTB_LOAD_ADDR_LO (R224). -/
def R.TTB_LOAD_ADDR_LO : Nat := 0x050010
/-- TTB_LOAD_ADDR_HI (R224). -/
def R.TTB_LOAD_ADDR_HI : Nat := 0x050014
/-- TTB_LOAD_CTRL (R224). -/
def R.TTB_LOAD_CTRL : Nat := 0x050018
/-- TTB_SWITCH (R224). -/
def R.TTB_SWITCH : Nat := 0x05001C
/-- TTB_BANK_INFO (R224); 2 registers in steps of 16. -/
def R.TTB_BANK_INFO : Nat := 0x050020
/-- TTB_BANK_CYCLE (R224); 2 registers in steps of 16. -/
def R.TTB_BANK_CYCLE : Nat := 0x050024
/-- TTB_BANK_ID (R224); 2 registers in steps of 16. -/
def R.TTB_BANK_ID : Nat := 0x050028
/-- TTB_N1_CFG (R224). -/
def R.TTB_N1_CFG : Nat := 0x050040
/-- TTB_EVT (R224). -/
def R.TTB_EVT : Nat := 0x050050
/-- TTB_EVT_EN (R224). -/
def R.TTB_EVT_EN : Nat := 0x050054
/-- TTB_EVT_CNT (R224); 11 registers in steps of 4. -/
def R.TTB_EVT_CNT : Nat := 0x050060
/-- TTB_DL_CNT (R224); 7 registers in steps of 4. -/
def R.TTB_DL_CNT : Nat := 0x0500A0
/-- TTB_DL_LAST (R224). -/
def R.TTB_DL_LAST : Nat := 0x0500C0
/-- RWT_TIME_LO (R225). -/
def R.RWT_TIME_LO : Nat := 0x060000
/-- RWT_TIME_HI (R225). -/
def R.RWT_TIME_HI : Nat := 0x060004
/-- RWT_PATH_LO (R225). -/
def R.RWT_PATH_LO : Nat := 0x060008
/-- RWT_PATH_HI (R225). -/
def R.RWT_PATH_HI : Nat := 0x06000C
/-- RWT_EPOCH (R225). -/
def R.RWT_EPOCH : Nat := 0x060010
/-- RWT_CYCLE_POS (R225). -/
def R.RWT_CYCLE_POS : Nat := 0x060014
/-- RWT_STATUS (R225). -/
def R.RWT_STATUS : Nat := 0x060018
/-- RWT_DELAY (R225). -/
def R.RWT_DELAY : Nat := 0x06001C
/-- RWT_SYNC_CFG (R225). -/
def R.RWT_SYNC_CFG : Nat := 0x060020
/-- RWT_CTRL (R225). -/
def R.RWT_CTRL : Nat := 0x060024
/-- RWT_EVT (R225). -/
def R.RWT_EVT : Nat := 0x060030
/-- RWT_EVT_EN (R225). -/
def R.RWT_EVT_EN : Nat := 0x060034
/-- RWT_EVT_CNT (R225); 5 registers in steps of 4. -/
def R.RWT_EVT_CNT : Nat := 0x060040
/-- JCT_CTRL (R258). -/
def R.JCT_CTRL : Nat := 0x070000
/-- JCT_STATUS (R258). -/
def R.JCT_STATUS : Nat := 0x070004
/-- JCT_SEED (R258). -/
def R.JCT_SEED : Nat := 0x070008
/-- JCT_TIMEOUT (R258). -/
def R.JCT_TIMEOUT : Nat := 0x07000C
/-- JCT_MEMBERS (R258). -/
def R.JCT_MEMBERS : Nat := 0x070010
/-- JCT_EVT (R258). -/
def R.JCT_EVT : Nat := 0x070020
/-- JCT_EVT_EN (R258). -/
def R.JCT_EVT_EN : Nat := 0x070024
/-- JCT_EVT_CNT (R258); 11 registers in steps of 4. -/
def R.JCT_EVT_CNT : Nat := 0x070040
/-- JCT_GRP_SEL (R258). -/
def R.JCT_GRP_SEL : Nat := 0x070100
/-- JCT_GRP_STATE (R258). -/
def R.JCT_GRP_STATE : Nat := 0x070104
/-- JCT_GRP_ACC (R258). -/
def R.JCT_GRP_ACC : Nat := 0x070108
/-- JCT_GRP_LEAVES (R258). -/
def R.JCT_GRP_LEAVES : Nat := 0x07010C
/-- JCT_GRP_MAP (R258); 8 registers in steps of 4. -/
def R.JCT_GRP_MAP : Nat := 0x070120
/-- JCT_LAST (R258). -/
def R.JCT_LAST : Nat := 0x070140
/-- JCT_ELEMS_LO (R258). -/
def R.JCT_ELEMS_LO : Nat := 0x070150
/-- JCT_ELEMS_HI (R258). -/
def R.JCT_ELEMS_HI : Nat := 0x070154
/-- ASP_CTRL (R280). -/
def R.ASP_CTRL : Nat := 0x080000
/-- ASP_STATUS (R280). -/
def R.ASP_STATUS : Nat := 0x080004
/-- ASP_CFG (R280). -/
def R.ASP_CFG : Nat := 0x080008
/-- ASP_TRACK (R280). -/
def R.ASP_TRACK : Nat := 0x08000C
/-- ASP_EVT (R280). -/
def R.ASP_EVT : Nat := 0x080020
/-- ASP_EVT_EN (R280). -/
def R.ASP_EVT_EN : Nat := 0x080024
/-- ASP_EVT_CNT (R280); 7 registers in steps of 4. -/
def R.ASP_EVT_CNT : Nat := 0x080040
/-- ASP_GRP_SEL (R280). -/
def R.ASP_GRP_SEL : Nat := 0x080100
/-- ASP_GRP_STATE (R280). -/
def R.ASP_GRP_STATE : Nat := 0x080104
/-- ASP_GRP_REF (R280). -/
def R.ASP_GRP_REF : Nat := 0x080108
/-- ASP_GRP_CON (R280); 32 registers in steps of 4. -/
def R.ASP_GRP_CON : Nat := 0x080120
/-- MSH_CTRL (R307). -/
def R.MSH_CTRL : Nat := 0x090000
/-- MSH_STATUS (R307). -/
def R.MSH_STATUS : Nat := 0x090004
/-- MSH_GEN (R307). -/
def R.MSH_GEN : Nat := 0x090008
/-- MSH_COST_CFG (R307). -/
def R.MSH_COST_CFG : Nat := 0x09000C
/-- MSH_BEACON_CFG (R307). -/
def R.MSH_BEACON_CFG : Nat := 0x090010
/-- MSH_HEAT_CFG (R307). -/
def R.MSH_HEAT_CFG : Nat := 0x090014
/-- MSH_HEAT_CFG2 (R307). -/
def R.MSH_HEAT_CFG2 : Nat := 0x090018
/-- MSH_MIG_CFG (R307). -/
def R.MSH_MIG_CFG : Nat := 0x09001C
/-- MSH_EVT (R307). -/
def R.MSH_EVT : Nat := 0x090020
/-- MSH_EVT_EN (R307). -/
def R.MSH_EVT_EN : Nat := 0x090024
/-- MSH_EVT_CNT (R307); 11 registers in steps of 4. -/
def R.MSH_EVT_CNT : Nat := 0x090040
/-- MSH_MIG_STATUS (R307). -/
def R.MSH_MIG_STATUS : Nat := 0x090070
/-- MSH_MIG_REC (R307). -/
def R.MSH_MIG_REC : Nat := 0x090074
/-- MSH_LOAD (R307). -/
def R.MSH_LOAD : Nat := 0x090078
/-- MSH_BIND_SEL (R307). -/
def R.MSH_BIND_SEL : Nat := 0x090100
/-- MSH_BIND_LO (R307). -/
def R.MSH_BIND_LO : Nat := 0x090104
/-- MSH_BIND_HI (R307). -/
def R.MSH_BIND_HI : Nat := 0x090108
/-- MSH_RING_PROD (R307); 64 registers in steps of 4. -/
def R.MSH_RING_PROD : Nat := 0x090200
/-- MSH_RING_CONS (R307); 64 registers in steps of 4. -/
def R.MSH_RING_CONS : Nat := 0x090300
/-- SBX_VTX_CTRL (R312). -/
def R.SBX_VTX_CTRL : Nat := 0x0A0100
/-- SBX_VTX_STATUS (R312). -/
def R.SBX_VTX_STATUS : Nat := 0x0A0104
/-- SBX_RING_BASE_LO (R312). -/
def R.SBX_RING_BASE_LO : Nat := 0x0A0108
/-- SBX_RING_BASE_HI (R312). -/
def R.SBX_RING_BASE_HI : Nat := 0x0A010C
/-- SBX_RING_CFG (R312). -/
def R.SBX_RING_CFG : Nat := 0x0A0110
/-- SBX_RING_PROD (R312). -/
def R.SBX_RING_PROD : Nat := 0x0A0114
/-- SBX_RING_CONS (R312). -/
def R.SBX_RING_CONS : Nat := 0x0A0118
/-- SBX_RPL_TAG (R312). -/
def R.SBX_RPL_TAG : Nat := 0x0A0120
/-- SBX_RPL_HDR (R312). -/
def R.SBX_RPL_HDR : Nat := 0x0A0124
/-- SBX_RPL_INFO (R312). -/
def R.SBX_RPL_INFO : Nat := 0x0A0128
/-- SBX_RPL_ACK (R312). -/
def R.SBX_RPL_ACK : Nat := 0x0A012C
/-- SBX_CPL_FIFO (R312). -/
def R.SBX_CPL_FIFO : Nat := 0x0A0130
/-- SBX_VTX_EVT (R312). -/
def R.SBX_VTX_EVT : Nat := 0x0A0140
/-- SBX_VTX_EVT_EN (R312). -/
def R.SBX_VTX_EVT_EN : Nat := 0x0A0144
/-- SBX_VTX_EVT_CNT (R312); 8 registers in steps of 4. -/
def R.SBX_VTX_EVT_CNT : Nat := 0x0A0150
/-- SBX_MBX_WIN (R312); 1024 registers in steps of 4. -/
def R.SBX_MBX_WIN : Nat := 0x0A1000
/-- SBX_RPL_DATA (R312); 252 registers in steps of 4. -/
def R.SBX_RPL_DATA : Nat := 0x0A2000
/-- SBX_CTRL (R362). -/
def R.SBX_CTRL : Nat := 0x0A0000
/-- SBX_STATUS (R362). -/
def R.SBX_STATUS : Nat := 0x0A0004
/-- SBX_JRNL (R362). -/
def R.SBX_JRNL : Nat := 0x0A0008
/-- SBX_TIMING (R362). -/
def R.SBX_TIMING : Nat := 0x0A000C
/-- SBX_HEALTH (R362). -/
def R.SBX_HEALTH : Nat := 0x0A0010
/-- SBX_HEALTH_TIME_LO (R362). -/
def R.SBX_HEALTH_TIME_LO : Nat := 0x0A0014
/-- SBX_HEALTH_TIME_HI (R362). -/
def R.SBX_HEALTH_TIME_HI : Nat := 0x0A0018
/-- SBX_FW_ADDR_LO (R362). -/
def R.SBX_FW_ADDR_LO : Nat := 0x0A0020
/-- SBX_FW_ADDR_HI (R362). -/
def R.SBX_FW_ADDR_HI : Nat := 0x0A0024
/-- SBX_FW_CFG (R362). -/
def R.SBX_FW_CFG : Nat := 0x0A0028
/-- SBX_FW_VER_A (R362). -/
def R.SBX_FW_VER_A : Nat := 0x0A002C
/-- SBX_FW_VER_B (R362). -/
def R.SBX_FW_VER_B : Nat := 0x0A0030
/-- SBX_FO_INFO (R362). -/
def R.SBX_FO_INFO : Nat := 0x0A0038
/-- SBX_FO_TIME_LO (R362). -/
def R.SBX_FO_TIME_LO : Nat := 0x0A0040
/-- SBX_FO_TIME_HI (R362). -/
def R.SBX_FO_TIME_HI : Nat := 0x0A0044
/-- SBX_EVT (R362). -/
def R.SBX_EVT : Nat := 0x0A0050
/-- SBX_EVT_EN (R362). -/
def R.SBX_EVT_EN : Nat := 0x0A0054
/-- SBX_EVT_CNT (R362); 10 registers in steps of 4. -/
def R.SBX_EVT_CNT : Nat := 0x0A0060
/-- PCM_CTRL (R387). -/
def R.PCM_CTRL : Nat := 0x0B0000
/-- PCM_STATUS (R387). -/
def R.PCM_STATUS : Nat := 0x0B0004
/-- PCM_POLICY_CFG (R387). -/
def R.PCM_POLICY_CFG : Nat := 0x0B0008
/-- PCM_IDLE_CFG (R387). -/
def R.PCM_IDLE_CFG : Nat := 0x0B000C
/-- PCM_WAKE_AT_LO (R387). -/
def R.PCM_WAKE_AT_LO : Nat := 0x0B0010
/-- PCM_WAKE_AT_HI (R387). -/
def R.PCM_WAKE_AT_HI : Nat := 0x0B0014
/-- PCM_WAKE_INFO (R387). -/
def R.PCM_WAKE_INFO : Nat := 0x0B0018
/-- PCM_CLK (R387). -/
def R.PCM_CLK : Nat := 0x0B001C
/-- PCM_BROWN (R387). -/
def R.PCM_BROWN : Nat := 0x0B0020
/-- PCM_BROWN_TIME_LO (R387). -/
def R.PCM_BROWN_TIME_LO : Nat := 0x0B0024
/-- PCM_BROWN_TIME_HI (R387). -/
def R.PCM_BROWN_TIME_HI : Nat := 0x0B0028
/-- PCM_RST_CAUSE (R387). -/
def R.PCM_RST_CAUSE : Nat := 0x0B002C
/-- PCM_EVT (R387). -/
def R.PCM_EVT : Nat := 0x0B0040
/-- PCM_EVT_EN (R387). -/
def R.PCM_EVT_EN : Nat := 0x0B0044
/-- PCM_EVT_CNT (R387); 9 registers in steps of 4. -/
def R.PCM_EVT_CNT : Nat := 0x0B0060
/-- IDN_CTRL (R404). -/
def R.IDN_CTRL : Nat := 0x0C0000
/-- IDN_STATUS (R404). -/
def R.IDN_STATUS : Nat := 0x0C0004
/-- IDN_AUTH_CFG (R404). -/
def R.IDN_AUTH_CFG : Nat := 0x0C0008
/-- IDN_AUTH_CTR0_LO (R404). -/
def R.IDN_AUTH_CTR0_LO : Nat := 0x0C0010
/-- IDN_AUTH_CTR0_HI (R404). -/
def R.IDN_AUTH_CTR0_HI : Nat := 0x0C0014
/-- IDN_AUTH_CTR1_LO (R404). -/
def R.IDN_AUTH_CTR1_LO : Nat := 0x0C0018
/-- IDN_AUTH_CTR1_HI (R404). -/
def R.IDN_AUTH_CTR1_HI : Nat := 0x0C001C
/-- IDN_EVT (R404). -/
def R.IDN_EVT : Nat := 0x0C0020
/-- IDN_EVT_EN (R404). -/
def R.IDN_EVT_EN : Nat := 0x0C0024
/-- IDN_EVT_CNT (R404); 8 registers in steps of 4. -/
def R.IDN_EVT_CNT : Nat := 0x0C0040
/-- IDN_PUBKEY_WIN (R404); 25 registers in steps of 4. -/
def R.IDN_PUBKEY_WIN : Nat := 0x0C0100
/-- IDN_AUTHKEY_WIN_0 (R404); 25 registers in steps of 4. -/
def R.IDN_AUTHKEY_WIN_0 : Nat := 0x0C0200
/-- IDN_AUTHKEY_WIN_1 (R404); 25 registers in steps of 4. -/
def R.IDN_AUTHKEY_WIN_1 : Nat := 0x0C0280
/-- IDN_HELPER_WIN (R404); 256 registers in steps of 4. -/
def R.IDN_HELPER_WIN : Nat := 0x0C1000
/-- FLT_CTRL (R431). -/
def R.FLT_CTRL : Nat := 0x0D0000
/-- FLT_WR (R431). -/
def R.FLT_WR : Nat := 0x0D0004
/-- FLT_RD (R431). -/
def R.FLT_RD : Nat := 0x0D0008
/-- FLT_STATUS (R431). -/
def R.FLT_STATUS : Nat := 0x0D000C
/-- FLT_SEQ (R431). -/
def R.FLT_SEQ : Nat := 0x0D0010
/-- FLT_SUM_FAULT (R431). -/
def R.FLT_SUM_FAULT : Nat := 0x0D0020
/-- FLT_SUM_CMPL (R431). -/
def R.FLT_SUM_CMPL : Nat := 0x0D0024
/-- FLT_SUM_INFO (R431). -/
def R.FLT_SUM_INFO : Nat := 0x0D0028
/-- FLT_EVT (R431). -/
def R.FLT_EVT : Nat := 0x0D0030
/-- FLT_EVT_EN (R431). -/
def R.FLT_EVT_EN : Nat := 0x0D0034
/-- FLT_EVT_CNT (R431); 3 registers in steps of 4. -/
def R.FLT_EVT_CNT : Nat := 0x0D0040
/-- FLT_WIN (R431); 8192 registers in steps of 4. -/
def R.FLT_WIN : Nat := 0x0D1000
/-- GBL_PRODUCT (R439). -/
def R.GBL_PRODUCT : Nat := 0x000000
/-- GBL_RELEASE (R439). -/
def R.GBL_RELEASE : Nat := 0x000004
/-- GBL_FW_VER (R439). -/
def R.GBL_FW_VER : Nat := 0x000008
/-- GBL_LINK (R439). -/
def R.GBL_LINK : Nat := 0x00000C
/-- GBL_PARAM (R439). -/
def R.GBL_PARAM : Nat := 0x000010
/-- GBL_IDCODE (R439). -/
def R.GBL_IDCODE : Nat := 0x000014
/-- GBL_START (R439). -/
def R.GBL_START : Nat := 0x000018
/-- GBL_SCRATCH (R439). -/
def R.GBL_SCRATCH : Nat := 0x00001C

/-! ## Fields -/

/-- SEAM_STATUS.POWERED_MASK, RO. -/
def F.SEAM_STATUS.POWERED_MASK : Field := ⟨R.SEAM_STATUS, 24, 8⟩
/-- SEAM_STATUS.RETIRED_MASK, RO. -/
def F.SEAM_STATUS.RETIRED_MASK : Field := ⟨R.SEAM_STATUS, 16, 8⟩
/-- SEAM_STATUS.USABLE_MASK, RO. -/
def F.SEAM_STATUS.USABLE_MASK : Field := ⟨R.SEAM_STATUS, 8, 8⟩
/-- SEAM_STATUS.CHANGING, RO. -/
def F.SEAM_STATUS.CHANGING : Field := ⟨R.SEAM_STATUS, 4, 1⟩
/-- SEAM_STATUS.ACTIVE_COUNT, RO. -/
def F.SEAM_STATUS.ACTIVE_COUNT : Field := ⟨R.SEAM_STATUS, 0, 4⟩
/-- SEAM_WIDTH_CTRL.RESULT, RO. -/
def F.SEAM_WIDTH_CTRL.RESULT : Field := ⟨R.SEAM_WIDTH_CTRL, 16, 8⟩
/-- SEAM_WIDTH_CTRL.GO, W1S. -/
def F.SEAM_WIDTH_CTRL.GO : Field := ⟨R.SEAM_WIDTH_CTRL, 8, 1⟩
/-- SEAM_WIDTH_CTRL.FORCE, RW. -/
def F.SEAM_WIDTH_CTRL.FORCE : Field := ⟨R.SEAM_WIDTH_CTRL, 4, 1⟩
/-- SEAM_WIDTH_CTRL.TARGET, RW. -/
def F.SEAM_WIDTH_CTRL.TARGET : Field := ⟨R.SEAM_WIDTH_CTRL, 0, 4⟩
/-- SEAM_CTRL.SWITCH_AFTER, RW. -/
def F.SEAM_CTRL.SWITCH_AFTER : Field := ⟨R.SEAM_CTRL, 16, 10⟩
/-- SEAM_CTRL.RETIRE_EN, RW. -/
def F.SEAM_CTRL.RETIRE_EN : Field := ⟨R.SEAM_CTRL, 1, 1⟩
/-- SEAM_CTRL.DARN_EN, RW. -/
def F.SEAM_CTRL.DARN_EN : Field := ⟨R.SEAM_CTRL, 0, 1⟩
/-- SEAM_DET_CFG.UNATTR_CRC, RW. -/
def F.SEAM_DET_CFG.UNATTR_CRC : Field := ⟨R.SEAM_DET_CFG, 16, 8⟩
/-- SEAM_DET_CFG.DEGRADE_COUNT, RW. -/
def F.SEAM_DET_CFG.DEGRADE_COUNT : Field := ⟨R.SEAM_DET_CFG, 8, 8⟩
/-- SEAM_DET_CFG.EYE_MIN_PCT, RW. -/
def F.SEAM_DET_CFG.EYE_MIN_PCT : Field := ⟨R.SEAM_DET_CFG, 0, 8⟩
/-- SEAM_SLP_STATUS.SYNC_ERR, RC. -/
def F.SEAM_SLP_STATUS.SYNC_ERR : Field := ⟨R.SEAM_SLP_STATUS, 16, 16⟩
/-- SEAM_SLP_STATUS.TX_ACTIVE, RO. -/
def F.SEAM_SLP_STATUS.TX_ACTIVE : Field := ⟨R.SEAM_SLP_STATUS, 1, 1⟩
/-- SEAM_SLP_STATUS.RX_LOCK, RO. -/
def F.SEAM_SLP_STATUS.RX_LOCK : Field := ⟨R.SEAM_SLP_STATUS, 0, 1⟩
/-- SEAM_SLV_TX.RETIRED, RO. -/
def F.SEAM_SLV_TX.RETIRED : Field := ⟨R.SEAM_SLV_TX, 31, 1⟩
/-- SEAM_SLV_TX.CLK_FAIL, RO. -/
def F.SEAM_SLV_TX.CLK_FAIL : Field := ⟨R.SEAM_SLV_TX, 30, 1⟩
/-- SEAM_SLV_TX.SPARE_STATE, RO. -/
def F.SEAM_SLV_TX.SPARE_STATE : Field := ⟨R.SEAM_SLV_TX, 20, 2⟩
/-- SEAM_SLV_TX.SPARE_LANE, RO. -/
def F.SEAM_SLV_TX.SPARE_LANE : Field := ⟨R.SEAM_SLV_TX, 16, 4⟩
/-- SEAM_SLV_TX.FAILED, RO. -/
def F.SEAM_SLV_TX.FAILED : Field := ⟨R.SEAM_SLV_TX, 0, 9⟩
/-- SEAM_SLV_RX.RETIRED, RO. -/
def F.SEAM_SLV_RX.RETIRED : Field := ⟨R.SEAM_SLV_RX, 31, 1⟩
/-- SEAM_SLV_RX.CLK_FAIL, RO. -/
def F.SEAM_SLV_RX.CLK_FAIL : Field := ⟨R.SEAM_SLV_RX, 30, 1⟩
/-- SEAM_SLV_RX.SPARE_STATE, RO. -/
def F.SEAM_SLV_RX.SPARE_STATE : Field := ⟨R.SEAM_SLV_RX, 20, 2⟩
/-- SEAM_SLV_RX.SPARE_LANE, RO. -/
def F.SEAM_SLV_RX.SPARE_LANE : Field := ⟨R.SEAM_SLV_RX, 16, 4⟩
/-- SEAM_SLV_RX.FAILED, RO. -/
def F.SEAM_SLV_RX.FAILED : Field := ⟨R.SEAM_SLV_RX, 0, 9⟩
/-- SEAM_SKEW.SLEEVE_OFFSET, RO. -/
def F.SEAM_SKEW.SLEEVE_OFFSET : Field := ⟨R.SEAM_SKEW, 16, 8⟩
/-- SEAM_SKEW.LANE_SPREAD, RO. -/
def F.SEAM_SKEW.LANE_SPREAD : Field := ⟨R.SEAM_SKEW, 0, 8⟩
/-- SEAM_TEST_CTRL.ENABLE, RW. -/
def F.SEAM_TEST_CTRL.ENABLE : Field := ⟨R.SEAM_TEST_CTRL, 31, 1⟩
/-- SEAM_TEST_CTRL.DIR, RW. -/
def F.SEAM_TEST_CTRL.DIR : Field := ⟨R.SEAM_TEST_CTRL, 20, 2⟩
/-- SEAM_TEST_CTRL.MODE, RW. -/
def F.SEAM_TEST_CTRL.MODE : Field := ⟨R.SEAM_TEST_CTRL, 16, 3⟩
/-- SEAM_TEST_CTRL.LANE_MASK, RW. -/
def F.SEAM_TEST_CTRL.LANE_MASK : Field := ⟨R.SEAM_TEST_CTRL, 4, 9⟩
/-- SEAM_TEST_CTRL.SLEEVE, RW. -/
def F.SEAM_TEST_CTRL.SLEEVE : Field := ⟨R.SEAM_TEST_CTRL, 0, 3⟩
/-- SEAM_TEST_LOCK.LOCKED, RO. -/
def F.SEAM_TEST_LOCK.LOCKED : Field := ⟨R.SEAM_TEST_LOCK, 0, 9⟩
/-- SEAM_PRBS_ERR.ERRORS, RC. -/
def F.SEAM_PRBS_ERR.ERRORS : Field := ⟨R.SEAM_PRBS_ERR, 0, 32⟩
/-- SEAM_PRBS_BITS_LO.BITS, RO. -/
def F.SEAM_PRBS_BITS_LO.BITS : Field := ⟨R.SEAM_PRBS_BITS_LO, 0, 32⟩
/-- SEAM_PRBS_BITS_HI.BITS, RO. -/
def F.SEAM_PRBS_BITS_HI.BITS : Field := ⟨R.SEAM_PRBS_BITS_HI, 0, 32⟩
/-- TLR_CTRL.DIR, RW. -/
def F.TLR_CTRL.DIR : Field := ⟨R.TLR_CTRL, 24, 1⟩
/-- TLR_CTRL.LANE_SEL, RW. -/
def F.TLR_CTRL.LANE_SEL : Field := ⟨R.TLR_CTRL, 16, 7⟩
/-- TLR_CTRL.MEASURE, W1S. -/
def F.TLR_CTRL.MEASURE : Field := ⟨R.TLR_CTRL, 9, 1⟩
/-- TLR_CTRL.COMMIT, W1S. -/
def F.TLR_CTRL.COMMIT : Field := ⟨R.TLR_CTRL, 8, 1⟩
/-- TLR_CTRL.MANUAL, RW. -/
def F.TLR_CTRL.MANUAL : Field := ⟨R.TLR_CTRL, 3, 1⟩
/-- TLR_CTRL.TXFFE_EN, RW. -/
def F.TLR_CTRL.TXFFE_EN : Field := ⟨R.TLR_CTRL, 2, 1⟩
/-- TLR_CTRL.DARNED_EN, RW. -/
def F.TLR_CTRL.DARNED_EN : Field := ⟨R.TLR_CTRL, 1, 1⟩
/-- TLR_CTRL.ROLL_EN, RW. -/
def F.TLR_CTRL.ROLL_EN : Field := ⟨R.TLR_CTRL, 0, 1⟩
/-- TLR_STATUS.STARVED_MASK, RO. -/
def F.TLR_STATUS.STARVED_MASK : Field := ⟨R.TLR_STATUS, 24, 8⟩
/-- TLR_STATUS.ROLLING_MASK, RO. -/
def F.TLR_STATUS.ROLLING_MASK : Field := ⟨R.TLR_STATUS, 16, 8⟩
/-- TLR_STATUS.STATE, RO. -/
def F.TLR_STATUS.STATE : Field := ⟨R.TLR_STATUS, 0, 3⟩
/-- TLR_CFG.BAL_MAX_PCT, RW. -/
def F.TLR_CFG.BAL_MAX_PCT : Field := ⟨R.TLR_CFG, 24, 8⟩
/-- TLR_CFG.BAL_MIN_PCT, RW. -/
def F.TLR_CFG.BAL_MIN_PCT : Field := ⟨R.TLR_CFG, 16, 8⟩
/-- TLR_CFG.MIN_POP_LOG2, RW. -/
def F.TLR_CFG.MIN_POP_LOG2 : Field := ⟨R.TLR_CFG, 8, 5⟩
/-- TLR_CFG.DWELL_LOG2, RW. -/
def F.TLR_CFG.DWELL_LOG2 : Field := ⟨R.TLR_CFG, 0, 4⟩
/-- TLR_CFG2.STARVE_MS, RW. -/
def F.TLR_CFG2.STARVE_MS : Field := ⟨R.TLR_CFG2, 24, 8⟩
/-- TLR_CFG2.RETRY_MS, RW. -/
def F.TLR_CFG2.RETRY_MS : Field := ⟨R.TLR_CFG2, 20, 4⟩
/-- TLR_CFG2.COMMIT_GAIN, RW. -/
def F.TLR_CFG2.COMMIT_GAIN : Field := ⟨R.TLR_CFG2, 16, 4⟩
/-- TLR_CFG2.MAX_STEPS, RW. -/
def F.TLR_CFG2.MAX_STEPS : Field := ⟨R.TLR_CFG2, 8, 8⟩
/-- TLR_ROLL_CFG.PASS_LIMIT_US, RW. -/
def F.TLR_ROLL_CFG.PASS_LIMIT_US : Field := ⟨R.TLR_ROLL_CFG, 16, 16⟩
/-- TLR_ROLL_CFG.INTERVAL_MS, RW. -/
def F.TLR_ROLL_CFG.INTERVAL_MS : Field := ⟨R.TLR_ROLL_CFG, 0, 8⟩
/-- TLR_TEMP.TEMP, RO. -/
def F.TLR_TEMP.TEMP : Field := ⟨R.TLR_TEMP, 0, 16⟩
/-- TLR_LANE_ACT.RECORD, RO. -/
def F.TLR_LANE_ACT.RECORD : Field := ⟨R.TLR_LANE_ACT, 0, 32⟩
/-- TLR_LANE_SHD.RECORD, RW. -/
def F.TLR_LANE_SHD.RECORD : Field := ⟨R.TLR_LANE_SHD, 0, 32⟩
/-- TLR_LANE_QUAL.SOURCE, RO. -/
def F.TLR_LANE_QUAL.SOURCE : Field := ⟨R.TLR_LANE_QUAL, 30, 2⟩
/-- TLR_LANE_QUAL.WORST, RO. -/
def F.TLR_LANE_QUAL.WORST : Field := ⟨R.TLR_LANE_QUAL, 24, 2⟩
/-- TLR_LANE_QUAL.EYE_W, RO. -/
def F.TLR_LANE_QUAL.EYE_W : Field := ⟨R.TLR_LANE_QUAL, 8, 7⟩
/-- TLR_LANE_QUAL.EYE_H, RO. -/
def F.TLR_LANE_QUAL.EYE_H : Field := ⟨R.TLR_LANE_QUAL, 0, 8⟩
/-- TLR_LANE_STAT.STARVED_CNT, RO. -/
def F.TLR_LANE_STAT.STARVED_CNT : Field := ⟨R.TLR_LANE_STAT, 24, 8⟩
/-- TLR_LANE_STAT.COMMITS, RO. -/
def F.TLR_LANE_STAT.COMMITS : Field := ⟨R.TLR_LANE_STAT, 16, 8⟩
/-- TLR_LANE_STAT.PASSES, RO. -/
def F.TLR_LANE_STAT.PASSES : Field := ⟨R.TLR_LANE_STAT, 0, 16⟩
/-- TLR_LANE_TIME_LO.TIME, RO. -/
def F.TLR_LANE_TIME_LO.TIME : Field := ⟨R.TLR_LANE_TIME_LO, 0, 32⟩
/-- TLR_LANE_TIME_HI.TIME, RO. -/
def F.TLR_LANE_TIME_HI.TIME : Field := ⟨R.TLR_LANE_TIME_HI, 0, 32⟩
/-- TLR_SNAP_CTRL.RESTORE, W1S. -/
def F.TLR_SNAP_CTRL.RESTORE : Field := ⟨R.TLR_SNAP_CTRL, 2, 1⟩
/-- TLR_SNAP_CTRL.LOAD, RW. -/
def F.TLR_SNAP_CTRL.LOAD : Field := ⟨R.TLR_SNAP_CTRL, 1, 1⟩
/-- TLR_SNAP_CTRL.FREEZE, RW. -/
def F.TLR_SNAP_CTRL.FREEZE : Field := ⟨R.TLR_SNAP_CTRL, 0, 1⟩
/-- TLR_SNAP_STATUS.REJECT, RO. -/
def F.TLR_SNAP_STATUS.REJECT : Field := ⟨R.TLR_SNAP_STATUS, 4, 4⟩
/-- TLR_SNAP_STATUS.CAUSE, RO. -/
def F.TLR_SNAP_STATUS.CAUSE : Field := ⟨R.TLR_SNAP_STATUS, 2, 2⟩
/-- TLR_SNAP_STATUS.RESTORED, RO. -/
def F.TLR_SNAP_STATUS.RESTORED : Field := ⟨R.TLR_SNAP_STATUS, 1, 1⟩
/-- TLR_SNAP_STATUS.FROZEN, RO. -/
def F.TLR_SNAP_STATUS.FROZEN : Field := ⟨R.TLR_SNAP_STATUS, 0, 1⟩
/-- TLR_SNAP_GEN.GENERATION, RO. -/
def F.TLR_SNAP_GEN.GENERATION : Field := ⟨R.TLR_SNAP_GEN, 0, 32⟩
/-- TLR_SNAP_WIN.DATA, RW. -/
def F.TLR_SNAP_WIN.DATA : Field := ⟨R.TLR_SNAP_WIN, 0, 32⟩
/-- LNK_CTRL.RESTART, W1S. -/
def F.LNK_CTRL.RESTART : Field := ⟨R.LNK_CTRL, 3, 1⟩
/-- LNK_CTRL.RETRAIN, W1S. -/
def F.LNK_CTRL.RETRAIN : Field := ⟨R.LNK_CTRL, 2, 1⟩
/-- LNK_CTRL.FLUSH_NOW, W1S. -/
def F.LNK_CTRL.FLUSH_NOW : Field := ⟨R.LNK_CTRL, 1, 1⟩
/-- LNK_CTRL.REPLAY_MODE, RW. -/
def F.LNK_CTRL.REPLAY_MODE : Field := ⟨R.LNK_CTRL, 0, 1⟩
/-- LNK_STATUS.STATE, RO. -/
def F.LNK_STATUS.STATE : Field := ⟨R.LNK_STATUS, 29, 3⟩
/-- LNK_STATUS.GEN, RO. -/
def F.LNK_STATUS.GEN : Field := ⟨R.LNK_STATUS, 27, 2⟩
/-- LNK_STATUS.TRACK_MASK, RO. -/
def F.LNK_STATUS.TRACK_MASK : Field := ⟨R.LNK_STATUS, 19, 8⟩
/-- LNK_STATUS.SIDING_FULL, RO. -/
def F.LNK_STATUS.SIDING_FULL : Field := ⟨R.LNK_STATUS, 18, 1⟩
/-- LNK_STATUS.MODE_ACTIVE, RO. -/
def F.LNK_STATUS.MODE_ACTIVE : Field := ⟨R.LNK_STATUS, 17, 1⟩
/-- LNK_STATUS.SIDING_USED, RO. -/
def F.LNK_STATUS.SIDING_USED : Field := ⟨R.LNK_STATUS, 0, 10⟩
/-- LNK_TIMER_CFG.REPLAY_NS, RW. -/
def F.LNK_TIMER_CFG.REPLAY_NS : Field := ⟨R.LNK_TIMER_CFG, 24, 8⟩
/-- LNK_TIMER_CFG.ACK_MAX_NS, RW. -/
def F.LNK_TIMER_CFG.ACK_MAX_NS : Field := ⟨R.LNK_TIMER_CFG, 16, 8⟩
/-- LNK_TIMER_CFG.KEEPALIVE, RW. -/
def F.LNK_TIMER_CFG.KEEPALIVE : Field := ⟨R.LNK_TIMER_CFG, 8, 8⟩
/-- LNK_GRACE.GRACE_US, RW. -/
def F.LNK_GRACE.GRACE_US : Field := ⟨R.LNK_GRACE, 0, 20⟩
/-- LNK_ARB.W_T1, RW. -/
def F.LNK_ARB.W_T1 : Field := ⟨R.LNK_ARB, 12, 4⟩
/-- LNK_ARB.W_T5, RW. -/
def F.LNK_ARB.W_T5 : Field := ⟨R.LNK_ARB, 8, 4⟩
/-- LNK_ARB.W_T3, RW. -/
def F.LNK_ARB.W_T3 : Field := ⟨R.LNK_ARB, 4, 4⟩
/-- LNK_ARB.W_T4, RW. -/
def F.LNK_ARB.W_T4 : Field := ⟨R.LNK_ARB, 0, 4⟩
/-- LNK_TX_SEQ.ACKED, RO. -/
def F.LNK_TX_SEQ.ACKED : Field := ⟨R.LNK_TX_SEQ, 16, 12⟩
/-- LNK_TX_SEQ.NEXT_SEQ, RO. -/
def F.LNK_TX_SEQ.NEXT_SEQ : Field := ⟨R.LNK_TX_SEQ, 0, 12⟩
/-- LNK_RX_SEQ.LAST_ACCEPTED, RO. -/
def F.LNK_RX_SEQ.LAST_ACCEPTED : Field := ⟨R.LNK_RX_SEQ, 16, 12⟩
/-- LNK_RX_SEQ.REORDER_HELD, RO. -/
def F.LNK_RX_SEQ.REORDER_HELD : Field := ⟨R.LNK_RX_SEQ, 0, 9⟩
/-- LNK_REPLAY.RETRAIN_FAIL, RO. -/
def F.LNK_REPLAY.RETRAIN_FAIL : Field := ⟨R.LNK_REPLAY, 24, 8⟩
/-- LNK_REPLAY.HEAD_REPLAYS, RO. -/
def F.LNK_REPLAY.HEAD_REPLAYS : Field := ⟨R.LNK_REPLAY, 16, 8⟩
/-- LNK_REPLAY.RETRAINS, RO. -/
def F.LNK_REPLAY.RETRAINS : Field := ⟨R.LNK_REPLAY, 0, 16⟩
/-- LNK_TKT_TX.HELD, RO. -/
def F.LNK_TKT_TX.HELD : Field := ⟨R.LNK_TKT_TX, 0, 11⟩
/-- LNK_POOL_RX.SHARED_FREE, RO. -/
def F.LNK_POOL_RX.SHARED_FREE : Field := ⟨R.LNK_POOL_RX, 16, 11⟩
/-- LNK_POOL_RX.SHARED_SIZE, RO. -/
def F.LNK_POOL_RX.SHARED_SIZE : Field := ⟨R.LNK_POOL_RX, 0, 11⟩
/-- LNK_FEC_CORR.COUNT, RC. -/
def F.LNK_FEC_CORR.COUNT : Field := ⟨R.LNK_FEC_CORR, 0, 32⟩
/-- LNK_FEC_UNCORR.COUNT, RC. -/
def F.LNK_FEC_UNCORR.COUNT : Field := ⟨R.LNK_FEC_UNCORR, 0, 32⟩
/-- LNK_CRC_ERR.ERRORS, RC. -/
def F.LNK_CRC_ERR.ERRORS : Field := ⟨R.LNK_CRC_ERR, 0, 32⟩
/-- MNF_CTRL.SEG, RW. -/
def F.MNF_CTRL.SEG : Field := ⟨R.MNF_CTRL, 13, 3⟩
/-- MNF_CTRL.RETRY_MAX, RW. -/
def F.MNF_CTRL.RETRY_MAX : Field := ⟨R.MNF_CTRL, 8, 2⟩
/-- MNF_CTRL.VALIANT_EN, RW. -/
def F.MNF_CTRL.VALIANT_EN : Field := ⟨R.MNF_CTRL, 0, 1⟩
/-- MNF_STATUS.FULL, RO. -/
def F.MNF_STATUS.FULL : Field := ⟨R.MNF_STATUS, 31, 1⟩
/-- MNF_STATUS.USED, RO. -/
def F.MNF_STATUS.USED : Field := ⟨R.MNF_STATUS, 0, 19⟩
/-- MNF_TIMEOUT.TIMEOUT_64US, RW. -/
def F.MNF_TIMEOUT.TIMEOUT_64US : Field := ⟨R.MNF_TIMEOUT, 0, 16⟩
/-- MNF_BREQ_TIMEOUT.US, RW. -/
def F.MNF_BREQ_TIMEOUT.US : Field := ⟨R.MNF_BREQ_TIMEOUT, 0, 16⟩
/-- MNF_VAL_CFG.ROTATE_US, RW. -/
def F.MNF_VAL_CFG.ROTATE_US : Field := ⟨R.MNF_VAL_CFG, 0, 16⟩
/-- MNF_SVC_CFG.SHIFT, RW. -/
def F.MNF_SVC_CFG.SHIFT : Field := ⟨R.MNF_SVC_CFG, 16, 5⟩
/-- MNF_SVC_CFG.SERVED_MIN_K, RW. -/
def F.MNF_SVC_CFG.SERVED_MIN_K : Field := ⟨R.MNF_SVC_CFG, 0, 8⟩
/-- MNF_PORT_CFG.RETRY_EN, RW. -/
def F.MNF_PORT_CFG.RETRY_EN : Field := ⟨R.MNF_PORT_CFG, 31, 1⟩
/-- MNF_PORT_CFG.RSP_WIN, RW. -/
def F.MNF_PORT_CFG.RSP_WIN : Field := ⟨R.MNF_PORT_CFG, 16, 8⟩
/-- MNF_PORT_CFG.MIN_ENTRIES, RW. -/
def F.MNF_PORT_CFG.MIN_ENTRIES : Field := ⟨R.MNF_PORT_CFG, 0, 16⟩
/-- MNF_PORT_STAT.REQS, RO. -/
def F.MNF_PORT_STAT.REQS : Field := ⟨R.MNF_PORT_STAT, 23, 9⟩
/-- MNF_PORT_STAT.ENTRIES, RO. -/
def F.MNF_PORT_STAT.ENTRIES : Field := ⟨R.MNF_PORT_STAT, 0, 19⟩
/-- MNF_PORT_WIN.UNDELIVERED, RO. -/
def F.MNF_PORT_WIN.UNDELIVERED : Field := ⟨R.MNF_PORT_WIN, 0, 16⟩
/-- MNF_TILE_MASK.TILES, RW. -/
def F.MNF_TILE_MASK.TILES : Field := ⟨R.MNF_TILE_MASK, 0, 32⟩
/-- MNF_VIA_SITES.SITES, RW. -/
def F.MNF_VIA_SITES.SITES : Field := ⟨R.MNF_VIA_SITES, 0, 32⟩
/-- TTB_CTRL.LEAD, RW. -/
def F.TTB_CTRL.LEAD : Field := ⟨R.TTB_CTRL, 16, 4⟩
/-- TTB_CTRL.STREAM_PORT, RW. -/
def F.TTB_CTRL.STREAM_PORT : Field := ⟨R.TTB_CTRL, 8, 3⟩
/-- TTB_CTRL.RESUME, W1S. -/
def F.TTB_CTRL.RESUME : Field := ⟨R.TTB_CTRL, 4, 1⟩
/-- TTB_CTRL.AUTO_N1, RW. -/
def F.TTB_CTRL.AUTO_N1 : Field := ⟨R.TTB_CTRL, 3, 1⟩
/-- TTB_CTRL.HALT_MODE, RW. -/
def F.TTB_CTRL.HALT_MODE : Field := ⟨R.TTB_CTRL, 2, 1⟩
/-- TTB_CTRL.HALT, W1S. -/
def F.TTB_CTRL.HALT : Field := ⟨R.TTB_CTRL, 1, 1⟩
/-- TTB_CTRL.START, W1S. -/
def F.TTB_CTRL.START : Field := ⟨R.TTB_CTRL, 0, 1⟩
/-- TTB_STATUS.HALT_REASON, RO. -/
def F.TTB_STATUS.HALT_REASON : Field := ⟨R.TTB_STATUS, 28, 4⟩
/-- TTB_STATUS.ACTIVE_STREAMED, RO. -/
def F.TTB_STATUS.ACTIVE_STREAMED : Field := ⟨R.TTB_STATUS, 25, 1⟩
/-- TTB_STATUS.ACTIVE_BANK, RO. -/
def F.TTB_STATUS.ACTIVE_BANK : Field := ⟨R.TTB_STATUS, 24, 1⟩
/-- TTB_STATUS.STANDBY, RO. -/
def F.TTB_STATUS.STANDBY : Field := ⟨R.TTB_STATUS, 22, 2⟩
/-- TTB_STATUS.STATE, RO. -/
def F.TTB_STATUS.STATE : Field := ⟨R.TTB_STATUS, 16, 3⟩
/-- TTB_START_LO.G0, RW. -/
def F.TTB_START_LO.G0 : Field := ⟨R.TTB_START_LO, 0, 32⟩
/-- TTB_START_HI.G0, RW. -/
def F.TTB_START_HI.G0 : Field := ⟨R.TTB_START_HI, 0, 26⟩
/-- TTB_LOAD_ADDR_LO.ADDR, RW. -/
def F.TTB_LOAD_ADDR_LO.ADDR : Field := ⟨R.TTB_LOAD_ADDR_LO, 0, 32⟩
/-- TTB_LOAD_ADDR_HI.ADDR, RW. -/
def F.TTB_LOAD_ADDR_HI.ADDR : Field := ⟨R.TTB_LOAD_ADDR_HI, 0, 32⟩
/-- TTB_LOAD_CTRL.RESULT, RO. -/
def F.TTB_LOAD_CTRL.RESULT : Field := ⟨R.TTB_LOAD_CTRL, 24, 8⟩
/-- TTB_LOAD_CTRL.PORT, RW. -/
def F.TTB_LOAD_CTRL.PORT : Field := ⟨R.TTB_LOAD_CTRL, 8, 3⟩
/-- TTB_LOAD_CTRL.STREAM, RW. -/
def F.TTB_LOAD_CTRL.STREAM : Field := ⟨R.TTB_LOAD_CTRL, 1, 1⟩
/-- TTB_LOAD_CTRL.GO, W1S. -/
def F.TTB_LOAD_CTRL.GO : Field := ⟨R.TTB_LOAD_CTRL, 0, 1⟩
/-- TTB_SWITCH.RESULT, RO. -/
def F.TTB_SWITCH.RESULT : Field := ⟨R.TTB_SWITCH, 24, 8⟩
/-- TTB_SWITCH.CANCEL, W1S. -/
def F.TTB_SWITCH.CANCEL : Field := ⟨R.TTB_SWITCH, 17, 1⟩
/-- TTB_SWITCH.ARM, W1S. -/
def F.TTB_SWITCH.ARM : Field := ⟨R.TTB_SWITCH, 16, 1⟩
/-- TTB_SWITCH.EPOCH, RW. -/
def F.TTB_SWITCH.EPOCH : Field := ⟨R.TTB_SWITCH, 0, 16⟩
/-- TTB_BANK_INFO.VALID, RO. -/
def F.TTB_BANK_INFO.VALID : Field := ⟨R.TTB_BANK_INFO, 31, 1⟩
/-- TTB_BANK_INFO.STREAMED, RO. -/
def F.TTB_BANK_INFO.STREAMED : Field := ⟨R.TTB_BANK_INFO, 30, 1⟩
/-- TTB_BANK_INFO.VARIANT, RO. -/
def F.TTB_BANK_INFO.VARIANT : Field := ⟨R.TTB_BANK_INFO, 29, 1⟩
/-- TTB_BANK_INFO.ENTRIES, RO. -/
def F.TTB_BANK_INFO.ENTRIES : Field := ⟨R.TTB_BANK_INFO, 0, 19⟩
/-- TTB_BANK_CYCLE.CYCLE_PATHS, RO. -/
def F.TTB_BANK_CYCLE.CYCLE_PATHS : Field := ⟨R.TTB_BANK_CYCLE, 0, 21⟩
/-- TTB_BANK_ID.VARIANT_OF, RO. -/
def F.TTB_BANK_ID.VARIANT_OF : Field := ⟨R.TTB_BANK_ID, 16, 14⟩
/-- TTB_BANK_ID.BIND_GEN, RO. -/
def F.TTB_BANK_ID.BIND_GEN : Field := ⟨R.TTB_BANK_ID, 0, 16⟩
/-- TTB_N1_CFG.LEAD_US, RW. -/
def F.TTB_N1_CFG.LEAD_US : Field := ⟨R.TTB_N1_CFG, 0, 16⟩
/-- TTB_DL_CNT.COUNT, RC. -/
def F.TTB_DL_CNT.COUNT : Field := ⟨R.TTB_DL_CNT, 0, 32⟩
/-- TTB_DL_LAST.KIND, RO. -/
def F.TTB_DL_LAST.KIND : Field := ⟨R.TTB_DL_LAST, 29, 3⟩
/-- TTB_DL_LAST.ENTRY, RO. -/
def F.TTB_DL_LAST.ENTRY : Field := ⟨R.TTB_DL_LAST, 0, 17⟩
/-- RWT_TIME_LO.TIME, RO. -/
def F.RWT_TIME_LO.TIME : Field := ⟨R.RWT_TIME_LO, 0, 32⟩
/-- RWT_TIME_HI.TIME, RO. -/
def F.RWT_TIME_HI.TIME : Field := ⟨R.RWT_TIME_HI, 0, 32⟩
/-- RWT_PATH_LO.PATH, RO. -/
def F.RWT_PATH_LO.PATH : Field := ⟨R.RWT_PATH_LO, 0, 32⟩
/-- RWT_PATH_HI.PATH, RO. -/
def F.RWT_PATH_HI.PATH : Field := ⟨R.RWT_PATH_HI, 0, 32⟩
/-- RWT_EPOCH.START, RW. -/
def F.RWT_EPOCH.START : Field := ⟨R.RWT_EPOCH, 16, 16⟩
/-- RWT_EPOCH.CURRENT, RO. -/
def F.RWT_EPOCH.CURRENT : Field := ⟨R.RWT_EPOCH, 0, 16⟩
/-- RWT_CYCLE_POS.PATH, RO. -/
def F.RWT_CYCLE_POS.PATH : Field := ⟨R.RWT_CYCLE_POS, 0, 20⟩
/-- RWT_STATUS.OFFSET, RO. -/
def F.RWT_STATUS.OFFSET : Field := ⟨R.RWT_STATUS, 16, 16⟩
/-- RWT_STATUS.STATION_Q, RO. -/
def F.RWT_STATUS.STATION_Q : Field := ⟨R.RWT_STATUS, 8, 2⟩
/-- RWT_STATUS.STATE, RO. -/
def F.RWT_STATUS.STATE : Field := ⟨R.RWT_STATUS, 0, 3⟩
/-- RWT_DELAY.MEAN_DELAY, RO. -/
def F.RWT_DELAY.MEAN_DELAY : Field := ⟨R.RWT_DELAY, 0, 16⟩
/-- RWT_SYNC_CFG.INTERVAL_US, RW. -/
def F.RWT_SYNC_CFG.INTERVAL_US : Field := ⟨R.RWT_SYNC_CFG, 16, 16⟩
/-- RWT_SYNC_CFG.LOST_NS, RW. -/
def F.RWT_SYNC_CFG.LOST_NS : Field := ⟨R.RWT_SYNC_CFG, 8, 4⟩
/-- RWT_SYNC_CFG.DRIFT_NS, RW. -/
def F.RWT_SYNC_CFG.DRIFT_NS : Field := ⟨R.RWT_SYNC_CFG, 4, 4⟩
/-- RWT_SYNC_CFG.LOCK_SETS, RW. -/
def F.RWT_SYNC_CFG.LOCK_SETS : Field := ⟨R.RWT_SYNC_CFG, 0, 4⟩
/-- RWT_CTRL.RELOCK, W1S. -/
def F.RWT_CTRL.RELOCK : Field := ⟨R.RWT_CTRL, 0, 1⟩
/-- JCT_CTRL.T6_ACC_K, RW. -/
def F.JCT_CTRL.T6_ACC_K : Field := ⟨R.JCT_CTRL, 16, 8⟩
/-- JCT_CTRL.ABORT_ALL, W1S. -/
def F.JCT_CTRL.ABORT_ALL : Field := ⟨R.JCT_CTRL, 1, 1⟩
/-- JCT_CTRL.EN, RW. -/
def F.JCT_CTRL.EN : Field := ⟨R.JCT_CTRL, 0, 1⟩
/-- JCT_STATUS.FREE_CHUNKS, RO. -/
def F.JCT_STATUS.FREE_CHUNKS : Field := ⟨R.JCT_STATUS, 24, 8⟩
/-- JCT_STATUS.GROUPS_OPEN, RO. -/
def F.JCT_STATUS.GROUPS_OPEN : Field := ⟨R.JCT_STATUS, 0, 13⟩
/-- JCT_SEED.SEED, RW. -/
def F.JCT_SEED.SEED : Field := ⟨R.JCT_SEED, 0, 32⟩
/-- JCT_TIMEOUT.MCAST_US, RW. -/
def F.JCT_TIMEOUT.MCAST_US : Field := ⟨R.JCT_TIMEOUT, 16, 16⟩
/-- JCT_TIMEOUT.GROUP_100US, RW. -/
def F.JCT_TIMEOUT.GROUP_100US : Field := ⟨R.JCT_TIMEOUT, 0, 16⟩
/-- JCT_MEMBERS.FREE, RO. -/
def F.JCT_MEMBERS.FREE : Field := ⟨R.JCT_MEMBERS, 0, 16⟩
/-- JCT_GRP_SEL.GROUP, RW. -/
def F.JCT_GRP_SEL.GROUP : Field := ⟨R.JCT_GRP_SEL, 0, 12⟩
/-- JCT_GRP_STATE.STATE, RO. -/
def F.JCT_GRP_STATE.STATE : Field := ⟨R.JCT_GRP_STATE, 28, 4⟩
/-- JCT_GRP_STATE.RESULT, RO. -/
def F.JCT_GRP_STATE.RESULT : Field := ⟨R.JCT_GRP_STATE, 24, 4⟩
/-- JCT_GRP_STATE.MEMBERS, RO. -/
def F.JCT_GRP_STATE.MEMBERS : Field := ⟨R.JCT_GRP_STATE, 13, 9⟩
/-- JCT_GRP_STATE.DONE, RO. -/
def F.JCT_GRP_STATE.DONE : Field := ⟨R.JCT_GRP_STATE, 4, 9⟩
/-- JCT_GRP_ACC.T6, RO. -/
def F.JCT_GRP_ACC.T6 : Field := ⟨R.JCT_GRP_ACC, 31, 1⟩
/-- JCT_GRP_ACC.ELEMS, RO. -/
def F.JCT_GRP_ACC.ELEMS : Field := ⟨R.JCT_GRP_ACC, 0, 18⟩
/-- JCT_GRP_LEAVES.LEAVES, RO. -/
def F.JCT_GRP_LEAVES.LEAVES : Field := ⟨R.JCT_GRP_LEAVES, 0, 21⟩
/-- JCT_GRP_MAP.MAP, RO. -/
def F.JCT_GRP_MAP.MAP : Field := ⟨R.JCT_GRP_MAP, 0, 32⟩
/-- JCT_LAST.RESULT, RO. -/
def F.JCT_LAST.RESULT : Field := ⟨R.JCT_LAST, 28, 4⟩
/-- JCT_LAST.GROUP, RO. -/
def F.JCT_LAST.GROUP : Field := ⟨R.JCT_LAST, 0, 12⟩
/-- JCT_ELEMS_LO.COUNT, RO. -/
def F.JCT_ELEMS_LO.COUNT : Field := ⟨R.JCT_ELEMS_LO, 0, 32⟩
/-- JCT_ELEMS_HI.COUNT, RO. -/
def F.JCT_ELEMS_HI.COUNT : Field := ⟨R.JCT_ELEMS_HI, 0, 32⟩
/-- ASP_CTRL.EN, RW. -/
def F.ASP_CTRL.EN : Field := ⟨R.ASP_CTRL, 0, 1⟩
/-- ASP_STATUS.DEST_GROUPS, RO. -/
def F.ASP_STATUS.DEST_GROUPS : Field := ⟨R.ASP_STATUS, 16, 8⟩
/-- ASP_STATUS.MEMBERSHIPS, RO. -/
def F.ASP_STATUS.MEMBERSHIPS : Field := ⟨R.ASP_STATUS, 0, 9⟩
/-- ASP_CFG.CTL_LEAD_US, RW. -/
def F.ASP_CFG.CTL_LEAD_US : Field := ⟨R.ASP_CFG, 24, 8⟩
/-- ASP_CFG.FB_SLACK_US, RW. -/
def F.ASP_CFG.FB_SLACK_US : Field := ⟨R.ASP_CFG, 16, 8⟩
/-- ASP_CFG.FB_HOLD_MS, RW. -/
def F.ASP_CFG.FB_HOLD_MS : Field := ⟨R.ASP_CFG, 0, 16⟩
/-- ASP_TRACK.TRIM_THRESH, RW. -/
def F.ASP_TRACK.TRIM_THRESH : Field := ⟨R.ASP_TRACK, 16, 16⟩
/-- ASP_TRACK.MU_LOG2, RW. -/
def F.ASP_TRACK.MU_LOG2 : Field := ⟨R.ASP_TRACK, 8, 4⟩
/-- ASP_TRACK.ALPHA_LOG2, RW. -/
def F.ASP_TRACK.ALPHA_LOG2 : Field := ⟨R.ASP_TRACK, 0, 4⟩
/-- ASP_GRP_SEL.GROUP, RW. -/
def F.ASP_GRP_SEL.GROUP : Field := ⟨R.ASP_GRP_SEL, 0, 12⟩
/-- ASP_GRP_STATE.STATE, RO. -/
def F.ASP_GRP_STATE.STATE : Field := ⟨R.ASP_GRP_STATE, 28, 4⟩
/-- ASP_GRP_STATE.RESULT, RO. -/
def F.ASP_GRP_STATE.RESULT : Field := ⟨R.ASP_GRP_STATE, 24, 4⟩
/-- ASP_GRP_STATE.N, RO. -/
def F.ASP_GRP_STATE.N : Field := ⟨R.ASP_GRP_STATE, 16, 6⟩
/-- ASP_GRP_STATE.LAST_RESIDUAL, RO. -/
def F.ASP_GRP_STATE.LAST_RESIDUAL : Field := ⟨R.ASP_GRP_STATE, 0, 16⟩
/-- ASP_GRP_REF.G_REF, RO. -/
def F.ASP_GRP_REF.G_REF : Field := ⟨R.ASP_GRP_REF, 16, 16⟩
/-- ASP_GRP_REF.O, RO. -/
def F.ASP_GRP_REF.O : Field := ⟨R.ASP_GRP_REF, 0, 16⟩
/-- ASP_GRP_CON.STATE, RO. -/
def F.ASP_GRP_CON.STATE : Field := ⟨R.ASP_GRP_CON, 30, 2⟩
/-- ASP_GRP_CON.OFFSET, RO. -/
def F.ASP_GRP_CON.OFFSET : Field := ⟨R.ASP_GRP_CON, 16, 12⟩
/-- ASP_GRP_CON.TRIM, RO. -/
def F.ASP_GRP_CON.TRIM : Field := ⟨R.ASP_GRP_CON, 0, 16⟩
/-- MSH_CTRL.RELAY_EN, RW. -/
def F.MSH_CTRL.RELAY_EN : Field := ⟨R.MSH_CTRL, 4, 1⟩
/-- MSH_CTRL.AUTO_PAIR, RW. -/
def F.MSH_CTRL.AUTO_PAIR : Field := ⟨R.MSH_CTRL, 3, 1⟩
/-- MSH_CTRL.HEAT_EN, RW. -/
def F.MSH_CTRL.HEAT_EN : Field := ⟨R.MSH_CTRL, 2, 1⟩
/-- MSH_CTRL.MIG_EN, RW. -/
def F.MSH_CTRL.MIG_EN : Field := ⟨R.MSH_CTRL, 1, 1⟩
/-- MSH_CTRL.EN, RW. -/
def F.MSH_CTRL.EN : Field := ⟨R.MSH_CTRL, 0, 1⟩
/-- MSH_STATUS.STAGED, RO. -/
def F.MSH_STATUS.STAGED : Field := ⟨R.MSH_STATUS, 31, 1⟩
/-- MSH_STATUS.RELEASE_SET, RO. -/
def F.MSH_STATUS.RELEASE_SET : Field := ⟨R.MSH_STATUS, 30, 1⟩
/-- MSH_STATUS.MIGRATING, RO. -/
def F.MSH_STATUS.MIGRATING : Field := ⟨R.MSH_STATUS, 29, 1⟩
/-- MSH_STATUS.DIR_USED, RO. -/
def F.MSH_STATUS.DIR_USED : Field := ⟨R.MSH_STATUS, 0, 17⟩
/-- MSH_GEN.STAGED_GEN, RO. -/
def F.MSH_GEN.STAGED_GEN : Field := ⟨R.MSH_GEN, 16, 16⟩
/-- MSH_GEN.CURRENT, RO. -/
def F.MSH_GEN.CURRENT : Field := ⟨R.MSH_GEN, 0, 16⟩
/-- MSH_COST_CFG.LOAD_W, RW. -/
def F.MSH_COST_CFG.LOAD_W : Field := ⟨R.MSH_COST_CFG, 24, 8⟩
/-- MSH_COST_CFG.IFL_W, RW. -/
def F.MSH_COST_CFG.IFL_W : Field := ⟨R.MSH_COST_CFG, 16, 8⟩
/-- MSH_COST_CFG.DIST_W2, RW. -/
def F.MSH_COST_CFG.DIST_W2 : Field := ⟨R.MSH_COST_CFG, 8, 8⟩
/-- MSH_COST_CFG.DIST_W1, RW. -/
def F.MSH_COST_CFG.DIST_W1 : Field := ⟨R.MSH_COST_CFG, 0, 8⟩
/-- MSH_BEACON_CFG.REPORT_US, RW. -/
def F.MSH_BEACON_CFG.REPORT_US : Field := ⟨R.MSH_BEACON_CFG, 8, 8⟩
/-- MSH_BEACON_CFG.STALE_US, RW. -/
def F.MSH_BEACON_CFG.STALE_US : Field := ⟨R.MSH_BEACON_CFG, 0, 8⟩
/-- MSH_HEAT_CFG.DOM_PCT, RW. -/
def F.MSH_HEAT_CFG.DOM_PCT : Field := ⟨R.MSH_HEAT_CFG, 24, 8⟩
/-- MSH_HEAT_CFG.WINDOW_US, RW. -/
def F.MSH_HEAT_CFG.WINDOW_US : Field := ⟨R.MSH_HEAT_CFG, 0, 16⟩
/-- MSH_HEAT_CFG2.HOT_COUNT, RW. -/
def F.MSH_HEAT_CFG2.HOT_COUNT : Field := ⟨R.MSH_HEAT_CFG2, 16, 16⟩
/-- MSH_HEAT_CFG2.DWELL_MS, RW. -/
def F.MSH_HEAT_CFG2.DWELL_MS : Field := ⟨R.MSH_HEAT_CFG2, 0, 16⟩
/-- MSH_MIG_CFG.CUT_PAGES, RW. -/
def F.MSH_MIG_CFG.CUT_PAGES : Field := ⟨R.MSH_MIG_CFG, 16, 8⟩
/-- MSH_MIG_CFG.MAX_ROUNDS, RW. -/
def F.MSH_MIG_CFG.MAX_ROUNDS : Field := ⟨R.MSH_MIG_CFG, 8, 4⟩
/-- MSH_MIG_CFG.INFLIGHT, RW. -/
def F.MSH_MIG_CFG.INFLIGHT : Field := ⟨R.MSH_MIG_CFG, 0, 8⟩
/-- MSH_MIG_STATUS.STATE, RO. -/
def F.MSH_MIG_STATUS.STATE : Field := ⟨R.MSH_MIG_STATUS, 29, 3⟩
/-- MSH_MIG_STATUS.ROUND, RO. -/
def F.MSH_MIG_STATUS.ROUND : Field := ⟨R.MSH_MIG_STATUS, 26, 3⟩
/-- MSH_MIG_STATUS.DIRTY, RO. -/
def F.MSH_MIG_STATUS.DIRTY : Field := ⟨R.MSH_MIG_STATUS, 0, 17⟩
/-- MSH_MIG_REC.RECORD, RO. -/
def F.MSH_MIG_REC.RECORD : Field := ⟨R.MSH_MIG_REC, 0, 16⟩
/-- MSH_LOAD.WORK_LOAD, RO. -/
def F.MSH_LOAD.WORK_LOAD : Field := ⟨R.MSH_LOAD, 0, 8⟩
/-- MSH_BIND_SEL.LID, RW. -/
def F.MSH_BIND_SEL.LID : Field := ⟨R.MSH_BIND_SEL, 0, 16⟩
/-- MSH_BIND_LO.ENTRY, RO. -/
def F.MSH_BIND_LO.ENTRY : Field := ⟨R.MSH_BIND_LO, 0, 32⟩
/-- MSH_BIND_HI.ENTRY, RO. -/
def F.MSH_BIND_HI.ENTRY : Field := ⟨R.MSH_BIND_HI, 0, 32⟩
/-- MSH_RING_PROD.PROD, RO. -/
def F.MSH_RING_PROD.PROD : Field := ⟨R.MSH_RING_PROD, 0, 32⟩
/-- MSH_RING_CONS.CONS, RW. -/
def F.MSH_RING_CONS.CONS : Field := ⟨R.MSH_RING_CONS, 0, 32⟩
/-- SBX_VTX_CTRL.MBX_GO, W1S. -/
def F.SBX_VTX_CTRL.MBX_GO : Field := ⟨R.SBX_VTX_CTRL, 8, 1⟩
/-- SBX_VTX_CTRL.REMOTE_SIGNED_EN, RW. -/
def F.SBX_VTX_CTRL.REMOTE_SIGNED_EN : Field := ⟨R.SBX_VTX_CTRL, 2, 1⟩
/-- SBX_VTX_CTRL.REMOTE_READ_EN, RW. -/
def F.SBX_VTX_CTRL.REMOTE_READ_EN : Field := ⟨R.SBX_VTX_CTRL, 1, 1⟩
/-- SBX_VTX_CTRL.RING_EN, RW. -/
def F.SBX_VTX_CTRL.RING_EN : Field := ⟨R.SBX_VTX_CTRL, 0, 1⟩
/-- SBX_VTX_STATUS.INTERP_READY, RO. -/
def F.SBX_VTX_STATUS.INTERP_READY : Field := ⟨R.SBX_VTX_STATUS, 31, 1⟩
/-- SBX_VTX_STATUS.IN_PROGRESS, RO. -/
def F.SBX_VTX_STATUS.IN_PROGRESS : Field := ⟨R.SBX_VTX_STATUS, 16, 8⟩
/-- SBX_VTX_STATUS.SLOTS_USED, RO. -/
def F.SBX_VTX_STATUS.SLOTS_USED : Field := ⟨R.SBX_VTX_STATUS, 8, 8⟩
/-- SBX_VTX_STATUS.REMOTE_CTX, RO. -/
def F.SBX_VTX_STATUS.REMOTE_CTX : Field := ⟨R.SBX_VTX_STATUS, 0, 6⟩
/-- SBX_RING_BASE_LO.ADDR, RW. -/
def F.SBX_RING_BASE_LO.ADDR : Field := ⟨R.SBX_RING_BASE_LO, 0, 32⟩
/-- SBX_RING_BASE_HI.ADDR, RW. -/
def F.SBX_RING_BASE_HI.ADDR : Field := ⟨R.SBX_RING_BASE_HI, 0, 32⟩
/-- SBX_RING_CFG.PORT, RW. -/
def F.SBX_RING_CFG.PORT : Field := ⟨R.SBX_RING_CFG, 8, 3⟩
/-- SBX_RING_CFG.SLOTS_LOG2, RW. -/
def F.SBX_RING_CFG.SLOTS_LOG2 : Field := ⟨R.SBX_RING_CFG, 0, 4⟩
/-- SBX_RING_PROD.COUNT, RW. -/
def F.SBX_RING_PROD.COUNT : Field := ⟨R.SBX_RING_PROD, 0, 16⟩
/-- SBX_RING_CONS.COUNT, RO. -/
def F.SBX_RING_CONS.COUNT : Field := ⟨R.SBX_RING_CONS, 0, 16⟩
/-- SBX_RPL_TAG.TAG, RW. -/
def F.SBX_RPL_TAG.TAG : Field := ⟨R.SBX_RPL_TAG, 0, 16⟩
/-- SBX_RPL_HDR.RSTAT, RO. -/
def F.SBX_RPL_HDR.RSTAT : Field := ⟨R.SBX_RPL_HDR, 16, 16⟩
/-- SBX_RPL_HDR.STATUS, RO. -/
def F.SBX_RPL_HDR.STATUS : Field := ⟨R.SBX_RPL_HDR, 0, 16⟩
/-- SBX_RPL_INFO.TAG, RO. -/
def F.SBX_RPL_INFO.TAG : Field := ⟨R.SBX_RPL_INFO, 16, 16⟩
/-- SBX_RPL_INFO.RERUN, RO. -/
def F.SBX_RPL_INFO.RERUN : Field := ⟨R.SBX_RPL_INFO, 15, 1⟩
/-- SBX_RPL_INFO.ALREADY_READ, RO. -/
def F.SBX_RPL_INFO.ALREADY_READ : Field := ⟨R.SBX_RPL_INFO, 14, 1⟩
/-- SBX_RPL_INFO.DONE, RO. -/
def F.SBX_RPL_INFO.DONE : Field := ⟨R.SBX_RPL_INFO, 13, 1⟩
/-- SBX_RPL_INFO.RESULT_LEN, RO. -/
def F.SBX_RPL_INFO.RESULT_LEN : Field := ⟨R.SBX_RPL_INFO, 0, 11⟩
/-- SBX_RPL_ACK.TAG, WO. -/
def F.SBX_RPL_ACK.TAG : Field := ⟨R.SBX_RPL_ACK, 0, 16⟩
/-- SBX_CPL_FIFO.VALID, RC. -/
def F.SBX_CPL_FIFO.VALID : Field := ⟨R.SBX_CPL_FIFO, 31, 1⟩
/-- SBX_CPL_FIFO.TAG, RC. -/
def F.SBX_CPL_FIFO.TAG : Field := ⟨R.SBX_CPL_FIFO, 0, 16⟩
/-- SBX_MBX_WIN.DATA, RW. -/
def F.SBX_MBX_WIN.DATA : Field := ⟨R.SBX_MBX_WIN, 0, 32⟩
/-- SBX_RPL_DATA.DATA, RO. -/
def F.SBX_RPL_DATA.DATA : Field := ⟨R.SBX_RPL_DATA, 0, 32⟩
/-- SBX_CTRL.FAILOVER, W1S. -/
def F.SBX_CTRL.FAILOVER : Field := ⟨R.SBX_CTRL, 2, 1⟩
/-- SBX_CTRL.AUTO_FAILOVER, RW. -/
def F.SBX_CTRL.AUTO_FAILOVER : Field := ⟨R.SBX_CTRL, 1, 1⟩
/-- SBX_CTRL.TAKEBACK_EN, RW. -/
def F.SBX_CTRL.TAKEBACK_EN : Field := ⟨R.SBX_CTRL, 0, 1⟩
/-- SBX_STATUS.ACTIVE, RO. -/
def F.SBX_STATUS.ACTIVE : Field := ⟨R.SBX_STATUS, 31, 1⟩
/-- SBX_STATUS.TOKEN_OK, RO. -/
def F.SBX_STATUS.TOKEN_OK : Field := ⟨R.SBX_STATUS, 30, 1⟩
/-- SBX_STATUS.TIE_PENDING, RO. -/
def F.SBX_STATUS.TIE_PENDING : Field := ⟨R.SBX_STATUS, 29, 1⟩
/-- SBX_STATUS.A_STATE, RO. -/
def F.SBX_STATUS.A_STATE : Field := ⟨R.SBX_STATUS, 20, 4⟩
/-- SBX_STATUS.B_STATE, RO. -/
def F.SBX_STATUS.B_STATE : Field := ⟨R.SBX_STATUS, 16, 4⟩
/-- SBX_STATUS.HOLDOFF_LEFT, RO. -/
def F.SBX_STATUS.HOLDOFF_LEFT : Field := ⟨R.SBX_STATUS, 0, 16⟩
/-- SBX_JRNL.GEN, RO. -/
def F.SBX_JRNL.GEN : Field := ⟨R.SBX_JRNL, 0, 32⟩
/-- SBX_TIMING.TAKEBACK_WAIT_US, RW. -/
def F.SBX_TIMING.TAKEBACK_WAIT_US : Field := ⟨R.SBX_TIMING, 16, 16⟩
/-- SBX_TIMING.HOLDOFF_MS, RW. -/
def F.SBX_TIMING.HOLDOFF_MS : Field := ⟨R.SBX_TIMING, 0, 16⟩
/-- SBX_HEALTH.STATE, RO. -/
def F.SBX_HEALTH.STATE : Field := ⟨R.SBX_HEALTH, 28, 4⟩
/-- SBX_HEALTH.ERRORS, RO. -/
def F.SBX_HEALTH.ERRORS : Field := ⟨R.SBX_HEALTH, 16, 8⟩
/-- SBX_HEALTH.PASSES, RO. -/
def F.SBX_HEALTH.PASSES : Field := ⟨R.SBX_HEALTH, 0, 16⟩
/-- SBX_HEALTH_TIME_LO.TIME, RO. -/
def F.SBX_HEALTH_TIME_LO.TIME : Field := ⟨R.SBX_HEALTH_TIME_LO, 0, 32⟩
/-- SBX_HEALTH_TIME_HI.TIME, RO. -/
def F.SBX_HEALTH_TIME_HI.TIME : Field := ⟨R.SBX_HEALTH_TIME_HI, 0, 32⟩
/-- SBX_FW_ADDR_LO.ADDR, RW. -/
def F.SBX_FW_ADDR_LO.ADDR : Field := ⟨R.SBX_FW_ADDR_LO, 0, 32⟩
/-- SBX_FW_ADDR_HI.ADDR, RW. -/
def F.SBX_FW_ADDR_HI.ADDR : Field := ⟨R.SBX_FW_ADDR_HI, 0, 32⟩
/-- SBX_FW_CFG.PORT, RW. -/
def F.SBX_FW_CFG.PORT : Field := ⟨R.SBX_FW_CFG, 8, 3⟩
/-- SBX_FW_VER_A.MAJOR, RO. -/
def F.SBX_FW_VER_A.MAJOR : Field := ⟨R.SBX_FW_VER_A, 24, 8⟩
/-- SBX_FW_VER_A.MINOR, RO. -/
def F.SBX_FW_VER_A.MINOR : Field := ⟨R.SBX_FW_VER_A, 16, 8⟩
/-- SBX_FW_VER_A.PATCH, RO. -/
def F.SBX_FW_VER_A.PATCH : Field := ⟨R.SBX_FW_VER_A, 8, 8⟩
/-- SBX_FW_VER_A.LOADER_CODE, RO. -/
def F.SBX_FW_VER_A.LOADER_CODE : Field := ⟨R.SBX_FW_VER_A, 0, 4⟩
/-- SBX_FW_VER_B.MAJOR, RO. -/
def F.SBX_FW_VER_B.MAJOR : Field := ⟨R.SBX_FW_VER_B, 24, 8⟩
/-- SBX_FW_VER_B.MINOR, RO. -/
def F.SBX_FW_VER_B.MINOR : Field := ⟨R.SBX_FW_VER_B, 16, 8⟩
/-- SBX_FW_VER_B.PATCH, RO. -/
def F.SBX_FW_VER_B.PATCH : Field := ⟨R.SBX_FW_VER_B, 8, 8⟩
/-- SBX_FW_VER_B.LOADER_CODE, RO. -/
def F.SBX_FW_VER_B.LOADER_CODE : Field := ⟨R.SBX_FW_VER_B, 0, 4⟩
/-- SBX_FO_INFO.CAUSE, RO. -/
def F.SBX_FO_INFO.CAUSE : Field := ⟨R.SBX_FO_INFO, 28, 4⟩
/-- SBX_FO_INFO.FROM, RO. -/
def F.SBX_FO_INFO.FROM : Field := ⟨R.SBX_FO_INFO, 27, 1⟩
/-- SBX_FO_INFO.LONE, RO. -/
def F.SBX_FO_INFO.LONE : Field := ⟨R.SBX_FO_INFO, 26, 1⟩
/-- SBX_FO_INFO.DURATION_US, RO. -/
def F.SBX_FO_INFO.DURATION_US : Field := ⟨R.SBX_FO_INFO, 0, 16⟩
/-- SBX_FO_TIME_LO.TIME, RO. -/
def F.SBX_FO_TIME_LO.TIME : Field := ⟨R.SBX_FO_TIME_LO, 0, 32⟩
/-- SBX_FO_TIME_HI.TIME, RO. -/
def F.SBX_FO_TIME_HI.TIME : Field := ⟨R.SBX_FO_TIME_HI, 0, 32⟩
/-- PCM_CTRL.WAKE_AT_EN, RW. -/
def F.PCM_CTRL.WAKE_AT_EN : Field := ⟨R.PCM_CTRL, 9, 1⟩
/-- PCM_CTRL.RETAIN_EN, RW. -/
def F.PCM_CTRL.RETAIN_EN : Field := ⟨R.PCM_CTRL, 8, 1⟩
/-- PCM_CTRL.SLEEP, W1S. -/
def F.PCM_CTRL.SLEEP : Field := ⟨R.PCM_CTRL, 5, 1⟩
/-- PCM_CTRL.WAKE, W1S. -/
def F.PCM_CTRL.WAKE : Field := ⟨R.PCM_CTRL, 4, 1⟩
/-- PCM_CTRL.POLICY, RW. -/
def F.PCM_CTRL.POLICY : Field := ⟨R.PCM_CTRL, 0, 2⟩
/-- PCM_STATUS.PSTATE, RO. -/
def F.PCM_STATUS.PSTATE : Field := ⟨R.PCM_STATUS, 29, 3⟩
/-- PCM_STATUS.DEPTH, RO. -/
def F.PCM_STATUS.DEPTH : Field := ⟨R.PCM_STATUS, 26, 2⟩
/-- PCM_STATUS.EFF_POLICY, RO. -/
def F.PCM_STATUS.EFF_POLICY : Field := ⟨R.PCM_STATUS, 24, 2⟩
/-- PCM_STATUS.POWERED_MASK, RO. -/
def F.PCM_STATUS.POWERED_MASK : Field := ⟨R.PCM_STATUS, 16, 8⟩
/-- PCM_STATUS.DOMAIN_ON, RO. -/
def F.PCM_STATUS.DOMAIN_ON : Field := ⟨R.PCM_STATUS, 0, 6⟩
/-- PCM_POLICY_CFG.HIGH_PCT, RW. -/
def F.PCM_POLICY_CFG.HIGH_PCT : Field := ⟨R.PCM_POLICY_CFG, 24, 8⟩
/-- PCM_POLICY_CFG.LOW_PCT, RW. -/
def F.PCM_POLICY_CFG.LOW_PCT : Field := ⟨R.PCM_POLICY_CFG, 16, 8⟩
/-- PCM_POLICY_CFG.WINDOW_US, RW. -/
def F.PCM_POLICY_CFG.WINDOW_US : Field := ⟨R.PCM_POLICY_CFG, 8, 8⟩
/-- PCM_POLICY_CFG.MIN_WIDTH, RW. -/
def F.PCM_POLICY_CFG.MIN_WIDTH : Field := ⟨R.PCM_POLICY_CFG, 0, 4⟩
/-- PCM_IDLE_CFG.SLEEPER_IDLE_US, RW. -/
def F.PCM_IDLE_CFG.SLEEPER_IDLE_US : Field := ⟨R.PCM_IDLE_CFG, 0, 16⟩
/-- PCM_WAKE_AT_LO.TIME, RW. -/
def F.PCM_WAKE_AT_LO.TIME : Field := ⟨R.PCM_WAKE_AT_LO, 0, 32⟩
/-- PCM_WAKE_AT_HI.TIME, RW. -/
def F.PCM_WAKE_AT_HI.TIME : Field := ⟨R.PCM_WAKE_AT_HI, 0, 32⟩
/-- PCM_WAKE_INFO.CAUSE, RO. -/
def F.PCM_WAKE_INFO.CAUSE : Field := ⟨R.PCM_WAKE_INFO, 28, 4⟩
/-- PCM_WAKE_INFO.SLOW, RO. -/
def F.PCM_WAKE_INFO.SLOW : Field := ⟨R.PCM_WAKE_INFO, 27, 1⟩
/-- PCM_WAKE_INFO.DURATION, RO. -/
def F.PCM_WAKE_INFO.DURATION : Field := ⟨R.PCM_WAKE_INFO, 0, 24⟩
/-- PCM_CLK.RATIO, RO. -/
def F.PCM_CLK.RATIO : Field := ⟨R.PCM_CLK, 24, 5⟩
/-- PCM_CLK.PLAT_COUNT, RO. -/
def F.PCM_CLK.PLAT_COUNT : Field := ⟨R.PCM_CLK, 0, 16⟩
/-- PCM_BROWN.ACTIVE, RO. -/
def F.PCM_BROWN.ACTIVE : Field := ⟨R.PCM_BROWN, 31, 1⟩
/-- PCM_BROWN.HOLDUP_US, RO. -/
def F.PCM_BROWN.HOLDUP_US : Field := ⟨R.PCM_BROWN, 0, 16⟩
/-- PCM_BROWN_TIME_LO.TIME, RO. -/
def F.PCM_BROWN_TIME_LO.TIME : Field := ⟨R.PCM_BROWN_TIME_LO, 0, 32⟩
/-- PCM_BROWN_TIME_HI.TIME, RO. -/
def F.PCM_BROWN_TIME_HI.TIME : Field := ⟨R.PCM_BROWN_TIME_HI, 0, 32⟩
/-- PCM_RST_CAUSE.BOX_B, RC. -/
def F.PCM_RST_CAUSE.BOX_B : Field := ⟨R.PCM_RST_CAUSE, 5, 1⟩
/-- PCM_RST_CAUSE.BOX_A, RC. -/
def F.PCM_RST_CAUSE.BOX_A : Field := ⟨R.PCM_RST_CAUSE, 4, 1⟩
/-- PCM_RST_CAUSE.AO_CLK_LOSS, RC. -/
def F.PCM_RST_CAUSE.AO_CLK_LOSS : Field := ⟨R.PCM_RST_CAUSE, 3, 1⟩
/-- PCM_RST_CAUSE.REG, RC. -/
def F.PCM_RST_CAUSE.REG : Field := ⟨R.PCM_RST_CAUSE, 2, 1⟩
/-- PCM_RST_CAUSE.PLAT, RC. -/
def F.PCM_RST_CAUSE.PLAT : Field := ⟨R.PCM_RST_CAUSE, 1, 1⟩
/-- PCM_RST_CAUSE.COLD, RC. -/
def F.PCM_RST_CAUSE.COLD : Field := ⟨R.PCM_RST_CAUSE, 0, 1⟩
/-- IDN_CTRL.LOCK_1, W1S. -/
def F.IDN_CTRL.LOCK_1 : Field := ⟨R.IDN_CTRL, 3, 1⟩
/-- IDN_CTRL.LOCK_0, W1S. -/
def F.IDN_CTRL.LOCK_0 : Field := ⟨R.IDN_CTRL, 2, 1⟩
/-- IDN_CTRL.ENROLL, W1S. -/
def F.IDN_CTRL.ENROLL : Field := ⟨R.IDN_CTRL, 1, 1⟩
/-- IDN_CTRL.DERIVE, W1S. -/
def F.IDN_CTRL.DERIVE : Field := ⟨R.IDN_CTRL, 0, 1⟩
/-- IDN_STATUS.KEY_STATE, RO. -/
def F.IDN_STATUS.KEY_STATE : Field := ⟨R.IDN_STATUS, 30, 2⟩
/-- IDN_STATUS.HELPER_REJECT, RO. -/
def F.IDN_STATUS.HELPER_REJECT : Field := ⟨R.IDN_STATUS, 24, 4⟩
/-- IDN_STATUS.CHAIN_VALID, RO. -/
def F.IDN_STATUS.CHAIN_VALID : Field := ⟨R.IDN_STATUS, 23, 1⟩
/-- IDN_STATUS.STATION_AUTH, RO. -/
def F.IDN_STATUS.STATION_AUTH : Field := ⟨R.IDN_STATUS, 21, 2⟩
/-- IDN_STATUS.AUTHKEY1_VALID, RO. -/
def F.IDN_STATUS.AUTHKEY1_VALID : Field := ⟨R.IDN_STATUS, 20, 1⟩
/-- IDN_STATUS.AUTHKEY0_VALID, RO. -/
def F.IDN_STATUS.AUTHKEY0_VALID : Field := ⟨R.IDN_STATUS, 19, 1⟩
/-- IDN_STATUS.CHAIN_LEN, RO. -/
def F.IDN_STATUS.CHAIN_LEN : Field := ⟨R.IDN_STATUS, 0, 14⟩
/-- IDN_AUTH_CFG.MAX_LIFE_MS, RW. -/
def F.IDN_AUTH_CFG.MAX_LIFE_MS : Field := ⟨R.IDN_AUTH_CFG, 0, 16⟩
/-- IDN_AUTH_CTR0_LO.COUNTER, RO. -/
def F.IDN_AUTH_CTR0_LO.COUNTER : Field := ⟨R.IDN_AUTH_CTR0_LO, 0, 32⟩
/-- IDN_AUTH_CTR0_HI.COUNTER, RO. -/
def F.IDN_AUTH_CTR0_HI.COUNTER : Field := ⟨R.IDN_AUTH_CTR0_HI, 0, 32⟩
/-- IDN_AUTH_CTR1_LO.COUNTER, RO. -/
def F.IDN_AUTH_CTR1_LO.COUNTER : Field := ⟨R.IDN_AUTH_CTR1_LO, 0, 32⟩
/-- IDN_AUTH_CTR1_HI.COUNTER, RO. -/
def F.IDN_AUTH_CTR1_HI.COUNTER : Field := ⟨R.IDN_AUTH_CTR1_HI, 0, 32⟩
/-- IDN_PUBKEY_WIN.DATA, RO. -/
def F.IDN_PUBKEY_WIN.DATA : Field := ⟨R.IDN_PUBKEY_WIN, 0, 32⟩
/-- IDN_AUTHKEY_WIN_0.DATA, RW. -/
def F.IDN_AUTHKEY_WIN_0.DATA : Field := ⟨R.IDN_AUTHKEY_WIN_0, 0, 32⟩
/-- IDN_AUTHKEY_WIN_1.DATA, RW. -/
def F.IDN_AUTHKEY_WIN_1.DATA : Field := ⟨R.IDN_AUTHKEY_WIN_1, 0, 32⟩
/-- IDN_HELPER_WIN.DATA, RW. -/
def F.IDN_HELPER_WIN.DATA : Field := ⟨R.IDN_HELPER_WIN, 0, 32⟩
/-- FLT_CTRL.HIGH_WATER, RW. -/
def F.FLT_CTRL.HIGH_WATER : Field := ⟨R.FLT_CTRL, 16, 10⟩
/-- FLT_CTRL.MERGE_US, RW. -/
def F.FLT_CTRL.MERGE_US : Field := ⟨R.FLT_CTRL, 8, 8⟩
/-- FLT_CTRL.INFO_LOG, RW. -/
def F.FLT_CTRL.INFO_LOG : Field := ⟨R.FLT_CTRL, 0, 1⟩
/-- FLT_WR.WR_IDX, RO. -/
def F.FLT_WR.WR_IDX : Field := ⟨R.FLT_WR, 0, 10⟩
/-- FLT_RD.RD_IDX, RW. -/
def F.FLT_RD.RD_IDX : Field := ⟨R.FLT_RD, 0, 10⟩
/-- FLT_STATUS.FULL, RO. -/
def F.FLT_STATUS.FULL : Field := ⟨R.FLT_STATUS, 31, 1⟩
/-- FLT_STATUS.UNREAD, RO. -/
def F.FLT_STATUS.UNREAD : Field := ⟨R.FLT_STATUS, 0, 11⟩
/-- FLT_SEQ.NEXT_SEQ, RO. -/
def F.FLT_SEQ.NEXT_SEQ : Field := ⟨R.FLT_SEQ, 0, 32⟩
/-- FLT_SUM_FAULT.REGIONS, RO. -/
def F.FLT_SUM_FAULT.REGIONS : Field := ⟨R.FLT_SUM_FAULT, 0, 14⟩
/-- FLT_SUM_CMPL.REGIONS, RO. -/
def F.FLT_SUM_CMPL.REGIONS : Field := ⟨R.FLT_SUM_CMPL, 0, 14⟩
/-- FLT_SUM_INFO.REGIONS, RO. -/
def F.FLT_SUM_INFO.REGIONS : Field := ⟨R.FLT_SUM_INFO, 0, 14⟩
/-- FLT_WIN.DATA, RO. -/
def F.FLT_WIN.DATA : Field := ⟨R.FLT_WIN, 0, 32⟩
/-- GBL_PRODUCT.VENDOR, RO. -/
def F.GBL_PRODUCT.VENDOR : Field := ⟨R.GBL_PRODUCT, 16, 16⟩
/-- GBL_PRODUCT.LINE, RO. -/
def F.GBL_PRODUCT.LINE : Field := ⟨R.GBL_PRODUCT, 8, 8⟩
/-- GBL_PRODUCT.N, RO. -/
def F.GBL_PRODUCT.N : Field := ⟨R.GBL_PRODUCT, 0, 8⟩
/-- GBL_RELEASE.MAJOR, RO. -/
def F.GBL_RELEASE.MAJOR : Field := ⟨R.GBL_RELEASE, 24, 8⟩
/-- GBL_RELEASE.MINOR, RO. -/
def F.GBL_RELEASE.MINOR : Field := ⟨R.GBL_RELEASE, 16, 8⟩
/-- GBL_RELEASE.STEP_LETTER, RO. -/
def F.GBL_RELEASE.STEP_LETTER : Field := ⟨R.GBL_RELEASE, 8, 8⟩
/-- GBL_RELEASE.STEP_DIGIT, RO. -/
def F.GBL_RELEASE.STEP_DIGIT : Field := ⟨R.GBL_RELEASE, 0, 8⟩
/-- GBL_FW_VER.MAJOR, RO. -/
def F.GBL_FW_VER.MAJOR : Field := ⟨R.GBL_FW_VER, 24, 8⟩
/-- GBL_FW_VER.MINOR, RO. -/
def F.GBL_FW_VER.MINOR : Field := ⟨R.GBL_FW_VER, 16, 8⟩
/-- GBL_FW_VER.PATCH, RO. -/
def F.GBL_FW_VER.PATCH : Field := ⟨R.GBL_FW_VER, 8, 8⟩
/-- GBL_FW_VER.VALID, RO. -/
def F.GBL_FW_VER.VALID : Field := ⟨R.GBL_FW_VER, 0, 1⟩
/-- GBL_LINK.PHYS_VALID, RO. -/
def F.GBL_LINK.PHYS_VALID : Field := ⟨R.GBL_LINK, 31, 1⟩
/-- GBL_LINK.PHYS_ID, RO. -/
def F.GBL_LINK.PHYS_ID : Field := ⟨R.GBL_LINK, 16, 14⟩
/-- GBL_LINK.GEN, RO. -/
def F.GBL_LINK.GEN : Field := ⟨R.GBL_LINK, 0, 2⟩
/-- GBL_PARAM.REG_CLK_MAX_DIV2, RO. -/
def F.GBL_PARAM.REG_CLK_MAX_DIV2 : Field := ⟨R.GBL_PARAM, 24, 8⟩
/-- GBL_PARAM.WSP_SOURCE, RO. -/
def F.GBL_PARAM.WSP_SOURCE : Field := ⟨R.GBL_PARAM, 17, 1⟩
/-- GBL_PARAM.BUMP_ORIENT, RO. -/
def F.GBL_PARAM.BUMP_ORIENT : Field := ⟨R.GBL_PARAM, 16, 1⟩
/-- GBL_PARAM.RATIO, RO. -/
def F.GBL_PARAM.RATIO : Field := ⟨R.GBL_PARAM, 8, 5⟩
/-- GBL_PARAM.PORTS, RO. -/
def F.GBL_PARAM.PORTS : Field := ⟨R.GBL_PARAM, 0, 4⟩
/-- GBL_IDCODE.VERSION, RO. -/
def F.GBL_IDCODE.VERSION : Field := ⟨R.GBL_IDCODE, 28, 4⟩
/-- GBL_IDCODE.PART, RO. -/
def F.GBL_IDCODE.PART : Field := ⟨R.GBL_IDCODE, 12, 16⟩
/-- GBL_IDCODE.MANUF, RO. -/
def F.GBL_IDCODE.MANUF : Field := ⟨R.GBL_IDCODE, 1, 11⟩
/-- GBL_IDCODE.ONE, RO. -/
def F.GBL_IDCODE.ONE : Field := ⟨R.GBL_IDCODE, 0, 1⟩
/-- GBL_START.FAIL_CODE, RO. -/
def F.GBL_START.FAIL_CODE : Field := ⟨R.GBL_START, 4, 4⟩
/-- GBL_START.STEP, RO. -/
def F.GBL_START.STEP : Field := ⟨R.GBL_START, 0, 4⟩
/-- GBL_SCRATCH.DATA, RW. -/
def F.GBL_SCRATCH.DATA : Field := ⟨R.GBL_SCRATCH, 0, 32⟩

/-! ## Causes (R420) -/

/-- SEAM_EVT.SLEEPER_LOSS: fault line. -/
def C.SEAM.SLEEPER_LOSS : Cause := ⟨R.SEAM_EVT, 8, R.SEAM_EVT_CNT + 32, .fault, 0x01⟩
/-- SEAM_EVT.UNATTRIBUTED: fault line. -/
def C.SEAM.UNATTRIBUTED : Cause := ⟨R.SEAM_EVT, 7, R.SEAM_EVT_CNT + 28, .fault, 0x01⟩
/-- SEAM_EVT.CTRL_TIMEOUT: fault line. -/
def C.SEAM.CTRL_TIMEOUT : Cause := ⟨R.SEAM_EVT, 6, R.SEAM_EVT_CNT + 24, .fault, 0x01⟩
/-- SEAM_EVT.WIDTH_REFUSED: info line. -/
def C.SEAM.WIDTH_REFUSED : Cause := ⟨R.SEAM_EVT, 5, R.SEAM_EVT_CNT + 20, .info, 0x01⟩
/-- SEAM_EVT.WIDTH_DONE: cmpl line. -/
def C.SEAM.WIDTH_DONE : Cause := ⟨R.SEAM_EVT, 4, R.SEAM_EVT_CNT + 16, .cmpl, 0x01⟩
/-- SEAM_EVT.SPARE_LOST: fault line. -/
def C.SEAM.SPARE_LOST : Cause := ⟨R.SEAM_EVT, 3, R.SEAM_EVT_CNT + 12, .fault, 0x01⟩
/-- SEAM_EVT.SLEEVE_RETIRED: fault line. -/
def C.SEAM.SLEEVE_RETIRED : Cause := ⟨R.SEAM_EVT, 2, R.SEAM_EVT_CNT + 8, .fault, 0x01⟩
/-- SEAM_EVT.LANE_DARNED: info line. -/
def C.SEAM.LANE_DARNED : Cause := ⟨R.SEAM_EVT, 1, R.SEAM_EVT_CNT + 4, .info, 0x01⟩
/-- SEAM_EVT.LANE_FAILED: fault line. -/
def C.SEAM.LANE_FAILED : Cause := ⟨R.SEAM_EVT, 0, R.SEAM_EVT_CNT + 0, .fault, 0x01⟩
/-- TLR_EVT.TRAIN_DONE: cmpl line. -/
def C.TLR.TRAIN_DONE : Cause := ⟨R.TLR_EVT, 6, R.TLR_EVT_CNT + 24, .cmpl, 0x01⟩
/-- TLR_EVT.RESTORE_DONE: cmpl line. -/
def C.TLR.RESTORE_DONE : Cause := ⟨R.TLR_EVT, 5, R.TLR_EVT_CNT + 20, .cmpl, 0x01⟩
/-- TLR_EVT.RESTORE_REJECTED: info line. -/
def C.TLR.RESTORE_REJECTED : Cause := ⟨R.TLR_EVT, 4, R.TLR_EVT_CNT + 16, .info, 0x01⟩
/-- TLR_EVT.SNAP_FROZEN: info line. -/
def C.TLR.SNAP_FROZEN : Cause := ⟨R.TLR_EVT, 3, R.TLR_EVT_CNT + 12, .info, 0x01⟩
/-- TLR_EVT.VERIFY_FAIL: fault line. -/
def C.TLR.VERIFY_FAIL : Cause := ⟨R.TLR_EVT, 2, R.TLR_EVT_CNT + 8, .fault, 0x01⟩
/-- TLR_EVT.PASS_ABANDONED: info line. -/
def C.TLR.PASS_ABANDONED : Cause := ⟨R.TLR_EVT, 1, R.TLR_EVT_CNT + 4, .info, 0x01⟩
/-- TLR_EVT.STARVED: info line. -/
def C.TLR.STARVED : Cause := ⟨R.TLR_EVT, 0, R.TLR_EVT_CNT + 0, .info, 0x01⟩
/-- LNK_EVT.SIDING_STALL: info line. -/
def C.LNK.SIDING_STALL : Cause := ⟨R.LNK_EVT, 8, R.LNK_EVT_CNT + 32, .info, 0x02⟩
/-- LNK_EVT.PROTOCOL: fault line. -/
def C.LNK.PROTOCOL : Cause := ⟨R.LNK_EVT, 7, R.LNK_EVT_CNT + 28, .fault, 0x0D⟩
/-- LNK_EVT.FEC_UNCORR: fault line. -/
def C.LNK.FEC_UNCORR : Cause := ⟨R.LNK_EVT, 6, R.LNK_EVT_CNT + 24, .fault, 0x03⟩
/-- LNK_EVT.LINK_UP: cmpl line. -/
def C.LNK.LINK_UP : Cause := ⟨R.LNK_EVT, 5, R.LNK_EVT_CNT + 20, .cmpl, 0x02⟩
/-- LNK_EVT.FLUSHED: fault line. -/
def C.LNK.FLUSHED : Cause := ⟨R.LNK_EVT, 4, R.LNK_EVT_CNT + 16, .fault, 0x02⟩
/-- LNK_EVT.LINK_DOWN: fault line. -/
def C.LNK.LINK_DOWN : Cause := ⟨R.LNK_EVT, 3, R.LNK_EVT_CNT + 12, .fault, 0x02⟩
/-- LNK_EVT.RETRAIN_FAIL: fault line. -/
def C.LNK.RETRAIN_FAIL : Cause := ⟨R.LNK_EVT, 2, R.LNK_EVT_CNT + 8, .fault, 0x02⟩
/-- LNK_EVT.RETRAIN: info line. -/
def C.LNK.RETRAIN : Cause := ⟨R.LNK_EVT, 1, R.LNK_EVT_CNT + 4, .info, 0x02⟩
/-- LNK_EVT.REPLAY: info line. -/
def C.LNK.REPLAY : Cause := ⟨R.LNK_EVT, 0, R.LNK_EVT_CNT + 0, .info, 0x02⟩
/-- MNF_EVT.CFG_REJECT: info line. -/
def C.MNF.CFG_REJECT : Cause := ⟨R.MNF_EVT, 11, R.MNF_EVT_CNT + 44, .info, 0x04⟩
/-- MNF_EVT.NO_ROUTE: info line. -/
def C.MNF.NO_ROUTE : Cause := ⟨R.MNF_EVT, 10, R.MNF_EVT_CNT + 40, .info, 0x04⟩
/-- MNF_EVT.PROTOCOL: fault line. -/
def C.MNF.PROTOCOL : Cause := ⟨R.MNF_EVT, 9, R.MNF_EVT_CNT + 36, .fault, 0x0D⟩
/-- MNF_EVT.DEST_ERROR: fault line. -/
def C.MNF.DEST_ERROR : Cause := ⟨R.MNF_EVT, 8, R.MNF_EVT_CNT + 32, .fault, 0x04⟩
/-- MNF_EVT.LINK_FLUSH: fault line. -/
def C.MNF.LINK_FLUSH : Cause := ⟨R.MNF_EVT, 7, R.MNF_EVT_CNT + 28, .fault, 0x02⟩
/-- MNF_EVT.FULL: info line. -/
def C.MNF.FULL : Cause := ⟨R.MNF_EVT, 6, R.MNF_EVT_CNT + 24, .info, 0x04⟩
/-- MNF_EVT.BREQ_UNKNOWN: fault line. -/
def C.MNF.BREQ_UNKNOWN : Cause := ⟨R.MNF_EVT, 5, R.MNF_EVT_CNT + 20, .fault, 0x04⟩
/-- MNF_EVT.BREQ_TIMEOUT: fault line. -/
def C.MNF.BREQ_TIMEOUT : Cause := ⟨R.MNF_EVT, 4, R.MNF_EVT_CNT + 16, .fault, 0x04⟩
/-- MNF_EVT.REPLY_SINK: fault line. -/
def C.MNF.REPLY_SINK : Cause := ⟨R.MNF_EVT, 3, R.MNF_EVT_CNT + 12, .fault, 0x05⟩
/-- MNF_EVT.STALE_REPLY: info line. -/
def C.MNF.STALE_REPLY : Cause := ⟨R.MNF_EVT, 2, R.MNF_EVT_CNT + 8, .info, 0x04⟩
/-- MNF_EVT.RETRY: info line. -/
def C.MNF.RETRY : Cause := ⟨R.MNF_EVT, 1, R.MNF_EVT_CNT + 4, .info, 0x04⟩
/-- MNF_EVT.TIMEOUT: fault line. -/
def C.MNF.TIMEOUT : Cause := ⟨R.MNF_EVT, 0, R.MNF_EVT_CNT + 0, .fault, 0x04⟩
/-- TTB_EVT.STOPPED: fault line. -/
def C.TTB.STOPPED : Cause := ⟨R.TTB_EVT, 10, R.TTB_EVT_CNT + 40, .fault, 0x03⟩
/-- TTB_EVT.HALTED: cmpl line. -/
def C.TTB.HALTED : Cause := ⟨R.TTB_EVT, 9, R.TTB_EVT_CNT + 36, .cmpl, 0x03⟩
/-- TTB_EVT.N1_SWITCH: fault line. -/
def C.TTB.N1_SWITCH : Cause := ⟨R.TTB_EVT, 8, R.TTB_EVT_CNT + 32, .fault, 0x06⟩
/-- TTB_EVT.FENCE_SEEN: info line. -/
def C.TTB.FENCE_SEEN : Cause := ⟨R.TTB_EVT, 7, R.TTB_EVT_CNT + 28, .info, 0x03⟩
/-- TTB_EVT.STREAM_LATE: fault line. -/
def C.TTB.STREAM_LATE : Cause := ⟨R.TTB_EVT, 6, R.TTB_EVT_CNT + 24, .fault, 0x03⟩
/-- TTB_EVT.DEADLINE: fault line. -/
def C.TTB.DEADLINE : Cause := ⟨R.TTB_EVT, 5, R.TTB_EVT_CNT + 20, .fault, 0x03⟩
/-- TTB_EVT.SWITCH_REFUSED: fault line. -/
def C.TTB.SWITCH_REFUSED : Cause := ⟨R.TTB_EVT, 4, R.TTB_EVT_CNT + 16, .fault, 0x03⟩
/-- TTB_EVT.SWITCHED: cmpl line. -/
def C.TTB.SWITCHED : Cause := ⟨R.TTB_EVT, 3, R.TTB_EVT_CNT + 12, .cmpl, 0x03⟩
/-- TTB_EVT.LOAD_FAIL: info line. -/
def C.TTB.LOAD_FAIL : Cause := ⟨R.TTB_EVT, 2, R.TTB_EVT_CNT + 8, .info, 0x03⟩
/-- TTB_EVT.LOAD_DONE: cmpl line. -/
def C.TTB.LOAD_DONE : Cause := ⟨R.TTB_EVT, 1, R.TTB_EVT_CNT + 4, .cmpl, 0x03⟩
/-- TTB_EVT.STARTED: cmpl line. -/
def C.TTB.STARTED : Cause := ⟨R.TTB_EVT, 0, R.TTB_EVT_CNT + 0, .cmpl, 0x03⟩
/-- RWT_EVT.STEP: info line. -/
def C.RWT.STEP : Cause := ⟨R.RWT_EVT, 4, R.RWT_EVT_CNT + 16, .info, 0x0C⟩
/-- RWT_EVT.SYNC_MISSING: info line. -/
def C.RWT.SYNC_MISSING : Cause := ⟨R.RWT_EVT, 3, R.RWT_EVT_CNT + 12, .info, 0x0C⟩
/-- RWT_EVT.TIME_LOST: fault line. -/
def C.RWT.TIME_LOST : Cause := ⟨R.RWT_EVT, 2, R.RWT_EVT_CNT + 8, .fault, 0x0C⟩
/-- RWT_EVT.DRIFT: info line. -/
def C.RWT.DRIFT : Cause := ⟨R.RWT_EVT, 1, R.RWT_EVT_CNT + 4, .info, 0x0C⟩
/-- RWT_EVT.LOCKED: cmpl line. -/
def C.RWT.LOCKED : Cause := ⟨R.RWT_EVT, 0, R.RWT_EVT_CNT + 0, .cmpl, 0x0C⟩
/-- JCT_EVT.CFG_REJECT: info line. -/
def C.JCT.CFG_REJECT : Cause := ⟨R.JCT_EVT, 10, R.JCT_EVT_CNT + 40, .info, 0x07⟩
/-- JCT_EVT.MCAST_PARTIAL: info line. -/
def C.JCT.MCAST_PARTIAL : Cause := ⟨R.JCT_EVT, 9, R.JCT_EVT_CNT + 36, .info, 0x07⟩
/-- JCT_EVT.MCAST_DONE: cmpl line. -/
def C.JCT.MCAST_DONE : Cause := ⟨R.JCT_EVT, 8, R.JCT_EVT_CNT + 32, .cmpl, 0x07⟩
/-- JCT_EVT.OVERFLOW: info line. -/
def C.JCT.OVERFLOW : Cause := ⟨R.JCT_EVT, 7, R.JCT_EVT_CNT + 28, .info, 0x07⟩
/-- JCT_EVT.OVERCOUNT: fault line. -/
def C.JCT.OVERCOUNT : Cause := ⟨R.JCT_EVT, 6, R.JCT_EVT_CNT + 24, .fault, 0x07⟩
/-- JCT_EVT.PROTOCOL: fault line. -/
def C.JCT.PROTOCOL : Cause := ⟨R.JCT_EVT, 5, R.JCT_EVT_CNT + 20, .fault, 0x0D⟩
/-- JCT_EVT.NO_GROUP: fault line. -/
def C.JCT.NO_GROUP : Cause := ⟨R.JCT_EVT, 4, R.JCT_EVT_CNT + 16, .fault, 0x0D⟩
/-- JCT_EVT.CAPACITY: info line. -/
def C.JCT.CAPACITY : Cause := ⟨R.JCT_EVT, 3, R.JCT_EVT_CNT + 12, .info, 0x07⟩
/-- JCT_EVT.SKIPPED: info line. -/
def C.JCT.SKIPPED : Cause := ⟨R.JCT_EVT, 2, R.JCT_EVT_CNT + 8, .info, 0x07⟩
/-- JCT_EVT.GROUP_FAIL: fault line. -/
def C.JCT.GROUP_FAIL : Cause := ⟨R.JCT_EVT, 1, R.JCT_EVT_CNT + 4, .fault, 0x07⟩
/-- JCT_EVT.GROUP_DONE: cmpl line. -/
def C.JCT.GROUP_DONE : Cause := ⟨R.JCT_EVT, 0, R.JCT_EVT_CNT + 0, .cmpl, 0x07⟩
/-- ASP_EVT.PROTOCOL: fault line. -/
def C.ASP.PROTOCOL : Cause := ⟨R.ASP_EVT, 6, R.ASP_EVT_CNT + 24, .fault, 0x0D⟩
/-- ASP_EVT.GROUP_END: cmpl line. -/
def C.ASP.GROUP_END : Cause := ⟨R.ASP_EVT, 5, R.ASP_EVT_CNT + 20, .cmpl, 0x08⟩
/-- ASP_EVT.RECAL_DONE: cmpl line. -/
def C.ASP.RECAL_DONE : Cause := ⟨R.ASP_EVT, 4, R.ASP_EVT_CNT + 16, .cmpl, 0x08⟩
/-- ASP_EVT.RETURNED: info line. -/
def C.ASP.RETURNED : Cause := ⟨R.ASP_EVT, 3, R.ASP_EVT_CNT + 12, .info, 0x08⟩
/-- ASP_EVT.CONTRIB_FAIL: fault line. -/
def C.ASP.CONTRIB_FAIL : Cause := ⟨R.ASP_EVT, 2, R.ASP_EVT_CNT + 8, .fault, 0x08⟩
/-- ASP_EVT.FALLBACK: fault line. -/
def C.ASP.FALLBACK : Cause := ⟨R.ASP_EVT, 1, R.ASP_EVT_CNT + 4, .fault, 0x08⟩
/-- ASP_EVT.OVER_BUDGET: info line. -/
def C.ASP.OVER_BUDGET : Cause := ⟨R.ASP_EVT, 0, R.ASP_EVT_CNT + 0, .info, 0x08⟩
/-- MSH_EVT.AGED: info line. -/
def C.MSH.AGED : Cause := ⟨R.MSH_EVT, 10, R.MSH_EVT_CNT + 40, .info, 0x06⟩
/-- MSH_EVT.RING_FULL: info line. -/
def C.MSH.RING_FULL : Cause := ⟨R.MSH_EVT, 9, R.MSH_EVT_CNT + 36, .info, 0x06⟩
/-- MSH_EVT.BEACON_STALE: info line. -/
def C.MSH.BEACON_STALE : Cause := ⟨R.MSH_EVT, 8, R.MSH_EVT_CNT + 32, .info, 0x06⟩
/-- MSH_EVT.MIG_FAULT: fault line. -/
def C.MSH.MIG_FAULT : Cause := ⟨R.MSH_EVT, 7, R.MSH_EVT_CNT + 28, .fault, 0x06⟩
/-- MSH_EVT.MIG_ABANDONED: info line. -/
def C.MSH.MIG_ABANDONED : Cause := ⟨R.MSH_EVT, 6, R.MSH_EVT_CNT + 24, .info, 0x06⟩
/-- MSH_EVT.MIGRATED: cmpl line. -/
def C.MSH.MIGRATED : Cause := ⟨R.MSH_EVT, 5, R.MSH_EVT_CNT + 20, .cmpl, 0x06⟩
/-- MSH_EVT.HOT: info line. -/
def C.MSH.HOT : Cause := ⟨R.MSH_EVT, 4, R.MSH_EVT_CNT + 16, .info, 0x06⟩
/-- MSH_EVT.DIR_FULL: info line. -/
def C.MSH.DIR_FULL : Cause := ⟨R.MSH_EVT, 3, R.MSH_EVT_CNT + 12, .info, 0x06⟩
/-- MSH_EVT.BIND_FENCED: fault line. -/
def C.MSH.BIND_FENCED : Cause := ⟨R.MSH_EVT, 2, R.MSH_EVT_CNT + 8, .fault, 0x06⟩
/-- MSH_EVT.PAIR_SWAP: fault line. -/
def C.MSH.PAIR_SWAP : Cause := ⟨R.MSH_EVT, 1, R.MSH_EVT_CNT + 4, .fault, 0x06⟩
/-- MSH_EVT.RELEASED: cmpl line. -/
def C.MSH.RELEASED : Cause := ⟨R.MSH_EVT, 0, R.MSH_EVT_CNT + 0, .cmpl, 0x06⟩
/-- SBX_VTX_EVT.AUTH_FAIL: fault line. -/
def C.SBX_VTX.AUTH_FAIL : Cause := ⟨R.SBX_VTX_EVT, 7, R.SBX_VTX_EVT_CNT + 28, .fault, 0x0A⟩
/-- SBX_VTX_EVT.REMOTE_DROP: info line. -/
def C.SBX_VTX.REMOTE_DROP : Cause := ⟨R.SBX_VTX_EVT, 6, R.SBX_VTX_EVT_CNT + 24, .info, 0x09⟩
/-- SBX_VTX_EVT.CPL_OVERFLOW: info line. -/
def C.SBX_VTX.CPL_OVERFLOW : Cause := ⟨R.SBX_VTX_EVT, 5, R.SBX_VTX_EVT_CNT + 20, .info, 0x09⟩
/-- SBX_VTX_EVT.SLOTS_FULL: info line. -/
def C.SBX_VTX.SLOTS_FULL : Cause := ⟨R.SBX_VTX_EVT, 4, R.SBX_VTX_EVT_CNT + 16, .info, 0x09⟩
/-- SBX_VTX_EVT.TAG_CLASH: fault line. -/
def C.SBX_VTX.TAG_CLASH : Cause := ⟨R.SBX_VTX_EVT, 3, R.SBX_VTX_EVT_CNT + 12, .fault, 0x09⟩
/-- SBX_VTX_EVT.RING_ERROR: fault line. -/
def C.SBX_VTX.RING_ERROR : Cause := ⟨R.SBX_VTX_EVT, 2, R.SBX_VTX_EVT_CNT + 8, .fault, 0x09⟩
/-- SBX_VTX_EVT.MALFORMED: info line. -/
def C.SBX_VTX.MALFORMED : Cause := ⟨R.SBX_VTX_EVT, 1, R.SBX_VTX_EVT_CNT + 4, .info, 0x09⟩
/-- SBX_VTX_EVT.CMD_DONE: cmpl line. -/
def C.SBX_VTX.CMD_DONE : Cause := ⟨R.SBX_VTX_EVT, 0, R.SBX_VTX_EVT_CNT + 0, .cmpl, 0x09⟩
/-- SBX_EVT.TIE_RESOLVED: info line. -/
def C.SBX.TIE_RESOLVED : Cause := ⟨R.SBX_EVT, 9, R.SBX_EVT_CNT + 36, .info, 0x09⟩
/-- SBX_EVT.GATE_DROP: fault line. -/
def C.SBX.GATE_DROP : Cause := ⟨R.SBX_EVT, 8, R.SBX_EVT_CNT + 32, .fault, 0x09⟩
/-- SBX_EVT.IMAGE_REJECTED: fault line. -/
def C.SBX.IMAGE_REJECTED : Cause := ⟨R.SBX_EVT, 7, R.SBX_EVT_CNT + 28, .fault, 0x09⟩
/-- SBX_EVT.STATE_LOST: fault line. -/
def C.SBX.STATE_LOST : Cause := ⟨R.SBX_EVT, 6, R.SBX_EVT_CNT + 24, .fault, 0x09⟩
/-- SBX_EVT.TOKEN_FAULT: fault line. -/
def C.SBX.TOKEN_FAULT : Cause := ⟨R.SBX_EVT, 5, R.SBX_EVT_CNT + 20, .fault, 0x09⟩
/-- SBX_EVT.BOX_LINK_LOST: fault line. -/
def C.SBX.BOX_LINK_LOST : Cause := ⟨R.SBX_EVT, 4, R.SBX_EVT_CNT + 16, .fault, 0x09⟩
/-- SBX_EVT.STANDBY_FAIL: fault line. -/
def C.SBX.STANDBY_FAIL : Cause := ⟨R.SBX_EVT, 3, R.SBX_EVT_CNT + 12, .fault, 0x09⟩
/-- SBX_EVT.STANDBY_READY: cmpl line. -/
def C.SBX.STANDBY_READY : Cause := ⟨R.SBX_EVT, 2, R.SBX_EVT_CNT + 8, .cmpl, 0x09⟩
/-- SBX_EVT.HANDOVER: info line. -/
def C.SBX.HANDOVER : Cause := ⟨R.SBX_EVT, 1, R.SBX_EVT_CNT + 4, .info, 0x09⟩
/-- SBX_EVT.FAILOVER: fault line. -/
def C.SBX.FAILOVER : Cause := ⟨R.SBX_EVT, 0, R.SBX_EVT_CNT + 0, .fault, 0x09⟩
/-- PCM_EVT.DOMAIN_FAULT: fault line. -/
def C.PCM.DOMAIN_FAULT : Cause := ⟨R.PCM_EVT, 8, R.PCM_EVT_CNT + 32, .fault, 0x0B⟩
/-- PCM_EVT.PLAT_RESET: fault line. -/
def C.PCM.PLAT_RESET : Cause := ⟨R.PCM_EVT, 7, R.PCM_EVT_CNT + 28, .fault, 0x0B⟩
/-- PCM_EVT.SLEEP_REFUSED: info line. -/
def C.PCM.SLEEP_REFUSED : Cause := ⟨R.PCM_EVT, 6, R.PCM_EVT_CNT + 24, .info, 0x0B⟩
/-- PCM_EVT.CLK_FAULT: fault line. -/
def C.PCM.CLK_FAULT : Cause := ⟨R.PCM_EVT, 5, R.PCM_EVT_CNT + 20, .fault, 0x0B⟩
/-- PCM_EVT.BROWNOUT_END: info line. -/
def C.PCM.BROWNOUT_END : Cause := ⟨R.PCM_EVT, 4, R.PCM_EVT_CNT + 16, .info, 0x0B⟩
/-- PCM_EVT.BROWNOUT: fault line. -/
def C.PCM.BROWNOUT : Cause := ⟨R.PCM_EVT, 3, R.PCM_EVT_CNT + 12, .fault, 0x0B⟩
/-- PCM_EVT.WAKE_SLOW: info line. -/
def C.PCM.WAKE_SLOW : Cause := ⟨R.PCM_EVT, 2, R.PCM_EVT_CNT + 8, .info, 0x0B⟩
/-- PCM_EVT.SLEPT: info line. -/
def C.PCM.SLEPT : Cause := ⟨R.PCM_EVT, 1, R.PCM_EVT_CNT + 4, .info, 0x0B⟩
/-- PCM_EVT.WOKE: cmpl line. -/
def C.PCM.WOKE : Cause := ⟨R.PCM_EVT, 0, R.PCM_EVT_CNT + 0, .cmpl, 0x0B⟩
/-- IDN_EVT.AUTH_REPLAY: fault line. -/
def C.IDN.AUTH_REPLAY : Cause := ⟨R.IDN_EVT, 7, R.IDN_EVT_CNT + 28, .fault, 0x0A⟩
/-- IDN_EVT.AUTH_EXPIRED: info line. -/
def C.IDN.AUTH_EXPIRED : Cause := ⟨R.IDN_EVT, 6, R.IDN_EVT_CNT + 24, .info, 0x0A⟩
/-- IDN_EVT.CHAIN_SET: cmpl line. -/
def C.IDN.CHAIN_SET : Cause := ⟨R.IDN_EVT, 5, R.IDN_EVT_CNT + 20, .cmpl, 0x0A⟩
/-- IDN_EVT.STATION_AUTH_FAIL: fault line. -/
def C.IDN.STATION_AUTH_FAIL : Cause := ⟨R.IDN_EVT, 4, R.IDN_EVT_CNT + 16, .fault, 0x0A⟩
/-- IDN_EVT.STATION_AUTH_OK: cmpl line. -/
def C.IDN.STATION_AUTH_OK : Cause := ⟨R.IDN_EVT, 3, R.IDN_EVT_CNT + 12, .cmpl, 0x0A⟩
/-- IDN_EVT.ENROLLED: cmpl line. -/
def C.IDN.ENROLLED : Cause := ⟨R.IDN_EVT, 2, R.IDN_EVT_CNT + 8, .cmpl, 0x0A⟩
/-- IDN_EVT.KEY_FAIL: fault line. -/
def C.IDN.KEY_FAIL : Cause := ⟨R.IDN_EVT, 1, R.IDN_EVT_CNT + 4, .fault, 0x0A⟩
/-- IDN_EVT.KEY_READY: cmpl line. -/
def C.IDN.KEY_READY : Cause := ⟨R.IDN_EVT, 0, R.IDN_EVT_CNT + 0, .cmpl, 0x0A⟩
/-- FLT_EVT.INTAKE_LOST: fault line. -/
def C.FLT.INTAKE_LOST : Cause := ⟨R.FLT_EVT, 2, R.FLT_EVT_CNT + 8, .fault, 0x0F⟩
/-- FLT_EVT.OVERWRITTEN: info line. -/
def C.FLT.OVERWRITTEN : Cause := ⟨R.FLT_EVT, 1, R.FLT_EVT_CNT + 4, .info, 0x0F⟩
/-- FLT_EVT.HIGH_WATER: info line. -/
def C.FLT.HIGH_WATER : Cause := ⟨R.FLT_EVT, 0, R.FLT_EVT_CNT + 0, .info, 0x0F⟩

/-! ## Tables -/

/-- Every cause of the block, part 0. -/
def causes0 : List Cause := [
  C.SEAM.SLEEPER_LOSS,
  C.SEAM.UNATTRIBUTED,
  C.SEAM.CTRL_TIMEOUT,
  C.SEAM.WIDTH_REFUSED,
  C.SEAM.WIDTH_DONE,
  C.SEAM.SPARE_LOST,
  C.SEAM.SLEEVE_RETIRED,
  C.SEAM.LANE_DARNED,
  C.SEAM.LANE_FAILED,
  C.TLR.TRAIN_DONE,
  C.TLR.RESTORE_DONE,
  C.TLR.RESTORE_REJECTED,
  C.TLR.SNAP_FROZEN,
  C.TLR.VERIFY_FAIL,
  C.TLR.PASS_ABANDONED,
  C.TLR.STARVED,
  C.LNK.SIDING_STALL,
  C.LNK.PROTOCOL,
  C.LNK.FEC_UNCORR,
  C.LNK.LINK_UP,
  C.LNK.FLUSHED,
  C.LNK.LINK_DOWN,
  C.LNK.RETRAIN_FAIL,
  C.LNK.RETRAIN]
/-- Every cause of the block, part 1. -/
def causes1 : List Cause := [
  C.LNK.REPLAY,
  C.MNF.CFG_REJECT,
  C.MNF.NO_ROUTE,
  C.MNF.PROTOCOL,
  C.MNF.DEST_ERROR,
  C.MNF.LINK_FLUSH,
  C.MNF.FULL,
  C.MNF.BREQ_UNKNOWN,
  C.MNF.BREQ_TIMEOUT,
  C.MNF.REPLY_SINK,
  C.MNF.STALE_REPLY,
  C.MNF.RETRY,
  C.MNF.TIMEOUT,
  C.TTB.STOPPED,
  C.TTB.HALTED,
  C.TTB.N1_SWITCH,
  C.TTB.FENCE_SEEN,
  C.TTB.STREAM_LATE,
  C.TTB.DEADLINE,
  C.TTB.SWITCH_REFUSED,
  C.TTB.SWITCHED,
  C.TTB.LOAD_FAIL,
  C.TTB.LOAD_DONE,
  C.TTB.STARTED]
/-- Every cause of the block, part 2. -/
def causes2 : List Cause := [
  C.RWT.STEP,
  C.RWT.SYNC_MISSING,
  C.RWT.TIME_LOST,
  C.RWT.DRIFT,
  C.RWT.LOCKED,
  C.JCT.CFG_REJECT,
  C.JCT.MCAST_PARTIAL,
  C.JCT.MCAST_DONE,
  C.JCT.OVERFLOW,
  C.JCT.OVERCOUNT,
  C.JCT.PROTOCOL,
  C.JCT.NO_GROUP,
  C.JCT.CAPACITY,
  C.JCT.SKIPPED,
  C.JCT.GROUP_FAIL,
  C.JCT.GROUP_DONE,
  C.ASP.PROTOCOL,
  C.ASP.GROUP_END,
  C.ASP.RECAL_DONE,
  C.ASP.RETURNED,
  C.ASP.CONTRIB_FAIL,
  C.ASP.FALLBACK,
  C.ASP.OVER_BUDGET,
  C.MSH.AGED]
/-- Every cause of the block, part 3. -/
def causes3 : List Cause := [
  C.MSH.RING_FULL,
  C.MSH.BEACON_STALE,
  C.MSH.MIG_FAULT,
  C.MSH.MIG_ABANDONED,
  C.MSH.MIGRATED,
  C.MSH.HOT,
  C.MSH.DIR_FULL,
  C.MSH.BIND_FENCED,
  C.MSH.PAIR_SWAP,
  C.MSH.RELEASED,
  C.SBX_VTX.AUTH_FAIL,
  C.SBX_VTX.REMOTE_DROP,
  C.SBX_VTX.CPL_OVERFLOW,
  C.SBX_VTX.SLOTS_FULL,
  C.SBX_VTX.TAG_CLASH,
  C.SBX_VTX.RING_ERROR,
  C.SBX_VTX.MALFORMED,
  C.SBX_VTX.CMD_DONE,
  C.SBX.TIE_RESOLVED,
  C.SBX.GATE_DROP,
  C.SBX.IMAGE_REJECTED,
  C.SBX.STATE_LOST,
  C.SBX.TOKEN_FAULT,
  C.SBX.BOX_LINK_LOST]
/-- Every cause of the block, part 4. -/
def causes4 : List Cause := [
  C.SBX.STANDBY_FAIL,
  C.SBX.STANDBY_READY,
  C.SBX.HANDOVER,
  C.SBX.FAILOVER,
  C.PCM.DOMAIN_FAULT,
  C.PCM.PLAT_RESET,
  C.PCM.SLEEP_REFUSED,
  C.PCM.CLK_FAULT,
  C.PCM.BROWNOUT_END,
  C.PCM.BROWNOUT,
  C.PCM.WAKE_SLOW,
  C.PCM.SLEPT,
  C.PCM.WOKE,
  C.IDN.AUTH_REPLAY,
  C.IDN.AUTH_EXPIRED,
  C.IDN.CHAIN_SET,
  C.IDN.STATION_AUTH_FAIL,
  C.IDN.STATION_AUTH_OK,
  C.IDN.ENROLLED,
  C.IDN.KEY_FAIL,
  C.IDN.KEY_READY,
  C.FLT.INTAKE_LOST,
  C.FLT.OVERWRITTEN,
  C.FLT.HIGH_WATER]
/-- Every cause of the block. -/
def causes : List Cause :=
  causes0 ++ causes1 ++ causes2 ++ causes3 ++ causes4

/-- The registers and their access codes, part 0. -/
def regRows0 : List RegRow := [
  ⟨0x000000, 1, 4, 0x00000000, 0x00000000, 0x00000000, 0x00000000⟩,
  ⟨0x000004, 1, 4, 0x00000000, 0x00000000, 0x00000000, 0x00000000⟩,
  ⟨0x000008, 1, 4, 0x00000000, 0x00000000, 0x00000000, 0x00000000⟩,
  ⟨0x00000C, 1, 4, 0x00000000, 0x00000000, 0x00000000, 0x00000000⟩,
  ⟨0x000010, 1, 4, 0x00000000, 0x00000000, 0x00000000, 0x00000000⟩,
  ⟨0x000014, 1, 4, 0x00000000, 0x00000000, 0x00000000, 0x00000000⟩,
  ⟨0x000018, 1, 4, 0x00000000, 0x00000000, 0x00000000, 0x00000000⟩,
  ⟨0x00001C, 1, 4, 0xFFFFFFFF, 0x00000000, 0x00000000, 0x00000000⟩,
  ⟨0x010000, 1, 4, 0x00000000, 0x00000000, 0x00000000, 0x00000000⟩,
  ⟨0x010004, 1, 4, 0x0000001F, 0x00000000, 0x00000100, 0x00000000⟩,
  ⟨0x010008, 1, 4, 0x03FF0003, 0x00000000, 0x00000000, 0x00000000⟩,
  ⟨0x01000C, 1, 4, 0x00FFFFFF, 0x00000000, 0x00000000, 0x00000000⟩,
  ⟨0x010010, 1, 4, 0x00000000, 0x000001FF, 0x00000000, 0x00000000⟩,
  ⟨0x010014, 1, 4, 0x000001FF, 0x00000000, 0x00000000, 0x00000000⟩,
  ⟨0x010018, 1, 4, 0x00000000, 0x00000000, 0x00000000, 0xFFFF0000⟩,
  ⟨0x010020, 9, 4, 0x00000000, 0x00000000, 0x00000000, 0x0000FFFF⟩,
  ⟨0x010100, 8, 8, 0x00000000, 0x00000000, 0x00000000, 0x00000000⟩,
  ⟨0x010104, 8, 8, 0x00000000, 0x00000000, 0x00000000, 0x00000000⟩,
  ⟨0x010180, 8, 4, 0x00000000, 0x00000000, 0x00000000, 0x00000000⟩,
  ⟨0x010300, 1, 4, 0x80371FF7, 0x00000000, 0x00000000, 0x00000000⟩,
  ⟨0x010304, 1, 4, 0x00000000, 0x00000000, 0x00000000, 0x00000000⟩,
  ⟨0x010310, 9, 4, 0x00000000, 0x00000000, 0x00000000, 0xFFFFFFFF⟩,
  ⟨0x010338, 1, 4, 0x00000000, 0x00000000, 0x00000000, 0x00000000⟩,
  ⟨0x01033C, 1, 4, 0x00000000, 0x00000000, 0x00000000, 0x00000000⟩]
/-- The registers and their access codes, part 1. -/
def regRows1 : List RegRow := [
  ⟨0x020000, 1, 4, 0x017F000F, 0x00000000, 0x00000300, 0x00000000⟩,
  ⟨0x020004, 1, 4, 0x00000000, 0x00000000, 0x00000000, 0x00000000⟩,
  ⟨0x020008, 1, 4, 0xFFFF1F0F, 0x00000000, 0x00000000, 0x00000000⟩,
  ⟨0x02000C, 1, 4, 0xFFFFFF00, 0x00000000, 0x00000000, 0x00000000⟩,
  ⟨0x020010, 1, 4, 0xFFFF00FF, 0x00000000, 0x00000000, 0x00000000⟩,
  ⟨0x020014, 1, 4, 0x00000000, 0x0000007F, 0x00000000, 0x00000000⟩,
  ⟨0x020018, 1, 4, 0x0000007F, 0x00000000, 0x00000000, 0x00000000⟩,
  ⟨0x020020, 7, 4, 0x00000000, 0x00000000, 0x00000000, 0x0000FFFF⟩,
  ⟨0x020040, 1, 4, 0x00000000, 0x00000000, 0x00000000, 0x00000000⟩,
  ⟨0x020100, 4, 4, 0x00000000, 0x00000000, 0x00000000, 0x00000000⟩,
  ⟨0x020110, 4, 4, 0xFFFFFFFF, 0x00000000, 0x00000000, 0x00000000⟩,
  ⟨0x020120, 1, 4, 0x00000000, 0x00000000, 0x00000000, 0x00000000⟩,
  ⟨0x020124, 1, 4, 0x00000000, 0x00000000, 0x00000000, 0x00000000⟩,
  ⟨0x020130, 1, 4, 0x00000000, 0x00000000, 0x00000000, 0x00000000⟩,
  ⟨0x020134, 1, 4, 0x00000000, 0x00000000, 0x00000000, 0x00000000⟩,
  ⟨0x020200, 1, 4, 0x00000003, 0x00000000, 0x00000004, 0x00000000⟩,
  ⟨0x020204, 1, 4, 0x00000000, 0x00000000, 0x00000000, 0x00000000⟩,
  ⟨0x020208, 1, 4, 0x00000000, 0x00000000, 0x00000000, 0x00000000⟩,
  ⟨0x021000, 394, 4, 0xFFFFFFFF, 0x00000000, 0x00000000, 0x00000000⟩,
  ⟨0x030000, 1, 4, 0x00000001, 0x00000000, 0x0000000E, 0x00000000⟩,
  ⟨0x030004, 1, 4, 0x00000000, 0x00000000, 0x00000000, 0x00000000⟩,
  ⟨0x030008, 1, 4, 0xFFFFFF00, 0x00000000, 0x00000000, 0x00000000⟩,
  ⟨0x03000C, 1, 4, 0x000FFFFF, 0x00000000, 0x00000000, 0x00000000⟩,
  ⟨0x030010, 1, 4, 0x0000FFFF, 0x00000000, 0x00000000, 0x00000000⟩]
/-- The registers and their access codes, part 2. -/
def regRows2 : List RegRow := [
  ⟨0x030014, 1, 4, 0x00000000, 0x00000000, 0x00000000, 0x00000000⟩,
  ⟨0x030018, 1, 4, 0x00000000, 0x00000000, 0x00000000, 0x00000000⟩,
  ⟨0x03001C, 1, 4, 0x00000000, 0x00000000, 0x00000000, 0x00000000⟩,
  ⟨0x030020, 1, 4, 0x00000000, 0x000001FF, 0x00000000, 0x00000000⟩,
  ⟨0x030024, 1, 4, 0x000001FF, 0x00000000, 0x00000000, 0x00000000⟩,
  ⟨0x030040, 9, 4, 0x00000000, 0x00000000, 0x00000000, 0x0000FFFF⟩,
  ⟨0x030080, 6, 4, 0x00000000, 0x00000000, 0x00000000, 0x00000000⟩,
  ⟨0x0300A0, 1, 4, 0x00000000, 0x00000000, 0x00000000, 0x00000000⟩,
  ⟨0x0300B0, 1, 4, 0x00000000, 0x00000000, 0x00000000, 0xFFFFFFFF⟩,
  ⟨0x0300B4, 1, 4, 0x00000000, 0x00000000, 0x00000000, 0xFFFFFFFF⟩,
  ⟨0x0300C0, 8, 4, 0x00000000, 0x00000000, 0x00000000, 0xFFFFFFFF⟩,
  ⟨0x040000, 1, 4, 0x0000E301, 0x00000000, 0x00000000, 0x00000000⟩,
  ⟨0x040004, 1, 4, 0x00000000, 0x00000000, 0x00000000, 0x00000000⟩,
  ⟨0x040008, 1, 4, 0x0000FFFF, 0x00000000, 0x00000000, 0x00000000⟩,
  ⟨0x04000C, 1, 4, 0x0000FFFF, 0x00000000, 0x00000000, 0x00000000⟩,
  ⟨0x040010, 1, 4, 0x0000FFFF, 0x00000000, 0x00000000, 0x00000000⟩,
  ⟨0x040014, 1, 4, 0x001F00FF, 0x00000000, 0x00000000, 0x00000000⟩,
  ⟨0x040020, 1, 4, 0x00000000, 0x00000FFF, 0x00000000, 0x00000000⟩,
  ⟨0x040024, 1, 4, 0x00000FFF, 0x00000000, 0x00000000, 0x00000000⟩,
  ⟨0x040040, 12, 4, 0x00000000, 0x00000000, 0x00000000, 0x0000FFFF⟩,
  ⟨0x040100, 8, 4, 0x80FFFFFF, 0x00000000, 0x00000000, 0x00000000⟩,
  ⟨0x040120, 8, 4, 0x00000000, 0x00000000, 0x00000000, 0x00000000⟩,
  ⟨0x040140, 8, 4, 0x00000000, 0x00000000, 0x00000000, 0x00000000⟩,
  ⟨0x040200, 4, 4, 0xFFFFFFFF, 0x00000000, 0x00000000, 0x00000000⟩]
/-- The registers and their access codes, part 3. -/
def regRows3 : List RegRow := [
  ⟨0x040210, 3, 4, 0xFFFFFFFF, 0x00000000, 0x00000000, 0x00000000⟩,
  ⟨0x050000, 1, 4, 0x000F070C, 0x00000000, 0x00000013, 0x00000000⟩,
  ⟨0x050004, 1, 4, 0x00000000, 0x00000000, 0x00000000, 0x00000000⟩,
  ⟨0x050008, 1, 4, 0xFFFFFFFF, 0x00000000, 0x00000000, 0x00000000⟩,
  ⟨0x05000C, 1, 4, 0x03FFFFFF, 0x00000000, 0x00000000, 0x00000000⟩,
  ⟨0x050010, 1, 4, 0xFFFFFFFF, 0x00000000, 0x00000000, 0x00000000⟩,
  ⟨0x050014, 1, 4, 0xFFFFFFFF, 0x00000000, 0x00000000, 0x00000000⟩,
  ⟨0x050018, 1, 4, 0x00000702, 0x00000000, 0x00000001, 0x00000000⟩,
  ⟨0x05001C, 1, 4, 0x0000FFFF, 0x00000000, 0x00030000, 0x00000000⟩,
  ⟨0x050020, 2, 16, 0x00000000, 0x00000000, 0x00000000, 0x00000000⟩,
  ⟨0x050024, 2, 16, 0x00000000, 0x00000000, 0x00000000, 0x00000000⟩,
  ⟨0x050028, 2, 16, 0x00000000, 0x00000000, 0x00000000, 0x00000000⟩,
  ⟨0x050040, 1, 4, 0x0000FFFF, 0x00000000, 0x00000000, 0x00000000⟩,
  ⟨0x050050, 1, 4, 0x00000000, 0x000007FF, 0x00000000, 0x00000000⟩,
  ⟨0x050054, 1, 4, 0x000007FF, 0x00000000, 0x00000000, 0x00000000⟩,
  ⟨0x050060, 11, 4, 0x00000000, 0x00000000, 0x00000000, 0x0000FFFF⟩,
  ⟨0x0500A0, 7, 4, 0x00000000, 0x00000000, 0x00000000, 0xFFFFFFFF⟩,
  ⟨0x0500C0, 1, 4, 0x00000000, 0x00000000, 0x00000000, 0x00000000⟩,
  ⟨0x060000, 1, 4, 0x00000000, 0x00000000, 0x00000000, 0x00000000⟩,
  ⟨0x060004, 1, 4, 0x00000000, 0x00000000, 0x00000000, 0x00000000⟩,
  ⟨0x060008, 1, 4, 0x00000000, 0x00000000, 0x00000000, 0x00000000⟩,
  ⟨0x06000C, 1, 4, 0x00000000, 0x00000000, 0x00000000, 0x00000000⟩,
  ⟨0x060010, 1, 4, 0xFFFF0000, 0x00000000, 0x00000000, 0x00000000⟩,
  ⟨0x060014, 1, 4, 0x00000000, 0x00000000, 0x00000000, 0x00000000⟩]
/-- The registers and their access codes, part 4. -/
def regRows4 : List RegRow := [
  ⟨0x060018, 1, 4, 0x00000000, 0x00000000, 0x00000000, 0x00000000⟩,
  ⟨0x06001C, 1, 4, 0x00000000, 0x00000000, 0x00000000, 0x00000000⟩,
  ⟨0x060020, 1, 4, 0xFFFF0FFF, 0x00000000, 0x00000000, 0x00000000⟩,
  ⟨0x060024, 1, 4, 0x00000000, 0x00000000, 0x00000001, 0x00000000⟩,
  ⟨0x060030, 1, 4, 0x00000000, 0x0000001F, 0x00000000, 0x00000000⟩,
  ⟨0x060034, 1, 4, 0x0000001F, 0x00000000, 0x00000000, 0x00000000⟩,
  ⟨0x060040, 5, 4, 0x00000000, 0x00000000, 0x00000000, 0x0000FFFF⟩,
  ⟨0x070000, 1, 4, 0x00FF0001, 0x00000000, 0x00000002, 0x00000000⟩,
  ⟨0x070004, 1, 4, 0x00000000, 0x00000000, 0x00000000, 0x00000000⟩,
  ⟨0x070008, 1, 4, 0xFFFFFFFF, 0x00000000, 0x00000000, 0x00000000⟩,
  ⟨0x07000C, 1, 4, 0xFFFFFFFF, 0x00000000, 0x00000000, 0x00000000⟩,
  ⟨0x070010, 1, 4, 0x00000000, 0x00000000, 0x00000000, 0x00000000⟩,
  ⟨0x070020, 1, 4, 0x00000000, 0x000007FF, 0x00000000, 0x00000000⟩,
  ⟨0x070024, 1, 4, 0x000007FF, 0x00000000, 0x00000000, 0x00000000⟩,
  ⟨0x070040, 11, 4, 0x00000000, 0x00000000, 0x00000000, 0x0000FFFF⟩,
  ⟨0x070100, 1, 4, 0x00000FFF, 0x00000000, 0x00000000, 0x00000000⟩,
  ⟨0x070104, 1, 4, 0x00000000, 0x00000000, 0x00000000, 0x00000000⟩,
  ⟨0x070108, 1, 4, 0x00000000, 0x00000000, 0x00000000, 0x00000000⟩,
  ⟨0x07010C, 1, 4, 0x00000000, 0x00000000, 0x00000000, 0x00000000⟩,
  ⟨0x070120, 8, 4, 0x00000000, 0x00000000, 0x00000000, 0x00000000⟩,
  ⟨0x070140, 1, 4, 0x00000000, 0x00000000, 0x00000000, 0x00000000⟩,
  ⟨0x070150, 1, 4, 0x00000000, 0x00000000, 0x00000000, 0x00000000⟩,
  ⟨0x070154, 1, 4, 0x00000000, 0x00000000, 0x00000000, 0x00000000⟩,
  ⟨0x080000, 1, 4, 0x00000001, 0x00000000, 0x00000000, 0x00000000⟩]
/-- The registers and their access codes, part 5. -/
def regRows5 : List RegRow := [
  ⟨0x080004, 1, 4, 0x00000000, 0x00000000, 0x00000000, 0x00000000⟩,
  ⟨0x080008, 1, 4, 0xFFFFFFFF, 0x00000000, 0x00000000, 0x00000000⟩,
  ⟨0x08000C, 1, 4, 0xFFFF0F0F, 0x00000000, 0x00000000, 0x00000000⟩,
  ⟨0x080020, 1, 4, 0x00000000, 0x0000007F, 0x00000000, 0x00000000⟩,
  ⟨0x080024, 1, 4, 0x0000007F, 0x00000000, 0x00000000, 0x00000000⟩,
  ⟨0x080040, 7, 4, 0x00000000, 0x00000000, 0x00000000, 0x0000FFFF⟩,
  ⟨0x080100, 1, 4, 0x00000FFF, 0x00000000, 0x00000000, 0x00000000⟩,
  ⟨0x080104, 1, 4, 0x00000000, 0x00000000, 0x00000000, 0x00000000⟩,
  ⟨0x080108, 1, 4, 0x00000000, 0x00000000, 0x00000000, 0x00000000⟩,
  ⟨0x080120, 32, 4, 0x00000000, 0x00000000, 0x00000000, 0x00000000⟩,
  ⟨0x090000, 1, 4, 0x0000001F, 0x00000000, 0x00000000, 0x00000000⟩,
  ⟨0x090004, 1, 4, 0x00000000, 0x00000000, 0x00000000, 0x00000000⟩,
  ⟨0x090008, 1, 4, 0x00000000, 0x00000000, 0x00000000, 0x00000000⟩,
  ⟨0x09000C, 1, 4, 0xFFFFFFFF, 0x00000000, 0x00000000, 0x00000000⟩,
  ⟨0x090010, 1, 4, 0x0000FFFF, 0x00000000, 0x00000000, 0x00000000⟩,
  ⟨0x090014, 1, 4, 0xFF00FFFF, 0x00000000, 0x00000000, 0x00000000⟩,
  ⟨0x090018, 1, 4, 0xFFFFFFFF, 0x00000000, 0x00000000, 0x00000000⟩,
  ⟨0x09001C, 1, 4, 0x00FF0FFF, 0x00000000, 0x00000000, 0x00000000⟩,
  ⟨0x090020, 1, 4, 0x00000000, 0x000007FF, 0x00000000, 0x00000000⟩,
  ⟨0x090024, 1, 4, 0x000007FF, 0x00000000, 0x00000000, 0x00000000⟩,
  ⟨0x090040, 11, 4, 0x00000000, 0x00000000, 0x00000000, 0x0000FFFF⟩,
  ⟨0x090070, 1, 4, 0x00000000, 0x00000000, 0x00000000, 0x00000000⟩,
  ⟨0x090074, 1, 4, 0x00000000, 0x00000000, 0x00000000, 0x00000000⟩,
  ⟨0x090078, 1, 4, 0x00000000, 0x00000000, 0x00000000, 0x00000000⟩]
/-- The registers and their access codes, part 6. -/
def regRows6 : List RegRow := [
  ⟨0x090100, 1, 4, 0x0000FFFF, 0x00000000, 0x00000000, 0x00000000⟩,
  ⟨0x090104, 1, 4, 0x00000000, 0x00000000, 0x00000000, 0x00000000⟩,
  ⟨0x090108, 1, 4, 0x00000000, 0x00000000, 0x00000000, 0x00000000⟩,
  ⟨0x090200, 64, 4, 0x00000000, 0x00000000, 0x00000000, 0x00000000⟩,
  ⟨0x090300, 64, 4, 0xFFFFFFFF, 0x00000000, 0x00000000, 0x00000000⟩,
  ⟨0x0A0000, 1, 4, 0x00000003, 0x00000000, 0x00000004, 0x00000000⟩,
  ⟨0x0A0004, 1, 4, 0x00000000, 0x00000000, 0x00000000, 0x00000000⟩,
  ⟨0x0A0008, 1, 4, 0x00000000, 0x00000000, 0x00000000, 0x00000000⟩,
  ⟨0x0A000C, 1, 4, 0xFFFFFFFF, 0x00000000, 0x00000000, 0x00000000⟩,
  ⟨0x0A0010, 1, 4, 0x00000000, 0x00000000, 0x00000000, 0x00000000⟩,
  ⟨0x0A0014, 1, 4, 0x00000000, 0x00000000, 0x00000000, 0x00000000⟩,
  ⟨0x0A0018, 1, 4, 0x00000000, 0x00000000, 0x00000000, 0x00000000⟩,
  ⟨0x0A0020, 1, 4, 0xFFFFFFFF, 0x00000000, 0x00000000, 0x00000000⟩,
  ⟨0x0A0024, 1, 4, 0xFFFFFFFF, 0x00000000, 0x00000000, 0x00000000⟩,
  ⟨0x0A0028, 1, 4, 0x00000700, 0x00000000, 0x00000000, 0x00000000⟩,
  ⟨0x0A002C, 1, 4, 0x00000000, 0x00000000, 0x00000000, 0x00000000⟩,
  ⟨0x0A0030, 1, 4, 0x00000000, 0x00000000, 0x00000000, 0x00000000⟩,
  ⟨0x0A0038, 1, 4, 0x00000000, 0x00000000, 0x00000000, 0x00000000⟩,
  ⟨0x0A0040, 1, 4, 0x00000000, 0x00000000, 0x00000000, 0x00000000⟩,
  ⟨0x0A0044, 1, 4, 0x00000000, 0x00000000, 0x00000000, 0x00000000⟩,
  ⟨0x0A0050, 1, 4, 0x00000000, 0x000003FF, 0x00000000, 0x00000000⟩,
  ⟨0x0A0054, 1, 4, 0x000003FF, 0x00000000, 0x00000000, 0x00000000⟩,
  ⟨0x0A0060, 10, 4, 0x00000000, 0x00000000, 0x00000000, 0x0000FFFF⟩,
  ⟨0x0A0100, 1, 4, 0x00000007, 0x00000000, 0x00000100, 0x00000000⟩]
/-- The registers and their access codes, part 7. -/
def regRows7 : List RegRow := [
  ⟨0x0A0104, 1, 4, 0x00000000, 0x00000000, 0x00000000, 0x00000000⟩,
  ⟨0x0A0108, 1, 4, 0xFFFFFFFF, 0x00000000, 0x00000000, 0x00000000⟩,
  ⟨0x0A010C, 1, 4, 0xFFFFFFFF, 0x00000000, 0x00000000, 0x00000000⟩,
  ⟨0x0A0110, 1, 4, 0x0000070F, 0x00000000, 0x00000000, 0x00000000⟩,
  ⟨0x0A0114, 1, 4, 0x0000FFFF, 0x00000000, 0x00000000, 0x00000000⟩,
  ⟨0x0A0118, 1, 4, 0x00000000, 0x00000000, 0x00000000, 0x00000000⟩,
  ⟨0x0A0120, 1, 4, 0x0000FFFF, 0x00000000, 0x00000000, 0x00000000⟩,
  ⟨0x0A0124, 1, 4, 0x00000000, 0x00000000, 0x00000000, 0x00000000⟩,
  ⟨0x0A0128, 1, 4, 0x00000000, 0x00000000, 0x00000000, 0x00000000⟩,
  ⟨0x0A012C, 1, 4, 0x00000000, 0x00000000, 0x00000000, 0x00000000⟩,
  ⟨0x0A0130, 1, 4, 0x00000000, 0x00000000, 0x00000000, 0x8000FFFF⟩,
  ⟨0x0A0140, 1, 4, 0x00000000, 0x000000FF, 0x00000000, 0x00000000⟩,
  ⟨0x0A0144, 1, 4, 0x000000FF, 0x00000000, 0x00000000, 0x00000000⟩,
  ⟨0x0A0150, 8, 4, 0x00000000, 0x00000000, 0x00000000, 0x0000FFFF⟩,
  ⟨0x0A1000, 1024, 4, 0xFFFFFFFF, 0x00000000, 0x00000000, 0x00000000⟩,
  ⟨0x0A2000, 252, 4, 0x00000000, 0x00000000, 0x00000000, 0x00000000⟩,
  ⟨0x0B0000, 1, 4, 0x00000303, 0x00000000, 0x00000030, 0x00000000⟩,
  ⟨0x0B0004, 1, 4, 0x00000000, 0x00000000, 0x00000000, 0x00000000⟩,
  ⟨0x0B0008, 1, 4, 0xFFFFFF0F, 0x00000000, 0x00000000, 0x00000000⟩,
  ⟨0x0B000C, 1, 4, 0x0000FFFF, 0x00000000, 0x00000000, 0x00000000⟩,
  ⟨0x0B0010, 1, 4, 0xFFFFFFFF, 0x00000000, 0x00000000, 0x00000000⟩,
  ⟨0x0B0014, 1, 4, 0xFFFFFFFF, 0x00000000, 0x00000000, 0x00000000⟩,
  ⟨0x0B0018, 1, 4, 0x00000000, 0x00000000, 0x00000000, 0x00000000⟩,
  ⟨0x0B001C, 1, 4, 0x00000000, 0x00000000, 0x00000000, 0x00000000⟩]
/-- The registers and their access codes, part 8. -/
def regRows8 : List RegRow := [
  ⟨0x0B0020, 1, 4, 0x00000000, 0x00000000, 0x00000000, 0x00000000⟩,
  ⟨0x0B0024, 1, 4, 0x00000000, 0x00000000, 0x00000000, 0x00000000⟩,
  ⟨0x0B0028, 1, 4, 0x00000000, 0x00000000, 0x00000000, 0x00000000⟩,
  ⟨0x0B002C, 1, 4, 0x00000000, 0x00000000, 0x00000000, 0x0000003F⟩,
  ⟨0x0B0040, 1, 4, 0x00000000, 0x000001FF, 0x00000000, 0x00000000⟩,
  ⟨0x0B0044, 1, 4, 0x000001FF, 0x00000000, 0x00000000, 0x00000000⟩,
  ⟨0x0B0060, 9, 4, 0x00000000, 0x00000000, 0x00000000, 0x0000FFFF⟩,
  ⟨0x0C0000, 1, 4, 0x00000000, 0x00000000, 0x0000000F, 0x00000000⟩,
  ⟨0x0C0004, 1, 4, 0x00000000, 0x00000000, 0x00000000, 0x00000000⟩,
  ⟨0x0C0008, 1, 4, 0x0000FFFF, 0x00000000, 0x00000000, 0x00000000⟩,
  ⟨0x0C0010, 1, 4, 0x00000000, 0x00000000, 0x00000000, 0x00000000⟩,
  ⟨0x0C0014, 1, 4, 0x00000000, 0x00000000, 0x00000000, 0x00000000⟩,
  ⟨0x0C0018, 1, 4, 0x00000000, 0x00000000, 0x00000000, 0x00000000⟩,
  ⟨0x0C001C, 1, 4, 0x00000000, 0x00000000, 0x00000000, 0x00000000⟩,
  ⟨0x0C0020, 1, 4, 0x00000000, 0x000000FF, 0x00000000, 0x00000000⟩,
  ⟨0x0C0024, 1, 4, 0x000000FF, 0x00000000, 0x00000000, 0x00000000⟩,
  ⟨0x0C0040, 8, 4, 0x00000000, 0x00000000, 0x00000000, 0x0000FFFF⟩,
  ⟨0x0C0100, 25, 4, 0x00000000, 0x00000000, 0x00000000, 0x00000000⟩,
  ⟨0x0C0200, 25, 4, 0xFFFFFFFF, 0x00000000, 0x00000000, 0x00000000⟩,
  ⟨0x0C0280, 25, 4, 0xFFFFFFFF, 0x00000000, 0x00000000, 0x00000000⟩,
  ⟨0x0C1000, 256, 4, 0xFFFFFFFF, 0x00000000, 0x00000000, 0x00000000⟩,
  ⟨0x0D0000, 1, 4, 0x03FFFF01, 0x00000000, 0x00000000, 0x00000000⟩,
  ⟨0x0D0004, 1, 4, 0x00000000, 0x00000000, 0x00000000, 0x00000000⟩,
  ⟨0x0D0008, 1, 4, 0x000003FF, 0x00000000, 0x00000000, 0x00000000⟩]
/-- The registers and their access codes, part 9. -/
def regRows9 : List RegRow := [
  ⟨0x0D000C, 1, 4, 0x00000000, 0x00000000, 0x00000000, 0x00000000⟩,
  ⟨0x0D0010, 1, 4, 0x00000000, 0x00000000, 0x00000000, 0x00000000⟩,
  ⟨0x0D0020, 1, 4, 0x00000000, 0x00000000, 0x00000000, 0x00000000⟩,
  ⟨0x0D0024, 1, 4, 0x00000000, 0x00000000, 0x00000000, 0x00000000⟩,
  ⟨0x0D0028, 1, 4, 0x00000000, 0x00000000, 0x00000000, 0x00000000⟩,
  ⟨0x0D0030, 1, 4, 0x00000000, 0x00000007, 0x00000000, 0x00000000⟩,
  ⟨0x0D0034, 1, 4, 0x00000007, 0x00000000, 0x00000000, 0x00000000⟩,
  ⟨0x0D0040, 3, 4, 0x00000000, 0x00000000, 0x00000000, 0x0000FFFF⟩,
  ⟨0x0D1000, 8192, 4, 0x00000000, 0x00000000, 0x00000000, 0x00000000⟩]
/-- The registers and their access codes. (DEDUCED: log entry 69) -/
def regRows : List RegRow :=
  regRows0 ++ regRows1 ++ regRows2 ++ regRows3 ++ regRows4 ++ regRows5 ++ regRows6 ++ regRows7 ++ regRows8 ++ regRows9

/-- The reset values other than zero that do not depend on a parameter (R439 to R452), part 0. -/
def resetRows0 : List (Nat × Word) := [
  (0x000000, 0x474C5103),
  (0x000004, 0x03004130),
  (0x000014, 0x00A5347B),
  (0x010004, 0x00000008),
  (0x010008, 0x00100003),
  (0x01000C, 0x00400414),
  (0x010300, 0x00001FF0),
  (0x020000, 0x00000007),
  (0x020008, 0x1E14130C),
  (0x02000C, 0x0A111000),
  (0x020010, 0x07D0000A),
  (0x030008, 0x20101000),
  (0x03000C, 0x00002710),
  (0x030010, 0x00004448),
  (0x030014, 0x0FFF0000),
  (0x030018, 0x0FFF0000),
  (0x040000, 0x00004201),
  (0x040008, 0x0000009E),
  (0x04000C, 0x00000064),
  (0x040010, 0x00000064),
  (0x040014, 0x000C0020),
  (0x040210, 0xFFFFFFFF),
  (0x040214, 0xFFFFFFFF),
  (0x040218, 0xFFFFFFFF)]
/-- The reset values other than zero that do not depend on a parameter (R439 to R452), part 1. -/
def resetRows1 : List (Nat × Word) := [
  (0x050000, 0x00080000),
  (0x050040, 0x000000C8),
  (0x060020, 0x03E80424),
  (0x070000, 0x00400001),
  (0x070004, 0x40000000),
  (0x07000C, 0x03E80064),
  (0x070010, 0x00008000),
  (0x080000, 0x00000001),
  (0x080008, 0x140A0064),
  (0x08000C, 0x00100604),
  (0x090000, 0x0000001F),
  (0x090008, 0x00010000),
  (0x09000C, 0x02108010),
  (0x090010, 0x00000A32),
  (0x090014, 0x4B0003E8),
  (0x090018, 0x10000064),
  (0x09001C, 0x00100420),
  (0x0A0000, 0x00000003),
  (0x0A0004, 0x40000000),
  (0x0A000C, 0x03E80064),
  (0x0A0100, 0x00000006),
  (0x0A0110, 0x00000004),
  (0x0B0000, 0x00000100),
  (0x0B0004, 0x00000001)]
/-- The reset values other than zero that do not depend on a parameter (R439 to R452), part 2. -/
def resetRows2 : List (Nat × Word) := [
  (0x0B0008, 0x4B190A01),
  (0x0B000C, 0x00000064),
  (0x0B002C, 0x00000001),
  (0x0C0008, 0x000003E8),
  (0x0D0000, 0x03000A00)]
/-- The reset values other than zero that do not depend on a parameter (R439 to R452). -/
def resetRows : List (Nat × Word) :=
  resetRows0 ++ resetRows1 ++ resetRows2

/-- The _LO registers of the 64-bit pairs (R436); _HI lies 4 above. -/
def pairLos : List Nat :=
  [R.SEAM_PRBS_BITS_LO, R.TLR_LANE_TIME_LO, R.TTB_START_LO, R.TTB_LOAD_ADDR_LO, R.RWT_TIME_LO, R.RWT_PATH_LO, R.JCT_ELEMS_LO, R.MSH_BIND_LO, R.SBX_RING_BASE_LO, R.SBX_HEALTH_TIME_LO, R.SBX_FW_ADDR_LO, R.SBX_FO_TIME_LO, R.PCM_WAKE_AT_LO, R.PCM_BROWN_TIME_LO, R.IDN_AUTH_CTR0_LO, R.IDN_AUTH_CTR1_LO]

/-- The row that holds an offset. -/
def regRow (a : Nat) : Option RegRow :=
  regRows.find? fun r => r.lo ≤ a && a < r.lo + r.count * r.step && (a - r.lo) % r.step == 0

/-- GBL_PARAM (R439) shows the parameters in force. -/
def gblParam (p : Params) : Word :=
  BitVec.ofNat 32 (p.regClkMax / 2 * 2 ^ 24 + b2n (p.wsp == .pins) * 2 ^ 17 + b2n p.orient180 * 2 ^ 16
    + p.ratio * 2 ^ 8 + p.ports)

/-- The reset value of a register (R439 to R452). MNF_PORT_CFG_n and GBL_PARAM and PCM_CLK follow the parameters.
(DEDUCED: log entry 69) -/
def regReset (p : Params) (a : Nat) : Word :=
  if R.MNF_PORT_CFG ≤ a && a < R.MNF_PORT_CFG + 32 then
    if (a - R.MNF_PORT_CFG) / 4 < p.ports then
      BitVec.ofNat 32 (0x80001000 + 240 / p.ports * 2 ^ 16) else 0
  else if a = R.GBL_PARAM then gblParam p
  else if a = R.PCM_CLK then BitVec.ofNat 32 (p.ratio * 2 ^ 24)
  else ((resetRows.find? (fun x => x.1 == a)).map (·.2)).getD 0

/-- The domain that holds a register (R432). -/
def regDom (a : Nat) : Dom :=
  let region := a / 0x10000
  if causes.any (fun c => c.evt == a || c.evt + 4 == a || c.cnt == a) then
    .ao
  else if a == R.SEAM_SLP_STATUS then .ao
  else if R.TLR_SNAP_CTRL ≤ a && a < R.TLR_SNAP_WIN + 1576 then .trk
  else if region == 0x00 || region == 0x06 || region == 0x0B || region == 0x0D then .ao
  else if region == 0x0A then if a < 0x0A0100 then .ao else .ctl
  else if region == 0x0C then if R.IDN_AUTH_CTR0_LO ≤ a && a < R.IDN_AUTH_CTR1_HI + 4 then .ao else .ctl
  else .plat

/-- Offset of an event's enable register: it stands 4 above the event register in every region. -/
def Cause.en (c : Cause) : Nat := c.evt + 4

/-- Region number of an offset, bits 23:16 (R424). -/
def region (a : Nat) : Nat := a / 0x10000

end Sys2Proof.Machine
end

