-- ==== Sys2Proof/Machine/Ops.lean ====
section
/-!
DEFINITION. The operations that every family shares: the register store, time, the Sleeper lane's sender, the outputs
that follow from the state, the frame of a meaning, and small operations on lists.
-/
namespace Sys2Proof.Machine

/-! ## The register store -/

/-- What a store holds at `a` removed. -/
def cellsDrop {α : Type} (a : Nat) : List (Nat × α) → List (Nat × α)
  | [] => []
  | c :: cs => if c.1 = a then cellsDrop a cs else c :: cellsDrop a cs

/-- The entry at `a` of a canonical store set, in ascending order. -/
def cellsPut {α : Type} (a : Nat) (v : α) : List (Nat × α) → List (Nat × α)
  | [] => [(a, v)]
  | c :: cs => if a < c.1 then (a, v) :: c :: cs else if c.1 = a then (a, v) :: cs else c :: cellsPut a v cs

/-- What a canonical store holds at `a`. -/
def cellsGet {α : Type} (a : Nat) : List (Nat × α) → Option α
  | [] => none
  | c :: cs => if c.1 = a then some c.2 else cellsGet a cs

/-- The offsets rise strictly. -/
def cellsRise {α : Type} : List (Nat × α) → Bool
  | [] => true
  | [_] => true
  | c :: d :: cs => c.1 < d.1 && cellsRise (d :: cs)

/-- The canonical form of the register store: offsets rise, and no register listed at its reset value. (DEDUCED: log entry 69) -/
def regsWf (p : Params) (cs : List (Nat × Word)) : Bool :=
  cellsRise cs && cs.all (fun c => c.2 != regReset p c.1)

/-- The stored value of a register: what was last written or recorded, else its reset value. (DEDUCED: log entry 69) -/
def State.reg (s : State) (a : Nat) : Word := (cellsGet a s.regs).getD (regReset s.par a)

/-- The stored value of a register replaced. (DEDUCED: log entry 69) -/
def State.setReg (s : State) (a : Nat) (v : Word) : State :=
  { s with regs := if v = regReset s.par a then cellsDrop a s.regs else cellsPut a v s.regs }

/-- A stored field. -/
def State.fld (s : State) (f : Field) : Nat := Sys2Proof.fld (s.reg f.reg) f.lo f.n

/-- A stored one-bit field. -/
def State.flag (s : State) (f : Field) : Bool := Sys2Proof.bit (s.reg f.reg) f.lo

/-- A stored field replaced. -/
def State.setFld (s : State) (f : Field) (v : Nat) : State := s.setReg f.reg (putField (s.reg f.reg) f.lo f.n v)

/-- A stored field of the register at a distance from the one that the field names: an element of a register array. -/
def State.fldN (s : State) (f : Field) (off : Nat) : Nat := s.fld { f with reg := f.reg + off }

/-- A field whose 0 is taken as 1. -/
def atLeastOne (n : Nat) : Nat := if n = 0 then 1 else n

/-! ## Power and time -/

/-- The block is out of AO reset (R52, R382). -/
def State.up (s : State) : Bool := s.pins.aoRstN && s.pins.aoClk

/-- The block is in functional operation (R63). (DEDUCED: log entry 10) -/
def State.functional (s : State) : Bool := s.up && !s.wrapped

/-- The PLAT domain is powered and out of reset (R363, R383). -/
def State.platLive (s : State) : Bool := s.functional && s.pins.platRstN && s.pcm.st != .retained

/-- The CTL domain runs: off only in retention (R363). -/
def State.ctlOn (s : State) : Bool := s.up && s.pcm.st != .retained

/-- The domain that holds a register is on, so that the register can be reached (R432). (DEDUCED: log entries 10, 11) -/
def State.regOn (s : State) (a : Nat) : Bool :=
  match regDom a with
  | .ao => s.functional
  | .plat => s.platLive
  | .trk => s.functional && s.boot.step != 0
  | .ctl => s.functional && s.ctlOn

/-- Railway time is not locked, for stamps and for the limits of R17 and R21: the lost state counts as locked (R201). -/
def State.unlocked (s : State) : Bool := s.rwt.st == .unlocked || s.rwt.st == .locking

/-- Railway time in ns. -/
def State.now (s : State) : Nat := s.rwt.now

/-- The stamp of a log entry (R424). -/
def State.stamp (s : State) : BitVec 64 := BitVec.ofNat 64 (if s.unlocked then s.aoCycles else s.now)

/-- So many ticks pass; while a backward step is made good, railway time stands (R200). (DESIGN CHOICE: log entry 6) -/
def State.elapse (n : Nat) (s : State) : State :=
  let r := s.rwt
  { s with
    rwt := { r with now := r.now + (n - r.hold), hold := r.hold - n, sub := (r.sub + n) % 10 }
    aoCycles := s.aoCycles + (r.sub + n) / 10 }

/-- The moment `t` has come: a timer's command asserts its expiry, and the count never goes back (R17, R196). (DEDUCED: log entry 8) -/
def State.reach (s : State) (t : Nat) : State :=
  if s.now < t then
    let ticks := s.rwt.sub + s.rwt.hold + (t - s.now)
    { s with rwt := { s.rwt with now := t, hold := 0, sub := ticks % 10 }, aoCycles := s.aoCycles + ticks / 10 } else s

/-- The ticks of the AO clock's ten to a cycle since ao_rst_n_i was released; no step of railway time moves them. -/
def State.ticks (s : State) : Nat := 10 * s.aoCycles + s.rwt.sub

/-- This moment, as the start of a limit. (DEDUCED: log entry 8) -/
def State.mark (s : State) : Mark := { rail := s.now, ticks := s.ticks }

/-- Limits are measured in AO cycles: railway time has not been locked in this start-up (R17). (DEDUCED: log entry 8) -/
def State.byAo (s : State) : Bool := s.unlocked && s.boot.reached != 10

/-- A limit of so many ns from a start has run out: a timer's command asserts its expiry. It is measured in railway time, and before
lock in AO cycles, a part of a cycle counting as one (R17). (DEDUCED: log entry 8) -/
def State.lapse (m : Mark) (ns : Nat) (s : State) : State :=
  if s.byAo then s.elapse (m.ticks + 10 * ((ns + 9) / 10) - s.ticks) else s.reach (m.rail + ns)

/-- Tailoring changed. -/
def modTlr (f : Tlr → Tlr) (s : State) : State := { s with tlr := f s.tlr }

/-- The block is in Sleeper mode. -/
def State.asleep (s : State) : Bool := s.pcm.st == .held || s.pcm.st == .retained

/-- The widest width's sleeves at the platform ratio, as a cap on sleeve numbers (R55). -/
def capSleeves (ratio : Nat) : Nat := if ratio = 20 then 8 else if ratio = 15 then 6 else 4

/-- The number of sleeves in a mask. -/
def popcount8 (m : Byte) : Nat := ((List.range 8).filter (fun i => m.getLsbD i)).length

/-- The sleeves in a mask, ascending. -/
def sleevesOf (m : Byte) : List SleeveNo :=
  ((List.range 8).filter (fun i => m.getLsbD i)).map (fun i => BitVec.ofNat 3 i)

/-- A mask with one sleeve. -/
def slvBit (k : SleeveNo) : Byte := 1#8 <<< k.toNat

/-- A sleeve under a running test counts as unavailable (R101). -/
def State.testMask (s : State) : Byte :=
  if s.seam.test.running || s.seam.test.waiting then
    slvBit (BitVec.ofNat 3 (s.fld F.SEAM_TEST_CTRL.SLEEVE)) else 0

/-- The sleeves that may be used at all: below the cap and not retired (R91), not under test (R101), and not left out of the first
width to be trained alone (R132). -/
def State.permitted (s : State) : Byte :=
  (BitVec.ofNat 8 (2 ^ capSleeves s.par.ratio - 1)) &&& ~~~s.seam.retired &&& ~~~s.testMask &&& ~~~s.tlr.leftOut

/-- The `n` lowest-numbered sleeves of a mask (R91). -/
def lowest (m : Byte) (n : Nat) : Byte :=
  ((sleevesOf m).take n).foldl (fun acc k => acc ||| slvBit k) 0

/-! ## Outputs -/

/-- Some enabled cause of a line is set (R51). -/
def State.lineOn (s : State) (l : Line) : Bool :=
  causes.any fun c => c.line == l && (s.reg c.evt).getLsbD c.bitNo && (s.reg c.en).getLsbD c.bitNo

/-- pcm_state_o (R58). -/
def State.pcmStateO (s : State) : BitVec 3 :=
  if !s.functional then 0b000#3
  else if s.lnk.st == .grace || s.lnk.st == .flushed then 0b101#3
  else match s.pcm.st with
    | .start => 0b000#3
    | .held | .retained => 0b001#3
    | .waking => 0b010#3
    | .awake | .sleeping =>
      if s.seam.usable = 0 then 0b001#3
      else if s.seam.usable = s.permitted then 0b100#3 else 0b011#3

/-- The platform ports take requests (R47, R58, R160, R161, R412): PLAT runs, LINK_UP has been raised since the link was last brought
up, and the block is neither asleep, unless its link has gone down in its sleep, nor waking. (DEDUCED: log entry 66) -/
def State.portsReady (s : State) : Bool :=
  s.platLive && (s.boot.step == 0x8 || s.boot.step == 0x9) && s.lnk.st != .notUp
    && (s.pcm.st == .awake || s.pcm.st == .sleeping || (s.pcm.st == .held && (s.lnk.st == .grace || s.lnk.st == .flushed)))

/-- The block drives beats on its ports: PLAT runs, and it is neither asleep, but for a link that has gone down in its sleep, nor waking
(R47). (DEDUCED: log entry 66) -/
def State.portsDrive (s : State) : Bool :=
  s.platLive && s.pcm.st != .waking && !(s.asleep && !(s.pcm.st == .held && (s.lnk.st == .grace || s.lnk.st == .flushed)))

/-- The output pins that follow from the state; the register port's answer stays as it is. -/
def outsOf (s : State) : Outs :=
  { irqFault := s.up && s.lineOn .fault, irqCmpl := s.up && s.lineOn .cmpl, irqInfo := s.up && s.lineOn .info,
    aoRefClk := s.pins.aoClk, aoClkOk := s.pins.aoClk, pcmState := s.pcmStateO, portsReady := s.portsReady, brownout := s.up && s.pcm.brown,
    regAck := s.outs.regAck, regRdata := s.outs.regRdata, regErr := s.outs.regErr }

/-- The queue of R406 that a message TYPE leaves from. -/
def slpClass (type : Byte) : Nat :=
  if type = 0x10 || type = 0x11 then 1
  else if type = 0x38 || type = 0x39 then 2
  else if type = 0x40 then 3
  else if type = 0x58 || type = 0x59 then 4
  else if type = 0x30 || type = 0x31 || type = 0x32 || type = 0x33 then 5
  else if type = 0x28 || type = 0x29 || type = 0x2A then 6
  else 7

/-- A message put into its queue of the Sleeper transmitter (R405, R406). (DESIGN CHOICE: log entry 13) -/
def sendSlp (type : Byte) (words : List Word) (s : State) : State :=
  { s with slp := { s.slp with queue := s.slp.queue ++ [(slpClass type, type, words)] } }

/-- The messages of the queues in their order of departure: by queue, within one queue in order of arrival (R406).
(DESIGN CHOICE: log entry 13) -/
def slpOrder (q : List (Nat × Byte × List Word)) : List (Byte × List Word) :=
  ([1, 2, 3, 4, 5, 6, 7].flatMap fun k => q.filter (fun m => m.1 == k)).map (·.2)

/-- Messages with their MSEQ, newest first (R405). (DESIGN CHOICE: log entries 2, 13) -/
def slpEmit : List (Byte × List Word) → Byte → List Emit → List Emit
  | [], _, acc => acc
  | m :: ms, n, acc => slpEmit ms (n + 1) (.sleeper m.1 n m.2 :: acc)

/-- The blocks of messages in their order of departure, scrambled from block `n` of the line on (R97, R405). (DESIGN CHOICE: log
entries 13, 55) (PRESUMED: log entry 55) -/
def slpLine : List (Byte × List Word) → Byte → Nat → List (BitVec 34)
  | [], _, _ => []
  | m :: ms, q, n =>
    let bs := msgBlocks m.1 q m.2
    bs.mapIdx (fun i b => slpScramble (n + i) b) ++ slpLine ms (q + 1) (n + bs.length)

/-- The block of the Sleeper line that the transmitter is at: 34 bits of 0.1 ns each (R97). -/
def State.slpAt (s : State) : Nat := max s.slp.block (10 * s.ticks / 34)

/-- The end of every meaning: waiting Sleeper messages leave, and the output flip-flops take the values that the state
gives them (R33, R51, R58, R406). (DESIGN CHOICE: log entry 13) -/
def settle (s : State) : State :=
  let ms := slpOrder s.slp.queue
  { s with
    out := slpEmit ms s.slp.mseq s.out
    slp := { s.slp with
      queue := [], mseq := s.slp.mseq + BitVec.ofNat 8 ms.length
      block := if ms = [] then s.slp.block else s.slpAt + (ms.map fun m => m.2.length + 2).sum
      line := if ms = [] then s.slp.line else slpLine ms s.slp.mseq s.slpAt }
    outs := outsOf s }

/-- A meaning that runs while the block is out of AO reset; otherwise the event finds nothing to act on (R52, R382).
(DEDUCED: log entry 11) -/
def whenUp (s : State) (k : State → State) : Host.Outcome State Fault Refusal :=
  .next (if s.up then settle (k s) else s)

/-- A meaning that runs while the block is in functional operation (R63). (DEDUCED: log entries 10, 11) -/
def whenFunctional (s : State) (k : State → State) : Host.Outcome State Fault Refusal :=
  .next (if s.functional then settle (k s) else s)

/-- A meaning of the PLAT domain: it runs while that domain is powered and out of reset (R363, R383). (DEDUCED: log entry 11) -/
def whenPlat (s : State) (k : State → State) : Host.Outcome State Fault Refusal :=
  .next (if s.platLive then settle (k s) else s)

/-- A meaning of a message from the station: it arrives while the Sleeper receiver is in lock (R98). (DEDUCED: log entry 11) -/
def whenMsg (s : State) (k : State → State) : Host.Outcome State Fault Refusal :=
  .next (if s.functional && s.slp.lock then settle (k s) else s)

/-- A meaning of an event on a lane of one direction: there are lanes 0 to 71 (R64). (DEDUCED: log entry 68) -/
def whenLane (n : LaneNo) (s : State) (k : State → State) : Host.Outcome State Fault Refusal :=
  if n.toNat < 72 then whenFunctional s k else .fault (.noSuchLane n)

/-- The answer of the register port: reg_ack_o and reg_err_o (R48, R49). (DESIGN CHOICE: log entry 7) -/
def State.answer (err : Bool) (s : State) : State := { s with outs := { s.outs with regAck := true, regErr := err } }

/-- The answer to a read, with reg_rdata_o (R48, R49). (DESIGN CHOICE: log entry 7) -/
def State.answerRead (v : Word) (err : Bool) (s : State) : State :=
  { s with outs := { s.outs with regAck := true, regRdata := v, regErr := err } }

/-- A write of the register at `a` by the register port, where `row` says that it is the write of the command's row: it has its
effect, or is refused with reg_err_o while the register's domain is off (R49). -/
def portWrite (a : Nat) (row : Bool) (k : State → State) (s : State) : State :=
  if row then (if s.regOn a then (k s).answer false else s.answer true) else s

/-! ## Free values and small list operations -/

/-- The next draw of a free value: its number. (DESIGN CHOICE: log entry 4) -/
def State.draw (s : State) : State := { s with free := s.free + 1 }

/-- The element of a list that meets a test, replaced by its image; the others stay. -/
def mapIf {α : Type} (p : α → Bool) (f : α → α) (l : List α) : List α := l.map fun x => if p x then f x else x

/-- The last element that meets a test, replaced by its image; none when no element meets it. -/
def mapLast {α : Type} (p : α → Bool) (f : α → α) : List α → Option (List α)
  | [] => none
  | x :: xs =>
    match mapLast p f xs with
    | some ys => some (x :: ys)
    | none => if p x then some (f x :: xs) else none

/-- Element `i` of a vector replaced by its image; the vector itself past its end. -/
def vmod {α : Type} {n : Nat} (v : Vector α n) (i : Nat) (f : α → α) : Vector α n :=
  if h : i < n then v.set i (f v[i]) h else v

/-- One port changed. -/
def State.modPort (s : State) (p : PortId) (f : Port → Port) : State :=
  { s with ports := vmod s.ports p.toNat f }

/-- One port. -/
def State.port (s : State) (p : PortId) : Port := s.ports[p.toNat]'(by have := p.isLt; omega)

/-- A platform port is present (QLA_PLAT_PORTS, R69). -/
def State.hasPort (s : State) (p : PortId) : Bool := p.toNat < s.par.ports

/-- An output of the block recorded, newest first. (DESIGN CHOICE: log entry 2) -/
def State.emit (s : State) (e : Emit) : State := { s with out := e :: s.out }

/-- The tile of a physical endpoint ID, bits 13:7, and its site, bits 6:0 (R410, R415's example). -/
def tileOf (p : BitVec 14) : BitVec 7 := Sys2Proof.bits p 7 7

/-- The site of a physical endpoint ID. -/
def siteOf (p : BitVec 14) : BitVec 7 := Sys2Proof.bits p 0 7

/-- The block's own physical ID. -/
def State.own (s : State) : BitVec 14 := s.boot.phys

/-- `b` follows `a` under RFC 1982 with the width of the numbers (R18). -/
def serialLt {w : Nat} (a b : BitVec w) : Bool := let d := (b - a).toNat; 0 < d && d < 2 ^ (w - 1)

end Sys2Proof.Machine
end

