-- ==== Sys2Proof/Machine/Flags.lean ====
section
/-!
DEFINITION. The flags: how a cause is set and counted (R15), what the fault log takes of it (R421 to R426) and the DETAIL
that its class carries (R425), and how start-up holds at a step (R416).
-/
namespace Sys2Proof.Machine

/-! ## Causes, counters and the log's sources -/

/-- A cause's flag is set and its companion counter counts, saturating at 0xFFFF (R15). -/
def setCause (c : Cause) (s : State) : State :=
  let s := s.setReg c.evt (s.reg c.evt ||| (1#32 <<< c.bitNo))
  s.setReg c.cnt (if s.reg c.cnt = 0xFFFF#32 then 0xFFFF#32 else s.reg c.cnt + 1)

/-- The occurrence of a cause as the log takes it (R424). -/
def occOf (c : Cause) (cls cost : Byte) (multi : Bool) (detail : BitVec 80) (s : State) : Occ :=
  { time := s.stamp, unlocked := s.unlocked, cycle := s.aoCycles, cls := cls, detect := BitVec.ofNat 8 (region c.evt), cost := cost,
    multi := multi, line := if c.line == .info then 0b11#2 else 0b01#2, enabled := (s.reg c.en).getLsbD c.bitNo,
    evtOff := BitVec.ofNat 16 (c.evt % 0x10000), bitNo := BitVec.ofNat 8 c.bitNo, repeats := 0, detail := detail }

/-- An occurrence handed to the log as its source's pending occurrence (R426). -/
def pushOcc (o : Occ) (s : State) : State := { s with flt := { s.flt with pend := s.flt.pend ++ [o] } }

/-- A cause occurs: flag, counter, and an occurrence for the log when its line is fault, or info with INFO_LOG at 1
(R15, R421). `cls` and `cost` are the entry's. -/
def raiseAs (c : Cause) (cls cost : Byte) (detail : BitVec 80) (s : State) : State :=
  let log := c.line == .fault || (c.line == .info && s.flag F.FLT_CTRL.INFO_LOG)
  let s' := setCause c s
  if log then pushOcc (occOf c cls cost false detail s) s' else s'

/-- A cause occurs, under its own class and at its own subsystem's cost. (DEDUCED: log entry 62) -/
def raise (c : Cause) (detail : BitVec 80) (s : State) : State :=
  raiseAs c (BitVec.ofNat 8 c.cls) (BitVec.ofNat 8 (region c.evt)) detail s

/-- One event that sets causes in more than one register: every cause is set and counted, one entry is written, with
FLAGS.MULTI (R422). (DEDUCED: log entry 62) -/
def raiseMulti (c : Cause) (others : List Cause) (cls cost : Byte) (detail : BitVec 80) (s : State) : State :=
  let o := occOf c cls cost true detail s
  pushOcc o ((c :: others).foldl (fun s c => setCause c s) s)

/-- REPEAT counts one more, saturating (R424). -/
def bump (o : Occ) : Occ := { o with repeats := min 0xFFFF (o.repeats + 1) }

/-- REPEAT of the latest occurrence that meets a test, at its source, in the intake or in the ring, counts one more (R219). -/
def bumpOcc (p : Occ → Bool) (s : State) : State :=
  match mapLast p bump s.flt.pend with
  | some l => { s with flt := { s.flt with pend := l } }
  | none =>
    match mapLast p bump s.flt.intake with
    | some l => { s with flt := { s.flt with intake := l } }
    | none =>
      match mapLast (fun x : FltEntry => p x.occ) (fun x => { x with occ := bump x.occ }) s.flt.ring with
      | some l => { s with flt := { s.flt with ring := l } }
      | none => s

/-! ## DETAIL of the log's classes (R425) -/

/-- A detail field placed at its lowest bit. -/
def at80 (lo : Nat) (v : Nat) : BitVec 80 := BitVec.ofNat 80 v <<< lo

/-- Class 0x01: sleeve, lane, direction, and the seam's masks. -/
def detSeam (slv : Nat) (lane : Nat) (up : Bool) (spare : Nat) (s : State) : BitVec 80 :=
  at80 0 slv ||| at80 3 lane ||| at80 7 (b2n up) ||| at80 8 spare ||| at80 10 s.seam.retired.toNat
    ||| at80 18 s.seam.usable.toNat

/-- LNK_STATUS.STATE as a code (R164). -/
def linkCode : LinkSt → Nat
  | .notUp => 0
  | .up => 1
  | .retrain => 2
  | .grace => 3
  | .flushed => 4

/-- LNK_REPLAY (R164). (DESIGN CHOICE: log entry 67) -/
def lnkReplayWord (l : Lnk) : Word :=
  BitVec.ofNat 32 (min l.retrainFails 255 * 2 ^ 24 + min ((l.siding.head?.map (·.replays)).getD 0) 255 * 2 ^ 16
    + l.retrains.toNat)

/-- Class 0x02: the replay register, the sequence numbers, the link-down cause and the state after. (DEDUCED: log entry 61) -/
def detLink (cause : Nat) (s : State) : BitVec 80 :=
  at80 0 (lnkReplayWord s.lnk).toNat ||| at80 32 s.lnk.lastAcc.toNat ||| at80 44 s.lnk.acked.toNat ||| at80 56 cause
    ||| at80 64 (linkCode s.lnk.st)

/-- The job of the active bank (R203), zero without one. -/
def State.job (s : State) : Nat := (((s.ttb.banks[b2n s.ttb.active]!).map (·.job.toNat))).getD 0

/-- Class 0x03: entry index, deadline kind, result or reason, epoch and job. -/
def detTtb (entry kind result : Nat) (s : State) : BitVec 80 :=
  at80 0 (entry % 2 ^ 17) ||| at80 17 kind ||| at80 20 result ||| at80 32 s.ttb.epoch.toNat ||| at80 48 s.job

/-- Class 0x04: tag or BTAG, port, kind, attempt, status, destination. -/
def detTxn (tag port : Nat) (block : Bool) (attempt status dest ldest : Nat) : BitVec 80 :=
  at80 0 tag ||| at80 18 port ||| at80 21 (b2n block) ||| at80 22 attempt ||| at80 24 status ||| at80 32 dest
    ||| at80 46 ldest

/-- Class 0x06 of a FENCE_NOTICE: the die and T_FENCE. -/
def detFence (die : BitVec 14) (t : Nat) : BitVec 80 := at80 0 die.toNat ||| at80 14 (t % 2 ^ 64)

/-- Class 0x07: group, result, timetabled, member. -/
def detJct (group result : Nat) (t6 : Bool) (member : Nat) : BitVec 80 :=
  at80 0 group ||| at80 12 result ||| at80 16 (b2n t6) ||| at80 17 member

/-- Class 0x08: group, contributor, residual, window, epoch. -/
def detAsp (group contrib residual win epoch : Nat) : BitVec 80 :=
  at80 0 group ||| at80 12 contrib ||| at80 32 residual ||| at80 48 win ||| at80 64 epoch

/-- The state codes of R341. -/
def boxCode : BoxSt → Nat
  | .reset => 0
  | .loading => 1
  | .selfTest => 2
  | .active => 3
  | .standby => 4
  | .isolated => 5
  | .resync => 6
  | .failed => 7
  | .rejected => 8

/-- Class 0x09: fail-over information, journal generation and the boxes' states. (DEDUCED: log entry 61) -/
def detBox (s : State) : BitVec 80 :=
  at80 0 s.sbx.foInfo.toNat ||| at80 32 s.sbx.gen.toNat ||| at80 64 (boxCode s.sbx.a.st) ||| at80 68 (boxCode s.sbx.b.st)

/-- Class 0x0A: opcode, status, key slot, counter. -/
def detSec (opcode status slot counter : Nat) : BitVec 80 :=
  at80 0 opcode ||| at80 16 status ||| at80 32 slot ||| at80 48 (counter % 2 ^ 32)

/-- PCM_STATUS.DEPTH (R387). -/
def State.depth (s : State) : Nat :=
  match s.pcm.st with
  | .held => 1
  | .retained => 2
  | _ => 0

/-- A JCT or ASP command runs: its opcode lies in group 4 or 5 (R363). -/
def State.jctCommand (s : State) : Bool :=
  let isJct (c : List Byte) : Bool := leAt c 1 1 == 4 || leAt c 1 1 == 5
  s.vtx.slots.any (fun x => x.st == .running && isJct x.cmd) || s.vtx.ctxs.any (fun x => x.running && isJct x.cmd)

/-- The domains powered, by number: AO, PLAT, SEAM, JCT, TRK, CTL (R363, R387). PLAT, TRK and CTL are on whenever the
block is up and out of retention (TRK also in it); SEAM with any sleeve; JCT while a group is open or a JCT or ASP command runs. -/
def State.domains (s : State) : Nat :=
  if !s.up then 1 else
    let awake := s.pcm.st != .retained
    let started := s.boot.step != 0
    b2n true + 2 * b2n (awake && started) + 4 * b2n (s.seam.powered != 0)
      + 8 * b2n (awake && (s.jctCommand || !(s.jct.groups.isEmpty && s.asp.dests.isEmpty && s.asp.mems.isEmpty)))
      + 16 * b2n started + 32 * b2n (awake && started)

/-- Class 0x0B: hold-up, depth, masks and the platform count. (DEDUCED: log entry 61) -/
def detPcm (s : State) : BitVec 80 :=
  at80 0 s.pcm.holdup.toNat ||| at80 16 s.depth ||| at80 18 s.seam.powered.toNat ||| at80 26 s.domains
    ||| at80 32 s.pcm.platCount.toNat

/-- Class 0x0C: the last set's offset and delay and the station's quality. -/
def detRwt (s : State) : BitVec 80 :=
  at80 0 s.rwt.offset.toNat ||| at80 16 s.rwt.delay.toNat ||| at80 32 s.rwt.q.toNat

/-- Class 0x0D: the first 64 bits of what was discarded, its source and its layer (0 flit, 1 packet, 2 Sleeper message,
3 other). -/
def detProto (first src layer : Nat) : BitVec 80 := at80 0 (first % 2 ^ 64) ||| at80 64 src ||| at80 78 layer

/-- Start-up holds at a step with a fail code, and the log takes an entry of class 0x0E (R416, R424). (DEDUCED: log entry 51) -/
def startHold (code : Nat) (region : Byte) (s : State) : State :=
  let o : Occ :=
    { time := s.stamp, unlocked := s.unlocked, cycle := s.aoCycles, cls := 0x0E, detect := region, cost := region, multi := false,
      line := 0b01#2, enabled := false, evtOff := 0xFFFF, bitNo := 0xFF, repeats := 0,
      detail := at80 0 code ||| at80 4 s.boot.step.toNat }
  pushOcc o { s with boot := { s.boot with heldAt := s.boot.step, step := 0xF, fail := BitVec.ofNat 4 code } }

end Sys2Proof.Machine
end

