-- ==== Sys2Proof/Machine/Queue.lean ====
section
/-!
DEFINITION. What the link layer offers the units above it: packets put into the outbound queues (R160, R165), packets taken
out of the receive pool with their tickets returned (R148), and the sending of management packets (R324, R326).
-/
namespace Sys2Proof.Machine

/-- The flits of a packet on a track, first to last (R136, R165). (DEDUCED: log entry 14) -/
def pktFlits (t : Nat) (bytes : List Byte) : List OutFlit :=
  let cs := chunks240 (flitsOf bytes.length) bytes
  cs.mapIdx fun i c => { track := BitVec.ofNat 3 t, sop := i == 0, eop := i + 1 == cs.length, data := c }

/-- The link layer holds traffic for the seam: it is neither before link-up nor flushed (R160, R161). -/
def State.linkOpen (s : State) : Bool := s.lnk.st != .notUp && s.lnk.st != .flushed

/-- The outbound queue of a track has room for a packet: it holds fewer than 8 flits (R160). (DEDUCED: log entry 14) -/
def State.room (s : State) (t : Nat) : Bool := (s.lnk.outq.toList.getD t []).length < 8

/-- A packet put into a track's outbound queue; discarded where the link is not there to take it (R161) or the track lies
outside the negotiated set (R163). (DEDUCED: log entry 14) -/
def queuePacket (t : Nat) (bytes : List Byte) (s : State) : State :=
  if s.linkOpen && s.lnk.trackMask.getLsbD t then { s with lnk := { s.lnk with
    outq := vmod s.lnk.outq t (· ++ pktFlits t bytes)
    heldFrom := if (s.lnk.outq.toList.getD t []).isEmpty then vmod s.lnk.heldFrom t (fun _ => s.mark) else s.lnk.heldFrom } } else s

/-- A T0 ticket is in hand: tickets of T0 and shared ones exceed the T0 flits that wait (R326), and the outbound queue has room
(R160). -/
def State.t0Ticket (s : State) : Bool :=
  s.linkOpen && s.room 0 && (s.lnk.outq.toList.getD 0 []).length < s.lnk.held[0] + s.lnk.held[5]

/-- A management packet sent (R324); none when no T0 ticket is in hand. -/
def sendT0 (dest : BitVec 14) (rtag : BitVec 16) (op : Byte) (data : List Byte) (s : State) : Option State :=
  if s.t0Ticket then
    let h : MHdr := { src := s.own, dest := dest, rtag := rtag, len := BitVec.ofNat 13 data.length, rsv := 0, op := op }
    some (queuePacket 0 (bvBytes h.toBits ++ data) s)
  else none

/-- A management packet sent where a ticket allows; dropped otherwise. -/
def trySendT0 (dest : BitVec 14) (rtag : BitVec 16) (op : Byte) (data : List Byte) (s : State) : State :=
  (sendT0 dest rtag op data s).getD s

/-- Programming packets that wait leave in order as far as tickets allow (R147, R207); `n` bounds the work. -/
def pumpProgs : Nat → State → State
  | 0, s => s
  | n + 1, s =>
    match s.vtx.progs.findSome? fun p => p.rest.head? with
    | none => s
    | some (t, d) =>
      match sendT0 0x3FFF t 0x65 d s with
      | none => s
      | some s =>
        pumpProgs n { s with vtx := { s.vtx with progs := s.vtx.progs.map fun p => { p with rest := p.rest.filter (·.1 != t) } } }

/-- The ACK or a ticket count changes: the bound of R145 for its sending runs from the first change not yet sent. -/
def ackChanged (s : State) : State :=
  { s with lnk := { s.lnk with ackDirty := true, dirtyFrom := if s.lnk.ackDirty then s.lnk.dirtyFrom else s.mark } }

/-- A ticket of an accepted flit that has left its buffer goes back (R148). -/
def returnTicket (f : RxFlit) (s : State) : State :=
  let k : Option Nat := if f.shared then some 5 else (kindOfTrack f.flit.track).map Fin.val
  match k with
  | none => s
  | some i =>
    ackChanged { s with lnk := { s.lnk with returned := vmod s.lnk.returned i (· + 1) } }

/-- The flits of the oldest whole packet of a track, and the others, in order. -/
def splitPacket (t : BitVec 3) : List RxFlit → Bool → List RxFlit × List RxFlit
  | [], _ => ([], [])
  | f :: fs, done =>
    if f.flit.track = t && !done then
      let (a, b) := splitPacket t fs f.flit.eop
      (f :: a, b)
    else
      let (a, b) := splitPacket t fs done
      (a, f :: b)

/-- A whole packet of the track stands in the receive pool. -/
def State.hasPacket (s : State) (t : BitVec 3) : Bool := s.lnk.pool.any fun f => f.flit.track == t && f.flit.eop

/-- The oldest whole packet of a track taken out of the list of the receive pool: its flits, which keep their buffers. -/
def takePacket (t : BitVec 3) (s : State) : List RxFlit × State :=
  if s.hasPacket t then
    let (a, b) := splitPacket t s.lnk.pool false
    (a, { s with lnk := { s.lnk with pool := b } })
  else ([], s)

/-- Flits leave their buffers, and their tickets go back (R148). -/
def freeFlits (fs : List RxFlit) (s : State) : State := fs.foldl (fun s f => returnTicket f s) s

/-- The oldest whole packet of a track leaves the receive pool, and its tickets go back (R148). -/
def freePacket (t : BitVec 3) (s : State) : State :=
  let (fs, s) := takePacket t s
  freeFlits fs s

end Sys2Proof.Machine
end

