-- ==== Sys2Proof/Machine/Reply.lean ====
section
/-!
DEFINITION. How a Vetex command ends: the reply slot of a local command with its completion FIFO, and the context of a remote
one with its VTX_REPLY (R316 to R319, R326).
-/
namespace Sys2Proof.Machine

/-- OPCODE of stored command bytes (R313). -/
def cmdOpcode (c : List Byte) : Nat := leAt c 0 2

/-- FLAGS. -/
def cmdFlags (c : List Byte) : Byte := leWord 8 c 2 1

/-- VERSION. -/
def cmdVersion (c : List Byte) : Byte := leWord 8 c 3 1

/-- TAG. -/
def cmdTag (c : List Byte) : BitVec 16 := leWord 16 c 4 2

/-- LENGTH. -/
def cmdLength (c : List Byte) : Nat := leAt c 6 2

/-- The parameter bytes. -/
def cmdParams (c : List Byte) : List Byte := (c.drop 16).take (cmdLength c)

/-- Class 0x0A of a command: opcode, status, and key slot and counter of its authorisation block (R400, R425). -/
def detCmd (c : List Byte) (status : Nat) : BitVec 80 :=
  let signed := (cmdFlags c).getLsbD 1
  let b := (cmdParams c).drop (cmdLength c - 128)
  detSec (cmdOpcode c) status (if signed then leAt b 0 1 % 2 else 0) (if signed then leAt b 8 8 else 0)

/-- AUTH_FAIL for a command that ended with a status of class 0x04 (R312). (DEDUCED: log entry 62) -/
def authFail (c : List Byte) (status : BitVec 16) (s : State) : State :=
  if status.toNat / 256 = 4 then raise C.SBX_VTX.AUTH_FAIL (detCmd c status.toNat) s else s

/-- The completion FIFO takes a tag, or drops it when it holds 128 (R319). -/
def cplPush (t : BitVec 16) (s : State) : State :=
  if s.vtx.cpl.length < 128 then { s with vtx := { s.vtx with cpl := s.vtx.cpl ++ [t] } }
  else raise C.SBX_VTX.CPL_OVERFLOW (detBox s) s

/-- The reply slot of a tag. -/
def State.slot (s : State) (t : BitVec 16) : Option Slot := s.vtx.slots.find? (·.tag == t)

/-- The context of a number. -/
def State.ctx (s : State) (c : BitVec 5) : Option Ctx := s.vtx.ctxs.find? (·.num == c)

/-- RFLAGS of a reply (R316). -/
def rflags (done read rerun : Bool) : Byte := BitVec.ofNat 8 (b2n done + 2 * b2n read + 4 * b2n rerun)

/-- The bytes of a reply: header and data (R316). -/
def replyBytes (tag status : BitVec 16) (data : List Byte) (fl version : Byte) : List Byte :=
  leBytes 2 tag.toNat ++ leBytes 2 status.toNat ++ leBytes 2 data.length ++ [fl, version] ++ data

/-- A remote reply leaves as VTX_REPLY, or is dropped for want of a T0 ticket (R326). -/
def sendReply (c : Ctx) (s : State) : State :=
  let b := replyBytes (cmdTag c.cmd) c.status c.data (rflags true false c.rerun) (cmdVersion c.cmd)
  match sendT0 c.src c.rtag 0x61 b s with
  | some s' => s'
  | none => raise C.SBX_VTX.REMOTE_DROP (detBox s) s

/-- What waits for a command no longer waits. -/
def dropWait (r : CmdRef) (s : State) : State :=
  { s with vtx := { s.vtx with waits := s.vtx.waits.filter (fun w => w.1 != r) } }

/-- The generation after one (R344). -/
def nextGen (g : BitVec 32) : BitVec 32 := if g = 0xFFFFFFFF then 1 else g + 1

/-- What the mirrored state holds now is committed as the next generation, after the one that was in transfer (R344, R345).
(DEDUCED: log entry 48) -/
def commitNow (s : State) : State :=
  let g := if s.sbx.sending then nextGen s.sbx.gen else s.sbx.gen
  { s with sbx := { s.sbx with gen := nextGen g, journal := s.vtx, sending := false, writes := [] } }

/-- A box stands by, in step with the journal (R341). -/
def State.hasStandby (s : State) : Bool := s.sbx.a.st == .standby || s.sbx.b.st == .standby

/-- A change of the mirrored state goes into a generation: committed at once where no box stands by (R345). (DEDUCED: log entry 48) -/
def beginGen (s : State) : State :=
  if s.hasStandby then { s with sbx := { s.sbx with sending := true } } else commitNow s

/-- A running command completes with a status and reply data (R317, R326), in a generation of its own (R345). A reference to a
command that does not run has no effect. (DEDUCED: log entry 48) -/
def completeNow (r : CmdRef) (status : BitVec 16) (data : List Byte) (s : State) : State :=
  match r with
  | .tag t =>
    match s.slot t with
    | some sl =>
      if sl.st == .running then
        let s := { s with vtx := { s.vtx with
          slots := mapIf (·.tag == t) (fun x => { x with st := .unread, status := status, data := data }) s.vtx.slots } }
        authFail sl.cmd status (raise C.SBX_VTX.CMD_DONE 0 (commitNow (cplPush t (dropWait r s))))
      else s
    | none => s
  | .context n =>
    match s.ctx n with
    | some c =>
      if c.running then
        let c' := { c with running := false, status := status, data := data, age := 0 }
        let others := s.vtx.ctxs.filterMap fun x =>
          if x.num == n then some c'
          else if x.running then some x
          else if x.age + 1 ≥ 32 then none
          else some { x with age := x.age + 1 }
        let s := dropWait r { s with vtx := { s.vtx with ctxs := others } }
        authFail c.cmd status (sendReply c' (commitNow s))
      else s
    | none => s

/-- A running command completes, when the active box's firmware runs; in a fail-over the command is left to the new active box
(R321, R351). -/
def complete (r : CmdRef) (status : BitVec 16) (data : List Byte) (s : State) : State :=
  if s.sbx.ready then completeNow r status data s else s

/-- A command that a status ends without data. -/
def finish (r : CmdRef) (status : BitVec 16) (s : State) : State := complete r status [] s

/-- The stored bytes of a running command that has been taken; none when the reference names none (R311). -/
def State.running (s : State) (r : CmdRef) : Option (List Byte) :=
  match r with
  | .tag t => (s.slot t).bind fun sl => if sl.st == .running then some sl.cmd else none
  | .context n => (s.ctx n).bind fun c => if c.running && !s.vtx.remoteReady.contains n then some c.cmd else none

/-- A command waits for a later event; `early` marks the commands that count as complete under R315. (DEDUCED: log entry 46) -/
def addWait (r : CmdRef) (w : Wait) (early : Bool) (s : State) : State :=
  let v := { s.vtx with waits := s.vtx.waits ++ [(r, w)] }
  match r with
  | .tag t => { s with vtx := { v with slots := mapIf (·.tag == t) (fun x => { x with waits := early }) v.slots } }
  | .context n => { s with vtx := { v with ctxs := mapIf (·.num == n) (fun x => { x with waits := early }) v.ctxs } }

/-- Every command that waits for `w` completes. (DEDUCED: log entry 46) -/
def wake (w : Wait) (status : BitVec 16) (data : List Byte) (s : State) : State :=
  (s.vtx.waits.filter (fun x => x.2 == w)).foldl (fun s x => complete x.1 status data s) s

/-- Some command waits for `w`. -/
def State.waited (s : State) (w : Wait) : Bool := s.vtx.waits.any (fun x => x.2 == w)

/-- The order of taking of a command, and whether it counts as complete under R315. -/
def State.orderOf (s : State) (r : CmdRef) : Option Nat :=
  match r with
  | .tag t => (s.slot t).map (·.order)
  | .context n => (s.ctx n).map (·.order)

/-- An earlier command of the same opcode group has not completed (R315). (DEDUCED: log entry 46) -/
def State.behind (s : State) (group order : Nat) : Bool :=
  s.vtx.slots.any (fun x => x.st == .running && !x.waits && cmdOpcode x.cmd / 256 == group && x.order < order)
    || s.vtx.ctxs.any (fun x => x.running && !s.vtx.remoteReady.contains x.num && !x.waits && cmdOpcode x.cmd / 256 == group && x.order < order)

/-- The step that an opcode needs has been passed since the last cold reset (R415). -/
def State.stepPassed (s : State) (op : Nat) : Bool :=
  let r := s.boot.reached.toNat
  if op = 0x0801 || op = 0x0802 || op = 0x0803 then s.idn.key == .ready
  else if op = 0x0301 || op = 0x0304 || op = 0x0305 || op = 0x0610 || op = 0x0611 || op = 0x0601 || op = 0x0602
      || op = 0x0620 || op = 0x0621 || op = 0x0622 then 7 ≤ r
  else if op = 0x0103 || op = 0x0104 || op = 0x0105 || op = 0x0102 || op = 0x0201 || op = 0x0703 || op = 0x0704 || op = 0x0702
      || op = 0x0630 then 9 ≤ r
  else if op = 0x0302 || op = 0x0303 || op / 256 = 4 || op / 256 = 5 || op = 0x0905 then 10 ≤ r
  else true

/-- A taken command of an opcode starts: the active box's firmware runs, the command is not already waiting, and every
earlier command of its group has completed (R315). It ends with VTX_NOT_READY before the step it needs (R415). Its parameters
exclude the authorisation block. (DEDUCED: log entry 46) -/
def withCmd (r : CmdRef) (op : Nat) (s : State) (k : List Byte → State → State) : State :=
  match s.running r, s.orderOf r with
  | some c, some n =>
    let waits := s.vtx.waits.any fun w => w.1 == r
    if cmdOpcode c = op && s.sbx.ready && !waits && !s.behind (op / 256) n then
      let ps := cmdParams c
      if s.stepPassed op then k (if (cmdFlags c).getLsbD 1 then ps.take (ps.length - 128) else ps) s
      else finish r 0x0200 s
    else s
  | _, _ => s

/-! ## Management packets received (R324) -/

/-- A T0 packet is malformed (R324). -/
def State.mgmtBad (s : State) (h : MHdr) (n flits : Nat) : Bool :=
  h.rsv != 0 || (h.dest != s.own && h.dest != 0x3FFF) || h.op.toNat < 0x60 || 0x66 < h.op.toNat
    || h.len.toNat != n || 4096 < n || flits != flitsOf (16 + n)

/-- A T0 packet is taken: its tickets go back, and a malformed one is discarded (R324). `k` runs where the packet carries the
operation `op`. (DESIGN CHOICE: log entry 12) -/
def takeT0 (op : Byte) (hdr : BitVec 128) (data : List Byte) (flits : Nat) (k : MHdr → State → State) (s : State) : State :=
  let h := MHdr.ofBits hdr
  let s := freePacket 0 s
  if s.mgmtBad h data.length flits then raise C.SBX_VTX.MALFORMED (detBox s) s
  else if h.op = op then k h s else s

end Sys2Proof.Machine
end

