-- ==== Sys2Proof/Machine/Bind.lean ====
section
/-!
DEFINITION. Placement: the binding table with its generations and releases, the directory of consignments, beacons, and
the resolution of a name into one die (R281 to R304).
-/
namespace Sys2Proof.Machine

/-! ## Binding entries (R281, R282) -/

/-- GEN. -/
def bGen (e : BitVec 64) : BitVec 16 := bits e 48 16
/-- STATE: 0 unbound, 1 bound, 2 paired, 3 fenced. -/
def bState (e : BitVec 64) : BitVec 3 := bits e 45 3
/-- MIRROR. -/
def bMirror (e : BitVec 64) : Bool := bit e 44
/-- PHYS. -/
def bPhys (e : BitVec 64) : BitVec 14 := bits e 28 14
/-- STANDBY. -/
def bStandby (e : BitVec 64) : BitVec 14 := bits e 14 14

/-- A binding entry from its fields. -/
def mkBind (gen : BitVec 16) (st : BitVec 3) (mirror : Bool) (phys standby : BitVec 14) : BitVec 64 :=
  gen ++ st ++ BitVec.ofBool mirror ++ 0#2 ++ phys ++ standby ++ 0#14

/-- The binding entry in force for a logical ID. -/
def State.bindOf (s : State) (lid : BitVec 16) : BitVec 64 := (cellsGet lid.toNat s.msh.bind).getD s.msh.bindRest

/-- A binding entry replaced. -/
def bindPut (lid : BitVec 16) (e : BitVec 64) (m : Msh) : Msh :=
  { m with bind := if e = m.bindRest then cellsDrop lid.toNat m.bind else cellsPut lid.toNat e m.bind }

/-- An entry is bound or paired. -/
def bLive (e : BitVec 64) : Bool := bState e == 1 || bState e == 2

/-- The block is bound to a logical ID (R282). -/
def State.boundTo (s : State) (lid : BitVec 16) : Bool :=
  let e := s.bindOf lid
  bLive e && (bPhys e == s.own || (bState e == 2 && bStandby e == s.own))

/-! ## Generations (R284 to R286, R289) -/

/-- The staged generation is CURRENT + 1. -/
def State.stagedGen (s : State) : BitVec 16 := s.msh.current + 1

/-- An entry staged: a second entry for one logical ID replaces the first (R284). (DEDUCED: log entry 43) -/
def stageEntry (x : Stage) (m : Msh) : Msh :=
  { m with hasStage := true, staged := m.staged.filter (·.lid != x.lid) ++ [x] }

/-- An entry whose GEN lags CURRENT by 16,384 or more takes the released generation (R286). -/
def age (cur : BitVec 16) (e : BitVec 64) : BitVec 64 :=
  let d := (cur - bGen e).toNat
  if 16384 ≤ d && d < 32768 then putField e 48 16 cur.toNat else e

/-- The staged generation replaces the current one (R284, R286). -/
def releaseNow (s : State) : State :=
  if s.msh.hasStage then
    let cur := s.stagedGen
    let ids := s.msh.staged.map (·.lid.toNat)
    let rest := age cur s.msh.bindRest
    let old := s.msh.bind.filter fun x => !ids.contains x.1
    let aged := (old.map fun x => (x.1, age cur x.2))
    let any := (rest != s.msh.bindRest && old.length + ids.length < 65536) || aged != old
    let m : Msh := { s.msh with
      bind := aged.filter (fun x => x.2 != rest), bindRest := rest, current := cur, staged := [], hasStage := false,
      release := none, fences := [] }
    let m := s.msh.staged.foldl (fun m x => bindPut x.lid x.entry m) m
    let s := raise C.MSH.RELEASED 0 { s with msh := m }
    if any then raise C.MSH.AGED 0 s else s
  else s

/-- The bank in force. -/
def State.bank (s : State) : Option Bank := s.ttb.banks[b2n s.ttb.active]!

/-- CYCLE_PATHS of the bank in force, at least 1. -/
def State.cyclePaths (s : State) : Nat := atLeastOne ((s.bank.map (·.cycle)).getD 1)

/-- A timetable runs. -/
def State.running? (s : State) : Bool := s.ttb.st == .running

/-- The railway time of a release point (R285): that of an epoch boundary is counted from the cycle in force.
(DEDUCED: log entry 31) -/
def State.releaseTime (s : State) (r : Release) : Nat :=
  match r with
  | .time t => t
  | .epoch e => 64 * (s.ttb.cycleG + (e - s.ttb.epoch).toNat * s.cyclePaths)

/-- The earlier of two release points (R306). (DEDUCED: log entry 43) -/
def State.earlier (s : State) (a : Option Release) (b : Release) : Release :=
  match a with
  | none => b
  | some x => if s.releaseTime b < s.releaseTime x then b else x

/-- A release point that has come while no timetable runs takes effect at once (R285). (DEDUCED: log entry 31) -/
def releaseIfDue (s : State) : State :=
  match s.msh.release with
  | some (.time t) => if !s.running? && t ≤ s.now then releaseNow s else s
  | _ => s

/-- LEAD_US of a switch under R222, in ns. -/
def State.leadNs (s : State) : Nat := s.fld F.TTB_N1_CFG.LEAD_US * 1000

/-- A notice put among others in the order of T_FENCE, equal times by the physical ID (R289); one that is there already is not put again.
(DEDUCED: log entry 43) -/
def insertFence (x : BitVec 14 × Nat) : List (BitVec 14 × Nat) → List (BitVec 14 × Nat)
  | [] => [x]
  | y :: ys =>
    if x = y then y :: ys
    else if y.2 < x.2 || (y.2 = x.2 && y.1.toNat ≤ x.1.toNat) then y :: insertFence x ys
    else x :: y :: ys

/-- A FENCE_NOTICE for die `f` acts on one entry (R289): the bound entry is fenced at once, the paired one staged, and
an entry that an earlier automatic swap gave to `f` is staged again as fenced; an entry that a command staged stands. The
two flags tell that a swap was staged and that an entry was fenced. (DEDUCED: log entry 43) -/
def fenceOne (f : BitVec 14) (gen : BitVec 16) (lid : BitVec 16) (e : BitVec 64) (m : Msh) : Msh × Bool × Bool :=
  let st := m.staged.find? (·.lid == lid)
  let again := match st with
    | some x => !x.byCommand && bPhys x.entry == f && bState x.entry == 1
    | none => false
  let m := if again then stageEntry { lid := lid, entry := mkBind gen 3 false f 0, byCommand := false } m else m
  if bState e = 1 && bPhys e = f then (bindPut lid (putField e 45 3 3) m, false, true)
  else if bState e = 2 && bPhys e = f && st.isNone then
    (stageEntry { lid := lid, entry := mkBind gen 1 false (bStandby e) 0, byCommand := false } m, true, again)
  else if bState e = 2 && bStandby e = f && st.isNone then
    (stageEntry { lid := lid, entry := mkBind gen 1 false (bPhys e) 0, byCommand := false } m, false, again)
  else (m, false, again)

/-- A notice acts on the whole table: the swap that it stages, and the entry that it fences, told. (DEDUCED: log entry 43) -/
def fenceAll (gen : BitVec 16) (f : BitVec 14) (m : Msh) : Msh × Bool × Bool :=
  m.bind.foldl (fun (acc : Msh × Bool × Bool) x =>
    let (m, sw, fe) := fenceOne f gen (BitVec.ofNat 16 x.1) x.2 acc.1
    (m, acc.2.1 || sw, acc.2.2 || fe)) (m, false, false)

/-- The automatic swap of R289 for die `f` with its time: the swaps of the staged generation are made again from every notice in the
order of T_FENCE. (DEDUCED: log entry 43) -/
def fencePairs (f : BitVec 14) (t : Nat) (s : State) : State :=
  if s.flag F.MSH_CTRL.AUTO_PAIR then
    let gen := s.stagedGen
    let fences := insertFence (f, t) s.msh.fences
    let base : Msh := { s.msh with staged := s.msh.staged.filter (·.byCommand), fences := fences }
    let (m, sw, fe) := fences.foldl (fun (acc : Msh × Bool × Bool) x =>
      let (m, sw, fe) := fenceAll gen x.1 acc.1
      (m, acc.2.1 || (sw && x == (f, t)), acc.2.2 || fe)) (base, false, false)
    let fresh := m.staged.filter fun x => !s.msh.staged.contains x
    let swapped := sw && fresh != []
    let fenced := fe && (m.bind != s.msh.bind || fresh.any fun x => bState x.entry == 3)
    let rel := if fresh != [] then some (s.earlier m.release (.time (t + s.leadNs))) else m.release
    let s := { s with msh := { m with release := rel } }
    -- one event, one entry (R422)
    let s :=
      if swapped && fenced then raiseMulti C.MSH.PAIR_SWAP [C.MSH.BIND_FENCED] 0x06 (BitVec.ofNat 8 (region C.MSH.PAIR_SWAP.evt)) (detFence f t) s
      else if swapped then raise C.MSH.PAIR_SWAP (detFence f t) s
      else if fenced then raise C.MSH.BIND_FENCED (detFence f t) s
      else s
    releaseIfDue s
  else s

/-! ## Beacons and costs (R295, R296, R302) -/

/-- L of a tile or of a site of the block's own tile; 255 where none is held or it is stale (R295). (DEDUCED: log entry 41) -/
def State.load (s : State) (tile : Bool) (num : BitVec 7) : Nat :=
  match s.msh.beacons.find? (fun b => b.tile == tile && b.num == num) with
  | some b =>
    if b.stale || b.time + 1000 * atLeastOne (s.fld F.MSH_BEACON_CFG.STALE_US) < s.now then 255 else b.load.toNat
  | none => 255

/-- The distance class d of R296. -/
def State.distance (s : State) (p : BitVec 14) : Nat :=
  if p = s.own then 0 else if tileOf p = tileOf s.own then 1 else 2

/-- The weighted load of a die (R296, R302). -/
def State.loadCost (s : State) (p : BitVec 14) : Nat :=
  s.fld F.MSH_COST_CFG.LOAD_W * (if s.distance p = 2 then s.load true (tileOf p) else s.load false (siteOf p))

/-- The cost of a holder (R296). -/
def State.holderCost (s : State) (p : BitVec 14) : Nat :=
  let d := s.distance p
  (if d = 0 then 0 else if d = 1 then 4 * s.fld F.MSH_COST_CFG.DIST_W1 else 4 * s.fld F.MSH_COST_CFG.DIST_W2) + s.loadCost p

/-- A die can be reached at all: another tile needs QLP G2 (R29, R283). -/
def State.reachable (s : State) (p : BitVec 14) : Bool := s.lnk.gen != 1 || tileOf p == tileOf s.own

/-- The candidate of least cost among indices in wrapping order from `start`; the first of equals (R296, R302). -/
def cheapest (n start : Nat) (cost : Nat → Option Nat) : Option Nat :=
  ((List.range n).foldl (fun (best : Option (Nat × Nat)) i =>
    let k := (start + i) % n
    match cost k, best with
    | none, b => b
    | some c, none => some (k, c)
    | some c, some b => if c < b.2 then some (k, c) else some b) none).map (·.1)

/-! ## The directory (R291, R293) -/

/-- FLAGS bits of a record. -/
def DirRec.valid (r : DirRec) : Bool := r.flags.getLsbD 0
/-- REPLICATED. -/
def DirRec.replicated (r : DirRec) : Bool := r.flags.getLsbD 1
/-- MIGRATE_EN. -/
def DirRec.migrateEn (r : DirRec) : Bool := r.flags.getLsbD 2
/-- MIGRATING. -/
def DirRec.migrating (r : DirRec) : Bool := r.flags.getLsbD 3
/-- SUSPECT. -/
def DirRec.suspect (r : DirRec) : Bool := r.flags.getLsbD 4

/-- FLAGS with one bit set to a value. -/
def setFlag (b : Byte) (i : Nat) (v : Bool) : Byte := putField b i 1 (b2n v)

/-- A record's length in bytes. -/
def DirRec.bytes (r : DirRec) : Nat := r.pages * 4096

/-- The record whose range holds every byte from an address on (R293). -/
def State.record (s : State) (addr : BitVec 64) (len : Nat) : Option DirRec :=
  s.msh.dir.find? fun r => r.valid && r.base.toNat ≤ addr.toNat && addr.toNat + len ≤ r.base.toNat + r.bytes

/-- A range of bytes meets a record's local range. -/
def DirRec.meets (r : DirRec) (addr : BitVec 64) (len : Nat) : Bool :=
  r.localBase.toNat < addr.toNat + len && addr.toNat < r.localBase.toNat + r.bytes

/-- The records whose local range a range of bytes meets. -/
def State.localRecs (s : State) (addr : BitVec 64) (len : Nat) : List DirRec := s.msh.dir.filter fun r => r.valid && r.meets addr len

/-- The block holds place `i` of a record: it is bound to the logical ID there. -/
def State.holdsPlace (s : State) (r : DirRec) (i : Nat) : Bool :=
  match r.holders[i]? with
  | some l => s.boundTo l
  | none => false

/-- The block owns a record: it is not replicated and the block is bound to HOLDER[0]. -/
def State.owns (s : State) (r : DirRec) : Bool := !r.replicated && s.holdsPlace r 0

/-- The block is a candidate of a record and not its owner (R299). -/
def State.candidate (s : State) (r : DirRec) : Bool :=
  !r.replicated && !s.holdsPlace r 0 && ((List.range r.holders.length).any fun i => 0 < i && s.holdsPlace r i)

/-- The block is the target of a migration of a record (R299). -/
def State.isTarget (s : State) (r : DirRec) : Bool := r.migrating && !r.replicated && s.holdsPlace r r.migTarget.toNat

/-! ## Resolution (R283, R293, R296, R302) -/

/-- What a resolution gives: a status, or a die, and the standby die of a mirrored write (R290). -/
inductive Resolved where
  | status (st : Byte)
  | to (d : Dest) (mirror : Option Dest)
deriving DecidableEq, Repr

/-- READ and WRITE by logical ID (R283, R290). -/
def State.resolveDirect (s : State) (write : Bool) (lid : BitVec 16) (addr : BitVec 64) : Resolved :=
  let e := s.bindOf lid
  if bLive e then
    let d : Dest := { phys := bPhys e, ldest := lid, gen := bGen e, cver := 0, pool := 0, addr := addr }
    if s.reachable (bPhys e) then
      .to d (if write && bState e == 2 && bMirror e then some { d with phys := bStandby e } else none)
    else .status 0x05
  else if bState e = 3 then .status 0x07 else .status 0x06

/-- ANYCAST_READ by global address (R293, R296): `avoid` is the holder that gave the last failure. -/
def State.resolveAnycast (s : State) (addr : BitVec 64) (len : Nat) (avoid : Option (BitVec 16)) : Resolved :=
  match s.record addr len with
  | none => .status 0x0A
  | some r =>
    let offered := if r.replicated then r.holders else r.holders.take 1
    let live (l : BitVec 16) : Bool := let e := s.bindOf l; bLive e && s.reachable (bPhys e)
    let others := offered.any fun l => live l && some l != avoid
    let cost (i : Nat) : Option Nat :=
      match offered[i]? with
      | some l => if live l && !(others && some l == avoid) then some (s.holderCost (bPhys (s.bindOf l))) else none
      | none => none
    match cheapest r.holders.length ((addr.toNat / 4096) % atLeastOne r.holders.length) cost with
    | some i =>
      let l := offered.getD i 0
      let e := s.bindOf l
      .to { phys := bPhys e, ldest := l, gen := bGen e, cver := r.version, pool := 0, addr := r.localBase + (addr - r.base) }
        none
    | none => .status (if offered.any (fun l => bState (s.bindOf l) == 3) then 0x07 else 0x0A)

/-- This block's work tickets to a member that are outstanding in its manifest (R302). -/
def State.ticketsTo (s : State) (l : BitVec 16) : Nat :=
  (s.mnf.entries.filter fun x =>
    match x.2 with
    | .orig o => o.op == 0x04 && o.dest.ldest == l && !o.quarantined
    | .served _ => false).length

/-- The member of pool `p` for a ticket of `len` bytes, its index (R302); `skip` excludes a physical ID (R304). -/
def State.chooseMember (s : State) (p : Pool) (len : Nat) (skip : Option (BitVec 14)) : Option Nat :=
  let cost (i : Nat) : Option Nat :=
    match p.members[i]? with
    | some l =>
      let e := s.bindOf l
      if bLive e && len ≤ p.maxLen && s.reachable (bPhys e) && some (bPhys e) != skip then
        some (s.loadCost (bPhys e) + s.fld F.MSH_COST_CFG.IFL_W * s.ticketsTo l)
      else none
    | none => none
  cheapest p.members.length (p.lastChosen + 1) cost

/-- WORK_TICKET by pool (R302). -/
def State.resolvePool (s : State) (num : BitVec 12) (len : Nat) : Resolved × Option Nat :=
  match s.msh.pools.find? (·.num == num) with
  | none => (.status 0x0B, none)
  | some p =>
    match s.chooseMember p len none with
    | none => (.status 0x0B, none)
    | some i =>
      let l := p.members.getD i 0
      let e := s.bindOf l
      (.to { phys := bPhys e, ldest := l, gen := bGen e, cver := 0, pool := num, addr := 0 } none, some i)

/-- A host request resolved (R283); a pool remembers the member chosen last (R302). -/
def resolve (op : Byte) (lid : BitVec 16) (addr : BitVec 64) (len : Nat) (avoid : Option (BitVec 16)) (s : State) :
    Resolved × State :=
  if op = 0x03 then (s.resolveAnycast addr len avoid, s)
  else if op = 0x04 then
    let num : BitVec 12 := bits lid 0 12
    match s.resolvePool num len with
    | (r, some i) =>
      (r, { s with msh := { s.msh with pools := mapIf (·.num == num) (fun p => { p with lastChosen := i }) s.msh.pools } })
    | (r, none) => (r, s)
  else (s.resolveDirect (op == 0x02) lid addr, s)

/-- The physical IDs of logical IDs by the binding in force; none where one is not bound or paired (R242, R260). -/
def State.physOf (s : State) (l : BitVec 16) : Option (BitVec 14) :=
  let e := s.bindOf l
  if bLive e then some (bPhys e) else none

end Sys2Proof.Machine
end

