-- ==== Sys2Proof/Machine/Mnf.lean ====
section
/-!
DEFINITION. The manifest and the platform ports' shared operations: entries and tags, the reply window, completion of host
requests, issue and routing of transactions, retry, and the serving of requests from other dies (R36 to R46, R165 to R193).
-/
namespace Sys2Proof.Machine

/-! ## Entries (R171 to R174) -/

/-- Who holds an entry. -/
inductive Holder where
  | port (p : PortId)
  | served
  | copy
deriving DecidableEq, Repr

/-- The holder of an entry. -/
def Entry.holder : Entry → Holder
  | .served _ => .served
  | .orig o =>
    match o.owner with
    | .host p _ _ => .port p
    | .copy _ => .copy

/-- Entries in use by a holder. -/
def State.used (s : State) (h : Holder) : Nat := (s.mnf.entries.filter fun x => x.2.holder == h).length

/-- Entries guaranteed to a holder (R172); an absent port has none. -/
def State.guarantee (s : State) (h : Holder) : Nat :=
  match h with
  | .port p => if s.hasPort p then s.fldN F.MNF_PORT_CFG.MIN_ENTRIES (4 * p.toNat) else 0
  | .served => 1024 * s.fld F.MNF_SVC_CFG.SERVED_MIN_K
  | .copy => 0

/-- The ports as holders. -/
def portHolders : List Holder := (List.range 8).map fun i => .port (BitVec.ofNat 3 i)

/-- The sum of the guarantees (R172). -/
def State.guarantees (s : State) : Nat := ((.served :: portHolders).map s.guarantee).sum

/-- Shared entries in use: what each holder uses above its guarantee, and what a cutover has reserved (R298). -/
def State.sharedUsed (s : State) : Nat := s.msh.mig.reserved + ((.copy :: .served :: portHolders).map fun h => s.used h - s.guarantee h).sum

/-- No shared entry is free (R173). -/
def State.mnfFull (s : State) : Bool := 262144 - s.guarantees ≤ s.sharedUsed

/-- A holder can take one more entry (R172); a final copy takes one that is reserved for it (R298). -/
def State.canAlloc (s : State) (h : Holder) : Bool :=
  s.used h < s.guarantee h || !s.mnfFull || (h == .copy && s.msh.mig.reserved != 0)

/-- The first free tag from `t` on, in at most `n` further tries. (DESIGN CHOICE: log entry 5) -/
def freeTag (es : List (Nat × Entry)) : Nat → Nat → Nat
  | t, 0 => t
  | t, n + 1 => if (cellsGet t es).isSome then freeTag es ((t + 1) % 262144) n else t

/-- MNF_STATUS.FULL follows the shared entries, and FULL is raised each time it becomes 1 (R173). -/
def noteFull (s : State) : State :=
  let f := s.mnfFull
  let s' := { s with mnf := { s.mnf with full := f } }
  if f && !s.mnf.full then raise C.MNF.FULL 0 s' else s'

/-- An entry put under a tag. -/
def putEntry (tag : Nat) (e : Entry) (s : State) : State :=
  { s with mnf := { s.mnf with entries := cellsPut tag e s.mnf.entries } }

/-- A new entry: its tag, and the state with it. (DESIGN CHOICE: log entry 5) -/
def alloc (e : Entry) (s : State) : Nat × State :=
  let t := freeTag s.mnf.entries s.mnf.nextTag s.mnf.entries.length
  (t, noteFull (putEntry t e { s with mnf := { s.mnf with nextTag := (t + 1) % 262144 } }))

/-- An entry freed. -/
def freeEntry (tag : Nat) (s : State) : State :=
  noteFull { s with mnf := { s.mnf with entries := cellsDrop tag s.mnf.entries } }

/-! ## Reply window and elastic buffer (R45, R46, R176) -/

/-- Reply bytes of a request that have transferred: `sent` beats from ADDR with bits 5:0 cleared (R36). -/
def HostReq.delivered (r : HostReq) : Nat := min r.len (64 * r.sent - r.addr.toNat % 64)

/-- The bytes of a segment beyond what has transferred. -/
def HostReq.left (r : HostReq) (g : Seg) : Nat :=
  let lo := g.addr.toNat - r.addr.toNat
  lo + g.len - max lo r.delivered

/-- Undelivered reply bytes of a port (R176). -/
def Port.undelivered (p : Port) : Nat :=
  ((p.reqs.filter (fun r => !r.finished)).map fun r =>
    ((r.segs.filter (fun g => g.admitted && !g.withdrawn)).map r.left).sum).sum

/-- Reply data bytes of a port present in the elastic buffer (R46). -/
def Port.buffered (p : Port) : Nat :=
  ((p.reqs.filter (fun r => !r.finished)).map fun r =>
    ((r.segs.filter (fun g => g.st == .ready)).map r.left).sum).sum

/-- The reply window of a port in bytes (R176). -/
def State.window (s : State) (p : PortId) : Nat := 256 * s.fldN F.MNF_PORT_CFG.RSP_WIN (4 * p.toNat)

/-- Platform cycles that have passed, at the ratio of R55. No step of railway time moves them. (DEDUCED: log entry 27) -/
def State.platCycle (s : State) : Nat := s.ticks * s.par.ratio / 10

/-- Reply data bytes requested in the last 1,024 platform cycles (R45). (DEDUCED: log entry 27) -/
def State.paced (s : State) (p : PortId) : Nat :=
  (((s.port p).pace.filter (fun x => s.platCycle < x.1 + 1024)).map (·.2)).sum

/-! ## Completion to the host (R39, R168, R177, R178) -/

/-- One request of a port changed. -/
def modReq (p : PortId) (serial : Nat) (f : HostReq → HostReq) (s : State) : State :=
  s.modPort p fun q => { q with reqs := mapIf (·.serial == serial) f q.reqs }

/-- A request of a port. -/
def State.req (s : State) (p : PortId) (serial : Nat) : Option HostReq := (s.port p).reqs.find? (·.serial == serial)

/-- OP reads. -/
def opReads (op : Byte) : Bool := op == 0x01 || op == 0x03

/-- A request ends with one response beat: the beat waits among the single beats, transactions not yet sent are withdrawn,
and entries in flight no longer complete to the host (R39, R178). -/
def endReq (p : PortId) (serial : Nat) (status : Byte) (s : State) : State :=
  match s.req p serial with
  | none => s
  | some r =>
    let mine (o : Owner) : Bool :=
      match o with
      | .host q n _ => q == p && n == serial
      | .copy _ => false
    let s := s.modPort p fun q => { q with
      reqs := mapIf (·.serial == serial)
        (fun x => { x with finished := true, segs := x.segs.map fun g => { g with withdrawn := true } }) q.reqs
      beats := q.beats ++ [(r.htag, status)]
      issue := q.issue.filter fun t => !mine t.owner }
    { s with mnf := { s.mnf with entries := s.mnf.entries.map fun x =>
        match x.2 with
        | .orig o => if mine o.owner then (x.1, .orig { o with withdrawn := true }) else x
        | .served _ => x } }

/-- The tags of a request's transactions that wait to be sent again. -/
def State.resending (s : State) (p : PortId) (serial : Nat) : List Nat :=
  (s.port p).issue.filterMap fun t =>
    match t.owner with
    | .host _ n _ => if n == serial then t.tag else none
    | .copy _ => none

/-- A request fails: its entries that wait to be sent again are freed, and it ends with the status. (DEDUCED: log entry 71) -/
def failReq (p : PortId) (serial : Nat) (status : Byte) (s : State) : State :=
  let s := (s.resending p serial).foldl (fun s t => freeEntry t s) s
  let s := endReq p serial status s
  if status = 0x05 then raise C.MNF.NO_ROUTE (detTxn 0 p.toNat false 0 5 0 0) s else s

/-- A segment has its final state. -/
def SegSt.final : SegSt → Bool
  | .ready => true
  | .failed _ => true
  | _ => false

/-- The status that a write's segments give: that of the first that failed, else OK (R290). -/
def segsStatus (gs : List Seg) : Byte :=
  ((gs.filterMap fun g =>
    match g.st with
    | .failed st => some st
    | _ => none).head?).getD 0

/-- A segment completes (R177, R178, R290): a read that is not open ends with the first failed status; one that is open
goes on with poisoned zeros, and the status is logged against its HTAG. (DEDUCED: log entry 71) -/
def segDone (p : PortId) (serial i : Nat) (status : Byte) (data : List Byte) (poison : Bool) (s : State) : State :=
  match s.req p serial with
  | none => s
  | some r =>
    if r.finished then s else
      let st : SegSt := if status = 0 then .ready else .failed status
      let f (g : Seg) : Seg := { g with
        st := st
        data := if status = 0 then data else List.replicate g.len 0
        poison := poison || status != 0 }
      let segs := r.segs.modify i f
      let s := modReq p serial (fun x => { x with segs := segs }) s
      if opReads r.op then
        if status = 0 then s
        else if r.opened then s.modPort p fun q => { q with logged := q.logged ++ [(r.htag, status)] }
        else failReq p serial status s
      else if segs.all (fun g => g.st.final) then endReq p serial (segsStatus segs) s else s

/-! ## Routes (R187 to R190) -/

/-- The numbers of the bits set in a bank of `n` 32-bit registers from an offset. -/
def State.bitsSet (s : State) (base n : Nat) : List Nat :=
  (List.range (32 * n)).filter fun i => (s.reg (base + 4 * (i / 32))).getLsbD (i % 32)

/-- The intermediate of a Valiant route for a destination under a SALT (R188); none where E or S is empty. -/
def State.intermediate (s : State) (dest src : BitVec 14) (salt : BitVec 16) : Option (BitVec 7 × BitVec 7) :=
  let e := (s.bitsSet R.MNF_TILE_MASK 4).filter fun i => i != (tileOf s.own).toNat && i != (tileOf dest).toNat
  let v := s.bitsSet R.MNF_VIA_SITES 3
  if e = [] || v = [] then none else
    let h := (salt.toNat + 47 * dest.toNat + 101 * src.toNat) % 65536
    some (BitVec.ofNat 7 (e.getD (h % e.length) 0), BitVec.ofNat 7 (v.getD ((h / 128) % v.length) 0))

/-- Originated transactions outstanding to a destination on Valiant routes (R189). (DEDUCED: log entry 28) -/
def State.valiantTo (s : State) (d : BitVec 14) : Nat :=
  (s.mnf.entries.filter fun x =>
    match x.2 with
    | .orig o => o.valiant && o.dest.phys == d && !o.quarantined
    | .served _ => false).length

/-- The SALT for a destination, drawn afresh when the count is zero and ROTATE_US has passed (R189, R194). -/
def salt (d : BitVec 14) (s : State) : BitVec 16 × State :=
  let fresh : BitVec 16 × State :=
    let v := Config.randomSalt s.free
    (v, { s.draw with mnf := { s.mnf with salts := (s.mnf.salts.filter (·.1 != d)) ++ [(d, v, s.now)] } })
  match s.mnf.salts.find? (·.1 == d) with
  | none => fresh
  | some x =>
    if s.valiantTo d = 0 && x.2.2 + 1000 * s.fld F.MNF_VAL_CFG.ROTATE_US ≤ s.now then fresh else (x.2.1, s)

/-- The route of a request to a die: track, VIA, VSITE, and whether it is a Valiant route (R188). -/
structure Route where
  track : Nat
  via : BitVec 7
  vsite : BitVec 7
  valiant : Bool
deriving DecidableEq, Repr

/-- The direct route on a track: VIA and VSITE name the destination. -/
def direct (t : Nat) (d : BitVec 14) : Route := { track := t, via := tileOf d, vsite := siteOf d, valiant := false }

/-- The route that the block chooses for its own request (R188). -/
def routeTo (d : BitVec 14) (s : State) : Route × State :=
  if tileOf d = tileOf s.own then (direct 1 d, s)
  else if s.flag F.MNF_CTRL.VALIANT_EN then
    let (v, s') := salt d s
    match s'.intermediate d s'.own v with
    | some (a, b) => ({ track := 3, via := a, vsite := b, valiant := true }, s')
    | none => (direct 4 d, s)
  else (direct 4 d, s)

/-! ## Issue (R161, R170, R173, R185) -/

/-- The head of a port's issue queue dropped. -/
def dropHead (p : PortId) (s : State) : State := s.modPort p fun q => { q with issue := q.issue.tail }

/-- A transaction's request header (R165). -/
def reqHdr (own : BitVec 14) (tag : Nat) (op : Byte) (d : Dest) (len attempt : Nat) (r : Route) (fwd : Bool) : THdr :=
  { addr := d.addr, cver := d.cver, gen := d.gen, ldest := d.ldest, tag := BitVec.ofNat 18 tag, src := own, dest := d.phys,
    via := r.via, len := BitVec.ofNat 24 (len - 1), pool := d.pool, attempt := BitVec.ofNat 2 attempt,
    fwd := BitVec.ofBool fwd, status := 0, op := op, poison := 0, vsite := r.vsite, rsv := 0 }

/-- The transaction at the head of a port's issue queue takes its entry and its packet goes to the link layer, when both
have room (R160, R173). -/
def sendHead (p : PortId) (t : Txn) (d : Dest) (s : State) : State :=
  let copy : Bool :=
    match t.owner with
    | .copy _ => true
    | .host _ _ _ => false
  let holder : Holder := if copy then .copy else .port p
  let (r, s') := if copy then (direct 3 d.phys, s) else routeTo d.phys s
  if !s.room r.track || (t.tag.isNone && !s.canAlloc holder) then s else
    let o : Orig := { owner := t.owner, op := t.op, dest := d, len := t.len, attempt := t.attempt, sweeps := 0,
                      quarantined := false, withdrawn := false, valiant := r.valiant }
    let s' := if copy && t.tag.isNone then
        { s' with msh := { s'.msh with mig := { s'.msh.mig with reserved := s'.msh.mig.reserved - 1 } } } else s'
    let (tag, s') := match t.tag with
      | some tag => (tag, putEntry tag (.orig o) s')
      | none => alloc (.orig o) s'
    let h := reqHdr s.own tag t.op d t.len t.attempt r copy
    let s' := queuePacket r.track (bvBytes h.toBits ++ t.data) (dropHead p s')
    match t.owner with
    | .host q n i => modReq q n (fun x => { x with segs := x.segs.modify i fun g => { g with st := .sent } }) s'
    | .copy _ => s'

/-- The destination of one segment: the resolved address moved by the segment's place in the request (R170). -/
def segDest (r : HostReq) (g : Seg) (d : Dest) : Dest := { d with addr := d.addr + (g.addr - r.addr) }

/-- A resolution reaches a request's transactions that are not sent (R170, R185); a mirrored write gains its second
transaction (R290). -/
def applyDest (p : PortId) (serial : Nat) (d : Dest) (mirror : Option Dest) (s : State) : State :=
  match s.req p serial with
  | none => s
  | some r =>
    let put (t : Txn) : Txn :=
      match t.owner with
      | .host _ n i => if n == serial then { t with dest := (r.segs[i]?).map fun g => segDest r g d } else t
      | .copy _ => t
    match mirror with
    | none => s.modPort p fun q => { q with issue := q.issue.map put }
    | some m =>
      let second (t : Txn) : Txn := { t with owner := .host p serial 1, dest := some m }
      let s := s.modPort p fun q => { q with
        issue := q.issue.flatMap fun t =>
          match t.owner with
          | .host _ n _ => if n == serial then [put t, second t] else [t]
          | .copy _ => [t] }
      modReq p serial (fun x => { x with segs := x.segs ++ x.segs.take 1 }) s

/-- A host request resolved, or one of its segments that is sent again (R170, R185, R283). -/
def resolveReq (p : PortId) (serial : Nat) (s : State) : State :=
  match s.req p serial with
  | none => s
  | some r =>
    match resolve r.op r.dest r.addr r.len r.avoid s with
    | (.status st, s) => if r.opened then s else failReq p serial st s
    | (.to d m, s) => applyDest p serial d m s

/-- A segment that could not be resolved again ends with the status (R178, R185). -/
def endSegAgain (p : PortId) (serial i : Nat) (tag : Nat) (status : Byte) (s : State) : State :=
  let s := s.modPort p fun q => { q with issue := q.issue.filter fun t => t.tag != some tag }
  segDone p serial i status [] false (freeEntry tag s)

/-- The destination of a segment to be sent again, resolved afresh; later segments not yet sent follow it (R185). -/
def resolveAgain (p : PortId) (serial i tag : Nat) (s : State) : State :=
  match s.req p serial with
  | none => s
  | some r =>
    match resolve r.op r.dest r.addr r.len r.avoid s with
    | (.status st, s) => endSegAgain p serial i tag st s
    | (.to d _, s) =>
      s.modPort p fun q => { q with
        issue := q.issue.map fun t =>
          match t.owner with
          | .host _ n k =>
            if n == serial && (t.tag == some tag || (i < k && t.tag.isNone)) then
              { t with dest := (r.segs[k]?).map fun g => segDest r g d }
            else t
          | .copy _ => t }

/-- The transaction at the head of a port's issue queue has no route: the standby die of a mirrored write lies on another tile under QLP
G1 (R29, R283, R290). -/
def noRoute (p : PortId) (serial i : Nat) (s : State) : State :=
  raise C.MNF.NO_ROUTE (detTxn 0 p.toNat false 0 5 0 0) (segDone p serial i 0x05 [] false (dropHead p s))

/-- The head of a port's issue queue goes as far as it can: resolution while EN is 1, LINK_DOWN after a flush, the
admission of a read segment, an entry, and room on its track (R161, R173, R176, R283). -/
def issueHead (p : PortId) (s : State) : State :=
  match (s.port p).issue with
  | [] => s
  | t :: _ =>
    match t.owner with
    | .copy _ =>
      match t.dest with
      | some d => sendHead p t d s
      | none => s
    | .host q n i =>
      if !s.linkOpen then
        match t.tag with
        | some tag => endSegAgain q n i tag 0x03 s
        | none => if !opReads t.op || ((s.req q n).map (·.opened)).getD false then segDone q n i 0x03 [] false (dropHead p s)
          else failReq q n 0x03 s
      else
        let s := if t.dest.isNone && s.flag F.MSH_CTRL.EN then
            match t.tag with
            | some tag => resolveAgain q n i tag s
            | none => resolveReq q n s
          else s
        match (s.port p).issue with
        | [] => s
        | t :: _ =>
          let admitted := !opReads t.op || (((s.req p n).bind fun r => r.segs[i]?).map (·.admitted)).getD false
          match t.dest with
          | some d =>
            if admitted && t.owner == .host q n i then (if s.reachable d.phys then sendHead p t d s else noRoute p n i s) else s
          | none => s

/-- A read segment is sent again: it keeps its tag, takes ATTEMPT + 1 and waits at the head of its port's issue queue
(R185, R283). -/
def sendAgain (tag : Nat) (o : Orig) (p : PortId) (serial i : Nat) (s : State) : State :=
  let avoid := if o.op = 0x03 then some o.dest.ldest else none
  let s := putEntry tag (.orig { o with attempt := o.attempt + 1, sweeps := 0 }) s
  let s := raise C.MNF.RETRY (detTxn tag p.toNat false o.attempt 0 o.dest.phys.toNat o.dest.ldest.toNat) s
  let t : Txn := { owner := o.owner, op := o.op, dest := none, len := o.len, data := [], attempt := o.attempt + 1,
                   tag := some tag, admitted := true, avoid := avoid }
  let s := modReq p serial (fun x => { x with avoid := if avoid.isSome then avoid else x.avoid }) s
  let s := s.modPort p fun q => { q with
    issue := q.issue.takeWhile (fun x => x.tag.isSome) ++ t :: q.issue.dropWhile (fun x => x.tag.isSome) }
  if s.flag F.MSH_CTRL.EN then resolveAgain p serial i tag s else s

/-- A failed status is retried (R185). -/
def State.retries (s : State) (o : Orig) (p : PortId) (status : Byte) : Bool :=
  opReads o.op && (status == 0x02 || status == 0x08 || status == 0x09 || (status == 0x07 && o.op == 0x03))
    && s.fldN F.MNF_PORT_CFG.RETRY_EN (4 * p.toNat) == 1 && o.attempt < s.fld F.MNF_CTRL.RETRY_MAX && !o.withdrawn

/-- A reply or a failure reaches an originated entry of a host request (R46, R174, R178, R185). -/
def hostDone (tag : Nat) (o : Orig) (p : PortId) (serial i : Nat) (status : Byte) (data : List Byte) (poison : Bool)
    (s : State) : State :=
  let s := if status = 0x0C then
      raise C.MNF.DEST_ERROR (detTxn tag p.toNat false o.attempt 12 o.dest.phys.toNat o.dest.ldest.toNat) s else s
  if s.retries o p status then sendAgain tag o p serial i s
  else
    let drop := status = 0 && opReads o.op && (s.port p).violation && 16384 < (s.port p).buffered + data.length
    let s := freeEntry tag s
    if drop then segDone p serial i 0x04 [] false s else segDone p serial i status data poison s

/-! ## Serving (R173, R179 to R182, R191, R299, R303, R304) -/

/-- The port that serves an address (R179). -/
def State.servePort (s : State) (addr : BitVec 64) : PortId :=
  BitVec.ofNat 3 ((addr.toNat / 2 ^ (max 12 (s.fld F.MNF_SVC_CFG.SHIFT))) % s.par.ports)

/-- The served request that a purpose belongs to. -/
def State.servedOf (s : State) (b : Purpose) : Option THdr :=
  match b with
  | .served tag _ | .ringHdr tag _ =>
    match cellsGet tag s.mnf.entries with
    | some (.served v) => some (THdr.ofBits v.hdr)
    | _ => none
  | _ => none

/-- A block request put at its port's queue (R41), with the source of the packet that it serves and, where that came with FWD at 1, its
place in the order of those (R187, R299). -/
def addBreq (p : PortId) (b : Breq) (s : State) : State :=
  let h := s.servedOf b.purpose
  let fwd := (h.map fun x => x.fwd == 1).getD false
  let b : Breq := { b with src := h.map (·.src), order := if fwd then some s.mnf.nextOrder else none }
  { s.modPort p fun q => { q with breqs := q.breqs ++ [b] } with
    mnf := { s.mnf with nextOrder := if fwd then s.mnf.nextOrder + 1 else s.mnf.nextOrder } }

/-- The runs of a byte range within 4 KiB blocks: offset from its start, and length. -/
def blocks4k (addr : Nat) (len : Nat) : List (Nat × Nat) :=
  let first := min len (4096 - addr % 4096)
  let n := (len - first + 4095) / 4096
  (0, first) :: (List.range n).map fun i => (first + 4096 * i, min 4096 (len - first - 4096 * i))

/-- Block requests over a range, one for each 4 KiB block it touches (R179); each offset has its purpose. -/
def addBlocks (write : Bool) (addr : BitVec 64) (len : Nat) (data : List Byte) (poison : Bool) (mk : Nat → Purpose)
    (s : State) : State :=
  (blocks4k addr.toNat len).foldl (fun s x =>
    let a := addr + BitVec.ofNat 64 x.1
    addBreq (s.servePort a) { write := write, addr := a, len := x.2, data := (data.drop x.1).take x.2, poison := poison,
                              purpose := mk x.1 } s) s

/-- A served entry changed. -/
def modServed (tag : Nat) (f : Served → Served) (s : State) : State :=
  match cellsGet tag s.mnf.entries with
  | some (.served v) => putEntry tag (.served (f v)) s
  | _ => s

/-- The reply of a served entry is complete: it waits for the T2 queue (R174, R180). -/
def replyReady (tag : Nat) (s : State) : State := { s with mnf := { s.mnf with ready := s.mnf.ready ++ [tag] } }

/-- The reply packet of a served entry: every field of the request but OP, STATUS, POISON, VIA and VSITE (R166). -/
def replyPacket (v : Served) : List Byte :=
  let h := THdr.ofBits v.hdr
  let data := if v.status = 0 && opReads h.op then v.data else []
  let r : THdr := { h with
    op := h.op + 0x80, status := v.status, poison := BitVec.ofBool (v.poison && v.status == 0), via := 0, vsite := 0 }
  bvBytes r.toBits ++ data

/-- Complete replies go to the link layer while T2's queue has room, and their entries are freed (R174, R180); `n` bounds
the work. -/
def handReplies : Nat → State → State
  | 0, s => s
  | n + 1, s =>
    match s.mnf.ready with
    | [] => s
    | t :: ts =>
      if s.linkOpen && !s.room 2 then s else
        let s' := { s with mnf := { s.mnf with ready := ts } }
        match cellsGet t s.mnf.entries with
        | some (.served v) => handReplies n (freeEntry t (queuePacket 2 (replyPacket v) s'))
        | _ => handReplies n s'

/-- The request answered with a status and not performed. -/
def refuse (p : RxPacket) (hdr : THdr) (status : Byte) (s : State) : State :=
  let v : Served := { hdr := hdr.toBits, track := p.track, left := 0, data := [], poison := false, status := status,
                      ring := none }
  let (t, s) := alloc (.served v) (freeFlits p.held s)
  replyReady t s

/-- Room reserved in the 64 KiB reply assembly buffer (R180). -/
def State.assembling (s : State) : Nat :=
  (s.mnf.entries.map fun x =>
    match x.2 with
    | .served v => let h := THdr.ofBits v.hdr; if opReads h.op && v.status == 0 then h.len.toNat + 1 else 0
    | .orig _ => 0).sum

/-- The record of this block's migration, where a range of bytes meets it (R298). -/
def State.migRec (s : State) (addr : BitVec 64) (len : Nat) : Option DirRec :=
  s.msh.dir.find? fun r => r.slot == s.msh.mig.slot && r.meets addr len

/-- A served write marks the pages it touches as dirty, while the block is still the owner and copies (R298). -/
def markDirty (addr : BitVec 64) (len : Nat) (s : State) : State :=
  match s.migRec addr len with
  | none => s
  | some r =>
    if s.msh.mig.st != .copying then s
    else
      let first := (addr.toNat - r.localBase.toNat) / 4096
      let last := min (r.pages - 1) ((addr.toNat + len - 1 - r.localBase.toNat) / 4096)
      let ps := (List.range (last + 1 - first)).map (· + first)
      let m := s.msh.mig
      { s with msh := { s.msh with mig := { m with dirty := (m.dirty.filter (fun x => !ps.contains x)) ++ ps } } }

/-- The records whose requests are counted: those that the block owns with MIGRATE_EN, up to 256 in directory order (R297). -/
def State.counted (s : State) : List DirRec := (s.msh.dir.filter fun r => r.valid && r.migrateEn && s.owns r).take 256

/-- A request into a record that the block owns is counted, in all and for its candidate (R297). (DEDUCED: log entry 65) -/
def countHeat (addr : BitVec 64) (len : Nat) (src : BitVec 14) (s : State) : State :=
  if s.flag F.MSH_CTRL.HEAT_EN then
    match s.counted.find? (fun r => r.meets addr len) with
    | none => s
    | some r =>
      let cands := r.holders.tail.filterMap s.physOf
      let h := (s.msh.heat.find? (·.slot == r.slot)).getD { slot := r.slot, total := 0, per := [] }
      let per := if cands.contains src then
          let n := ((h.per.find? (·.1 == src)).map (·.2)).getD 0
          (h.per.filter (·.1 != src)) ++ [(src, n + 1)]
        else h.per
      let h : Heat := { h with total := h.total + 1, per := per }
      { s with msh := { s.msh with heat := (s.msh.heat.filter (·.slot != r.slot)) ++ [h] } }
  else s

/-- The request served in place: block reads, or block writes with its data taken from the pool (R179, R180). None when the
reply assembly buffer has no room. -/
def serveHere (p : RxPacket) (h : THdr) (s : State) : Option State :=
  let len := h.len.toNat + 1
  let read := opReads h.op
  if read && 65536 < s.assembling + len then none else
    let suspect := (s.localRecs h.addr len).any (·.suspect)
    let v : Served := { hdr := h.toBits, track := p.track, left := (blocks4k h.addr.toNat len).length,
                        data := if read then List.replicate len 0 else [], poison := read && suspect, status := 0,
                        ring := none }
    let s := countHeat h.addr len h.src (freeFlits p.held s)
    let s := if read then s else markDirty h.addr len s
    let (t, s) := alloc (.served v) s
    some (addBlocks (!read) h.addr len p.data false (fun o => .served t o) s)

/-- The final copies of this block's migration have all left for T3 (R298). -/
def State.copiesSent (s : State) : Bool :=
  let m := s.msh.mig
  let sent (page : Nat) : Bool := s.mnf.entries.any fun x =>
    match x.2 with
    | .orig o => o.owner == .copy page
    | .served _ => false
  m.st != .cutover && (m.st != .final || (m.todo == [] && m.flying.all sent))

/-- A moved request forwarded to another die on T3 with FWD (R191); none when T3 has no room, or when it meets the record of a migration
whose final copies go first (R298). Where R188 gives no intermediate, VIA and VSITE name the new owner. (DEDUCED: log entry 28) -/
def forward (p : RxPacket) (h : THdr) (die : BitVec 14) (s : State) : Option State :=
  let behind := h.op != 0x04 && (s.migRec h.addr (h.len.toNat + 1)).isSome && !s.copiesSent
  if !s.room 3 || behind then none
  else
    let (a, b, s) := if tileOf die = tileOf s.own then (tileOf die, siteOf die, s)
      else
        let (v, s') := salt die s
        match s'.intermediate die s'.own v with
        | some (a, b) => (a, b, s')
        | none => (tileOf die, siteOf die, s)
    let h' : THdr := { h with fwd := 1, dest := die, via := a, vsite := b }
    some (queuePacket 3 (bvBytes h'.toBits ++ p.data) (freeFlits p.held s))

/-- A moved request (R191): forwarded when it came on T1 with FWD at 0, else answered MOVED. -/
def moved (p : RxPacket) (h : THdr) (die : Option (BitVec 14)) (s : State) : Option State :=
  match die with
  | some d => if p.track = 1 && h.fwd = 0 then forward p h d s else some (refuse p h 0x09 s)
  | none => some (refuse p h 0x09 s)

/-- A pool remembers the member chosen last (R302). -/
def choseMember (num : BitVec 12) (i : Nat) (s : State) : State :=
  { s with msh := { s.msh with pools := mapIf (·.num == num) (fun p => { p with lastChosen := i }) s.msh.pools } }

/-- A work ticket at a member (R303, R304): written to the ring, or moved on when the ring is full, to a member chosen as R302 chooses.
A ring takes one ticket at a time. (DEDUCED: log entry 30) -/
def serveTicket (p : RxPacket) (h : THdr) (s : State) : Option State :=
  let len := h.len.toNat + 1
  let at? := (List.range 64).find? fun n =>
    match s.msh.rings[n]! with
    | some r => r.pool == h.pool
    | none => false
  let full := match at? with
    | some n =>
      match s.msh.rings[n]! with
      | some r => decide (2 ^ r.slotsLog ≤ (r.prod - r.cons).toNat + r.taken)
      | none => true
    | none => true
  let busy := match at?.bind (fun n => s.msh.rings[n]!) with
    | some r => r.taken != 0
    | none => false
  if busy then none
  else if full then
    let s := if at?.isSome then raise C.MSH.RING_FULL 0 s else s
    let other := (s.msh.pools.find? (·.num == h.pool)).bind fun q =>
      (s.chooseMember q len (some s.own)).bind fun i => (s.physOf (q.members.getD i 0)).map fun d => (i, d)
    match other with
    | some (i, d) => if h.fwd = 0 then (moved p h (some d) s).map (choseMember h.pool i) else moved p h none s
    | none => moved p h none s
  else
    match at?.bind (fun n => (s.msh.rings[n]!).map fun r => (n, r)) with
    | none => none
    | some (n, r) =>
      let slot := (r.prod.toNat + r.taken) % 2 ^ r.slotsLog
      let a := r.addr + BitVec.ofNat 64 (slot * 2 ^ r.slotLog + 32)
      let v : Served := { hdr := h.toBits, track := p.track, left := (blocks4k a.toNat len).length, data := [], poison := false,
                          status := 0, ring := some n }
      let (t, s) := alloc (.served v) (freeFlits p.held s)
      let s := { s with msh := { s.msh with rings := vmod s.msh.rings n fun x => x.map fun r => { r with taken := r.taken + 1 } } }
      some (addBlocks true a len p.data false (fun o => .served t o) s)

/-- A forwarded request from a die other than the owner shows that the owner has cut over (R298, R300). -/
def noteCut (rs : List DirRec) (src : BitVec 14) (s : State) : State :=
  let seen := (rs.filter fun r => s.isTarget r && (r.holders.head?).bind s.physOf != some src).map (·.slot)
  { s with msh := { s.msh with cutSeen := s.msh.cutSeen.filter (fun x => !seen.contains x) ++ seen } }

/-- The block is a member of a pool: it is bound to one of its members. (DEDUCED: log entry 28) -/
def State.inPool (s : State) (num : BitVec 12) : Bool :=
  ((s.msh.pools.find? (·.num == num)).map fun q => q.members.any s.boundTo).getD false

/-- A request that finds an entry: the checks of R182 or of R299, then its service (R179 to R182, R191, R299, R304). LDEST of a forwarded
work ticket names the member that its source chose, so that the new member is bound to another one of the pool. None when the request
must wait. (DEDUCED: log entry 28) -/
def serve (p : RxPacket) (s : State) : Option State :=
  let h := THdr.ofBits p.hdr
  if !s.canAlloc .served then none
  else if h.fwd = 1 then
    let e := s.bindOf h.ldest
    let h' : THdr := { h with dest := if bLive e then bPhys e else h.dest }
    if h.op = 0x04 then
      if h.gen != bGen e then some (refuse p h' 0x08 s)
      else if !(s.boundTo h.ldest || s.inPool h.pool) then some (refuse p h' 0x06 s)
      else serveTicket p h' s
    else
      let rs := s.localRecs h.addr (h.len.toNat + 1)
      if rs.any (fun r => s.owns r || s.isTarget r) then serveHere p h' (noteCut rs h.src s)
      else if rs.any s.candidate then some (refuse p h' 0x09 s)
      else some (refuse p h' 0x06 s)
  else if h.gen != bGen (s.bindOf h.ldest) then some (refuse p h 0x08 s)
  else if !s.boundTo h.ldest then some (refuse p h 0x06 s)
  else if h.op = 0x04 then serveTicket p h s
  else
    match (s.localRecs h.addr (h.len.toNat + 1)).find? s.candidate with
    | some r => moved p h ((r.holders.head?).bind s.physOf) s
    | none => serveHere p h s

/-- Requests of a track that wait are served in the order of their arrival, as far as they can be; `n` bounds the work. -/
def serveTrack (t : BitVec 3) : Nat → State → State
  | 0, s => s
  | n + 1, s =>
    match s.mnf.waiting.find? (·.track == t) with
    | none => s
    | some p =>
      match serve p { s with mnf := { s.mnf with waiting := s.mnf.waiting.eraseP (·.track == t) } } with
      | some s' => serveTrack t n s'
      | none => s

/-- Requests that wait are served: none waits for one of another track, and T4 comes before T3 and T1 (R193). -/
def serveWaiting (n : Nat) (s : State) : State := serveTrack 1 n (serveTrack 3 n (serveTrack 4 n s))

/-- What the manifest can do after entries or queues have gained room: replies to the link layer, then waiting requests. -/
def pumpMnf (s : State) : State :=
  let s := handReplies s.mnf.ready.length s
  let s := serveWaiting s.mnf.waiting.length s
  handReplies s.mnf.ready.length s

/-- The header of the slot of a work ticket (R303). (DEDUCED: log entry 30) -/
def ticketHeader (prod : BitVec 32) (src : BitVec 14) (pool : BitVec 12) (len : Nat) (time : Nat) : List Byte :=
  leBytes 4 prod.toNat ++ leBytes 2 src.toNat ++ leBytes 2 pool.toNat ++ leBytes 4 len ++ leBytes 4 0 ++ leBytes 8 time
    ++ leBytes 8 0

/-- A reply DEST_ERROR is reported (R180, R195). -/
def destError (tag : Nat) (h : THdr) (status : Byte) (s : State) : State :=
  if status = 0x0C then
    raise C.MNF.DEST_ERROR (detTxn tag (s.servePort h.addr).toNat false h.attempt.toNat 0x0C h.dest.toNat h.ldest.toNat) s
  else s

/-- One piece of a served request has its block response: `status` is 0, DEST_ERROR or TIMEOUT (R180). -/
def servedPiece (tag off : Nat) (status : Byte) (data : List Byte) (poison : Bool) (s : State) : State :=
  match cellsGet tag s.mnf.entries with
  | some (.served v) =>
    let h := THdr.ofBits v.hdr
    let v' : Served := { v with
      left := v.left - 1
      data := if opReads h.op && status == 0 then v.data.take off ++ data ++ v.data.drop (off + data.length) else v.data
      poison := v.poison || (opReads h.op && poison)
      status := if v.status != 0 then v.status else status }
    let s := putEntry tag (.served v') s
    if v'.left != 0 then s
    else
      let s := destError tag h v'.status s
      match v.ring.bind (fun n => (s.msh.rings[n]!).map fun r => (n, r)) with
      | some (n, r) =>
        if v'.status = 0 then
          let slot := r.prod.toNat % 2 ^ r.slotsLog
          let a := r.addr + BitVec.ofNat 64 (slot * 2 ^ r.slotLog)
          let b : Breq := { write := true, addr := a, len := 32,
                            data := ticketHeader r.prod h.src h.pool (h.len.toNat + 1) s.now, poison := false,
                            purpose := .ringHdr tag n }
          addBreq (s.servePort a) b (modServed tag (fun x => { x with left := 1 }) s)
        else replyReady tag { s with msh := { s.msh with
          rings := vmod s.msh.rings n fun x => x.map fun r => { r with taken := r.taken - 1 } } }
      | none => replyReady tag s
  | _ => s

/-- The slot header of a work ticket is written: PROD advances and the ticket is answered (R303). (DEDUCED: log entry 30) -/
def ticketDone (tag n : Nat) (status : Byte) (s : State) : State :=
  let adv := if status = 0 then 1 else 0
  let s : State := { s with msh := { s.msh with
    rings := vmod s.msh.rings n fun x => x.map fun r => { r with taken := r.taken - 1, prod := r.prod + adv } } }
  match cellsGet tag s.mnf.entries with
  | some (.served v) =>
    replyReady tag (destError tag (THdr.ofBits v.hdr) status (modServed tag (fun x => { x with left := 0, status := status }) s))
  | _ => s

end Sys2Proof.Machine
end

