-- ==== Sys2Proof/Machine/Mig.lean ====
section
/-!
DEFINITION. Consignment records as bytes, and the migration of hot consignments (R291, R297 to R300).
-/
namespace Sys2Proof.Machine

/-! ## Records as bytes (R291) -/

/-- The first 60 bytes of a record. -/
def recBody (r : DirRec) : List Byte :=
  leBytes 8 r.base.toNat ++ leBytes 8 r.localBase.toNat ++ leBytes 4 r.pages ++ leBytes 4 r.version.toNat
    ++ (List.range 8).flatMap (fun i => leBytes 2 ((r.holders[i]?).getD 0xFFFF).toNat)
    ++ [BitVec.ofNat 8 r.holders.length, r.flags, r.migTarget, 0] ++ leBytes 2 r.hotCount.toNat ++ leBytes 2 0
    ++ leBytes 8 r.movedAt.toNat ++ leBytes 4 0

/-- A record's 64 bytes, with its CRC. -/
def recBytes (r : DirRec) : List Byte := recBody r ++ leBytes 4 (crc32 (recBody r)).toNat

/-- The record that bytes give; its slot is the directory's to choose. -/
def recOf (b : List Byte) : DirRec :=
  { slot := 0, base := leWord 64 b 0 8, localBase := leWord 64 b 8 8, pages := leAt b 16 4, version := leWord 32 b 20 4,
    holders := (List.range (min 8 (leAt b 40 1))).map fun i => leWord 16 b (24 + 2 * i) 2,
    flags := leWord 8 b 41 1, migTarget := leWord 8 b 42 1, hotCount := leWord 16 b 44 2, movedAt := leWord 64 b 48 8 }

/-- The checks of MSH_DIR_SET's first row on one record: CRC, VALID, holders, reserved fields, alignment (R291, R292).
(DEDUCED: log entry 42) -/
def recFormOk (b : List Byte) : Bool :=
  let r := recOf b
  let n := leAt b 40 1
  (leAt b 60 4 == (crc32 (slice b 0 60)).toNat) && r.valid && 1 ≤ n && n ≤ 8
    && ((List.range 8).all fun i => if i < n then leAt b (24 + 2 * i) 2 != 0xFFFF else leAt b (24 + 2 * i) 2 == 0xFFFF)
    && r.flags.toNat < 32 && (r.migrating || r.migTarget == 0) && zeroAt b 43 1 && zeroAt b 46 2 && zeroAt b 56 4
    && r.base.toNat % 4096 == 0 && r.localBase.toNat % 4096 == 0 && 1 ≤ r.pages && r.version != 0

/-- One record of the directory changed. -/
def modRec (slot : Nat) (f : DirRec → DirRec) (s : State) : State :=
  { s with msh := { s.msh with dir := mapIf (·.slot == slot) f s.msh.dir } }

/-- The record in a slot. -/
def State.rec? (s : State) (slot : Nat) : Option DirRec := s.msh.dir.find? (·.slot == slot)

/-- The record with a base. -/
def State.recAt (s : State) (base : BitVec 64) : Option DirRec := s.msh.dir.find? (·.base == base)

/-! ## Migration at the owner (R298, R300) -/

/-- The migration changed. -/
def modMig (f : Mig → Mig) (s : State) : State := { s with msh := { s.msh with mig := f s.msh.mig } }

/-- The dies that hold a record besides this one. -/
def State.otherHolders (s : State) (r : DirRec) : List (BitVec 14) := (r.holders.filterMap s.physOf).filter (· != s.own)

/-- Swap of HOLDER[0] with another place. -/
def swapHolder (hs : List (BitVec 16)) (i : Nat) : List (BitVec 16) := (hs.set 0 (hs.getD i 0)).set i (hs.getD 0 0)

/-- A record as cutover leaves it (R298): the holders swapped, MIGRATING clear, VERSION advanced, MOVED_AT set. -/
def cutRec (now : Nat) (r : DirRec) : DirRec :=
  { r with holders := swapHolder r.holders r.migTarget.toNat, flags := setFlag r.flags 3 false, migTarget := 0,
           version := r.version + 1, movedAt := BitVec.ofNat 64 now }

/-- The migration ends before its cutover (R298, R300): MIGRATING is cleared and MIG_ABORT goes to the candidate. -/
def abandonMig (s : State) : State :=
  let m := s.msh.mig
  if m.st == .copying then
    let dest := (s.rec? m.slot).bind fun r => (r.holders[r.migTarget.toNat]?).bind s.physOf
    let base := ((s.rec? m.slot).map (·.base.toNat)).getD 0
    let s := modRec m.slot (fun r => { r with flags := setFlag r.flags 3 false, migTarget := 0 }) s
    let s := modMig (fun m => { m with st := .abandoned, todo := [], flying := [] }) s
    let s := match dest with
      | some d => trySendT0 d 0 0x64 (leBytes 8 base) s
      | none => s
    raise C.MSH.MIG_ABANDONED 0 s
  else s

/-- The final copies are done: MIG_DONE goes to the new owner and every other holder (R298, R300). -/
def endMig (s : State) : State :=
  let m := s.msh.mig
  let s := noteFull (modMig (fun m => { m with reserved := 0 }) s)
  let s := if m.fault then modRec m.slot (fun r => { r with flags := setFlag r.flags 4 true }) s else s
  match s.rec? m.slot with
  | none => modMig (fun m => { m with st := if m.fault then .fault else .done }) s
  | some r =>
    let b := recBytes r ++ [BitVec.ofNat 8 (b2n m.fault), 0, 0, 0]
    let s := (s.otherHolders r).foldl (fun s d => trySendT0 d 0 0x63 b s) s
    let s := modMig (fun m => { m with st := if m.fault then .fault else .done }) s
    if m.fault then raise C.MSH.MIG_FAULT (BitVec.ofNat 80 m.slot) s else raise C.MSH.MIGRATED 0 s

/-- A served write into a record's local range still awaits block responses (R298). -/
def State.writesInto (s : State) (r : DirRec) : Bool :=
  s.mnf.entries.any fun x =>
    match x.2 with
    | .served v =>
      let h := THdr.ofBits v.hdr
      h.op == 0x02 && v.left != 0 && r.meets h.addr (h.len.toNat + 1)
    | .orig _ => false

/-- Page reads of the migration started while fewer than INFLIGHT copies are outstanding; `n` bounds the work. -/
def readPages (r : DirRec) : Nat → State → State
  | 0, s => s
  | n + 1, s =>
    match s.msh.mig.todo with
    | [] => s
    | p :: ps =>
      if s.msh.mig.flying.length < atLeastOne (s.fld F.MSH_MIG_CFG.INFLIGHT) then
        let a := r.localBase + BitVec.ofNat 64 (p * 4096)
        let s := modMig (fun m => { m with todo := ps, flying := m.flying ++ [p] }) s
        readPages r n (addBreq (s.servePort a) { write := false, addr := a, len := 4096, data := [], poison := false,
                                                 purpose := .page p 0 } s)
      else s

/-- A round that has ended: cutover, with an entry reserved for each last page, once there are as many; the next round; or abandonment
(R298). (DEDUCED: log entry 41) -/
def endRound (s : State) : State :=
  let m := s.msh.mig
  if m.dirty.length ≤ atLeastOne (s.fld F.MSH_MIG_CFG.CUT_PAGES) then
    if 262144 < s.guarantees + s.sharedUsed + m.dirty.length then s
    else
      noteFull (modMig (fun m => { m with st := .cutover, todo := m.dirty, reserved := m.dirty.length })
        (modRec m.slot (cutRec s.now) s))
  else if atLeastOne (s.fld F.MSH_MIG_CFG.MAX_ROUNDS) ≤ m.round then abandonMig s
  else modMig (fun m => { m with round := m.round + 1, todo := m.dirty, dirty := [] }) s

/-- The migration goes as far as it can: a round ends when nothing of it is left, where the active box's firmware runs (R339); the last pages are read only after every
write that the block accepted before the cutover (R298). -/
def pumpMig (s : State) : State :=
  match s.rec? s.msh.mig.slot with
  | none => s
  | some r =>
    let quiet := s.msh.mig.todo = [] && s.msh.mig.flying = []
    let s := if s.msh.mig.st == .copying && quiet && s.sbx.ready then endRound s else s
    let s := if s.msh.mig.st == .cutover && !s.writesInto r then
        modMig (fun m => { m with st := .final, todo := m.dirty }) s else s
    let done := s.msh.mig.st == .final && s.msh.mig.todo = [] && s.msh.mig.flying = []
    if done then endMig (modMig (fun m => { m with dirty := [] }) s)
    else if s.msh.mig.st == .copying || s.msh.mig.st == .final then readPages r s.msh.mig.todo.length s
    else s

/-- A migration of the record in a slot to its candidate `i` begins (R298). (DEDUCED: log entry 41) -/
def startMig (slot i : Nat) (s : State) : State :=
  let s := modRec slot (fun r => { r with flags := setFlag r.flags 3 true, migTarget := BitVec.ofNat 8 i }) s
  match s.rec? slot with
  | none => s
  | some r =>
    let s := modMig (fun _ => { st := .copying, slot := slot, round := 1, todo := List.range r.pages, dirty := [],
                                flying := [], fault := false, reserved := 0 }) s
    let s := match (r.holders[i]?).bind s.physOf with
      | some d => trySendT0 d 0 0x62 (recBytes r) s
      | none => s
    pumpMig s

/-- A copy has failed (R300): before cutover the migration is abandoned, after it the fault is kept. -/
def copyFail (page : Nat) (s : State) : State :=
  if s.msh.mig.st == .copying then abandonMig s
  else if s.msh.mig.st == .cutover || s.msh.mig.st == .final then
    pumpMig (modMig (fun m => { m with flying := m.flying.filter (· != page), fault := true }) s)
  else s

/-- A copy has been acknowledged. -/
def copyDone (page : Nat) (s : State) : State :=
  pumpMig (modMig (fun m => { m with flying := m.flying.filter (· != page) }) s)

/-- A platform reset loses every copy (R383): before cutover the migration is abandoned, after it the copies have failed. -/
def loseMig (s : State) : State :=
  if s.msh.mig.st == .cutover || s.msh.mig.st == .final then
    endMig (modMig (fun m => { m with fault := true, todo := [], dirty := [], flying := [] }) s)
  else abandonMig s

/-- A page has been read: it leaves as a T3 WRITE with FWD at 1 to the candidate, or to the new owner (R298). -/
def pageRead (port : PortId) (page : Nat) (data : List Byte) (s : State) : State :=
  match s.rec? s.msh.mig.slot with
  | none => s
  | some r =>
    if s.msh.mig.st == .copying || s.msh.mig.st == .final then
      let l := if s.msh.mig.st == .copying then r.holders.getD r.migTarget.toNat 0xFFFF else r.holders.getD 0 0xFFFF
      let e := s.bindOf l
      if bLive e then
        let d : Dest := { phys := bPhys e, ldest := l, gen := bGen e, cver := r.version, pool := 0,
                          addr := r.localBase + BitVec.ofNat 64 (page * 4096) }
        let t : Txn := { owner := .copy page, op := 0x02, dest := some d, len := 4096, data := data, attempt := 0, tag := none,
                         admitted := true, avoid := none }
        s.modPort port fun q => { q with issue := q.issue ++ [t] }
      else copyFail page s
    else s

/-- A FENCE_NOTICE reaches the migration of this block (R300): its candidate or new owner has failed. (DEDUCED: log entry 34) -/
def fenceMine (f : BitVec 14) (s : State) : State :=
  match s.rec? s.msh.mig.slot with
  | none => s
  | some r =>
    if s.msh.mig.st == .copying && (r.holders[r.migTarget.toNat]?).bind s.physOf == some f then abandonMig s
    else if (s.msh.mig.st == .cutover || s.msh.mig.st == .final) && (r.holders.head?).bind s.physOf == some f then
      pumpMig (modMig (fun m => { m with fault := true, todo := [], flying := [] }) s)
    else s

/-- A FENCE_NOTICE for the owner of a record being migrated to this block (R300). (DEDUCED: log entry 34) -/
def fenceTheirs (f : BitVec 14) (s : State) : State :=
  (s.msh.dir.filter fun r => s.isTarget r && (r.holders.head?).bind s.physOf == some f).foldl (fun s r =>
    let past := s.msh.cutSeen.contains r.slot
    let s := { s with msh := { s.msh with cutSeen := s.msh.cutSeen.filter (· != r.slot) } }
    if past then
      raise C.MSH.MIG_FAULT (BitVec.ofNat 80 r.slot)
        (modRec r.slot (fun r => let c := cutRec s.now r; { c with flags := setFlag c.flags 4 true }) s)
    else modRec r.slot (fun r => { r with flags := setFlag r.flags 3 false, migTarget := 0 }) s) s

end Sys2Proof.Machine
end

