-- ==== Sys2Proof/Machine/Jct.lean ====
section
/-!
DEFINITION. The junction: groups, their packets and commands, completion, fences, and what timetable entries do to a
timetabled group (R239 to R258, R332).
-/
namespace Sys2Proof.Machine

/-! ## Groups -/

/-- The group of a number. -/
def State.group (s : State) (g : BitVec 12) : Option JGroup := s.jct.groups.find? (·.num == g)

/-- One group changed. -/
def modGroup (g : BitVec 12) (f : JGroup → JGroup) (s : State) : State :=
  { s with jct := { s.jct with groups := mapIf (·.num == g) f s.jct.groups } }

/-- A group has accumulators: REDUCE or ALLREDUCE_STEP (R247). -/
def JGroup.sums (g : JGroup) : Bool := g.operation == 0 || g.operation == 1

/-- A group is neither complete nor ended. -/
def JGroup.live (g : JGroup) : Bool := g.st == .opened || g.st == .accumulating

/-- A member has delivered everything: its elements (R246), or its chunk of an ALL_TO_ALL (R247). -/
def JGroup.memberDone (g : JGroup) (m : Member) : Bool :=
  if g.operation = 2 then m.bytes == g.chunk else if g.operation = 3 then false else m.elems == g.elems

/-- A member has delivered nothing. -/
def JGroup.memberIdle (g : JGroup) (m : Member) : Bool := if g.operation = 2 then m.bytes == 0 else m.elems == 0

/-- How many members are complete. -/
def JGroup.doneNow (g : JGroup) : Nat := (g.members.filter g.memberDone).length

/-- The members that are complete, as JCT_GRP_MAP shows them (R246). -/
def JGroup.liveMap (g : JGroup) : BitVec 256 :=
  (g.members.mapIdx fun i m => if g.memberDone m then 1#256 <<< i else 0).foldl (· ||| ·) 0

/-- JCT_GRP_MAP: the members complete so far, or what the group ended with (R246, R252). -/
def JGroup.map (g : JGroup) : BitVec 256 := if g.live && g.result = 0 then g.liveMap else g.bitmap

/-- Dynamic chunks that are free (R241). -/
def State.freeChunks (s : State) : Nat :=
  128 - min 128 (s.fld F.JCT_CTRL.T6_ACC_K) - (s.jct.groups.map (·.chunks)).sum

/-- Member-list entries in use (R240). -/
def State.membersUsed (s : State) : Nat := (s.jct.groups.map (·.members.length)).sum

/-- LEAVES of a group (R258). -/
def JGroup.leafCount (g : JGroup) : Nat := g.leaves.foldl max 0

/-! ## Packets sent -/

/-- A junction packet sent on T5 (R244). -/
def sendT5 (h : JHdr) (data : List Byte) (s : State) : State := queuePacket 5 (bvBytes h.toBits ++ data) s

/-- The header of a packet of this block for a group, with the fields that every packet has (R244). -/
def jHdr (own dest : BitVec 14) (group : BitVec 12) (op : Byte) (len : Nat) (member : Byte) : JHdr :=
  { addr := 0, src := own, dest := dest, group := group, tree := 0, elemOff := 0, elems := 0, len := BitVec.ofNat 24 (len - 1),
    format := 0, member := member, poison := 0, op := op, status := 0, weight := 0, rsv := 0 }

/-- ABORT to the members and the parent of a group, other than this block and `skip` (R245, R255): the parent's names the parent's
own group, which its READY told (R243, R244). (DEDUCED: log entry 37) -/
def sendAborts (g : JGroup) (skip : Option (BitVec 14)) (s : State) : State :=
  let ds := g.members.map (fun m => (m.phys, g.num))
    ++ (if g.outKind = .parent then [(g.parent, (g.ready.map (·.1)).getD g.num)] else [])
  (ds.dedup.filter fun d => d.1 != s.own && some d.1 != skip).foldl
    (fun s d => sendT5 (jHdr s.own d.1 d.2 0x46 0 0) [] s) s

/-! ## The end of a group (R246, R252 to R258) -/

/-- Class 0x07 of a group that no single member concerns. -/
def detGroup (g : JGroup) (result : Nat) : BitVec 80 := detJct g.num.toNat result g.t6 0x1FF

/-- The reply data of JCT_GROUP_WAIT (R332). -/
def groupReply (g : JGroup) : List Byte :=
  leBytes 4 g.result.toNat ++ leBytes 4 g.leafCount ++ leBytes 32 g.bitmap.toNat

/-- The status of JCT_GROUP_WAIT for a result (R256). -/
def groupStatus (result : BitVec 4) : BitVec 16 :=
  if result = 3 then 0x0221 else if result = 4 || result = 6 || result = 7 then 0x0222 else if result = 5 then 0x0223 else 0

/-- The causes of a group's result, JCT_LAST, and the commands that wait for it (R256, R258); `m` is the member that caused it,
0x1FF for none (R425). (DEDUCED: log entries 37, 62) -/
def groupEvents (g : JGroup) (m : Nat) (s : State) : State :=
  let r := g.result.toNat
  let s := if r = 1 then s
    else { s with jct := { s.jct with last := g.result ++ 0#16 ++ g.num } }
  let d := detJct g.num.toNat r g.t6 m
  let s := if r = 1 || r = 2 then raise C.JCT.GROUP_DONE d s else s
  let s := if r = 2 then raise C.JCT.SKIPPED d s else s
  let s := if r = 6 then raise C.JCT.OVERCOUNT d s else s
  let s := if r = 3 || r = 4 || r = 5 || r = 6 || r = 7 then raise C.JCT.GROUP_FAIL d s else s
  let s := if g.operation = 3 && (r = 1 || r = 8) then raise C.JCT.MCAST_DONE d s else s
  let s := if g.operation = 3 && (r = 8 || r = 7) then raise C.JCT.MCAST_PARTIAL d s else s
  wake (.group g.num) (groupStatus g.result) (groupReply g) s

/-- A group ends with a result that member `m` caused, 0x1FF for none, and with a bitmap: its accumulators are freed (R246, R255), and
what waits for it hears of it. (DEDUCED: log entry 37) -/
def finishMap (num : BitVec 12) (result : BitVec 4) (m : Nat) (map : JGroup → BitVec 256) (s : State) : State :=
  match s.group num with
  | none => s
  | some g =>
    if !g.live then s
    else
      let good := result = 1 || result = 2 || result = 8
      let g' : JGroup := { g with
        st := if good then .complete else .ended, result := result,
        bitmap := map g, doneAt := g.doneNow, acc := [], chunks := 0, buffer := [], staged := 0 }
      groupEvents g' m (modGroup num (fun _ => g') s)

/-- A group ends with a result that member `m` caused; its bitmap shows the members complete, or what a multicast delivered.
(DEDUCED: log entry 37) -/
def finishAt (num : BitVec 12) (result : BitVec 4) (m : Nat) (s : State) : State :=
  finishMap num result m (fun g => if g.operation = 3 then g.bitmap else g.liveMap) s

/-- A group ends with a result that no single member caused. -/
def finishGroup (num : BitVec 12) (result : BitVec 4) (s : State) : State := finishAt num result 0x1FF s

/-- A run of accumulators rounded for output, with the SEED of R234, and OVERFLOW where one overflowed (R233 to R236). -/
def roundOut (g : JGroup) (f : Nat) (off : Nat) (as : List (BitVec 384)) (s : State) : List Byte × State :=
  let seed := if g.t6 then ((s.bank.map (·.seed)).getD 0) else g.seed
  let (bs, big) := output f g.round g.saturate seed g.salt off as
  (bs, if big then raise C.JCT.OVERFLOW (detGroup g g.result.toNat) s else s)

/-- Elements of one T5 packet of a format: a multiple of 32 that fills at most 4,096 bytes (R244). -/
def packetElems (f : Nat) : Nat := 4096 / elemBytes f 32 * 32

/-- Block writes over a range on a named port, whose responses nothing waits for (R41, R245). -/
def postWrite (p : PortId) (addr : BitVec 64) (data : List Byte) (poison : Bool) (s : State) : State :=
  if s.hasPort p then
    (blocks4k addr.toNat data.length).foldl (fun s x =>
      addBreq p { write := true, addr := addr + BitVec.ofNat 64 x.1, len := x.2, data := (data.drop x.1).take x.2,
                  poison := poison, purpose := .posted } s) s
  else s

/-- The packets of an output to the parent or along a branch line, from element `off` on; `n` bounds their number. -/
def sendOut (g : JGroup) (h : JHdr) (f : Nat) : Nat → Nat → List (BitVec 384) → State → State
  | 0, _, _, s => s
  | n + 1, off, as, s =>
    if as = [] then s
    else
      let k := min as.length (packetElems f)
      let run := as.take k
      let (bs, s) := roundOut g f off run s
      let h' : JHdr := { h with
        addr := if h.op = 0x44 then g.outAddr + BitVec.ofNat 64 (elemBytes f off) else 0
        elemOff := BitVec.ofNat 17 off, elems := BitVec.ofNat 17 (k - 1), len := BitVec.ofNat 24 (bs.length - 1)
        format := BitVec.ofNat 5 f }
      sendOut g h f n (off + k) (as.drop k) (sendT5 h' bs s)

/-- A group's output delivered (R246, R237, R245): to the host, to the parent, or along a branch line. (DEDUCED: log entry 38) -/
def deliver (g : JGroup) (poison : Bool) (s : State) : State :=
  if g.results then s
  else
    let f := g.outFormat.toNat
    match g.outKind with
    | .host =>
      let f := if isPartial f then partialForm g.inset else f
      let (bs, s) := roundOut g f 0 g.acc s
      postWrite g.outPort g.outAddr bs poison s
    | .parent =>
      -- a timetabled group has no READY: its parent's group bears its own number, and MEMBER its own place
      let (pg, pm) := g.ready.getD (g.num, if g.t6 then BitVec.ofNat 8 (g.own.getD 0) else 0)
      let part := isPartial f
      let f := if part then partialForm g.inset else f
      let h : JHdr := { jHdr s.own g.parent pg (if part then 0x40 else 0x42) 1 pm with
        poison := BitVec.ofBool poison, status := if part then 0 else g.result.setWidth 8,
        weight := if part then BitVec.ofNat 21 g.leafCount else 0 }
      sendOut g h f (g.elems / packetElems f + 1) 0 g.acc s
    | .branch =>
      let f := if isPartial f then partialForm g.inset else f
      let h : JHdr := { jHdr s.own 0 g.num 0x44 1 (BitVec.ofNat 8 (g.own.getD 0)) with
        tree := g.tree, poison := BitVec.ofBool poison }
      sendOut g h f (g.elems / packetElems f + 1) 0 g.acc s

/-- The result that the members give a group at its completion (R246, R253, R254). -/
def JGroup.outcome (g : JGroup) : BitVec 4 :=
  if g.members.any (fun m => !m.excused && (m.poisoned || !g.memberDone m)) then 4
  else if g.members.any (·.excused) then 2 else 1

/-- A dynamic group completes when every member is complete or excused (R246); an output for a parent waits for its READY
(R243), and one along a branch line for MCAST_DONE (R253). -/
def checkDone (num : BitVec 12) (s : State) : State :=
  match s.group num with
  | none => s
  | some g =>
    let all := g.members.all fun m => m.excused || g.memberDone m
    if !g.live || g.t6 || g.fallback || g.started || !g.sums || !all then s
    else if g.outKind = .parent && g.ready.isNone && !g.results then s
    else
      let r := g.outcome
      let s := deliver { g with result := r } (r == 4) s
      if g.outKind = .branch && !g.results then
        modGroup num (fun g => { g with started := true, st := .accumulating, poison := r == 4 }) s
      else finishGroup num r s

/-- An ALL_TO_ALL completes when every chunk has been sent and every other member's received (R247). -/
def checkExchange (num : BitVec 12) (s : State) : State :=
  match s.group num with
  | none => s
  | some g =>
    let sent := g.started && g.members.all fun m => m.elems == g.chunk
    let got := (g.members.mapIdx fun i m => some i == g.own || m.excused || m.bytes == g.chunk).all id
    if g.live && g.operation = 2 && sent && got then
      finishGroup num (if g.members.any (·.poisoned) then 4 else if g.members.any (·.excused) then 2 else 1) s
    else s

/-! ## Accumulation (R228 to R231, R246) -/

/-- A run of elements from a member accumulated: `w` leaf contributions each; a count that would pass 2^20 ends the group
with OVERCOUNT and nothing is accumulated (R231). -/
def accumulate (num : BitVec 12) (member : Nat) (off n : Nat) (f : Nat) (bs : List Byte) (w : Nat) (poison : Bool)
    (s : State) : State :=
  match s.group num with
  | none => s
  | some g =>
    if ((g.leaves.drop off).take n).any (fun c => 2 ^ 20 < c + w) then finishAt num 6 member s
    else
      let g' : JGroup := { g with
        acc := accRun g.acc off (contributions f bs n)
        leaves := g.leaves.mapIdx fun i c => if off ≤ i && i < off + n then c + w else c
        members := g.members.modify member fun m => { m with elems := m.elems + n, poisoned := m.poisoned || poison }
        st := .accumulating
        result := if g.t6 then 0 else g.result }
      let s := modGroup num (fun _ => g') s
      { s with jct := { s.jct with elems := s.jct.elems + BitVec.ofNat 64 n } }

/-- A piece of the LOCAL operand has arrived; with the last one it is accumulated as member 0 (R242). -/
def localPiece (num : BitVec 12) (off : Nat) (data : List Byte) (poison : Bool) (s : State) : State :=
  match s.group num with
  | none => s
  | some g =>
    if !g.live || !g.hasLocal then s
    else
      let f := g.localFormat.toNat
      let buf := g.buffer ++ [(off, data)]
      let s := modGroup num (fun g => { g with buffer := buf, poison := g.poison || poison }) s
      if (buf.map (·.2.length)).sum < elemBytes f g.elems then s
      else
        let bytes := buf.foldl (fun acc x => acc.take x.1 ++ x.2 ++ acc.drop (x.1 + x.2.length))
          (List.replicate (elemBytes f g.elems) 0)
        let bad := g.poison || poison
        let s := modGroup num (fun g => { g with buffer := [], poison := false, staged := 0 }) s
        checkDone num (accumulate num 0 0 g.elems f bytes 1 bad s)

/-- A failed read of the LOCAL operand: member 0 has delivered poison. -/
def localFail (num : BitVec 12) (off len : Nat) (s : State) : State := localPiece num off (List.replicate len 0) true s

/-- Block reads over a range on a named port (R41); false when the port is absent. -/
def readRange (p : PortId) (addr : BitVec 64) (len : Nat) (mk : Nat → Purpose) (s : State) : State × Bool :=
  if s.hasPort p then
    ((blocks4k addr.toNat len).foldl (fun s x =>
      addBreq p { write := false, addr := addr + BitVec.ofNat 64 x.1, len := x.2, data := [], poison := false,
                  purpose := mk x.1 } s) s, true)
  else (s, false)

/-- The bytes of an operand: a group's LOCAL buffer, or the part that it sends to a member. -/
def JGroup.operandLen (g : JGroup) (part : Option Nat) : Nat :=
  if part.isNone then elemBytes g.localFormat.toNat g.elems else g.chunk

/-- The block reads of an operand (R41, R242, R247). -/
def readOperand (g : JGroup) (part : Option Nat) (s : State) : State × Bool :=
  let a := match part with
    | some i => if g.operation = 2 then g.localAddr + BitVec.ofNat 64 (i * g.chunk) else g.localAddr
    | none => g.localAddr
  let mk (o : Nat) : Purpose := match part with
    | some i => .jctSend g.num i o
    | none => .jctLocal g.num o
  readRange g.localPort a (g.operandLen part) mk s

/-- Operands that wait are read, oldest first, while the 1,088 KiB of dynamic staging hold them; a longer one is read when nothing else
stands there; `n` bounds the work (R240). (DEDUCED: log entry 37) -/
def pumpReads : Nat → State → State
  | 0, s => s
  | n + 1, s =>
    match s.jct.reads with
    | [] => s
    | (num, part) :: rest =>
      let drop (s : State) : State := { s with jct := { s.jct with reads := rest } }
      match s.group num with
      | none => pumpReads n (drop s)
      | some g =>
        let used := (s.jct.groups.map (·.staged)).sum
        let len := g.operandLen part
        if !g.live then pumpReads n (drop s)
        else if used != 0 && 1114112 < used + len then s
        else
          let s := modGroup num (fun g => { g with staged := g.staged + len }) (drop s)
          pumpReads n (readOperand g part s).1

/-- An operand is to be read. -/
def askRead (num : BitVec 12) (part : Option Nat) (s : State) : State :=
  { s with jct := { s.jct with reads := s.jct.reads ++ [(num, part)] } }

/-- Every operand that may be read now is (R240). -/
def readOperands (s : State) : State := pumpReads s.jct.reads.length s

/-- The LOCAL operand of a group is read (R242), unless its reading goes on already. (DEDUCED: log entry 37) -/
def readLocal (num : BitVec 12) (s : State) : State :=
  match s.group num with
  | none => s
  | some g =>
    if !g.hasLocal || !g.sums || g.staged != 0 || s.jct.reads.contains (num, none) then s
    else if s.hasPort g.localPort then readOperands (askRead num none s)
    else localFail num 0 (g.operandLen none) s

/-! ## Packets received (R167, R243 to R246) -/

/-- The data bytes that an operation on T5 carries (R245); none for a reserved one. -/
def t5Data (h : JHdr) : Option Nat :=
  if h.op = 0x40 || h.op = 0x42 || h.op = 0x43 || h.op = 0x44 then some (h.len.toNat + 1)
  else if h.op = 0x45 then some 32
  else if h.op = 0x41 || h.op = 0x46 then some 0 else none

/-- A T5 packet is taken: its tickets go back, and a malformed one is discarded (R167, R244). (DESIGN CHOICE: log entry 12) -/
def takeT5 (op : Byte) (hdr : BitVec 256) (data : List Byte) (flits : Nat) (k : JHdr → State → State) (s : State) : State :=
  let h := JHdr.ofBits hdr
  let s := freePacket 5 s
  let bad := t5Data h != some data.length || h.rsv != 0 || flits != flitsOf (32 + data.length) || 4096 < data.length
    || (h.dest != s.own && h.op != 0x44)
  if bad then raise C.MNF.PROTOCOL (detProto (fld hdr 0 64) h.src.toNat 1) s
  else if h.op = op then k h s else s

/-- A contribution refused (R243, R258). -/
def jctProtocol (h : JHdr) (s : State) : State :=
  raise C.JCT.PROTOCOL (detProto (fld h.toBits 0 64) h.src.toNat 1) s

/-- A contribution for a group that is not open (R243). (DEDUCED: log entry 37) -/
def noGroup (h : JHdr) (s : State) : State :=
  raise C.JCT.NO_GROUP (detProto (fld h.toBits 0 64) h.src.toNat 1) s

/-- The live group of a packet; a group that is not open gives NO_GROUP, a wrong SRC gives PROTOCOL (R243). (DEDUCED: log entry 37) -/
def withGroup (h : JHdr) (s : State) (k : JGroup → Member → State → State) : State :=
  match s.group h.group with
  | none => noGroup h s
  | some g =>
    if !g.live || !s.flag F.JCT_CTRL.EN then noGroup h s
    else
      match g.members[h.member.toNat]? with
      | some m => if m.phys == h.src then k g m s else jctProtocol h s
      | none => jctProtocol h s

/-- A run of elements of a packet fits the group: FORMAT in INSET, the byte count, the range, and the packing unit (R227,
R246, R258). -/
def runOk (g : JGroup) (f off n len : Nat) : Bool :=
  formatOk f && g.inset.getLsbD f && elemBytes f n == len && off + n ≤ g.elems && off % packUnit f == 0 && n % packUnit f == 0

/-- CONTRIB (R230, R231, R243, R246, R254). -/
def execContrib (hdr : BitVec 256) (data : List Byte) (flits : Nat) (s : State) : Host.Outcome State Fault Refusal :=
  whenFunctional s fun s => takeT5 0x40 hdr data flits (s := s) fun h s =>
    withGroup h s fun g _ s =>
      let f := h.format.toNat
      let n := h.elems.toNat + 1
      if !g.sums || !runOk g f h.elemOff.toNat n data.length then jctProtocol h s
      else
        let w := if isPartial f then h.weight.toNat else 1
        checkDone h.group (accumulate h.group h.member.toNat h.elemOff.toNat n f data w (h.poison == 1) s)

/-- A group without accumulators that has a member of a physical ID. -/
def JGroup.heeds (g : JGroup) (src : BitVec 14) : Bool := !g.sums && g.members.any (·.phys == src)

/-- READY (R243): the group whose parent sent it may send; a group without accumulators waits for none, and the READY that another
member of it sends ends there; one that fits no group yet is kept. (DEDUCED: log entry 37) -/
def execReady (hdr : BitVec 256) (data : List Byte) (flits : Nat) (s : State) : Host.Outcome State Fault Refusal :=
  whenFunctional s fun s => takeT5 0x41 hdr data flits (s := s) fun h s =>
    let fits (g : JGroup) : Bool := g.live && g.outKind == .parent && g.parent == h.src && g.ready.isNone
    let take (g : JGroup) : State := checkDone g.num (modGroup g.num (fun g => { g with ready := some (h.group, h.member) }) s)
    match s.jct.groups.find? (fun g => fits g && g.num == h.group) with
    | some g => take g
    | none =>
      -- a contributor of an analog group needs no READY of its fallback group (R274)
      if s.jct.groups.any (fun g => g.live && g.num == h.group && g.heeds h.src)
        || s.asp.mems.any (fun m => m.dest == h.src && m.fbGroup == h.group) then s
      else match s.jct.groups.find? fits with
      | some g => take g
      | none => { s with jct := { s.jct with readies := s.jct.readies ++ [(h.src, h.group, h.member)] } }

/-- RESULT (R245): written to this host at the group's OUTPUT through the port of R179, and counted as the member's elements.
(DEDUCED: log entry 37) -/
def execResult (hdr : BitVec 256) (data : List Byte) (flits : Nat) (s : State) : Host.Outcome State Fault Refusal :=
  whenFunctional s fun s => takeT5 0x42 hdr data flits (s := s) fun h s =>
    withGroup h s fun g _ s =>
      let f := h.format.toNat
      let n := h.elems.toNat + 1
      if !g.sums || !formatOk f || elemBytes f n != data.length || g.elems < h.elemOff.toNat + n then jctProtocol h s
      else
        let s := addBlocks true (g.outAddr + BitVec.ofNat 64 (elemBytes f h.elemOff.toNat)) data.length data (h.poison == 1) (fun _ => .posted) s
        let bad := h.poison == 1
        checkDone g.num (modGroup g.num (fun g => { g with
          results := true, st := .accumulating
          members := g.members.modify h.member.toNat fun m =>
            { m with elems := m.elems + n, poisoned := m.poisoned || bad } }) s)

/-- A2A_DATA (R245, R247): written to this host at ADDR, and counted for its member. -/
def execA2aData (hdr : BitVec 256) (data : List Byte) (flits : Nat) (s : State) : Host.Outcome State Fault Refusal :=
  whenFunctional s fun s => takeT5 0x43 hdr data flits (s := s) fun h s =>
    withGroup h s fun g _ s =>
      if g.operation != 2 then jctProtocol h s
      else
        let bad := h.poison == 1
        let s := addBlocks true h.addr data.length data bad (fun _ => .posted) s
        checkExchange g.num (modGroup g.num (fun g => { g with
          st := .accumulating
          members := g.members.modify h.member.toNat fun m =>
            { m with bytes := m.bytes + data.length, poisoned := m.poisoned || bad } }) s)

/-- MCAST_DATA (R245): written to this host at ADDR. -/
def execMcastData (hdr : BitVec 256) (data : List Byte) (flits : Nat) (s : State) : Host.Outcome State Fault Refusal :=
  whenFunctional s fun s => takeT5 0x44 hdr data flits (s := s) fun h s =>
    addBlocks true h.addr data.length data (h.poison == 1) (fun _ => .posted) s

/-- The bits that a branch line's LEAVES gives the delivery bitmap (R250, R252). -/
def State.leafMap (s : State) (tree : BitVec 12) : BitVec 256 :=
  match s.jct.branches.find? (·.1 == tree) with
  | some b => BitVec.ofNat 256 (2 ^ (Sys2Proof.fld b.2 103 9 + 1) - 1)
  | none => 0

/-- MCAST_DONE (R251 to R253): a multicast completes with OK or PARTIAL; a reduction's branch line with its own result, or
under SKIP_FENCED where a leaf was pruned, reporting the delivery bitmap. A timetabled group stays open (R249).
(DEDUCED: log entry 38) -/
def execMcastDone (hdr : BitVec 256) (data : List Byte) (flits : Nat) (s : State) : Host.Outcome State Fault Refusal :=
  whenFunctional s fun s => takeT5 0x45 hdr data flits (s := s) fun h s =>
    match s.group h.group with
    | none => noGroup h s
    | some g =>
      let map : BitVec 256 := BitVec.ofNat 256 (leNat data)
      let want := s.leafMap g.tree
      let whole := map &&& want == want
      if !g.live || !g.started || g.operation = 2 || h.tree != g.tree then noGroup h s
      else
        let pruned : BitVec 4 := if g.skip then 2 else 3
        if g.operation = 3 then finishMap g.num (if whole then 1 else 8) 0x1FF (fun _ => map) s
        else if g.t6 then
          let g' : JGroup := { g with bitmap := map, started := false, result := if whole then g.result else pruned }
          let s := modGroup g.num (fun _ => g') s
          if whole then s else groupEvents g' 0x1FF s
        else finishMap g.num (if whole then g.outcome else pruned) 0x1FF (fun _ => map) s

/-- ABORT (R245): the group ends with ABORTED and passes the abort on to its members and parent. -/
def execAbort (hdr : BitVec 256) (data : List Byte) (flits : Nat) (s : State) : Host.Outcome State Fault Refusal :=
  whenFunctional s fun s => takeT5 0x46 hdr data flits (s := s) fun h s =>
    match s.jct.groups.find? (fun g => g.live && ((g.num == h.group && g.members.any (·.phys == h.src))
        || (g.outKind == .parent && g.parent == h.src && (g.ready.map (·.1)).getD g.num == h.group))) with
    | some g => finishGroup g.num 5 (sendAborts g (some h.src) s)
    | none => s

/-- MCAST_TIMEOUT (R252): the multicast completes with TIMEOUT and a zero bitmap. -/
def execMcastTimeout (group : BitVec 12) (s : State) : Host.Outcome State Fault Refusal :=
  whenFunctional s fun s =>
    match s.group group with
    | some g =>
      if g.live && g.operation = 3 && g.started then
        finishMap group 7 0x1FF (fun _ => 0) (s.lapse g.since (1000 * atLeastOne (s.fld F.JCT_TIMEOUT.MCAST_US)))
      else s
    | none => s

/-- GROUP_TIMEOUT (R255): a dynamic group that has not completed ends with TIMEOUT and aborts its members and parent. -/
def execGroupTimeout (group : BitVec 12) (s : State) : Host.Outcome State Fault Refusal :=
  whenFunctional s fun s =>
    match s.group group with
    | some g =>
      if g.live && !g.t6 && !g.fallback then
        finishGroup group 7 (sendAborts g none (s.lapse g.openedAt (100000 * atLeastOne (s.fld F.JCT_TIMEOUT.GROUP_100US))))
      else s
    | none => s

/-- A group ends with ABORTED by command (R256, R258). -/
def abortGroup (num : BitVec 12) (s : State) : State :=
  match s.group num with
  | some g => if g.live then finishGroup num 5 (sendAborts g none s) else s
  | none => s

/-- Every open group is aborted (R258). -/
def abortAll (s : State) : State := (s.jct.groups.map (·.num)).foldl (fun s n => abortGroup n s) s

/-- A write of JCT_CTRL (R257, R258): while any group is open T6_ACC_K stays, and CFG_REJECT tells of the write ignored. -/
def jctCtrlWrite (data : Word) (s : State) : State :=
  let k := Sys2Proof.fld data 16 8
  let s := s.setFld F.JCT_CTRL.EN (Sys2Proof.fld data 0 1)
  let s := if s.jct.groups.isEmpty then s.setFld F.JCT_CTRL.T6_ACC_K k
    else raise C.JCT.CFG_REJECT (detJct 0 0 false 0x1FF) s
  if Sys2Proof.bit data 1 then abortAll s else s

/-- ABORT_ALL: a write of JCT_CTRL with ABORT_ALL at 1 (R258). -/
def execAbortAll (data : Word) (s : State) : Host.Outcome State Fault Refusal :=
  whenFunctional s fun s => portWrite R.JCT_CTRL (data.getLsbD 1) (jctCtrlWrite data) s

/-! ## Fences (R253) -/

/-- What a fence of die `f` does to one live group: the result it ends with and the member that caused it, if it ends. -/
def JGroup.fenced (g : JGroup) (f : BitVec 14) : Option (BitVec 4 × Nat) :=
  let hit (m : Member) : Bool := m.phys == f && !m.excused && !g.memberDone m
  if g.outKind = .parent && g.parent = f then some (3, 0x1FF)
  else
    match g.members.findIdx? (fun m => hit m && !g.memberIdle m) with
    | some i => some (4, i)
    | none => if g.skip then none else (g.members.findIdx? hit).map fun i => (3, i)

/-- A FENCE_NOTICE reaches the junction (R253). -/
def fenceGroups (f : BitVec 14) (s : State) : State :=
  (s.jct.groups.filter (·.live)).foldl (fun s g =>
    match g.fenced f with
    | some (r, m) => finishAt g.num r m s
    | none =>
      let hit (m : Member) : Bool := m.phys == f && !g.memberDone m
      if g.members.any hit then
        let s := modGroup g.num (fun g => { g with members := mapIf hit (fun m => { m with excused := true }) g.members }) s
        checkExchange g.num (checkDone g.num s)
      else s) s

/-! ## Timetabled groups (R239, R248, R249, R254) -/

/-- A member of a timetabled group is incomplete for the current cycle (R254). -/
def t6Bad (num : BitVec 12) (member : Nat) (s : State) : State :=
  modGroup num (fun g => { g with members := g.members.modify member fun m => { m with poisoned := true } }) s

/-- A timetabled group completes at the receive deadline of its last RECV_JCT entry of the cycle: it delivers its output, keeps its
accumulators for the SEND_JCT entries still to come, and starts the next cycle empty (R248, R249, R254). (DEDUCED: log entry 38) -/
def t6Complete (num : BitVec 12) (s : State) : State :=
  match s.group num with
  | none => s
  | some g =>
    if !(g.t6 || g.fallback) || !g.live || !g.sums then s
    else
      let r := g.outcome
      let g1 : JGroup := { g with result := r }
      let s := deliver g1 (r == 4) s
      let g2 : JGroup := { g1 with
        bitmap := g.liveMap, held := some (g.acc, r == 4), acc := List.replicate g.elems 0,
        leaves := List.replicate g.elems 0, st := .opened, results := false, started := g.outKind == .branch,
        members := g.members.map fun m => { m with elems := 0, poisoned := false } }
      readLocal num (groupEvents { g2 with leaves := g.leaves } 0x1FF (modGroup num (fun _ => g2) s))

/-- A cycle begins: no group has completed in it (R248). (DEDUCED: log entry 38) -/
def t6Cycle (s : State) : State :=
  { s with jct := { s.jct with groups := s.jct.groups.map fun g => { g with held := none } } }

/-- The elements that a SEND_JCT entry sends: rounded in OUT_FORMAT, or the partial form; none before the group has
completed in the cycle (R248). (DEDUCED: log entry 38) -/
def t6Output (num : BitVec 12) (part : Bool) (off n : Nat) (s : State) : Option (List Byte × Bool) × State :=
  match s.group num with
  | none => (none, s)
  | some g =>
    match g.held with
    | none => (none, s)
    | some (as, poison) =>
      let f := if part then partialForm g.inset else g.outFormat.toNat
      let (bs, s) := roundOut g f off ((as.drop off).take n) s
      (some (bs, poison), s)

/-- Bytes of a format that the T6 intake queue drains in one platform cycle (R238, R239). -/
def drainBytes (f : Nat) : Nat :=
  let n := if f = 0x00 || f = 0x09 then 128 else if f = 0x0E then 32 else 256
  elemBytes f n

/-- The bytes of a flit of the intake queue that have not drained at a platform cycle. -/
def intakeLeft (t : Rat) (x : Rat × Nat × Nat) : Rat := min x.2.1 ((x.1 - t) * x.2.2)

/-- A RECV_JCT flit enters the intake queue, which drains in order, each flit at its format's rate (R238, R239); false when the queue is
full. -/
def intake (f len : Nat) (s : State) : Bool × State :=
  let t : Rat := s.platCycle
  let q := s.jct.intake.filter fun x => t < x.1
  if 65536 < (q.map (intakeLeft t)).sum + len then (false, { s with jct := { s.jct with intake := q } })
  else
    let rate := drainBytes f
    let from_ := q.foldl (fun m x => max m x.1) t
    (true, { s with jct := { s.jct with intake := q ++ [(from_ + (len : Rat) / rate, len, rate)] } })

/-! ## Commands (R241, R242, R256, R332) -/

/-- The output kind of a descriptor's bits 4:3. -/
def outKindOf (v : Nat) : Option OutKind :=
  if v = 0 then some .host else if v = 1 then some .parent else if v = 2 then some .branch else none

/-- Every format of an INSET. -/
def formatsIn (inset : Word) : List Nat := (List.range 32).filter fun i => inset.getLsbD i

/-- JCT_FORMAT's checks: an INSET of one class with defined formats, and an OUT_FORMAT of R233 (R256). -/
def formatsBad (inset : Word) (out lf : Nat) (hasLocal : Bool) : Bool :=
  let fs := formatsIn inset
  let int := fs.all isInt
  fs = [] || !fs.all formatOk || !(int || fs.all (fun f => !isInt f))
    || !(isPartial out || (if int then out == 9 else out ≤ 4 || out == 0x13 || out == 0x14))
    || (hasLocal && !fs.contains lf)

/-- JCT_RANGE's checks on ELEMS (R256): its range, and the packing units of the formats. -/
def elemsBad (inset : Word) (out elems : Nat) : Bool :=
  elems = 0 || 131072 < elems || (out :: formatsIn inset).any fun f => elems % packUnit f != 0

/-- A descriptor's group before it is opened; member and parent IDs resolved (R242). -/
def groupOf (p : List Byte) (phys : List (BitVec 14)) (parent : BitVec 14) (kind : OutKind) (s : State) : JGroup :=
  let opts := leAt p 3 1
  let op : BitVec 2 := BitVec.ofNat 2 (leAt p 2 1)
  let t6 := opts.testBit 0
  let elems := if leAt p 2 1 < 2 then leAt p 4 4 else 0
  let seed : Word := leWord 32 p 20 4
  let seed := if t6 then ((s.bank).map (·.seed)).getD seed
    else if seed = 0 then s.reg R.JCT_SEED else seed
  { num := BitVec.ofNat 12 (leAt p 0 2), operation := op, t6 := t6, accBase := leAt p 8 4, elems := elems,
    inset := leWord 32 p 12 4, outFormat := BitVec.ofNat 5 (leAt p 16 1), round := leAt p 17 1 == 1,
    saturate := leAt p 18 1 == 1, salt := leWord 8 p 19 1, seed := seed, skip := opts.testBit 1, hasLocal := opts.testBit 2,
    localAddr := leWord 64 p 24 8, localPort := BitVec.ofNat 3 (leAt p 32 1), localFormat := BitVec.ofNat 5 (leAt p 33 1),
    outKind := kind, outAddr := leWord 64 p 40 8, outPort := BitVec.ofNat 3 (leAt p 48 1), parent := parent,
    tree := BitVec.ofNat 12 (leAt p 52 2), chunk := leAt p 36 4,
    members := phys.map fun x => { phys := x, elems := 0, bytes := 0, excused := false, poisoned := false, done := false },
    own := phys.findIdx? (· == s.own), acc := List.replicate elems 0, leaves := List.replicate elems 0, st := .opened,
    result := 0, bitmap := 0, poison := false, ready := none, held := none, results := false,
    chunks := if t6 || 2 ≤ leAt p 2 1 then 0 else (elems + 1023) / 1024, openedAt := s.mark, started := false, buffer := [],
    fallback := false, since := s.mark, staged := 0, doneAt := 0 }

/-- A timetabled group's accumulators leave the timetabled chunks or overlap another open group's (R241). -/
def State.accClash (s : State) (base elems : Nat) : Bool :=
  1024 * min 128 (s.fld F.JCT_CTRL.T6_ACC_K) < base + elems
    || s.jct.groups.any fun g => g.t6 && g.sums && g.live && base < g.accBase + g.elems && g.accBase < base + elems

/-- JCT_CAPACITY and its kin refuse an open and raise CAPACITY, naming the group (R256, R258, R421). (DEDUCED: log entries 37, 61) -/
def refuseOpen (r : CmdRef) (group : Nat) (t6 : Bool) (status : BitVec 16) (s : State) : State :=
  finish r status (raise C.JCT.CAPACITY (detJct group 0 t6 0x1FF) s)

/-- READY to the members of a new dynamic group, other than this block: the group's number, and the member's place (R243).
(DEDUCED: log entry 37) -/
def sendReadies (g : JGroup) (s : State) : State :=
  (g.members.mapIdx fun i m => (i, m.phys)).foldl (fun s x =>
    if x.2 == s.own then s else sendT5 (jHdr s.own x.2 g.num 0x41 0 (BitVec.ofNat 8 x.1)) [] s) s

/-- A group is opened (R241 to R243). -/
def openGroup (r : CmdRef) (g : JGroup) (s : State) : State :=
  let early := s.jct.readies.find? fun x => g.outKind == .parent && x.1 == g.parent
  let g := { g with ready := early.map (·.2) }
  let s := { s with jct := { s.jct with
    groups := s.jct.groups ++ [g]
    readies := (match early with
      | some x => s.jct.readies.erase x
      | none => s.jct.readies).filter fun x => !(x.2.1 == g.num && g.heeds x.1) } }
  let s := if g.t6 then s else sendReadies g s
  finish r 0 (readLocal g.num s)

/-- JCT_GROUP_OPEN, its parameters `p` (R241, R242, R256, R283, R332). (DEDUCED: log entry 37) -/
def groupOpen (r : CmdRef) (p : List Byte) (s : State) : State :=
  let op := leAt p 2 1
  let opts := leAt p 3 1
  let sums := op < 2
  let inset : Word := leWord 32 p 12 4
  let n := leAt p 34 2
  let elems := leAt p 4 4
  let ids := (List.range n).map fun i => (leWord 16 p (56 + 2 * i) 2 : BitVec 16)
  let num : BitVec 12 := BitVec.ofNat 12 (leAt p 0 2)
  if s.lnk.gen.toNat < 3 && !opts.testBit 0 then finish r 0x0200 s
  else if sums && formatsBad inset (leAt p 16 1) (leAt p 33 1) (opts.testBit 2) then finish r 0x0120 s
  else if op > 3 || n = 0 || 256 < n || (sums && elemsBad inset (leAt p 16 1) elems) || (!sums && elems != 0)
      || (outKindOf (opts / 8 % 4)).isNone || 1 < leAt p 17 1 || 1 < leAt p 18 1 || 4096 ≤ leAt p 52 2 then finish r 0x0121 s
  else if !s.flag F.JCT_CTRL.EN then finish r 0x0220 s
  else if 4096 ≤ s.jct.groups.length then refuseOpen r num.toNat (opts.testBit 0) 0x0311 s
  else if (s.group num).isSome then finish r 0x0220 s
  else if !s.flag F.MSH_CTRL.EN then addWait r .resolve false s
  else if 32768 < s.membersUsed + n then refuseOpen r num.toNat (opts.testBit 0) 0x0312 s
  else
    let kind := (outKindOf (opts / 8 % 4)).getD .host
    let phys := ids.filterMap s.physOf
    let parent := if kind = .parent && sums then s.physOf (leWord 16 p 50 2) else some 0
    match parent with
    | none => finish r 0x0121 s
    | some parent =>
      if phys.length != n then finish r 0x0121 s
      else
        let g := groupOf p phys parent kind s
        if (g.t6 && sums && s.accClash g.accBase g.elems) || (!g.t6 && s.freeChunks < g.chunks) then refuseOpen r num.toNat g.t6 0x0310 s
        else openGroup r g s

/-- JCT_GROUP_OPEN (R256). -/
def execJctGroupOpen (ref : CmdRef) (s : State) : Host.Outcome State Fault Refusal :=
  whenFunctional s fun s => withCmd ref 0x0401 s (groupOpen ref)

/-- The group number of a command's parameters; numbers above 4,095 name no group. -/
def paramGroup (p : List Byte) (s : State) : Option JGroup := s.jct.groups.find? fun g => g.num.toNat == leAt p 0 2

/-- JCT_GROUP_WAIT (R256, R315): the reply comes when the group completes. -/
def execJctGroupWait (ref : CmdRef) (s : State) : Host.Outcome State Fault Refusal :=
  whenFunctional s fun s => withCmd ref 0x0402 s fun p s =>
    match paramGroup p s with
    | none => finish ref 0x0220 s
    | some g =>
      if g.live then addWait ref (.group g.num) true s
      else complete ref (groupStatus g.result) (groupReply g) s

/-- JCT_GROUP_CLOSE (R241, R256): a group that has completed or ended is freed, or a timetabled one while no timetable runs.
(DEDUCED: log entry 37) -/
def execJctGroupClose (ref : CmdRef) (s : State) : Host.Outcome State Fault Refusal :=
  whenFunctional s fun s => withCmd ref 0x0403 s fun p s =>
    match paramGroup p s with
    | none => finish ref 0x0220 s
    | some g =>
      if !g.live || (g.t6 && !s.running?) then
        finish ref 0 { s with jct := { s.jct with groups := s.jct.groups.filter (·.num != g.num) } }
      else finish ref 0x0220 s

/-- JCT_GROUP_ABORT (R245, R256). -/
def execJctGroupAbort (ref : CmdRef) (s : State) : Host.Outcome State Fault Refusal :=
  whenFunctional s fun s => withCmd ref 0x0404 s fun p s =>
    match paramGroup p s with
    | some g => if g.live then finish ref 0 (abortGroup g.num s) else finish ref 0x0220 s
    | none => finish ref 0x0220 s

/-- A piece of a send buffer has been read: it leaves staging as A2A_DATA to its member, or as MCAST_DATA (R240, R247). -/
def sendPiece (num : BitVec 12) (member off : Nat) (data : List Byte) (poison : Bool) (s : State) : State :=
  match s.group num with
  | none => s
  | some g =>
    if !g.live || !g.started then s
    else
    let s := modGroup num (fun g => { g with staged := g.staged - data.length }) s
    if g.operation = 3 then
      let h : JHdr := { jHdr s.own 0 num 0x44 data.length (BitVec.ofNat 8 (g.own.getD 0)) with
        addr := g.outAddr + BitVec.ofNat 64 off, tree := g.tree, poison := BitVec.ofBool poison }
      sendT5 h data s
    else
      let a := g.outAddr + BitVec.ofNat 64 (g.own.getD 0 * g.chunk + off)
      let s := match g.members[member]? with
        | none => s
        | some m =>
          if some member = g.own then postWrite g.outPort a data poison s
          else
            sendT5 { jHdr s.own m.phys num 0x43 data.length (BitVec.ofNat 8 (g.own.getD 0)) with
              addr := a, poison := BitVec.ofBool poison } data s
      checkExchange num (modGroup num (fun g => { g with
        members := g.members.modify member fun m => { m with elems := m.elems + data.length } }) s)

/-- JCT_START (R247, R256): the local buffer of an ALL_TO_ALL or a MULTICAST is read and sent. -/
def execJctStart (ref : CmdRef) (s : State) : Host.Outcome State Fault Refusal :=
  whenFunctional s fun s => withCmd ref 0x0410 s fun p s =>
    match paramGroup p s with
    | none => finish ref 0x0220 s
    | some g =>
      if !g.live || g.sums || g.started then finish ref 0x0220 s
      else
        let s := modGroup g.num (fun g => { g with started := true, st := .accumulating, since := s.mark }) s
        if !s.hasPort g.localPort then finish ref 0 (finishGroup g.num 4 s)
        else if g.chunk = 0 then finish ref 0 (checkExchange g.num s)
        else
          let parts := List.range (if g.operation = 3 then 1 else g.members.length)
          finish ref 0 (readOperands (parts.foldl (fun s i => askRead g.num (some i) s) s))

end Sys2Proof.Machine
end

