-- ==== Sys2Proof/Machine/Asp.lean ====
section
/-!
DEFINITION. The analog sum path: codes at a contributor, tracking, results, residuals and records at a destination,
recalibration, digital fallback and fences (R259 to R280).
-/
namespace Sys2Proof.Machine

/-! ## Lookup -/

/-- The destination group of a number. -/
def State.aspDest (s : State) (g : BitVec 12) : Option AspDest := s.asp.dests.find? (·.num == g)

/-- One destination group changed. -/
def modDest (g : BitVec 12) (f : AspDest → AspDest) (s : State) : State :=
  { s with asp := { s.asp with dests := mapIf (·.num == g) f s.asp.dests } }

/-- One contributor of a destination group changed. -/
def modCon (g : BitVec 12) (j : Nat) (f : Contrib → Contrib) (s : State) : State :=
  modDest g (fun d => { d with cons := d.cons.modify j f }) s

/-- One membership changed. -/
def modMem (g : BitVec 12) (c : Nat) (f : AspMem → AspMem) (s : State) : State :=
  { s with asp := { s.asp with mems := mapIf (fun m => m.num == g && m.contrib == c) f s.asp.mems } }

/-- CTL_LEAD_US in ns. (DEDUCED: log entry 39) -/
def State.ctlLead (s : State) : Nat := 1000 * atLeastOne (s.fld F.ASP_CFG.CTL_LEAD_US)

/-- An exact quotient; where the divisor is zero the spec states no result and a free value stands (R267 to R272). -/
def gapDiv (a b : Rat) (n : Nat) : Rat := if b = 0 then (Config.trackGap n : Rat) else a / b

/-! ## Codes at the contributor (R261, R263 to R265) -/

/-- `v` / 2^`k` rounded to the nearest integer, ties to even. -/
def roundHalfEven (v : Int) (k : Nat) : Int :=
  let q : Int := roundQ v.natAbs k false 0
  if v < 0 then -q else q

/-- The code of an element with a trim (R264), and whether it was clipped. -/
def aspCode (c : Contribution) (scaleExp : Int) (trim : Nat) : Int × Bool :=
  let k := (scaleExp + 174).toNat
  let v := roundHalfEven (c.sum * trim) k
  if 127 < v then (127, true) else if v < -127 then (-127, true) else (v, false)

/-- The contributor whose turn pilot pair `p` of a window is (R265). -/
def pilotTurn (n win epoch p : Nat) : Nat := (7 * win + p + epoch) % atLeastOne n

/-- The pilot that contributor `j` sends as pilot `k` of a window. -/
def pilotCode (n win epoch j : Nat) (code : Nat) (k : Nat) : Int :=
  if pilotTurn n win epoch (k / 2) = j then (if k % 2 = 0 then code else -(code : Int)) else 0

/-- The digest word (R263). -/
def digestWord (nonfinite : Bool) (clips : Nat) (sum : Int) : Nat :=
  b2n nonfinite * 2 ^ 28 + min clips 255 * 2 ^ 20 + (sum % 2 ^ 20).toNat

/-- The byte of a code. -/
def codeByte (c : Int) : Byte := BitVec.ofInt 8 c

/-- The 900 data bytes of a data window (R261, R263 to R265). -/
def aspWindow (m : AspMem) (win epoch : Nat) (els : List Contribution) : List Byte :=
  let nf := els.any fun c => c.nan || c.pos || c.neg
  let one (c : Contribution) : Int × Bool :=
    if c.nan || c.pos || c.neg then (0, false) else aspCode c m.scaleExp.toInt m.trim.toNat
  let cs := els.map one
  let codes := cs.map (·.1)
  let sym (i : Nat) : Int :=
    if i % 64 = 63 then pilotCode m.n win epoch m.contrib m.pilot (i / 64) else codes.getD (i - i / 64) 0
  let body := (List.range 896).map fun i => codeByte (sym i)
  body ++ leBytes 4 (digestWord nf (cs.filter (·.2)).length codes.sum)

/-- The 900 data bytes of a window of a recalibration with `left` windows to go (R269): two pilot windows, then dark ones. -/
def aspRecalWindow (m : AspMem) (win epoch left : Nat) : List Byte :=
  let body := if m.n < left then (List.range 896).map fun k => codeByte (pilotCode m.n win epoch m.contrib m.pilot k)
    else List.replicate 896 0
  body ++ leBytes 4 0

/-- Window (e, w) does not come before window (e', w') (R202, R268). -/
def notBefore (e w e' w' : BitVec 16) : Bool := if e = e' then w'.toNat ≤ w.toNat else serialLt e' e

/-- A message as a contributor keeps it: FROM epoch and window, MODE, TRIM, SEQ. -/
abbrev AspMsg := BitVec 16 × BitVec 16 × BitVec 3 × BitVec 16 × Byte

/-- Of two messages with the same FROM the second makes the first void: its SEQ is higher, and it is not that one trims and the other
falls back (R279). -/
def AspMsg.voids (x y : AspMsg) : Bool :=
  x.1 == y.1 && x.2.1 == y.2.1 && serialLt x.2.2.2.2 y.2.2.2.2 && !((x.2.2.1 == 0 && y.2.2.1 == 2) || (x.2.2.1 == 2 && y.2.2.1 == 0))

/-- A message put among others in the order of their FROM. -/
def insertMsg (x : AspMsg) : List AspMsg → List AspMsg
  | [] => [x]
  | y :: ys => if notBefore x.1 x.2.1 y.1 y.2.1 then y :: insertMsg x ys else x :: y :: ys

/-- The messages due at a window are applied to a membership in the order of their FROM: for equal windows the higher SEQ prevails,
and a fallback prevails over a trim, which applies on return (R268, R279). -/
def applyCtls (e w : BitVec 16) (m : AspMem) : AspMem :=
  let due := m.ctls.filter fun c => notBefore e w c.1 c.2.1
  let rest := m.ctls.filter fun c => !notBefore e w c.1 c.2.1
  let due := (due.filter fun x => !due.any fun y => AspMsg.voids x y).foldl (fun l x => insertMsg x l) []
  let step (m : AspMem) (c : AspMsg) : AspMem :=
    let (fe, fw, mode, trim, _) := c
    let fb := due.any fun d => d.1 == fe && d.2.1 == fw && d.2.2.1 == 2
    let m := if mode = 0 then { m with trim := trim } else m
    let mode := if fb then 2 else mode
    { m with mode := mode, recal := if mode = 1 then m.n + 2 else 0, ended := m.ended || mode == 3,
             result := if mode = 3 then 5 else m.result }
  { due.foldl step m with ctls := rest }

/-- The input format of a membership: the lowest of its INSET. -/
def AspMem.format (m : AspMem) : Nat := (formatsIn m.inset).headD 0

/-- What the T6 slots of a contributor's window carry: its codes, filler by rule, or filler because the input has not come. -/
inductive WindowOut where
  | codes (bytes : List Byte)
  | silent
  | missing
deriving DecidableEq, Repr

/-- A membership ends, and what waits for it hears of it (R278). -/
def endMem (g : BitVec 12) (c : Nat) (result : BitVec 4) (s : State) : State :=
  let s := modMem g c (fun m => { m with ended := true, result := result }) s
  let s := raise C.ASP.GROUP_END (detAsp g.toNat c 0 0 s.ttb.epoch.toNat) s
  wake (.aspGroup g) (if result = 3 then 0x0221 else 0) [result.setWidth 8] s

/-- What a contributor's window sends: the T6 data, or T5 CONTRIB packets to the fallback group (R263, R269, R274). `input` holds the
window's elements, once they have been read; a window of a recalibration needs none. While EN is 0 no window is accepted (R280).
(DEDUCED: log entry 39) -/
def aspSend (g : BitVec 12) (c : Nat) (win epoch : BitVec 16) (off n : Nat) (input : Option (List Byte)) (s : State) :
    WindowOut × State :=
  match s.asp.mems.find? (fun m => m.num == g && m.contrib == c) with
  | none => (.missing, s)
  | some m0 =>
    let m := applyCtls epoch win m0
    let s := modMem g c (fun _ => m) s
    if m.ended then (.silent, if m0.ended then s else endMem g c m.result s)
    else if !s.flag F.ASP_CTRL.EN then (.silent, s)
    else if m.recal != 0 then
      (.codes (aspRecalWindow m win.toNat epoch.toNat m.recal),
        modMem g c (fun m => { m with recal := m.recal - 1, mode := if m.recal = 1 then 0 else m.mode }) s)
    else match input with
    | none => (.missing, s)
    | some input =>
    if m.mode = 2 then
      let h : JHdr := { jHdr s.own m.dest m.fbGroup 0x40 input.length (BitVec.ofNat 8 c) with
        elemOff := BitVec.ofNat 17 off, elems := BitVec.ofNat 17 (n - 1), format := BitVec.ofNat 5 m.format, weight := 1 }
      (.silent, sendT5 h input s)
    else (.codes (aspWindow m win.toNat epoch.toNat (contributions m.format input n)), s)

/-! ## Messages to contributors (R268, R269, R273) -/

/-- The ASP_RECV windows of a group in the bank in force: path and WIN, in path order (R262). -/
def State.aspWindows (s : State) (g : BitVec 12) : List (Nat × BitVec 16) :=
  ((s.bank.map (·.entries)).getD []).filterMap fun e =>
    if e.kind = 6 && e.group && bits e.peer 0 12 = g then some (e.path, bits e.aux 48 16) else none

/-- The first window of a group whose ASP_SEND path begins at or after a time: the path is two before its ASP_RECV path
(R261, R268). (DEDUCED: log entry 39) -/
def State.windowFrom (s : State) (g : BitVec 12) (t : Nat) : BitVec 16 × BitVec 16 :=
  let ws := s.aspWindows g
  let cyc := s.cyclePaths
  -- cycles from the one in force on; a window of cycle c lies at path cycleG + c * cyc + path
  let need := (t + 63) / 64 + 2
  let c0 := (need - s.ttb.cycleG) / cyc - 1
  let tries := [c0, c0 + 1, c0 + 2, c0 + 3]
  let hits := tries.flatMap fun c =>
    (ws.filter fun w => need ≤ s.ttb.cycleG + c * cyc + w.1).map fun w => (s.ttb.epoch + BitVec.ofNat 16 c, w.2)
  hits.headD (s.ttb.epoch, 0)

/-- The first window of the first cycle boundary at least CTL_LEAD_US away (R273). -/
def State.cycleFrom (s : State) (g : BitVec 12) : BitVec 16 × BitVec 16 :=
  let cyc := s.cyclePaths
  let c := ((s.now + s.ctlLead + 63) / 64 - s.ttb.cycleG + cyc - 1) / cyc
  (s.ttb.epoch + BitVec.ofNat 16 c, ((s.aspWindows g).head?.map (·.2)).getD 0)

/-- The window that follows one in its group: the next of the cycle, or the first of the next cycle (R269). (DEDUCED: log entry 39) -/
def State.windowAfter (s : State) (g : BitVec 12) (win epoch : BitVec 16) : BitVec 16 × BitVec 16 :=
  let ws := (s.aspWindows g).map (·.2)
  match (ws.dropWhile (· != win)).drop 1 with
  | w :: _ => (epoch, w)
  | [] => (epoch + 1, ws.headD 0)

/-- The trim that a contributor was sent last. -/
def Contrib.newest (c : Contrib) : BitVec 16 := (c.trims.getLast?.map (·.2)).getD c.trim

/-- The trims sent that come into force at a window (R268). -/
def settleTrims (win epoch : BitVec 16) (c : Contrib) : Contrib :=
  let due (x : (BitVec 16 × BitVec 16) × BitVec 16) : Bool := notBefore epoch win x.1.1 x.1.2
  { c with trim := (((c.trims.filter due).getLast?).map (·.2)).getD c.trim, trims := c.trims.filter fun x => !due x }

/-- The payload of ASP_CTL (R268). -/
def ctlBits (g : BitVec 12) (contrib : Nat) (mode : BitVec 3) (trim : BitVec 16) (frm : BitVec 16 × BitVec 16) (seq : Byte) :
    BitVec 96 :=
  0#8 ++ seq ++ frm.2 ++ frm.1 ++ trim ++ 0#12 ++ mode ++ BitVec.ofNat 5 contrib ++ g

/-- ASP_CTL to contributor `j` of a group, kept until it is acknowledged (R268). -/
def sendCtl (g : BitVec 12) (j : Nat) (mode : BitVec 3) (frm : BitVec 16 × BitVec 16) (s : State) : State :=
  match s.aspDest g with
  | none => s
  | some d =>
    match d.cons[j]? with
    | none => s
    | some c =>
      let v := ctlBits g j mode c.newest frm d.seq
      let s := modDest g (fun d => { d with seq := d.seq + 1 }) s
      let out : CtlOut := { group := g, contrib := j, seq := d.seq, sends := 1, msg := v, since := s.mark }
      sendSlp 0x50 (msgWords 3 v.toNat) { s with asp := { s.asp with ctls := s.asp.ctls ++ [out] } }

/-- A contributor's trim sent, in force from a window on (R268, R269). -/
def sendTrim (g : BitVec 12) (j : Nat) (t : BitVec 16) (frm : BitVec 16 × BitVec 16) (s : State) : State :=
  sendCtl g j 0 frm (modCon g j (fun c => { c with trims := c.trims ++ [(frm, t)] }) s)

/-- The messages to a contributor that still wait are not sent again. -/
def dropCtls (g : BitVec 12) (j : Nat) (s : State) : State :=
  { s with asp := { s.asp with ctls := s.asp.ctls.filter fun c => !(c.group == g && c.contrib == j) } }

/-- ASP_CTL to every contributor on the wavelength. -/
def sendCtlAll (g : BitVec 12) (mode : BitVec 3) (frm : BitVec 16 × BitVec 16) (s : State) : State :=
  match s.aspDest g with
  | none => s
  | some d => (List.range d.cons.length).foldl (fun s j =>
      if ((d.cons[j]?).map (·.onWave)).getD false then sendCtl g j mode frm s else s) s

/-- A recalibration announced (R269): N + 2 windows from the first window CTL_LEAD_US ahead. -/
def startRecal (g : BitVec 12) (returning : Bool) (s : State) : State :=
  match s.aspDest g with
  | none => s
  | some d =>
    if d.st == .ended then s
    else
      let frm := s.windowFrom g (s.now + s.ctlLead)
      let s := modDest g (fun d => { d with
        st := .recal, recalLeft := d.cons.length + 2, recalFrom := frm, pairs := d.cons.map fun _ => (0, 0), means := (0, 0),
        returning := returning, fbFrom := none }) s
      sendCtlAll g 1 frm s

/-- A fallback can begin: the group is analog or recalibrates. -/
def AspDest.mayFallBack (d : AspDest) : Bool := d.st == .analog || d.st == .recal

/-- A fallback announced (R273, R279): it prevails over a recalibration, which is abandoned. -/
def announceFallback (g : BitVec 12) (s : State) : State :=
  let frm := s.cycleFrom g
  let s := modDest g (fun d => { d with st := .pending, fbFrom := some frm, recalLeft := 0, returning := false }) s
  sendCtlAll g 2 frm s

/-- A fallback starts, with its cause (R273). -/
def startFallback (g : BitVec 12) (residual win epoch : Nat) (s : State) : State :=
  if ((s.aspDest g).map (·.mayFallBack)).getD false then
    announceFallback g (raise C.ASP.FALLBACK (detAsp g.toNat 0x1F residual win epoch) s)
  else s

/-- A contributor fails (R275): with the fallback it starts, one entry (R422). -/
def failContrib (g : BitVec 12) (j win epoch : Nat) (s : State) : State :=
  match (s.aspDest g).bind (fun d => d.cons[j]?) with
  | none => s
  | some c =>
    if c.state != 1 then s
    else
      let s := modDest g (fun d => { d with cons := d.cons.modify j fun c => { c with state := 2 } }) s
      let d := detAsp g.toNat j 0 win epoch
      if ((s.aspDest g).map (·.mayFallBack)).getD false then
        announceFallback g (raiseMulti C.ASP.CONTRIB_FAIL [C.ASP.FALLBACK] 0x08 (BitVec.ofNat 8 (region C.ASP.CONTRIB_FAIL.evt)) d s)
      else raise C.ASP.CONTRIB_FAIL d s

/-! ## Samples and tracking (R266, R267) -/

/-- Sample `i` of a window's data (R266). -/
def sampleAt (data : List Byte) (i : Nat) : Nat := leAt data (3 * (i / 2)) 3 / 4096 ^ (i % 2) % 4096

/-- The digest word of contributor `j` (R266). -/
def digestAt (data : List Byte) (j : Nat) : Word := leWord 32 data (1344 + 4 * j) 4

/-- A digest word is valid: bits 31:29 are zero (R263, R266). -/
def digestOk (w : Word) : Bool := bits w 29 3 == 0

/-- The digest S (R263). -/
def digestSum (w : Word) : Int := toSigned 20 (fld w 0 20)

/-- A contributor is on the wavelength. -/
def AspDest.on (d : AspDest) (j : Nat) : Bool := ((d.cons[j]?).map (·.onWave)).getD false

/-- A mean of rationals; a free value over none. -/
def mean (xs : List Rat) (n : Nat) : Rat := gapDiv xs.sum xs.length n

/-- One pilot pair tracked (R267). (DEDUCED: log entry 39) -/
def trackPair (alpha n : Nat) (j : Nat) (yp ym : Rat) (d : AspDest) : AspDest :=
  let a : Rat := 2 ^ alpha
  let dO := ((yp + ym) / 2 - d.total) / a
  let total := d.total + dO
  let one (i : Nat) (c : Contrib) : Contrib :=
    let c := if i = j && c.onWave then
        { c with gain := c.gain + ((gapDiv (yp - ym) (2 * (d.pilot : Rat)) n) - c.gain) / a } else c
    if c.onWave then { c with offset := c.offset + gapDiv (dO * c.offset) total n } else c
  { d with total := total, cons := d.cons.mapIdx one }

/-- The digest difference D of a window (R267). -/
def digestD (d : AspDest) (ys : List Rat) (digests : List Int) : Rat :=
  let gs := (d.cons.mapIdx fun j c => if c.onWave then c.gain * (digests.getD j 0) else 0).sum
  ys.sum - (882 * d.total + gs)

/-- The statistics step (R267). (DEDUCED: log entry 39) -/
def trackDigest (mu : Nat) (dd : Rat) (digests : List Int) (d : AspDest) : AspDest :=
  let q : Int := (d.cons.mapIdx fun j c => if c.onWave then digests.getD j 0 ^ 2 else 0).sum
  if q < 2 ^ 16 then d
  else
    let one (j : Nat) (c : Contrib) : Contrib :=
      if c.onWave then { c with gain := c.gain + dd * (digests.getD j 0) / (2 ^ mu * q) } else c
    { d with cons := d.cons.mapIdx one }

/-- 256 × the root of a square, rounded down and saturating at 0xFFFF (R272). (DEDUCED: log entry 39) -/
def rootUnits (sq : Rat) : Nat := min 0xFFFF (Nat.sqrt (65536 * sq).floor.toNat)

/-- The square residual of one pilot pair (R272). -/
def pairSquare (d : AspDest) (j : Nat) (yp ym : Rat) : Rat :=
  let g := ((d.cons[j]?).map (·.gain)).getD 0
  let p : Rat := d.pilot
  ((yp - d.total - g * p) ^ 2 + (ym - d.total + g * p) ^ 2) / 2

/-- The wanted trim of a contributor (R268), rounded to the nearest unit. (DEDUCED: log entry 39) -/
def wantedTrim (d : AspDest) (c : Contrib) (n : Nat) : Int := ((gapDiv (16384 * d.gRef) c.gain n) + 1 / 2).floor

/-! ## Results (R270, R272) -/

/-- |v| in a float format, to nearest with ties to even; beyond the range, an infinity (R233, R235, R270). -/
def ratCode (f : FloatFmt) (v : Rat) : Nat :=
  if v = 0 then 0 else
    let a := v.num.natAbs
    let b := v.den
    -- the exponent of |v|, corrected by at most one
    let e0 : Int := (Nat.log2 a : Int) - Nat.log2 b
    let below := if 0 ≤ e0 then a < b * 2 ^ e0.toNat else a * 2 ^ (-e0).toNat < b
    let e := max (if below then e0 - 1 else e0) (1 - f.bias)
    let u := e - f.m
    let (x, y) := if 0 ≤ u then (a, b * 2 ^ u.toNat) else (a * 2 ^ (-u).toNat, b)
    let q0 := x / y
    let q := if y < 2 * (x % y) || (y = 2 * (x % y) && q0 % 2 = 1) then q0 + 1 else q0
    let c := if q < 2 ^ f.m then q
      else
        let (q, e) := if q = 2 ^ (f.m + 1) then (2 ^ f.m, e + 1) else (q, e)
        (e + f.bias).toNat * 2 ^ f.m + (q - 2 ^ f.m)
    let c := if maxCode f < c then (2 ^ f.e - 1) * 2 ^ f.m else c
    (if c = 0 then 0 else (if v < 0 then 2 ^ (f.e + f.m) else 0) + c)

/-- 2 to a signed power. -/
def pow2 (k : Int) : Rat := if 0 ≤ k then (2 ^ k.toNat : Rat) else 1 / 2 ^ (-k).toNat

/-- One element of a data window as its 2 output bytes (R270). -/
def aspElem (d : AspDest) (y : Rat) (n : Nat) : List Byte :=
  match floatFmt d.outFormat.toNat with
  | some f => leBytes 2 (ratCode f (gapDiv (y - d.total) d.gRef n * pow2 d.scaleExp.toInt))
  | none => [0, 0]

/-- A block record (R272). (DEDUCED: log entry 39) -/
def aspRecord (present : Nat) (epoch win : BitVec 16) (residual flags clips : Nat) : List Byte :=
  leBytes 4 0 ++ [BitVec.ofNat 8 clips, BitVec.ofNat 8 flags] ++ leBytes 2 residual ++ leBytes 2 win.toNat
    ++ leBytes 2 epoch.toNat ++ leBytes 4 present

/-- PRESENT: the contributors on the wavelength. -/
def AspDest.present (d : AspDest) : Nat := (d.cons.mapIdx fun j c => if c.onWave then 2 ^ j else 0).sum

/-- The SKIPPED flag stands once a contributor has been fenced (R276). -/
def AspDest.skipped (d : AspDest) : Nat := if d.cons.any (·.state == 3) then 8 else 0

/-- The record of a window written (R272). -/
def putRecord (d : AspDest) (epoch win : BitVec 16) (residual flags clips : Nat) (s : State) : State :=
  postWrite d.outPort (d.recAddr + BitVec.ofNat 64 (16 * win.toNat))
    (aspRecord d.present epoch win residual (flags + d.skipped) clips) false s

/-- The samples of the element symbols (R261). -/
def elementSamples (data : List Byte) : List Rat :=
  (List.range 882).map fun e => (sampleAt data (e + e / 63) : Rat)

/-- The pilot pair `p` of a data window: its two samples (R261). -/
def pilotPair (data : List Byte) (p : Nat) : Rat × Rat :=
  (sampleAt data (64 * (2 * p) + 63), sampleAt data (64 * (2 * p + 1) + 63))

/-- The trims and the health of the contributors after a window (R268, R269, R275). -/
def afterWindow (g : BitVec 12) (win epoch : BitVec 16) (before : AspDest) (s : State) : State :=
  match s.aspDest g with
  | none => s
  | some d =>
    let near (r : Rat) (c : Contrib) : Bool := 10 * c.gain ≤ 11 * r && 9 * r ≤ 10 * c.gain
    let s := (List.range d.cons.length).foldl (fun s j =>
      match d.cons[j]? with
      | none => s
      | some c =>
        if !c.onWave || c.state != 1 then s
        else
          let t := wantedTrim d c s.free
          if t < 0x2000 || 0x8000 < t || 8 ≤ c.badPairs then failContrib g j win.toNat epoch.toNat s
          else if (s.fld F.ASP_TRACK.TRIM_THRESH : Int) < (t - c.newest.toNat).natAbs then
            sendTrim g j (BitVec.ofInt 16 t) (s.windowFrom g (s.now + s.ctlLead)) s
          else s) s
    let left := (List.range d.cons.length).any fun j =>
      match before.cons[j]?, d.cons[j]? with
      | some b, some c => c.onWave && c.state == 1 && near before.gRef b && !near d.gRef c
      | _, _ => false
    let st := ((s.aspDest g).map (·.st)).getD .ended
    if left && st == .analog then startRecal g false s else s

/-- The digest words of the contributors on the wavelength. -/
def AspDest.digests (d : AspDest) (data : List Byte) : List Word :=
  ((List.range d.cons.length).filter d.on).map fun j => digestAt data j

/-- Every digest word of a window is valid. -/
def AspDest.digestsOk (d : AspDest) (data : List Byte) : Bool := (d.digests data).all digestOk

/-- The flag NONFINITE of a window's record: a valid digest word has it (R272). -/
def AspDest.nonfinite (d : AspDest) (data : List Byte) : Nat :=
  if (d.digests data).any fun w => digestOk w && bit w 28 then 64 else 0

/-- CLIPS of a window's record (R272). -/
def AspDest.clips (d : AspDest) (data : List Byte) : Nat :=
  min 255 (((d.digests data).filter digestOk).map fun w => Sys2Proof.fld w 20 8).sum

/-- A data window at the destination (R267, R270, R272, R273): tracked, written, recorded and judged. -/
def dataWindow (g : BitVec 12) (win epoch : BitVec 16) (off n : Nat) (data : List Byte) (stale : Bool) (s : State) : State :=
  match s.aspDest g with
  | none => s
  | some d0 =>
    let s := s.draw
    let alpha := atLeastOne (s.fld F.ASP_TRACK.ALPHA_LOG2)
    let turn (p : Nat) : Nat := pilotTurn d0.cons.length win.toNat epoch.toNat p
    let d1 := (List.range 7).foldl (fun d p =>
      let (yp, ym) := pilotPair data p
      trackPair alpha s.free (turn p) yp ym d) d0
    let ws := (List.range d1.cons.length).map fun j => digestAt data j
    let valid := d1.digestsOk data
    let sums := ws.map digestSum
    let ys := elementSamples data
    let dd := digestD d1 ys sums
    let d2 := if valid then trackDigest (s.fld F.ASP_TRACK.MU_LOG2) dd sums d1 else d1
    let sq := (List.range 7).map fun p => let (yp, ym) := pilotPair data p; pairSquare d2 (turn p) yp ym
    let g2 := d2.gRef * d2.gRef
    let dTerm : Rat := if valid then dd * dd / 882 else 0xFFFF
    let residual := rootUnits (gapDiv (sq.sum / 7) g2 s.free + dTerm)
    let bad (c : Contrib) (j : Nat) : Nat :=
      (List.range 7).foldl (fun k p =>
        if turn p != j || 8 ≤ k then k
        else if 4 * d2.budget < rootUnits (gapDiv (sq.getD p 0) g2 s.free) then k + 1 else 0) c.badPairs
    let d3 : AspDest := { d2 with
      lastResidual := BitVec.ofNat 16 residual, cons := d2.cons.mapIdx fun j c => { c with badPairs := bad c j } }
    let s := modDest g (fun _ => d3) s
    let breach := valid && d3.budget < residual
    let s := if valid then
        postWrite d3.outPort (d3.outAddr + BitVec.ofNat 64 (2 * off)) ((ys.take n).flatMap fun y => aspElem d3 y s.free) false s
      else s
    let flags := b2n stale + (if breach then 2 else 0) + (if valid then 0 else 16) + d1.nonfinite data
    let s := putRecord d3 epoch win residual flags (d1.clips data) s
    let s := if breach then
        startFallback g residual win.toNat epoch.toNat
          (raise C.ASP.OVER_BUDGET (detAsp g.toNat 0x1F residual win.toNat epoch.toNat) s)
      else if valid && d3.returning && d3.st == .analog then
        raise C.ASP.RETURNED (detAsp g.toNat 0x1F residual win.toNat epoch.toNat)
          (modDest g (fun d => { d with returning := false }) s)
      else s
    afterWindow g win epoch d0 s

/-- A recalibration is complete (R269): references set afresh, every trim sent for the window that follows, and contributors back in
range serve again; one out of range fails, and keeps the group digital (R275). (DEDUCED: log entry 39) -/
def endRecal (g : BitVec 12) (win epoch : BitVec 16) (s : State) : State :=
  match s.aspDest g with
  | none => s
  | some d =>
    let s := s.draw
    let d := { d with gRef := mean ((d.cons.filter (·.onWave)).map (·.gain)) s.free, st := AspSt.analog }
    let want (c : Contrib) : Int := wantedTrim d c s.free
    let fit (c : Contrib) : Bool := 0x2000 ≤ want c && want c ≤ 0x8000
    let heal (c : Contrib) : Contrib := if c.onWave then { c with state := if fit c then 1 else c.state, badPairs := 0 } else c
    let s := modDest g (fun _ => { d with cons := d.cons.map heal, recalLeft := 0 }) s
    let s := raise C.ASP.RECAL_DONE (detAsp g.toNat 0x1F 0 win.toNat epoch.toNat) s
    let frm := s.windowAfter g win epoch
    let on := (d.cons.zipIdx).filter fun x => x.1.onWave
    let s := (on.filter fun x => fit x.1).foldl (fun s x => sendTrim g x.2 (BitVec.ofInt 16 (want x.1)) frm s) s
    let s := (on.filter fun x => !fit x.1).foldl (fun s x => failContrib g x.2 win.toNat epoch.toNat s) s
    if on.all fun x => fit x.1 then s else startFallback g 0 win.toNat epoch.toNat s

/-- One window of a recalibration with its data (R269). (DEDUCED: log entry 39) -/
def recalWindow (g : BitVec 12) (win epoch : BitVec 16) (data : List Byte) (s : State) : State :=
  match s.aspDest g with
  | none => s
  | some d0 =>
    let d := d0
    let s := s.draw
    let n := d.cons.length
    let left := d.recalLeft
    let d := if n < left then
        -- a pilot window: every pair to its contributor
        let ps := (List.range 448).map fun p => (pilotTurn n win.toNat epoch.toNat p,
          ((sampleAt data (2 * p) : Nat) : Rat), ((sampleAt data (2 * p + 1) : Nat) : Rat))
        let pairs := d.pairs.mapIdx fun j x =>
          let mine := ps.filter (·.1 == j)
          (x.1 + mine.length, x.2 + (mine.map fun q => q.2.1 - q.2.2).sum)
        let means := (d.means.1 + 448, d.means.2 + (ps.map fun q => (q.2.1 + q.2.2) / 2).sum)
        let d := { d with pairs := pairs, means := means }
        if left = n + 1 then
          { d with
            total := means.2 / (means.1 : Rat)
            cons := d.cons.mapIdx fun j c =>
              let x := pairs.getD j (0, 0)
              { c with gain := gapDiv x.2 (2 * (d.pilot : Rat) * x.1) s.free } }
        else d
      else
        -- dark window j
        let j := n - left
        let m := ((List.range 896).map fun i => ((sampleAt data i : Nat) : Rat)).sum / 896
        { d with cons := d.cons.modify j fun c => if c.onWave then { c with offset := d.total - m } else c }
    let d := { d with recalLeft := left - 1 }
    -- the station has taken the contributor of a dark window off the wavelength
    let seen := if n < left then d else { d with cons := d.cons.modify (n - left) fun c => { c with onWave := false } }
    let s := putRecord seen epoch win 0 (1 + d0.nonfinite data) (d0.clips data) (modDest g (fun _ => d) s)
    if left = 1 then endRecal g win epoch s else s

/-- What the timetable gives the destination of a window: its data, or that it missed or was poisoned. -/
inductive WindowIn where
  | whole (data : List Byte)
  | missed
  | poisoned
deriving DecidableEq, Repr

/-- The window belongs to the fallback (R273, R274). -/
def AspDest.inFallback (d : AspDest) (win epoch : BitVec 16) : Bool :=
  d.st == .fallback || (d.st == .pending && (d.fbFrom.map fun f => notBefore epoch win f.1 f.2).getD false)
    || (d.st == .recal && d.returning && !notBefore epoch win d.recalFrom.1 d.recalFrom.2)

/-- A fenced contributor leaves the group (R276, R279): its offset leaves O, and a recalibration begins again without it.
(DEDUCED: log entry 39) -/
def takeOff (g : BitVec 12) (j : Nat) (s : State) : State :=
  let s := dropCtls g j (modDest g (fun d => { d with
    total := d.total - (((d.cons[j]?).map (·.offset)).getD 0), fences := d.fences.filter (·.1 != j),
    cons := d.cons.modify j fun c => { c with state := 3, onWave := false } }) s)
  match s.aspDest g with
  | some d => if d.st == .recal then startRecal g d.returning s else s
  | none => s

/-- What a window played out from a time on finds at the destination: trims in force, and fenced contributors gone (R268, R276). -/
def windowBegins (g : BitVec 12) (win epoch : BitVec 16) (played : Nat) (s : State) : State :=
  match s.aspDest g with
  | none => s
  | some d =>
    let s := modDest g (fun d => { d with cons := d.cons.map (settleTrims win epoch) }) s
    (d.fences.filter fun x => x.2 ≤ played).foldl (fun s x => takeOff g x.1 s) s

/-- The last window of a cycle of which one belonged to the fallback: FB_GROUP completes FB_SLACK_US after its deadline (R274).
(DEDUCED: log entry 39) -/
def fallbackCycle (g : BitVec 12) (win : BitVec 16) (t : Nat) (s : State) : State :=
  if ((s.aspWindows g).getLast?.map (·.2)) == some win then
    let due := t + 64 * (1 + (s.bank.map (·.window)).getD 0) + 1000 * s.fld F.ASP_CFG.FB_SLACK_US
    modDest g (fun d => if d.fbUsed then { d with fbUsed := false, fbDue := d.fbDue ++ [due] } else d) s
  else s

/-- One window at the destination (R269 to R277). (DEDUCED: log entry 39) -/
def takeWindow (g : BitVec 12) (win epoch : BitVec 16) (off n played : Nat) (w : WindowIn) (s : State) : State :=
  match s.aspDest g with
  | none => s
  | some d =>
    let stale := d.staleFrom ≤ played && played < d.staleTo
    if d.st == .ended then s
    else if d.inFallback win epoch then
      let s := modDest g (fun d => { d with fbUsed := true }) s
      let s := if d.st == .pending then modDest g (fun d => { d with st := .fallback, fbSince := s.now, fbFrom := none }) s else s
      putRecord d epoch win 0 4 0 s
    else
      let recal := d.st == .recal && notBefore epoch win d.recalFrom.1 d.recalFrom.2
      match w with
      | .whole data =>
        if (recal || d.gRef = 0) && !d.digestsOk data then
          let s := putRecord d epoch win 0xFFFF (17 + d.nonfinite data) (d.clips data) s
          if recal then startRecal g d.returning s else s
        else if recal then recalWindow g win epoch data s
        else if d.gRef = 0 then putRecord d epoch win 0 (1 + d.nonfinite data) (d.clips data) s
        else dataWindow g win epoch off n data stale s
      | .missed =>
        let s := putRecord d epoch win 0xFFFF (16 + b2n (stale || recal)) 0 s
        if recal then startRecal g d.returning s else s
      | .poisoned =>
        let s := putRecord d epoch win 0xFFFF (32 + b2n (stale || recal)) 0 s
        if recal then startRecal g d.returning s else s

/-- A window at the destination, received in the path that began at `t` (R269 to R277); while EN is 0 it is not accepted (R280). -/
def aspRecv (g : BitVec 12) (win epoch : BitVec 16) (off n t : Nat) (w : WindowIn) (s : State) : State :=
  if s.flag F.ASP_CTRL.EN then
    fallbackCycle g win t (takeWindow g win epoch off n (t - 64) w (windowBegins g win epoch (t - 64) s))
  else s

/-! ## The end of a group (R276, R278) -/

/-- A destination group ends, and what waits for it hears of it. -/
def endDest (g : BitVec 12) (result : BitVec 4) (s : State) : State :=
  let s := modDest g (fun d => { d with st := .ended, result := result }) s
  let s := raise C.ASP.GROUP_END (detAsp g.toNat 0x1F 0 0 s.ttb.epoch.toNat) s
  wake (.aspGroup g) (if result = 3 then 0x0221 else 0) [result.setWidth 8] s

/-- A FENCE_NOTICE reaches the analog groups (R276, R279): a contributor leaves O with the first window played out after T_FENCE, or at
once where no timetable runs. (DEDUCED: log entry 39) -/
def fenceAsp (f : BitVec 14) (t : Nat) (s : State) : State :=
  let s := s.asp.dests.foldl (fun s d =>
    if d.st == .ended then s
    else
      match d.cons.findIdx? (fun c => c.phys == f && c.state != 3) with
      | none => s
      | some j =>
        if d.skip then
          let s := modDest d.num (fun d => { d with staleFrom := t, staleTo := s.now, fences := d.fences ++ [(j, t)] }) s
          if s.ttb.st == .running then s else takeOff d.num j s
        else endDest d.num 3 s) s
  s.asp.mems.foldl (fun s m => if m.dest == f && !m.ended then endMem m.num m.contrib 3 s else s) s

/-! ## Commands of the Sleeper lane and of time (R268, R274) -/

/-- ASP_CTL (R268): the contributor keeps the message for its window and acknowledges it; where no timetable runs, and so no window is
to come, a close takes effect at once. (DEDUCED: log entry 39) -/
def execAspCtl (msg : BitVec 96) (s : State) : Host.Outcome State Fault Refusal :=
  whenMsg s fun s =>
    let g : BitVec 12 := bits msg 0 12
    let c := Sys2Proof.fld msg 12 5
    let mode : BitVec 3 := bits msg 17 3
    let seq : Byte := bits msg 80 8
    match s.asp.mems.find? (fun m => m.num == g && m.contrib == c) with
    | none => s
    | some m =>
      if 4 ≤ mode.toNat || s.lnk.gen != 3 then s
      else
        let item : AspMsg := (bits msg 48 16, bits msg 64 16, mode, bits msg 32 16, seq)
        let again := m.ctls.any fun x => x.2.2.2.2 == seq
        let s := if again then s else modMem g c (fun m => { m with ctls := m.ctls ++ [item] }) s
        let s := if mode = 3 && !m.ended && s.ttb.st != .running then endMem g c 5 s else s
        sendSlp 0x51 [bits (ctlAck g c seq) 0 32] s
where
  /-- The payload of ASP_CTL_ACK (R408). -/
  ctlAck (g : BitVec 12) (c : Nat) (seq : Byte) : Word := seq ++ 0#7 ++ BitVec.ofNat 5 c ++ g

/-- ASP_CTL_ACK (R268): the message of that SEQ needs no resend. -/
def execAspCtlAck (msg : BitVec 32) (s : State) : Host.Outcome State Fault Refusal :=
  whenMsg s fun s =>
    let g : BitVec 12 := bits msg 0 12
    let j := Sys2Proof.fld msg 12 5
    let seq : Byte := bits msg 24 8
    if s.lnk.gen != 3 then s
    else { s with asp := { s.asp with ctls := s.asp.ctls.filter fun c => !(c.group == g && c.contrib == j && c.seq == seq) } }

/-- ASP_CTL_TIMEOUT (R268, R275): CTL_LEAD_US have passed without the acknowledge of the oldest message to a contributor: it is sent
again with its SEQ, and after the third send the contributor has failed. -/
def execAspCtlTimeout (group : BitVec 12) (contrib : BitVec 5) (s : State) : Host.Outcome State Fault Refusal :=
  whenFunctional s fun s =>
    let j := contrib.toNat
    match s.asp.ctls.find? (fun c => c.group == group && c.contrib == j) with
    | none => s
    | some c =>
      let s := s.lapse c.since s.ctlLead
      let rest := s.asp.ctls.erase c
      if c.sends < 3 then
        sendSlp 0x50 (msgWords 3 c.msg.toNat)
          { s with asp := { s.asp with ctls := rest ++ [{ c with sends := c.sends + 1, since := s.mark }] } }
      else failContrib group j 0 s.ttb.epoch.toNat { s with asp := { s.asp with ctls := rest } }

/-- FALLBACK_COMPLETE (R274): the fallback group completes for a cycle, FB_SLACK_US after the deadline of its last ASP_RECV entry.
(DEDUCED: log entry 39) -/
def execFallbackComplete (group : BitVec 12) (s : State) : Host.Outcome State Fault Refusal :=
  whenFunctional s fun s =>
    match s.aspDest group with
    | some d =>
      match d.fbDue with
      | t :: rest => t6Complete d.fbGroup (modDest group (fun d => { d with fbDue := rest }) (s.reach t))
      | [] => s
    | none => s

/-- FALLBACK_HOLD_EXPIRY (R274): after the hold in fallback a group with AUTO_RETURN recalibrates. -/
def execFallbackHoldExpiry (group : BitVec 12) (s : State) : Host.Outcome State Fault Refusal :=
  whenFunctional s fun s =>
    match s.aspDest group with
    | some d =>
      if d.st == .fallback && d.autoReturn then
        startRecal group true (s.reach (d.fbSince + 1000000 * atLeastOne (s.fld F.ASP_CFG.FB_HOLD_MS)))
      else s
    | none => s

/-! ## Vetex commands (R260, R278, R333) -/

/-- The INSET of an analog group lies within FP16, BF16, E4M3, E5M2 and INT8 (R260). (DEDUCED: log entry 39) -/
def aspInsetOk (w : Word) : Bool := w != 0 && w &&& ~~~0x11E#32 == 0

/-- ASP_PARAM's checks (R278). -/
def aspParamBad (p : List Byte) : Bool :=
  let role := leAt p 2 1
  let n := leAt p 3 1
  let elems := leAt p 12 4
  1 < role || n < 2 || 32 < n || !aspInsetOk (leWord 32 p 8 4) || leAt p 6 1 < 32 || 120 < leAt p 6 1
    || !(leAt p 5 1 == 1 || leAt p 5 1 == 2) || (role == 1 && n ≤ leAt p 4 1) || elems == 0
    || 1048575 < elems || 4096 ≤ leAt p 0 2 || 4096 ≤ leAt p 36 2

/-- The fallback group of a destination (R274): a dynamic REDUCE of its members, output to the host. -/
def fallbackGroup (p : List Byte) (phys : List (BitVec 14)) (s : State) : JGroup :=
  let elems := leAt p 12 4
  { num := BitVec.ofNat 12 (leAt p 36 2), operation := 0, t6 := false, accBase := 0, elems := elems,
    inset := leWord 32 p 8 4, outFormat := BitVec.ofNat 5 (leAt p 5 1), round := false, saturate := false, salt := 0,
    seed := s.reg R.JCT_SEED, skip := (leAt p 33 1).testBit 0, hasLocal := false, localAddr := 0, localPort := 0,
    localFormat := 0, outKind := .host, outAddr := leWord 64 p 16 8, outPort := BitVec.ofNat 3 (leAt p 32 1), parent := 0,
    tree := 0, chunk := 0,
    members := phys.map fun x => { phys := x, elems := 0, bytes := 0, excused := false, poisoned := false, done := false },
    own := phys.findIdx? (· == s.own), acc := List.replicate elems 0, leaves := List.replicate elems 0, st := .opened,
    result := 0, bitmap := 0, poison := false, ready := none, held := none, results := false, chunks := (elems + 1023) / 1024,
    openedAt := s.mark, started := false, buffer := [], fallback := true, since := s.mark, staged := 0, doneAt := 0 }

/-- The destination group of a descriptor (R260). -/
def aspDestOf (p : List Byte) (phys : List (BitVec 14)) : AspDest :=
  { num := BitVec.ofNat 12 (leAt p 0 2), inset := leWord 32 p 8 4, scaleExp := leWord 8 p 7 1,
    outFormat := BitVec.ofNat 5 (leAt p 5 1), pilot := leAt p 6 1, elems := leAt p 12 4, outAddr := leWord 64 p 16 8,
    outPort := BitVec.ofNat 3 (leAt p 32 1), recAddr := leWord 64 p 24 8, budget := leAt p 34 2,
    fbGroup := BitVec.ofNat 12 (leAt p 36 2), skip := (leAt p 33 1).testBit 0, autoReturn := (leAt p 33 1).testBit 1,
    st := .recal, result := 0,
    cons := phys.map fun x => { phys := x, state := 1, gain := 0, offset := 0, trim := 16384, trims := [], badPairs := 0,
                                onWave := true },
    total := 0, gRef := 0, lastResidual := 0, seq := 0, recalLeft := 0, recalFrom := (0, 0), pairs := [], means := (0, 0),
    fbFrom := none, fbSince := 0, returning := false, fbUsed := false, fbDue := [], fences := [],
    staleFrom := 0, staleTo := 0 }

/-- The membership of a descriptor (R260, R264). -/
def aspMemOf (p : List Byte) (dest : BitVec 14) : AspMem :=
  { num := BitVec.ofNat 12 (leAt p 0 2), n := leAt p 3 1, contrib := leAt p 4 1, dest := dest, inset := leWord 32 p 8 4,
    scaleExp := leWord 8 p 7 1, pilot := leAt p 6 1, elems := leAt p 12 4, inAddr := leWord 64 p 16 8,
    inPort := BitVec.ofNat 3 (leAt p 32 1), fbGroup := BitVec.ofNat 12 (leAt p 36 2), skip := (leAt p 33 1).testBit 0,
    trim := 16384, mode := 0, ctls := [], recal := 0, ended := false, result := 0 }

/-- STATION_PROG packets for a command's data in the station's format, with fresh RTAGs; those without a ticket wait (R147, R207). -/
def sendProg (what : ProgFor) (data : List Byte) (s : State) : State :=
  let cut := (List.range ((data.length + 4095) / 4096)).map fun i => (data.drop (4096 * i)).take 4096
  let cut := if cut = [] then [[]] else cut
  let (s, tags) := cut.foldl (fun (acc : State × List (BitVec 16)) c =>
    let t := acc.1.vtx.nextRtag
    let s := { acc.1 with vtx := { acc.1.vtx with nextRtag := t + 1 } }
    (s, acc.2 ++ [t])) (s, [])
  pumpProgs cut.length
    { s with vtx := { s.vtx with progs := s.vtx.progs ++ [{ what := what, rtags := tags, rest := tags.zip cut, since := s.mark }] } }

/-- A destination's group and its fallback group are opened once the station has accepted them; the recalibration begins
(R260, R269, R274). Its members are resolved under the generation in force now, and one on another tile refuses the whole (R30). -/
def aspOpenDest (r : CmdRef) (p : List Byte) (s : State) : State :=
  let ids := (List.range (leAt p 3 1)).map fun i => (leWord 16 p (40 + 2 * i) 2 : BitVec 16)
  let phys := ids.filterMap s.physOf
  let fb := fallbackGroup p phys s
  if phys.length != ids.length then finish r 0x0130 s
  else if phys.any (fun x => tileOf x != tileOf s.own) then finish r 0x0131 s
  else if s.freeChunks < fb.chunks || (s.group fb.num).isSome then refuseOpen r fb.num.toNat false 0x0310 s
  else
    let s := { s with
      jct := { s.jct with groups := s.jct.groups ++ [fb] }
      asp := { s.asp with dests := s.asp.dests ++ [aspDestOf p phys] } }
    finish r 0 (startRecal (BitVec.ofNat 12 (leAt p 0 2)) false (sendReadies fb s))

/-- ASP_GROUP_OPEN, its parameters `p` (R259, R260, R278, R283). -/
def aspOpen (r : CmdRef) (p : List Byte) (s : State) : State :=
  let num := leAt p 0 2
  let n := leAt p 3 1
  let dest := leAt p 2 1 == 0
  let size := if dest then 40 + 2 * n else 40
  let known (x : BitVec 12) : Bool := x.toNat == num
  if s.lnk.gen.toNat < 3 then finish r 0x0510 s
  else if aspParamBad p then finish r 0x0130 s
  else if p.length != size then finish r 0x0101 s
  else if !s.flag F.ASP_CTRL.EN then finish r 0x0230 s
  else if !s.flag F.MSH_CTRL.EN then addWait r .resolve false s
  else if dest then
    let ids := (List.range n).map fun i => (leWord 16 p (40 + 2 * i) 2 : BitVec 16)
    let phys := ids.filterMap s.physOf
    if phys.length != n then finish r 0x0130 s
    else if phys.any (fun x => tileOf x != tileOf s.own) then finish r 0x0131 s
    else if s.asp.dests.any (fun d => known d.num) then finish r 0x0230 s
    else if 64 ≤ s.asp.dests.length then finish r 0x0320 s
    else if s.freeChunks < (leAt p 12 4 + 1023) / 1024 then refuseOpen r (leAt p 36 2) false 0x0310 s
    else sendProg (.asp r) (Config.stationFormat p) (addWait r (.station []) false s)
  else
    match s.physOf (leWord 16 p 38 2) with
    | none => finish r 0x0130 s
    | some d =>
      if tileOf d != tileOf s.own then finish r 0x0131 s
      else if s.asp.mems.any (fun m => known m.num && m.contrib == leAt p 4 1) then finish r 0x0230 s
      else if 256 ≤ s.asp.mems.length then finish r 0x0320 s
      else finish r 0 { s with asp := { s.asp with mems := s.asp.mems ++ [aspMemOf p d] } }

/-- ASP_GROUP_OPEN (R278). -/
def execAspGroupOpen (ref : CmdRef) (s : State) : Host.Outcome State Fault Refusal :=
  whenFunctional s fun s => withCmd ref 0x0501 s (aspOpen ref)

/-- ASP_GROUP_CLOSE (R278): ASP_CTL MODE 0b011 to the contributors, and the fallback group closed; a contributor's membership
is freed. -/
def execAspGroupClose (ref : CmdRef) (s : State) : Host.Outcome State Fault Refusal :=
  whenFunctional s fun s => withCmd ref 0x0502 s fun p s =>
    let num := leAt p 0 2
    match s.asp.dests.find? (fun d => d.num.toNat == num) with
    | some d =>
      let s := if d.st == .ended then s else endDest d.num 5 (sendCtlAll d.num 3 (s.windowFrom d.num (s.now + s.ctlLead)) s)
      finish ref 0 { s with
        asp := { s.asp with dests := s.asp.dests.filter (·.num != d.num) }
        jct := { s.jct with groups := s.jct.groups.filter (·.num != d.fbGroup) } }
    | none =>
      if s.asp.mems.any (fun m => m.num.toNat == num) then
        let s := s.asp.mems.foldl (fun s m => if m.num.toNat == num && !m.ended then endMem m.num m.contrib 5 s else s) s
        finish ref 0 { s with asp := { s.asp with mems := s.asp.mems.filter (fun m => m.num.toNat != num) } }
      else finish ref 0x0230 s

/-- ASP_RECALIBRATE (R269, R278). -/
def execAspRecalibrate (ref : CmdRef) (s : State) : Host.Outcome State Fault Refusal :=
  whenFunctional s fun s => withCmd ref 0x0503 s fun p s =>
    match s.asp.dests.find? (fun d => d.num.toNat == leAt p 0 2) with
    | some d =>
      if d.st == .analog then finish ref 0 (startRecal d.num false s)
      else if d.st == .fallback then finish ref 0 (startRecal d.num true s)
      else finish ref 0x0230 s
    | none => finish ref 0x0230 s

/-- ASP_FALLBACK (R273, R278). -/
def execAspFallback (ref : CmdRef) (s : State) : Host.Outcome State Fault Refusal :=
  whenFunctional s fun s => withCmd ref 0x0504 s fun p s =>
    match s.asp.dests.find? (fun d => d.num.toNat == leAt p 0 2) with
    | some d =>
      if d.st == .analog || d.st == .recal then finish ref 0 (startFallback d.num d.lastResidual.toNat 0 s.ttb.epoch.toNat s)
      else finish ref 0x0230 s
    | none => finish ref 0x0230 s

/-- ASP_GROUP_WAIT (R278, R315): the reply comes when the group ends. -/
def execAspGroupWait (ref : CmdRef) (s : State) : Host.Outcome State Fault Refusal :=
  whenFunctional s fun s => withCmd ref 0x0505 s fun p s =>
    let num := leAt p 0 2
    let ended (r : BitVec 4) (s : State) : State := complete ref (if r = 3 then 0x0221 else 0) [r.setWidth 8] s
    match s.asp.dests.find? (fun d => d.num.toNat == num), s.asp.mems.find? (fun m => m.num.toNat == num) with
    | some d, _ => if d.st == .ended then ended d.result s else addWait ref (.aspGroup d.num) true s
    | none, some m => if m.ended then ended m.result s else addWait ref (.aspGroup m.num) true s
    | none, none => finish ref 0x0230 s

end Sys2Proof.Machine
end

