-- ==== Sys2Proof/Machine/Crypto.lean ====
section
/-!
DEFINITION. The cryptography that the identity unit and the loader use (R18): SHA-384, the curve P-384, the verification of an
ECDSA signature over it, and the reading of X.509 certificates as far as R392 and R398 check them.
-/
namespace Sys2Proof.Machine

/-! ## SHA-384 (R18, FIPS 180-4) -/

/-- The first forty round constants. -/
def shaK1 : List (BitVec 64) :=
  [0x428A2F98D728AE22, 0x7137449123EF65CD, 0xB5C0FBCFEC4D3B2F, 0xE9B5DBA58189DBBC, 0x3956C25BF348B538,
   0x59F111F1B605D019, 0x923F82A4AF194F9B, 0xAB1C5ED5DA6D8118, 0xD807AA98A3030242, 0x12835B0145706FBE,
   0x243185BE4EE4B28C, 0x550C7DC3D5FFB4E2, 0x72BE5D74F27B896F, 0x80DEB1FE3B1696B1, 0x9BDC06A725C71235,
   0xC19BF174CF692694, 0xE49B69C19EF14AD2, 0xEFBE4786384F25E3, 0x0FC19DC68B8CD5B5, 0x240CA1CC77AC9C65,
   0x2DE92C6F592B0275, 0x4A7484AA6EA6E483, 0x5CB0A9DCBD41FBD4, 0x76F988DA831153B5, 0x983E5152EE66DFAB,
   0xA831C66D2DB43210, 0xB00327C898FB213F, 0xBF597FC7BEEF0EE4, 0xC6E00BF33DA88FC2, 0xD5A79147930AA725,
   0x06CA6351E003826F, 0x142929670A0E6E70, 0x27B70A8546D22FFC, 0x2E1B21385C26C926, 0x4D2C6DFC5AC42AED,
   0x53380D139D95B3DF, 0x650A73548BAF63DE, 0x766A0ABB3C77B2A8, 0x81C2C92E47EDAEE6, 0x92722C851482353B]

/-- The last forty round constants. -/
def shaK2 : List (BitVec 64) :=
  [0xA2BFE8A14CF10364, 0xA81A664BBC423001, 0xC24B8B70D0F89791, 0xC76C51A30654BE30, 0xD192E819D6EF5218,
   0xD69906245565A910, 0xF40E35855771202A, 0x106AA07032BBD1B8, 0x19A4C116B8D2D0C8, 0x1E376C085141AB53,
   0x2748774CDF8EEB99, 0x34B0BCB5E19B48A8, 0x391C0CB3C5C95A63, 0x4ED8AA4AE3418ACB, 0x5B9CCA4F7763E373,
   0x682E6FF3D6B2B8A3, 0x748F82EE5DEFB2FC, 0x78A5636F43172F60, 0x84C87814A1F0AB72, 0x8CC702081A6439EC,
   0x90BEFFFA23631E28, 0xA4506CEBDE82BDE9, 0xBEF9A3F7B2C67915, 0xC67178F2E372532B, 0xCA273ECEEA26619C,
   0xD186B8C721C0C207, 0xEADA7DD6CDE0EB1E, 0xF57D4F7FEE6ED178, 0x06F067AA72176FBA, 0x0A637DC5A2C898A6,
   0x113F9804BEF90DAE, 0x1B710B35131C471B, 0x28DB77F523047D84, 0x32CAAB7B40C72493, 0x3C9EBE0A15C9BEBC,
   0x431D67C49C100D4C, 0x4CC5D4BECB3E42B6, 0x597F299CFC657E2A, 0x5FCB6FAB3AD6FAEC, 0x6C44198C4A475817]

/-- The initial hash value of SHA-384. -/
def shaInit : List (BitVec 64) :=
  [0xCBBB9D5DC1059ED8, 0x629A292A367CD507, 0x9159015A3070DD17, 0x152FECD8F70E5939,
   0x67332667FFC00B31, 0x8EB44A8768581511, 0xDB0C2E0D64F98FA7, 0x47B5481DBEFA4FA4]

/-- The padded message: a one bit, zeros, and the length in 128 bits, to a whole number of 128-byte blocks. -/
def shaPad (bs : List Byte) : List Byte :=
  let z := (239 - bs.length % 128) % 128
  bs ++ [0x80] ++ List.replicate z 0 ++ (leBytes 16 (8 * bs.length)).reverse

/-- The number that big-endian bytes spell. -/
def beNat (bs : List Byte) : Nat := leNat bs.reverse

/-- The 16 words of a block. -/
def shaWords : Nat → List Byte → List (BitVec 64)
  | 0, _ => []
  | n + 1, bs => BitVec.ofNat 64 (beNat (bs.take 8)) :: shaWords n (bs.drop 8)

/-- One more word of the schedule from the sixteen before it, the newest first. -/
def shaNext (w : List (BitVec 64)) : BitVec 64 :=
  let a := w.getD 1 0
  let b := w.getD 14 0
  let s1 := a.rotateRight 19 ^^^ a.rotateRight 61 ^^^ (a >>> 6)
  let s0 := b.rotateRight 1 ^^^ b.rotateRight 8 ^^^ (b >>> 7)
  s1 + w.getD 6 0 + s0 + w.getD 15 0

/-- The schedule, the newest word first. -/
def shaSchedule : Nat → List (BitVec 64) → List (BitVec 64)
  | 0, w => w
  | n + 1, w => shaSchedule n (shaNext w :: w)

/-- One round over the working variables a to h. -/
def shaRound (v : List (BitVec 64)) (k w : BitVec 64) : List (BitVec 64) :=
  match v with
  | [a, b, c, d, e, f, g, h] =>
    let s1 := e.rotateRight 14 ^^^ e.rotateRight 18 ^^^ e.rotateRight 41
    let t1 := h + s1 + ((e &&& f) ^^^ (~~~e &&& g)) + k + w
    let s0 := a.rotateRight 28 ^^^ a.rotateRight 34 ^^^ a.rotateRight 39
    let t2 := s0 + ((a &&& b) ^^^ (a &&& c) ^^^ (b &&& c))
    [t1 + t2, a, b, c, d + t1, e, f, g]
  | _ => v

/-- The rounds of one block. -/
def shaRounds : List (BitVec 64) → List (BitVec 64) → List (BitVec 64) → List (BitVec 64)
  | k :: ks, w :: ws, v => shaRounds ks ws (shaRound v k w)
  | _, _, v => v

/-- One block compressed into the hash value. -/
def shaBlock (h : List (BitVec 64)) (bs : List Byte) : List (BitVec 64) :=
  let w := (shaSchedule 64 (shaWords 16 bs).reverse).reverse
  List.zipWith (· + ·) h (shaRounds (shaK1 ++ shaK2) w h)

/-- Blocks of a padded message. -/
def shaBlocks : Nat → List Byte → List (BitVec 64) → List (BitVec 64)
  | 0, _, h => h
  | n + 1, bs, h => shaBlocks n (bs.drop 128) (shaBlock h (bs.take 128))

/-- SHA-384 as 48 bytes. -/
def sha384Bytes (bs : List Byte) : List Byte :=
  let p := shaPad bs
  ((shaBlocks (p.length / 128) p shaInit).take 6).flatMap fun w => (bvBytes w).reverse

/-- SHA-384 as a number, first byte most significant. (PRESUMED: log entry 54) -/
def sha384 (bs : List Byte) : BitVec 384 := BitVec.ofNat 384 (beNat (sha384Bytes bs))

/-- A digest as its 48 bytes. -/
def digestBytes (d : BitVec 384) : List Byte := (bvBytes d).reverse

/-! ## P-384 and ECDSA (R18, FIPS 186-5) -/

/-- The field's prime: 2^384 - 2^128 - 2^96 + 2^32 - 1. (PRESUMED: log entry 54) -/
def p384P : Nat := 2 ^ 384 - 2 ^ 128 - 2 ^ 96 + 2 ^ 32 - 1

/-- The curve's coefficient b; a is -3. (PRESUMED: log entry 54) -/
def p384B : Nat :=
  0xB3312FA7E23EE7E4988E056BE3F82D19181D9C6EFE8141120314088F5013875AC656398D8A2ED19D2A85C8EDD3EC2AEF

/-- The order of the base point. (PRESUMED: log entry 54) -/
def p384N : Nat :=
  0xFFFFFFFFFFFFFFFFFFFFFFFFFFFFFFFFFFFFFFFFFFFFFFFFC7634D81F4372DDF581A0DB248B0A77AECEC196ACCC52973

/-- The base point. (PRESUMED: log entry 54) -/
def p384G : Nat × Nat :=
  (0xAA87CA22BE8B05378EB1C71EF320AD746E1D3B628BA79B9859F741E082542A385502F25DBF55296C3A545E3872760AB7,
   0x3617DE4A96262C6F5D9E98BF9292DC29F8F41DBD289A147CE9DA3113B5F0B8C00A60B1CE1D7E819D7A431D7C90EA0E5F)

/-- A power modulo `m`, over at most `n` bits of the exponent. -/
def powMod (m : Nat) : Nat → Nat → Nat → Nat
  | 0, _, _ => 1 % m
  | n + 1, b, e => (if e % 2 = 1 then b else 1) * powMod m n (b * b % m) (e / 2) % m

/-- The inverse modulo a prime of at most 384 bits. -/
def invMod (m a : Nat) : Nat := powMod m 384 (a % m) (m - 2)

/-- A sum of points in affine form; none is the point at infinity. -/
def ecAdd (x y : Option (Nat × Nat)) : Option (Nat × Nat) :=
  match x, y with
  | none, q => q
  | q, none => q
  | some (x1, y1), some (x2, y2) =>
    let p := p384P
    if x1 = x2 && (y1 + y2) % p = 0 then none
    else
      let l := if x1 = x2 then (3 * x1 * x1 + (p - 3)) * invMod p (2 * y1) % p
        else (y2 + p - y1) * invMod p (x2 + p - x1) % p
      let x3 := (l * l + 2 * p - x1 - x2) % p
      some (x3, (l * (x1 + p - x3) + p - y1) % p)

/-- A multiple of a point, over at most `n` bits. -/
def ecMul : Nat → Nat → Option (Nat × Nat) → Option (Nat × Nat)
  | 0, _, _ => none
  | n + 1, k, q =>
    let r := ecMul n (k / 2) (ecAdd q q)
    if k % 2 = 1 then ecAdd r q else r

/-- The point that 97 bytes spell, 0x04 then X and Y, when it lies on the curve (R399). -/
def pointOf (key : List Byte) : Option (Nat × Nat) :=
  let x := beNat ((key.drop 1).take 48)
  let y := beNat ((key.drop 49).take 48)
  if key.length = 97 && key.headD 0 == 4 && x < p384P && y < p384P
      && (y * y) % p384P == (x * x * x + (p384P - 3) * x + p384B) % p384P then some (x, y) else none

/-- An ECDSA signature, r then s of 48 bytes each, over a digest verifies with a public key (FIPS 186-5). (PRESUMED: log entry 54) -/
def ecdsaOk (key : List Byte) (digest : BitVec 384) (sig : List Byte) : Bool :=
  match pointOf key with
  | none => false
  | some q =>
    let r := beNat (sig.take 48)
    let s := beNat ((sig.drop 48).take 48)
    if sig.length != 96 || r = 0 || s = 0 || p384N ≤ r || p384N ≤ s then false
    else
      let w := invMod p384N s
      let u := digest.toNat * w % p384N
      let v := r * w % p384N
      match ecAdd (ecMul 384 u (some p384G)) (ecMul 384 v (some q)) with
      | some (x, _) => x % p384N == r
      | none => false

/-- A number as so many big-endian bytes. -/
def beBytes (n v : Nat) : List Byte := (leBytes n v).reverse

/-- A secret number from extra random bits: between 1 and the order less 1 (FIPS 186-5 A.2.1 and A.3.1). (PRESUMED: log entry 54) -/
def secretOf (c : BitVec 448) : Nat := c.toNat % (p384N - 1) + 1

/-- The public key of a private key: 0x04 then X and Y (R389, R399). (PRESUMED: log entry 54) -/
def pubBytes (d : Nat) : List Byte :=
  match ecMul 384 d (some p384G) with
  | some (x, y) => 0x04 :: (beBytes 48 x ++ beBytes 48 y)
  | none => []

/-- The ECDSA signature of a digest with a private key, r then s; `secret` gives the bits of each try, and a try that leaves r or s at
zero is followed by another, of which `n` are left (FIPS 186-5). (PRESUMED: log entry 54) -/
def ecdsaSign (d : Nat) (digest : BitVec 384) (secret : Nat → BitVec 448) : Nat → Nat → List Byte
  | 0, _ => []
  | n + 1, i =>
    let k := secretOf (secret i)
    let r := ((ecMul 384 k (some p384G)).map (·.1)).getD 0 % p384N
    let s := invMod p384N k * (digest.toNat + r * d) % p384N
    if r = 0 || s = 0 then ecdsaSign d digest secret n (i + 1) else beBytes 48 r ++ beBytes 48 s

/-! ## DER and X.509 (R18, R392, R398) -/

/-- One DER element at the head of bytes: its tag, its contents, and the bytes after it. Lengths are minimal, as DER demands.
(PRESUMED: log entry 54) -/
def derElem (bs : List Byte) : Option (Byte × List Byte × List Byte) :=
  match bs with
  | t :: l :: rest =>
    let n := l.toNat
    if n < 128 then (if n ≤ rest.length then some (t, rest.take n, rest.drop n) else none)
    else
      let k := n - 128
      let m := beNat (rest.take k)
      let body := rest.drop k
      if k = 0 || 4 < k || rest.length < k || rest.headD 0 == 0 || m < 128 || body.length < m then none
      else some (t, body.take m, body.drop m)
  | _ => none

/-- The element of a tag at the head of bytes: its contents, and the bytes after it. -/
def derTake (tag : Byte) (bs : List Byte) : Option (List Byte × List Byte) :=
  match derElem bs with
  | some (t, c, r) => if t = tag then some (c, r) else none
  | none => none

/-- The elements that bytes hold one after another; none where they are not whole elements. -/
def derList : Nat → List Byte → Option (List (Byte × List Byte))
  | 0, bs => if bs = [] then some [] else none
  | n + 1, bs =>
    if bs = [] then some []
    else
      match derElem bs with
      | some (t, c, r) => (derList n r).map fun xs => (t, c) :: xs
      | none => none

/-- The contents of AlgorithmIdentifier for ecdsa-with-SHA384, and for an EC public key on P-384. -/
def oidEcdsa384 : List Byte := [0x06, 0x08, 0x2A, 0x86, 0x48, 0xCE, 0x3D, 0x04, 0x03, 0x03]

/-- id-ecPublicKey with secp384r1. -/
def oidP384 : List Byte :=
  [0x06, 0x07, 0x2A, 0x86, 0x48, 0xCE, 0x3D, 0x02, 0x01, 0x06, 0x05, 0x2B, 0x81, 0x04, 0x00, 0x22]

/-- A certificate as far as R392 and R398 read it. -/
structure Cert where
  /-- The bytes that the signature covers. -/
  tbs : List Byte
  issuer : List Byte
  subject : List Byte
  /-- 97 bytes. -/
  key : List Byte
  /-- r then s. -/
  sig : List Byte
  /-- The certificate whole. -/
  whole : List Byte
deriving DecidableEq, Repr

/-- A DER INTEGER's contents as 48 bytes, when it is a number that fits. -/
def derInt48 (c : List Byte) : Option (List Byte) :=
  let v := if c.headD 0 == 0 && 1 < c.length then c.tail else c
  if c = [] || (c.headD 0).getLsbD 7 || 48 < v.length then none else some (List.replicate (48 - v.length) 0 ++ v)

/-- The signature of a BIT STRING that holds SEQUENCE of r and s. -/
def derSig (bits : List Byte) : Option (List Byte) := do
  let (sq, z) ← derTake 0x30 bits.tail
  let (r, a) ← derTake 0x02 sq
  let (s, b) ← derTake 0x02 a
  let r ← derInt48 r
  let s ← derInt48 s
  if bits.headD 1 == 0 && z = [] && b = [] then some (r ++ s) else none

/-- One X.509 v3 certificate with an ECDSA P-384 key and an ECDSA-with-SHA-384 signature at the head of bytes, and the bytes
after it (R392). (PRESUMED: log entry 54) -/
def certOf (bs : List Byte) : Option (Cert × List Byte) := do
  let (body, rest) ← derTake 0x30 bs
  let (tbs, a) ← derTake 0x30 body
  let (alg, a) ← derTake 0x30 a
  let (sigBits, a) ← derTake 0x03 a
  let sig ← derSig sigBits
  let (ver, t) ← derTake 0xA0 tbs
  let (_, t) ← derTake 0x02 t
  let (alg2, t) ← derTake 0x30 t
  let (issuer, t) ← derTake 0x30 t
  let (_, t) ← derTake 0x30 t
  let (subject, t) ← derTake 0x30 t
  let (spki, t) ← derTake 0x30 t
  let (kalg, k) ← derTake 0x30 spki
  let (keyBits, k) ← derTake 0x03 k
  let tail ← derList 4 t
  let ok := a = [] && k = [] && ver = [0x02, 0x01, 0x02] && alg = oidEcdsa384 && alg2 = oidEcdsa384 && kalg = oidP384
    && keyBits.headD 1 == 0 && (pointOf keyBits.tail).isSome && tail.all fun e => e.1 == 0x81 || e.1 == 0x82 || e.1 == 0xA3
  if ok then
    some ({ tbs := body.take (derLen body), issuer := issuer, subject := subject, key := keyBits.tail, sig := sig,
            whole := bs.take (derLen bs) }, rest)
  else none
where
  /-- The length of the element at the head of bytes, its header included. -/
  derLen (bs : List Byte) : Nat :=
    match derElem bs with
    | some (_, _, r) => bs.length - r.length
    | none => 0

/-- The certificates of a chain, one to four, root first; none where one does not parse (R392). (PRESUMED: log entry 54) -/
def certsOf : Nat → List Byte → Option (List Cert)
  | 0, bs => if bs = [] then some [] else none
  | n + 1, bs =>
    if bs = [] then some []
    else
      match certOf bs with
      | some (c, r) => (certsOf n r).map fun cs => c :: cs
      | none => none

/-- A certificate's signature verifies with a key. -/
def Cert.signedBy (c : Cert) (key : List Byte) : Bool := ecdsaOk key (sha384 c.tbs) c.sig

/-- Each certificate is signed by the key of the one before it. -/
def signedOn (key : List Byte) : List Cert → Bool
  | [] => true
  | c :: cs => c.signedBy key && signedOn c.key cs

/-- A chain that passes the parse and the signature checks of R392: its certificates. (PRESUMED: log entry 54) -/
def chainOk (bs : List Byte) : Option (List Cert) :=
  match certsOf 4 bs with
  | some (c :: cs) => if signedOn c.key (c :: cs) then some (c :: cs) else none
  | _ => none

/-- The values of an attribute in a Name: the RelativeDistinguishedName elements whose type has these contents. -/
def attrValues (oid : List Byte) (name : List Byte) : List (List Byte) :=
  ((derList 64 name).getD []).flatMap fun rdn =>
    ((derList 16 rdn.2).getD []).filterMap fun atv =>
      match derTake 0x06 atv.2 with
      | some (o, r) => if o = oid then (derElem r).map (fun e => e.2.1) else none
      | none => none

/-- The subject serialNumber, id-at-serialNumber 2.5.4.5 (R398). -/
def Cert.serial (c : Cert) : Option (List Byte) := (attrValues [0x55, 0x04, 0x05] c.subject).head?

end Sys2Proof.Machine
end

