-- ==== Sys2Proof/Machine/Rwt.lean ====
section
/-!
DEFINITION. Railway time: the sets of exchanges with the station, the lock, and what follows a set after lock (R196 to R201),
with the stop of a timetable that the sequencer and other units ask for (R212).
-/
namespace Sys2Proof.Machine

/-! ## Stops of the timetable (R212) -/

/-- The cause and class of a stop (R212, R420, R425): of the reasons 0x7 and 0x8 the event that stops the timetable sets the
cause itself (R422). -/
def stopCause (x : Stop) (s : State) : State :=
  if x.reason = 1 then raise C.TTB.HALTED 0 s
  else if x.reason = 7 || x.reason = 8 then s
  else if x.reason = 3 || x.reason = 4 || x.reason = 5 then
    raiseAs C.TTB.STOPPED 0x06 0x05 (detFence x.die x.fence) s
  else raiseAs C.TTB.STOPPED 0x03 0x05 (detTtb 0 0 x.reason.toNat s) s

/-- An armed standby is disarmed and stays ready; the TTB_ARM that waits for it ends with TTB_CANCELLED (R210, R212, R331). -/
def disarm (s : State) : State :=
  if s.ttb.standby == .armed then
    wake .arm 0x0215 [] { s with ttb := { s.ttb with standby := .ready, n1 := none } }
  else s

/-- A release point by epoch becomes the railway time at which its boundary would have begun (R285). -/
def releaseAfterHalt (s : State) : State :=
  match s.msh.release with
  | some (.epoch e) => releaseIfDue { s with msh := { s.msh with release := some (.time (s.releaseTime (.epoch e))) } }
  | _ => releaseIfDue s

/-- The timetable stops now, at railway time `t` (R212): from here no T6 flit is sent, no sleeve is reserved and no deadline
is checked. A start armed is withdrawn. -/
def stopNow (x : Stop) (t : Nat) (s : State) : State :=
  let armed := s.ttb.st == .startArmed
  let s := disarm s
  let s := { s with ttb := { s.ttb with
    st := .stopped, haltReason := x.reason, stops := [], n1 := none, recv := [], staged := [], due := [], upMask := 0,
    dnMask := 0 } }
  let s := stopCause x s
  let s := wake .halt 0 (leBytes 8 t) s
  if armed then wake .start 0x0211 [] s else releaseAfterHalt s

/-- A stop asked for: a HALT of a start armed takes effect at once, any other stop at the boundary named (R212, R222). -/
def askStop (x : Stop) (s : State) : State :=
  if s.ttb.st == .startArmed && x.reason == 1 then stopNow x s.now s
  else if s.ttb.st == .startArmed || s.ttb.st == .running then { s with ttb := { s.ttb with stops := s.ttb.stops ++ [x] } }
  else s

/-- A stop at the next path boundary (R212). -/
def stopAtPath (reason : BitVec 4) (s : State) : State :=
  askStop { atG := s.ttb.path + 1, reason := reason, die := 0, fence := 0 } s

/-! ## Sets (R198 to R201) -/

/-- The unit changed. -/
def modRwt (f : Rwt → Rwt) (s : State) : State := { s with rwt := f s.rwt }

/-- A signed count of 0.5 ns in a 16-bit field; where it does not fit, the spec gives no number. -/
def halfNs (lo hi : Int) (v : Int) : BitVec 16 := if lo ≤ v && v ≤ hi then BitVec.ofInt 16 v else Config.wide16 v

/-- SYNC_SET_START (R198): a set begins INTERVAL_US after the start of the one before, where values below 16 are taken as 16 (R225), and the
first after reset or RELOCK leaves the unlocked state. Sets begin with the first agreement accepted (R412). -/
def execSyncSetStart (s : State) : Host.Outcome State Fault Refusal :=
  whenFunctional s fun s =>
    if s.rwt.inSet || s.boot.reached.toNat < 7 then s
    else
      let s := if s.rwt.sets then s.lapse s.rwt.setFrom (1000 * max 16 (s.fld F.RWT_SYNC_CFG.INTERVAL_US)) else s
      modRwt (fun r => { r with
        inSet := true, sets := true, setFrom := s.mark, exch := [], st := if r.st == .unlocked then .locking else r.st }) s

/-- TIME_REQ_SEND (R198): the next exchange of the set, 1 µs after the one before. -/
def execTimeReqSend (s : State) : Host.Outcome State Fault Refusal :=
  whenFunctional s fun s =>
    if s.rwt.inSet && s.rwt.exch.length < 8 then
      let s := match s.rwt.exch.getLast? with
        | some x => s.reach (x.t1.toNat + 1000)
        | none => s
      let x : TimeExch := { mseq := s.slp.mseq, t1 := s.now, got := none, dead := false }
      sendSlp 0x10 [] (modRwt (fun r => { r with exch := r.exch ++ [x] }) s)
    else s

/-- TIME_RESP (R198): paired by ECHO with an exchange still within its window, and stamped now. -/
def execTimeResp (msg : BitVec 160) (s : State) : Host.Outcome State Fault Refusal :=
  whenMsg s fun s =>
    let t2 : Int := Sys2Proof.fld msg 0 64
    let t3 : Int := Sys2Proof.fld msg 64 64
    let asym : Int := (bits msg 128 16 : BitVec 16).toInt
    let echo : Byte := bits msg 152 8
    let t4 : Int := s.now
    let mine (x : TimeExch) : Bool := x.mseq == echo && x.got.isNone && !x.dead && t4 ≤ x.t1 + 10000
    if s.rwt.inSet then
      modRwt (fun r => { r with
        exch := mapIf mine (fun x => { x with
          got := some ((t2 - x.t1) + (t4 - t3), (x.t1 - t2) + (t4 - t3) - asym, bits msg 144 2) }) r.exch }) s
    else s

/-- TIME_EXCHANGE_TIMEOUT (R198): the oldest exchange without an answer is discarded 10 µs after its t1. (DEDUCED: log entry 8) -/
def execTimeExchangeTimeout (s : State) : Host.Outcome State Fault Refusal :=
  whenFunctional s fun s =>
    match s.rwt.exch.find? (fun x => x.got.isNone && !x.dead) with
    | some x =>
      modRwt (fun r => { r with exch := mapIf (·.mseq == x.mseq) (fun x => { x with dead := x.got.isNone }) r.exch })
        (s.reach (x.t1.toNat + 10000))
    | none => s

/-- A step of start-up begins (R412, R415). (DEDUCED: log entry 51) -/
def toStep (n : BitVec 4) (s : State) : State :=
  let r : BitVec 4 := if n = 9 then 10 else n
  { s with boot := { s.boot with step := n, fail := 0, reached := if s.boot.reached < r then r else s.boot.reached } }

/-- READY follows LINK_UP once railway time is locked, the lost state counting as locked (R201, R412). -/
def noteReady (s : State) : State :=
  if s.boot.step == 8 && s.lnk.st != .notUp && !s.unlocked then toStep 9 s else s

/-- Before lock (R200): a step where the offset exceeds 1 ns, and the count of sets towards the lock. -/
def beforeLock (o : Int) (s : State) : State :=
  let m := o.natAbs
  if 2 < m then
    -- units of 0.5 ns; the step is the nearest multiple of 2 ns, ties away from zero
    let step := 2 * ((m + 2) / 4)
    let s := modRwt (fun r =>
      if 0 < o then { r with hold := r.hold + step, goodRun := 0 } else { r with now := r.now + step, goodRun := 0 }) s
    raise C.RWT.STEP (detRwt s) s
  else
    let n := s.rwt.goodRun + 1
    if atLeastOne (s.fld F.RWT_SYNC_CFG.LOCK_SETS) ≤ n then
      noteReady (raise C.RWT.LOCKED 0 (modRwt (fun r => { r with goodRun := 0, lostRun := 0, st := .locked }) s))
    else modRwt (fun r => { r with goodRun := n }) s

/-- While locked (R201). -/
def whileLocked (o : Int) (s : State) : State :=
  let m := o.natAbs
  let s := if 2 * s.fld F.RWT_SYNC_CFG.DRIFT_NS < m then raise C.RWT.DRIFT (detRwt s) s else s
  if 2 * s.fld F.RWT_SYNC_CFG.LOST_NS < m then
    if s.rwt.lostRun = 0 then modRwt (fun r => { r with lostRun := 1 }) s
    else
      let s := modRwt (fun r => { r with lostRun := 0, st := .lost }) s
      stopAtPath 2 (raise C.RWT.TIME_LOST (detRwt s) s)
  else modRwt (fun r => { r with lostRun := 0 }) s

/-- A failed set (R198, R200, R201). -/
def failedSet (s : State) : State :=
  let s := modRwt (fun r => { r with goodRun := 0, lostRun := 0, failRun := r.failRun + 1 }) s
  if !s.unlocked && s.rwt.failRun % 10 = 0 then raise C.RWT.SYNC_MISSING (detRwt s) s else s

/-- The exchange that a set takes: the smallest delay, the first sent among equals (R198). -/
def bestExch (xs : List (Int × Int × BitVec 2)) : Option (Int × Int × BitVec 2) :=
  xs.foldl (fun best x =>
    match best with
    | none => some x
    | some b => if x.1 < b.1 then some x else some b) none

/-- SYNC_SET_END (R198 to R201): the set's result, or a failed set. -/
def execSyncSetEnd (s : State) : Host.Outcome State Fault Refusal :=
  whenFunctional s fun s =>
    if !s.rwt.inSet then s
    else
      let s := (s.rwt.exch.filter (fun x => x.got.isNone && !x.dead)).foldl (fun s x => s.reach (x.t1.toNat + 10000)) s
      let best := bestExch (s.rwt.exch.filterMap (·.got))
      let s := modRwt (fun r => { r with inSet := false, exch := [] }) s
      match best with
      | none => failedSet s
      | some (d, o, q) =>
        let s := modRwt (fun r => { r with
          failRun := 0, offset := halfNs (-32768) 32767 o, delay := halfNs 0 65535 d, q := q }) s
        match s.rwt.st with
        | .unlocked | .locking => beforeLock o s
        | .locked => whileLocked o s
        | .lost => s

/-- RELOCK (R201): back to the unlocked state, unless a timetable is start armed or running. -/
def relock (s : State) : State :=
  if s.ttb.st == .startArmed || s.ttb.st == .running then s
  else modRwt (fun r => { r with st := .unlocked, goodRun := 0, lostRun := 0, failRun := 0 }) s

/-- RWT_RELOCK: a write of RWT_CTRL. -/
def execRwtRelock (data : Word) (s : State) : Host.Outcome State Fault Refusal :=
  whenFunctional s fun s => portWrite R.RWT_CTRL (data.getLsbD 0) relock s

end Sys2Proof.Machine
end

