-- ==== Sys2Proof/Machine/Image.lean ====
section
/-!
DEFINITION. The Ilgal image: its header, entries and tables, and the checks of a load (R203 to R208, R214).
-/
namespace Sys2Proof.Machine

/-! ## Entries (R204, R205) -/

/-- An entry from its 32 bytes; `len` is the number of data bytes, LEN + 1. -/
def ttEntryOf (w : BitVec 256) : TtEntry :=
  { path := Sys2Proof.fld w 236 20, sleeves := bits w 228 8, first := Sys2Proof.fld w 223 5, last := Sys2Proof.fld w 218 5,
    kind := bits w 214 4, group := Sys2Proof.bit w 213, peer := bits w 197 16, matchIx := bits w 180 17, opx := bits w 172 8,
    port := bits w 169 3, sop := Sys2Proof.bit w 168, eop := Sys2Proof.bit w 167, addr := bits w 96 64,
    len := Sys2Proof.fld w 72 24 + 1, aux := bits w 0 64 }

/-- The reserved bits of an entry are zero. -/
def ttReservedOk (w : BitVec 256) : Bool := Sys2Proof.fld w 160 7 == 0 && Sys2Proof.fld w 64 8 == 0

/-- The 32-byte words of an entry region. -/
def entryWords : Nat → List Byte → List (BitVec 256)
  | 0, _ => []
  | n + 1, bs => BitVec.ofNat 256 (leNat (bs.take 32)) :: entryWords n (bs.drop 32)

/-- The SEND kinds (R205); every other defined kind receives. -/
def TtEntry.sends (e : TtEntry) : Bool := e.kind == 1 || e.kind == 3 || e.kind == 5

/-- The kind is defined. -/
def TtEntry.kindOk (e : TtEntry) : Bool := 1 ≤ e.kind.toNat && e.kind.toNat ≤ 6

/-- The entry moves host data. -/
def TtEntry.host (e : TtEntry) : Bool := e.kind == 1 || e.kind == 2

/-- The number of slots times sleeves that an entry occupies. -/
def TtEntry.room (e : TtEntry) : Nat := (e.last + 1 - e.first) * popcount8 e.sleeves

/-- The flits that carry an entry's data. -/
def TtEntry.flits (e : TtEntry) : Nat := (e.len + 199) / 200

/-- The slot and sleeve of flit `i` of an entry: by slot, within a slot by sleeve (R204). -/
def TtEntry.place (e : TtEntry) (i : Nat) : Nat × SleeveNo :=
  let ks := sleevesOf e.sleeves
  let n := atLeastOne ks.length
  (e.first + i / n, ks.getD (i % n) 0)

/-- The flit of an entry that a slot and a sleeve carry. -/
def TtEntry.flitAt (e : TtEntry) (slot : Nat) (k : SleeveNo) : Option Nat :=
  let ks := sleevesOf e.sleeves
  if e.first ≤ slot && slot ≤ e.last then (ks.findIdx? (· == k)).map fun r => (slot - e.first) * ks.length + r else none

/-- An entry occupies a sleeve in a slot. -/
def TtEntry.covers (e : TtEntry) (k : SleeveNo) (slot : Nat) : Bool :=
  e.sleeves.getLsbD k.toNat && e.first ≤ slot && slot ≤ e.last

/-- Entries grouped by path, in order. -/
def pathRuns : List TtEntry → List (Nat × List TtEntry)
  | [] => []
  | e :: es =>
    match pathRuns es with
    | (p, xs) :: rest => if p = e.path then (p, e :: xs) :: rest else (e.path, [e]) :: (p, xs) :: rest
    | [] => [(e.path, [e])]

/-- Entries of a path of one direction. -/
def runOf (runs : List (Nat × List TtEntry)) (p : Nat) (send : Bool) : List TtEntry :=
  (((runs.find? (·.1 == p)).map (·.2)).getD []).filter fun e => e.sends == send

/-- The sleeves that entries reserve (R213). -/
def sleeveUnion (es : List TtEntry) : Byte := es.foldl (fun m e => m ||| e.sleeves) 0

/-- No two entries of one direction share a sleeve and a slot (R208). -/
def noClash : List TtEntry → Bool
  | [] => true
  | e :: es =>
    es.all (fun x => x.sends != e.sends || x.sleeves &&& e.sleeves == 0 || x.last < e.first || e.last < x.first) && noClash es

/-- The entry that occupies the lowest slot of a sleeve among entries. -/
def lowestOn (es : List TtEntry) (k : SleeveNo) : Option TtEntry :=
  (es.filter fun e => e.sleeves.getLsbD k.toNat).foldl
    (fun best e => match best with
      | none => some e
      | some b => if e.first < b.first then some e else some b) none

/-- The guard rule of R214 for one path, sleeve and direction; `before` are the entries of the path before. -/
def guardOk (here before : List TtEntry) (k : SleeveNo) : Bool :=
  match lowestOn here k with
  | none => true
  | some e => 4 ≤ e.first || before.any fun b => b.covers k 31 && b.peer == e.peer && b.group == e.group

/-- The guard rule over an image (R214): path 0 is compared with the last path. -/
def guardsOk (runs : List (Nat × List TtEntry)) (cycle : Nat) : Bool :=
  runs.all fun r => [true, false].all fun send => (List.range 8).all fun k =>
    guardOk (r.2.filter (fun e => e.sends == send)) (runOf runs (if r.1 = 0 then cycle - 1 else r.1 - 1) send)
      (BitVec.ofNat 3 k)

/-- Two consecutive paths of a bank reserve every usable sleeve in a direction (R83). -/
def Bank.fullPair (b : Bank) (usable : Byte) : Bool :=
  let runs := pathRuns b.entries
  let full (p : Nat) (send : Bool) : Bool := usable &&& ~~~sleeveUnion (runOf runs p send) == 0
  usable != 0 && runs.any fun r => [true, false].any fun send => full r.1 send && full ((r.1 + 1) % atLeastOne b.cycle) send

/-! ## The header and the checks of a load (R203, R208) -/

/-- The image is streamed: of necessity, or by STREAM where it is STREAMABLE. -/
def imgStreamed (img : List Byte) (stream : Bool) : Bool :=
  131072 < leAt img 8 4 || ((leAt img 18 2).testBit 2 && stream)

/-- The segments of a streamed image (R220). -/
def imgSegments (img : List Byte) : Nat := (leAt img 8 4 + 127) / 128

/-- The entries that a bank occupies (R208). -/
def Bank.room (b : Bank) : Nat := if b.streamed then 65536 else b.entries.length

/-- MAGIC, FORMAT major, HDR_LEN and HDR_CRC. (DEDUCED: log entry 31) -/
def hdrOk (img : List Byte) : Bool :=
  leAt img 0 4 == 0x4C494754 && leAt img 5 1 == 3 && leAt img 6 2 == 128 && leAt img 120 4 == (crc32 (slice img 0 120)).toNat

/-- The header's checks in order; 0 where all pass (R208). `free` is the room that the active bank leaves. (DEDUCED: log entry 31) -/
def hdrChecks (img : List Byte) (ld : Load) (site : BitVec 14) (free : Nat) : Nat :=
  let n := leAt img 8 4
  let streamable := (leAt img 18 2).testBit 2
  let streamed := imgStreamed img ld.stream
  if !hdrOk img then 0x10
  else if leAt img 28 2 % 16384 != site.toNat then 0x11
  else if ld.keep then 0x20
  else if 262144 < n || (131072 < n && !streamable) then 0x30
  else if 128 < leAt img 24 2 then 0x31
  else if 4096 < leAt img 26 2 then 0x32
  else if streamed && leAt img 12 4 / 32 < imgSegments img then 0x33
  else if free < (if streamed then 65536 else n) then 0x34
  else 0

/-- The four regions and the segment CRC table of an image: offset and length, the empty ones left out. -/
def imgRegions (img : List Byte) : List (Nat × Nat) :=
  [(leAt img 40 8, 32 * leAt img 8 4), (leAt img 48 8, 4 * leAt img 24 2), (leAt img 56 8, 16 * leAt img 26 2),
   (leAt img 64 8, leAt img 72 4), (leAt img 80 8, if leAt img 80 8 = 0 then 0 else 4 * imgSegments img)].filter (0 < ·.2)

/-- No two regions overlap. -/
def regionsApart : List (Nat × Nat) → Bool
  | [] => true
  | r :: rs => rs.all (fun x => x.1 + x.2 ≤ r.1 || r.1 + r.2 ≤ x.1) && regionsApart rs

/-- Bytes of a region of the image. -/
def imgBytes (img : List Byte) (off len : Nat) : List Byte := slice img off len

/-- Words of a table of the image. -/
def imgTable (img : List Byte) (off n size : Nat) : List Nat := (List.range n).map fun i => leAt img (off + size * i) size

/-- The binding entry that the check of an image uses (R208): the staged one where BIND_GEN names the staged generation. -/
def State.bindFor (s : State) (img : List Byte) (lid : BitVec 16) : BitVec 64 :=
  let staged := (leAt img 18 2).testBit 0 && s.msh.hasStage && leAt img 16 2 == s.stagedGen.toNat
  match (if staged then s.msh.staged.find? (·.lid == lid) else none) with
  | some x => x.entry
  | none => s.bindOf lid

/-- The fields of an entry that R204 requires to be zero for its kind. -/
def zeroFieldsOk (e : TtEntry) : Bool :=
  (e.host || e.addr == 0) && (!e.host || (e.opx == 0 && e.aux == 0)) && (!e.sends || e.matchIx == 0)

/-- Kind and peer of an entry are permitted by the generation, the peer is known, and a peer on another tile has a route
(R205, R206, R208). -/
def State.peerOk (s : State) (img : List Byte) (routes : List (BitVec 7)) (e : TtEntry) : Bool :=
  e.kindOk && (e.kind.toNat < 5 || s.lnk.gen == 3) &&
    (e.group ||
      let b := s.bindFor img e.peer
      bState b != 0 && (bState b).toNat < 4 && (tileOf (bPhys b) == tileOf s.own || (2 ≤ s.lnk.gen.toNat && routes.contains (tileOf (bPhys b)))))

/-- The structural checks of TTB_IMAGE_BAD (R208). -/
def State.structureOk (s : State) (img : List Byte) (ld : Load) : Bool :=
  let n := leAt img 8 4
  let cycle := leAt img 12 4
  let fl := leAt img 18 2
  let words := entryWords n (imgBytes img (leAt img 40 8) (32 * n))
  let es := words.map ttEntryOf
  let runs := pathRuns es
  let routeWords := imgTable img (leAt img 48 8) (leAt img 24 2) 4
  let branchWords := imgTable img (leAt img 56 8) (leAt img 26 2) 16
  let tiles : List (BitVec 7) := routeWords.map fun w => BitVec.ofNat 7 (w / 2 ^ 25)
  let body := imgBytes img (leAt img 40 8) (32 * n) ++ imgBytes img (leAt img 48 8) (4 * leAt img 24 2)
    ++ imgBytes img (leAt img 56 8) (16 * leAt img 26 2) ++ imgBytes img (leAt img 64 8) (leAt img 72 4)
  leAt img 124 4 == (crc32 body).toNat
    && fl < 8 && leAt img 20 2 < 16384 && leAt img 28 2 < 16384 && leAt img 30 2 == 0 && leAt img 76 4 == 0
    && zeroAt img 88 32 && words.all ttReservedOk && routeWords.all (fun w => w / 2 ^ 16 % 2 ^ 9 == 0)
    && branchWords.all (fun w => w % 2 ^ 102 == 0) && (leAt img 80 8 == 0 || fl.testBit 2)
    && es.all zeroFieldsOk
    && 4096 ≤ leAt img 40 8
    && [leAt img 48 8, leAt img 56 8, leAt img 64 8, leAt img 80 8].all (fun o => o == 0 || 128 ≤ o)
    && (imgRegions img).all (fun r => 128 ≤ r.1) && regionsApart (imgRegions img)
    && (es.zip es.tail).all (fun x => x.1.path ≤ x.2.path) && es.all (fun e => e.path < cycle)
    && runs.all (fun r => noClash r.2)
    && es.all (fun e => e.sleeves &&& ~~~(leWord 8 img 23 1) == 0)
    && es.all (fun e => e.len ≤ 200 * e.room && (!e.host || s.hasPort e.port))
    && es.all (s.peerOk img tiles) && tiles.Nodup
    && guardsOk runs cycle
    && (!imgStreamed img ld.stream || es.all (fun e => e.path % 32 != 31))

/-- The bank that a checked image becomes: a streamed one with the first 512 segments in its ring (R221). -/
def bankOf (img : List Byte) (ld : Load) : Bank :=
  let n := leAt img 8 4
  let fl := leAt img 18 2
  let segs := imgSegments img
  let streamed := imgStreamed img ld.stream
  { entries := (entryWords n (imgBytes img (leAt img 40 8) (32 * n))).map ttEntryOf, cycle := leAt img 12 4,
    bindGen := if fl.testBit 0 then some (leWord 16 img 16 2) else none,
    variantOf := if fl.testBit 1 then some (leWord 14 img 20 2) else none,
    window := leAt img 22 1, mask := leWord 8 img 23 1, seed := leWord 32 img 32 4, job := leWord 32 img 36 4,
    streamed := streamed,
    routes := (imgTable img (leAt img 48 8) (leAt img 24 2) 4).map fun w => (BitVec.ofNat 7 (w / 2 ^ 25), w % 2 ^ 16),
    branches := (imgTable img (leAt img 56 8) (leAt img 26 2) 16).map fun w => BitVec.ofNat 128 w,
    present := if streamed then (List.range (min 512 segs)).map fun i => (i, 0) else [],
    segCrc := if leAt img 80 8 = 0 then [] else (imgTable img (leAt img 80 8) segs 4).map fun w => BitVec.ofNat 32 w,
    nextSeg := min 512 segs, again := [], late := [], base := ld.addr, entryOff := leAt img 40 8 }

end Sys2Proof.Machine
end

