-- ==== Sys2Proof/Machine/T6.lean ====
section
/-!
DEFINITION. T6 traffic: what the entries of a path send and expect, staging, the deadline check and its faults, and streamed
segments (R213 to R221, R248, R261 to R263).
-/
namespace Sys2Proof.Machine

/-- The sequencer changed. -/
def modTtb (f : Ttb → Ttb) (s : State) : State := { s with ttb := f s.ttb }

/-- One bank changed. -/
def modBank (b : Bool) (f : Bank → Bank) (s : State) : State :=
  modTtb (fun t => { t with banks := vmod t.banks (b2n b) (Option.map f) }) s

/-- A bank by its number. -/
def State.bankAt (s : State) (b : Bool) : Option Bank := s.ttb.banks[b2n b]!

/-! ## Deadline faults (R218, R219) -/

/-- The subsystem that bears the cost of an entry (R422). -/
def entryCost (kind : BitVec 4) : Byte := if kind = 3 || kind = 4 then 0x07 else if kind = 5 || kind = 6 then 0x08 else 0x05

/-- What a deadline fault concerns: entry, cycle, job and cost, and whether its flit matches no entry. -/
structure DlWhere where
  index : Nat
  epoch : BitVec 16
  job : Word
  cost : Byte
  stray : Bool
deriving DecidableEq, Repr

/-- A deadline fault of a kind (R218, R219): counted, shown as the last, and logged once per entry and cycle. `fec` tells that
an uncorrectable flit is its cause (R154, R422), `late` the time of a deadline that passed. -/
def dlFault (kind : Nat) (w : DlWhere) (fec : Bool) (late : Option Nat) (s : State) : State :=
  let a := R.TTB_DL_CNT + 4 * kind
  let s := s.setReg a (if s.reg a = 0xFFFFFFFF#32 then s.reg a else s.reg a + 1)
  let s := modTtb (fun t => { t with dlLast := BitVec.ofNat 32 (kind * 2 ^ 29 + w.index % 2 ^ 17) }) s
  let d := at80 0 (w.index % 2 ^ 17) ||| at80 17 kind ||| at80 32 w.epoch.toNat ||| at80 48 w.job.toNat
  if s.ttb.logged.contains (w.index, w.epoch, w.stray) then
    let mine (o : Occ) : Bool := o.cls == 0x03 && (o.evtOff == 0x0050 || o.detect == 0x03)
      && Sys2Proof.fld o.detail 0 17 == w.index % 2 ^ 17 && bits o.detail 32 48 == bits d 32 48
    let s := bumpOcc mine s
    if fec then setCause C.LNK.FEC_UNCORR s else s
  else
    let s := modTtb (fun t => { t with logged := t.logged ++ [(w.index, w.epoch, w.stray)] }) s
    let c := if fec then C.LNK.FEC_UNCORR else C.TTB.DEADLINE
    let o := occOf c 0x03 w.cost fec d s
    let o := match late with
      | some t => if s.unlocked then o else { o with time := BitVec.ofNat 64 t }
      | none => o
    pushOcc o (if fec then setCause C.TTB.DEADLINE (setCause c s) else setCause c s)

/-- Where a fault of an open receive entry belongs. -/
def OpenRecv.here (r : OpenRecv) : DlWhere :=
  { index := r.index, epoch := r.epoch, job := r.job, cost := entryCost r.e.kind, stray := false }

/-- Where a fault of a due flit belongs. -/
def State.sendWhere (s : State) (i : Nat) (e : TtEntry) : DlWhere :=
  { index := i, epoch := s.ttb.epoch, job := (s.bank.map (·.job)).getD 0, cost := entryCost e.kind, stray := false }

/-! ## Which entries run (R221, R248, R261, R262) -/

/-- An entry with its index. -/
def Bank.at (b : Bank) (p : Nat) : List (Nat × TtEntry) :=
  (b.entries.zipIdx.filter fun x => x.1.path == p).map fun x => (x.2, x.1)

/-- The segment of an entry is in the ring (R221). -/
def Bank.has (b : Bank) (i : Nat) : Bool := !b.streamed || b.present.any fun x => x.1 == i / 128

/-- ELEMS of a junction entry. -/
def TtEntry.jctElems (e : TtEntry) : Nat := Sys2Proof.fld e.aux 18 17 + 1

/-- FORMAT of a junction entry. -/
def TtEntry.jctFormat (e : TtEntry) : Nat := Sys2Proof.fld e.aux 13 5

/-- The junction group of an entry. -/
def TtEntry.jctGroup (e : TtEntry) : BitVec 12 := bits e.aux 52 12

/-- An entry is executed (R248, R261, R262): a junction entry with a defined ACTION and the right length; an analog entry with
OPX 0x10, where every two entries of its window in this image keep the rule: of one kind in one path, of both kinds two paths apart. -/
def Bank.runs (b : Bank) (e : TtEntry) : Bool :=
  if e.kind = 3 || e.kind = 4 then
    let action := e.opx.toNat / 16
    e.opx.toNat % 16 == 0 && (action == 1 || (action == 2 && e.kind == 3)) && formatOk e.jctFormat
      && e.len == elemBytes e.jctFormat e.jctElems
  else if e.kind = 5 || e.kind = 6 then
    let win (x : TtEntry) : BitVec 16 := bits x.aux 48 16
    let mine := b.entries.filter fun x =>
      x.group && bits x.peer 0 12 == (bits e.peer 0 12 : BitVec 12) && win x == win e && (x.kind == 5 || x.kind == 6)
    let base (x : TtEntry) : Nat := if x.kind = 5 then x.path + 2 else x.path
    e.opx == 0x10 && mine.all fun x => base x == base e
  else true

/-- PROTOCOL for a flit of an entry that is not executed (R248, R261). -/
def entryProtocol (e : TtEntry) (h : T6Hdr) (s : State) : State :=
  raise (if e.kind = 3 || e.kind = 4 then C.JCT.PROTOCOL else C.ASP.PROTOCOL) (detProto (Sys2Proof.fld h.toBits 0 64) 0x3FFF 0) s

/-- The last RECV_JCT path of a group in a bank (R249). (DEDUCED: log entry 38) -/
def Bank.lastJct (b : Bank) (g : BitVec 12) : Nat :=
  (b.entries.filter fun e => e.kind == 4 && e.jctGroup == g).foldl (fun m e => max m e.path) 0

/-- A segment is reported late once in a cycle (R221). (DEDUCED: log entry 36) -/
def streamLate (b : Bool) (i : Nat) (s : State) : State :=
  let late := ((s.bankAt b).map (fun k => k.late.contains (i / 128))).getD true
  if late then s
  else raise C.TTB.STREAM_LATE (detTtb i 6 0 s) (modBank b (fun k => { k with late := k.late ++ [i / 128] }) s)

/-! ## Staging (R216, R263) -/

/-- LEAD: 2 to 8, other values taken as 8. -/
def State.lead (s : State) : Nat :=
  let n := s.fld F.TTB_CTRL.LEAD
  if 2 ≤ n && n ≤ 8 then n else 8

/-- The checks that R211 makes of a bank: RESULT 0 where all hold. `inForce` asks that BIND_GEN be in force rather than staged
or in force (R209). -/
def State.bankChecks (s : State) (b : Bank) (inForce : Bool) : Nat :=
  if b.mask &&& ~~~s.seam.usable != 0 || b.fullPair s.seam.usable then 0x22
  else
    match b.bindGen with
    | some g => if g == s.msh.current || (!inForce && s.msh.hasStage && g == s.stagedGen) then 0 else 0x23
    | none => 0

/-- The bank, the bank's number, the path within its cycle and the epoch that path `g` runs under, as far as it is known: the
cycle in force and the next, with the switch that is armed for it and that R211 would allow as things stand; none from the
boundary of a stop on (R212). (DEDUCED: log entry 35) -/
def State.pathOf (s : State) (g : Nat) : Option (Bool × Bank × Nat × BitVec 16) :=
  let inCycle (b : Bool) (p : Nat) (e : BitVec 16) : Option (Bool × Bank × Nat × BitVec 16) :=
    (s.bankAt b).bind fun k => if p < k.cycle then some (b, k, p, e) else none
  match s.ttb.st with
  | .startArmed => if s.ttb.g0 ≤ g then inCycle s.ttb.active (g - s.ttb.g0) (BitVec.ofNat 16 (s.fld F.RWT_EPOCH.START)) else none
  | .running =>
    let next := s.ttb.cycleG + s.cyclePaths
    if g < s.ttb.cycleG || s.ttb.stops.any (fun x => decide (x.atG ≤ g)) then none
    else if g < next then inCycle s.ttb.active (g - s.ttb.cycleG) s.ttb.epoch
    else
      let sw := s.ttb.standby == .armed && s.ttb.armEpoch == s.ttb.epoch + 1
        && ((s.bankAt (!s.ttb.active)).map fun k => s.bankChecks k false) == some 0
      inCycle (if sw then !s.ttb.active else s.ttb.active) (g - next) (s.ttb.epoch + 1)
  | _ => none

/-- The bytes of T6 data that stand in receive staging (R217). -/
def State.rxStaged (s : State) : Nat :=
  (s.ports.toList.map fun p => ((p.breqs.filter (·.purpose == .t6Data)).map (·.len)).sum).sum

/-- The bytes of T6 data staged for entries of the analog sum path, or for all others (R216, R240, R263). -/
def State.txStaged (s : State) (analog : Bool) : Nat :=
  let isAsp (x : Staged) : Bool := (((s.bankAt x.bank).bind fun b => b.entries[x.entry]?).map fun e => e.kind == 5) == some true
  ((s.ttb.staged.filter fun x => isAsp x == analog).map (·.need)).sum

/-- The staging of R240 has room for the data of an entry: 256 KiB of the analog sum path, 512 KiB of the timetable with what it
receives. -/
def State.stageRoom (s : State) (e : TtEntry) (len : Nat) : Bool :=
  if e.kind = 5 then s.txStaged true + len ≤ 262144 else s.txStaged false + s.rxStaged + len ≤ 524288

/-- Block reads of an entry's data, due in path `g` (R216, R263); an entry that staging has no room for is not read, so that it is a
SEND_MISS. (DEDUCED: log entry 35) -/
def readEntry (b : Bool) (i : Nat) (e : TtEntry) (g : Nat) (port : PortId) (addr : BitVec 64) (len : Nat) (s : State) : State :=
  if !s.stageRoom e len then s
  else
  let st : Staged := { bank := b, entry := i, g := g, need := len, pieces := [], out := none, silent := false }
  let s := modTtb (fun t => { t with staged := t.staged ++ [st] }) s
  (readRange port addr len (fun o => .sendData b i g o) s).1

/-- The membership that an ASP_SEND entry serves. -/
def State.memOf (s : State) (e : TtEntry) : Option AspMem :=
  s.asp.mems.find? fun m => m.num == bits e.peer 0 12 && m.contrib == Sys2Proof.fld e.aux 13 5

/-- ELEM_OFF and ELEMS of an analog entry. -/
def TtEntry.aspRange (e : TtEntry) : Nat × Nat := (Sys2Proof.fld e.aux 28 20, Sys2Proof.fld e.aux 18 10 + 1)

/-- The reads of the entries of path `g` are issued (R216, R263), but for those issued already. (DEDUCED: log entry 35) -/
def prefetch (g : Nat) (s : State) : State :=
  match s.pathOf g with
  | none => s
  | some (b, k, p, _) =>
    (k.at p).foldl (fun s x =>
      let (i, e) := x
      if !k.has i || !k.runs e || s.ttb.staged.any (fun x => x.bank == b && x.entry == i && x.g == g) then s
      else if e.kind = 1 then readEntry b i e g e.port e.addr e.len s
      else if e.kind = 5 then
        match s.memOf e with
        | some m =>
          let (off, n) := e.aspRange
          readEntry b i e g m.inPort (m.inAddr + BitVec.ofNat 64 (elemBytes m.format off)) (elemBytes m.format n) s
        | none => s
      else s) s

/-- A cycle that begins at path `g` under another bank than the reads were issued for has the reads of its first paths issued
now. (DEDUCED: log entry 35) -/
def catchUp (g : Nat) (s : State) : State := (List.range s.lead).foldl (fun s i => prefetch (g + i) s) s

/-- A piece of an entry's data has been read. -/
def stagePiece (b : Bool) (i g off : Nat) (data : List Byte) (s : State) : State :=
  modTtb (fun t => { t with
    staged := mapIf (fun x => x.bank == b && x.entry == i && x.g == g) (fun x => { x with pieces := x.pieces ++ [(off, data)] }) t.staged }) s

/-- Bytes `lo` to `lo + n - 1` of what has been staged; none where one of them is missing. -/
def Staged.bytes (st : Staged) (lo n : Nat) : Option (List Byte) :=
  let got := (List.range n).map fun i =>
    (st.pieces.find? (fun p => p.1 ≤ lo + i && lo + i < p.1 + p.2.length)).map fun p => p.2.getD (lo + i - p.1) 0
  if got.all Option.isSome then some (got.map (·.getD 0)) else none

/-- The staging of an entry of the path in progress. -/
def State.stagedOf (s : State) (i : Nat) : Option Staged :=
  s.ttb.staged.find? fun x => x.bank == s.ttb.active && x.entry == i && x.g == s.ttb.path

/-- The bytes to send of an entry made and kept: of a junction entry from its group (R248), of an analog one from its whole
window (R263, R274). (DEDUCED: log entry 38) -/
def makeOut (i : Nat) (e : TtEntry) (s : State) : State :=
  let keep (out : Option (List Byte)) (silent : Bool) (s : State) : State :=
    let old := s.ttb.staged.filter fun x => !(x.bank == s.ttb.active && x.entry == i && x.g == s.ttb.path)
    let st : Staged := { bank := s.ttb.active, entry := i, g := s.ttb.path, need := 0, pieces := [], out := out, silent := silent }
    modTtb (fun t => { t with staged := old ++ [st] }) s
  if e.kind = 5 then
    let made := ((s.stagedOf i).map fun st => st.out.isSome || st.silent).getD false
    if made then s
    else
      let input := (s.stagedOf i).bind fun st => st.bytes 0 st.need
      let (off, n) := e.aspRange
      match aspSend (bits e.peer 0 12) (Sys2Proof.fld e.aux 13 5) (bits e.aux 48 16) s.ttb.epoch off n input s with
      | (.codes bs, s) => keep (some bs) false s
      | (.silent, s) => keep none true s
      | (.missing, s) => s
  else match s.stagedOf i with
  | some _ => s
  | none =>
    if e.kind = 3 then
      let off := Sys2Proof.fld e.aux 35 17
      match t6Output e.jctGroup (e.opx == 0x20) off e.jctElems s with
      | (some (bs, _), s) => keep (some bs) false s
      | (none, s) => s
    else s

/-! ## Launch (R214 to R216, R218) -/

/-- T6 flits can leave: the link is up, neither in a retrain nor in a grace hold, and the platform clock is right (R54, R157,
R160). -/
def State.t6Runs (s : State) : Bool := s.lnk.st == .up && s.pins.platClkOk

/-- The header of a due flit. -/
def dueHdr (g : Nat) (d : DueFlit) : T6Hdr :=
  let n := min 200 (d.e.len - 200 * d.piece)
  { kind := 0b010, track := 6, path := BitVec.ofNat 16 g, slot := BitVec.ofNat 5 d.slot, sleeve := d.slv,
    len := BitVec.ofNat 8 (n - 1), sop := BitVec.ofBool (d.e.sop && d.piece == 0),
    eop := BitVec.ofBool (d.e.eop && d.piece + 1 == d.e.flits), entry := BitVec.ofNat 17 d.index, rsv := 0 }

/-- A due flit launched, or filler with its SEND_MISS. (DEDUCED: log entry 35) -/
def launch (d : DueFlit) (s : State) : Option (SleeveNo × BitVec 2048) × State :=
  let h := dueHdr s.ttb.path d
  let n := min 200 (d.e.len - 200 * d.piece)
  if !((s.bank.map (·.runs d.e)).getD false) then (none, entryProtocol d.e h s)
  else
    let s := makeOut d.index d.e s
    let st := s.stagedOf d.index
    let data := st.bind fun x => if d.e.kind = 1 then x.bytes (200 * d.piece) n else x.out.map fun b => slice b (200 * d.piece) n
    let first := s.ttb.cycleNo = 0 && s.ttb.path = s.ttb.cycleG && d.slot < 4
    if (st.map (·.silent)).getD false then (none, s)
    else
      match data with
      | some bs =>
        if first || !s.t6Runs || !s.seam.usable.getLsbD d.slv.toNat then (none, dlFault 0 (s.sendWhere d.index d.e) false none s)
        else (some (d.slv, t6Encode h.toBits (BitVec.ofNat 1600 (leNat bs))), s)
      | none => (none, dlFault 0 (s.sendWhere d.index d.e) false none s)

/-- The T6 flits that leave in a slot of the path in progress (R138, R213). -/
def t6Slot (slot : Nat) (s : State) : List (SleeveNo × BitVec 2048) × State :=
  let now := s.ttb.due.filter fun d => d.slot == slot
  let s := modTtb (fun t => { t with due := t.due.filter fun d => d.slot != slot }) s
  now.foldl (fun acc d =>
    match launch d acc.2 with
    | (some f, s) => (acc.1 ++ [f], s)
    | (none, s) => (acc.1, s)) ([], s)

/-- Due flits whose slots passed without a launch are SEND_MISS at the end of their path. (DEDUCED: log entry 35) -/
def missDue (s : State) : State :=
  let ds := s.ttb.due
  ds.foldl (fun s d => dlFault 0 (s.sendWhere d.index d.e) false none (if d.e.kind = 5 then makeOut d.index d.e s else s)) (modTtb (fun t => { t with due := [] }) s)

/-! ## The receive side (R217, R218) -/

/-- A RECV_HOST flit written through its port (R217). -/
def writeT6 (e : TtEntry) (i : Nat) (data : List Byte) (poison : Bool) (s : State) : State :=
  if s.hasPort e.port then
    let a := e.addr + BitVec.ofNat 64 (200 * i)
    (blocks4k a.toNat data.length).foldl (fun s x =>
      addBreq e.port { write := true, addr := a + BitVec.ofNat 64 x.1, len := x.2, data := (data.drop x.1).take x.2,
                       poison := poison, purpose := .t6Data } s) s
  else s

/-- An open receive entry changed. -/
def modRecv (r : OpenRecv) (f : OpenRecv → OpenRecv) (s : State) : State :=
  modTtb (fun t => { t with recv := mapIf (fun x => x.index == r.index && x.due == r.due) f t.recv }) s

/-- The data of an entry whose flits have all come. -/
def OpenRecv.bytes (r : OpenRecv) : List Byte :=
  (List.range r.e.flits).flatMap fun i => ((r.data.find? (·.1 == i)).map (·.2)).getD []

/-- A whole RECV_JCT entry accumulated (R248, R254); one that is refused is logged without a flit's header. (DEDUCED: log entry 38) -/
def recvJct (r : OpenRecv) (s : State) : State :=
  let e := r.e
  match s.group e.jctGroup with
  | none => raise C.JCT.NO_GROUP (detProto 0 0x3FFF 3) s
  | some g =>
    let off := Sys2Proof.fld e.aux 35 17
    let m := Sys2Proof.fld e.aux 5 8
    if !g.live || !g.t6 || !s.flag F.JCT_CTRL.EN then raise C.JCT.NO_GROUP (detProto 0 0x3FFF 3) s
    else if !g.sums || !runOk g e.jctFormat off e.jctElems e.len || g.members.length ≤ m then
      raise C.JCT.PROTOCOL (detProto 0 0x3FFF 3) s
    else accumulate g.num m off e.jctElems e.jctFormat r.bytes 1 r.poison s

/-- A whole entry goes to its consumer. -/
def recvWhole (r : OpenRecv) (s : State) : State :=
  if r.e.kind = 4 then recvJct r s
  else if r.e.kind = 6 then
    let (off, n) := r.e.aspRange
    aspRecv (bits r.e.peer 0 12) (bits r.e.aux 48 16) r.epoch off n (64 * r.due)
      (if r.poison then .poisoned else .whole r.bytes) s
  else s

/-- Member of a RECV_JCT entry incomplete for the cycle (R254). -/
def recvBad (r : OpenRecv) (s : State) : State :=
  if r.e.kind = 4 then t6Bad r.e.jctGroup (Sys2Proof.fld r.e.aux 5 8) s else s

/-- A flit that arrived in time delivered (R217, R239). -/
def deliverT6 (r : OpenRecv) (i : Nat) (data : List Byte) (bad : Bool) (s : State) : State :=
  let d := data.take (min 200 (r.e.len - 200 * i))
  let s := modRecv r (fun x => { x with seen := x.seen ++ [i] }) s
  let s := if bad then dlFault 3 r.here true none s else s
  let full := dlFault 5 r.here false none
  if r.e.kind = 2 then
    if 65536 < s.rxStaged + d.length then full s else writeT6 r.e i d bad s
  else
    let (ok, s) := if r.e.kind = 4 then intake r.e.jctFormat d.length s else (true, s)
    if !ok then recvBad r (full s)
    else
      let r' : OpenRecv := { r with seen := r.seen ++ [i], data := r.data ++ [(i, d)], poison := r.poison || bad }
      let s := modRecv r (fun _ => r') s
      if r'.data.length = r'.e.flits then recvWhole r' s else s

/-- The deadline of an entry has passed (R218): its missing flits are MISSED. (DEDUCED: log entry 35) -/
def closeRecv (r : OpenRecv) (s : State) : State :=
  let s := modRecv r (fun x => { x with closed := true }) s
  let missing := if r.kind = .run then r.e.flits - r.seen.length else 0
  let s := (List.range missing).foldl (fun s _ => dlFault 1 r.here false (some r.deadline) s) s
  let whole := r.kind == .run && r.data.length == r.e.flits
  if whole then s
  else if r.e.kind = 6 && r.kind != .protocol then
    let (off, n) := r.e.aspRange
    aspRecv (bits r.e.peer 0 12) (bits r.e.aux 48 16) r.epoch off n (64 * r.due) .missed s
  else recvBad r s

/-- Every deadline before now is checked; then the groups whose last entry it was complete (R218, R249). (DEDUCED: log entry 35) -/
def closeDue (s : State) : State :=
  let rs := s.ttb.recv.filter fun r => !r.closed && r.deadline < s.now
  let s := rs.foldl (fun s r => closeRecv r s) s
  ((rs.filter (fun r => r.last)).map (fun r => r.e.jctGroup)).dedup.foldl (fun s g => t6Complete g s) s

/-- An open entry matches a flit (R218). (DEDUCED: log entry 35) -/
def OpenRecv.matches (r : OpenRecv) (h : T6Hdr) : Bool :=
  r.kind != .stream && h.path.toNat == r.due % 65536 && h.entry == r.e.matchIx && r.e.covers h.sleeve h.slot.toNat

/-- Where the fault of a flit that matches no entry belongs. -/
def State.stray (s : State) (h : T6Hdr) : DlWhere :=
  { index := h.entry.toNat, epoch := s.ttb.epoch, job := (s.bank.map (·.job)).getD 0, cost := 0x05, stray := true }

/-- A decoded T6 flit reaches the path, entry and deadline check (R154, R218). (DEDUCED: log entry 35) -/
def t6Arrive (h : T6Hdr) (data : List Byte) (s : State) : State :=
  if s.ttb.st != .running then s
  else
    let s := closeDue s
    let hits := s.ttb.recv.filter (·.matches h)
    let pick := match hits.find? (fun r => !r.closed) with
      | some r => some r
      | none => hits.getLast?
    let i (r : OpenRecv) : Nat := (r.e.flitAt h.slot.toNat h.sleeve).getD 0
    match pick with
    | none =>
      dlFault 4 (s.stray h) false none s
    | some r =>
      if r.e.flits ≤ i r || r.seen.contains (i r) then dlFault 4 r.here false none s
      else if r.closed then dlFault 2 r.here false none s
      else if r.kind == .protocol then entryProtocol r.e h (modRecv r (fun x => { x with seen := x.seen ++ [i r] }) s)
      else deliverT6 r (i r) data false s

/-- The open entry that the timetable names for a slot and sleeve, and the place of the flit in it: the earliest that still misses the
flit (R154). (DEDUCED: log entry 35) -/
def State.dueAt (s : State) (k : SleeveNo) (slot : Nat) : Option (OpenRecv × Nat) :=
  s.ttb.recv.findSome? fun r =>
    match r.e.flitAt slot k with
    | some i => if !r.closed && r.kind != .stream && i < r.e.flits && !r.seen.contains i then some (r, i) else none
    | none => none

/-- An uncorrectable T6 flit (R154, R218): its header tells nothing, so it goes where the timetable names for its slot and sleeve, with
poison. (DEDUCED: log entry 35) -/
def t6Lost (k : SleeveNo) (slot : Nat) (flit : BitVec 2048) (s : State) : State :=
  let h := T6Hdr.ofBits (bits flit 0 64)
  if s.ttb.st != .running then raise C.LNK.FEC_UNCORR (detTtb h.entry.toNat 3 0 s) s
  else
    let s := closeDue s
    match s.dueAt k slot with
    | none => dlFault 4 (s.stray h) true none s
    | some (r, i) =>
      if r.kind == .protocol then
        entryProtocol r.e h (dlFault 3 r.here true none (modRecv r (fun x => { x with seen := x.seen ++ [i] }) s))
      else deliverT6 r i (bvBytes (bits flit 64 1600 : BitVec 1600)) true s

/-! ## A path begins (R213, R218, R221) -/

/-- An entry of the path that begins: its flits become due, or it opens for reception. -/
def openEntry (b : Bank) (i : Nat) (e : TtEntry) (s : State) : State :=
  let g := s.ttb.path
  if e.sends then
    if b.has i then
      let fs := (List.range e.flits).map fun j => ({ slot := (e.place j).1, slv := (e.place j).2, index := i, e := e, piece := j } : DueFlit)
      modTtb (fun t => { t with due := t.due ++ fs }) s
    else streamLate s.ttb.active i (dlFault 6 (s.sendWhere i e) false none s)
  else
    let kind : RecvKind := if !b.has i then .stream else if b.runs e then .run else .protocol
    let r : OpenRecv := { index := i, e := e, due := g, deadline := 64 * (g + 1 + b.window), epoch := s.ttb.epoch, job := b.job,
                          kind := kind, last := e.kind == 4 && b.lastJct e.jctGroup == e.path, seen := [], data := [], poison := false, closed := false }
    let s := modTtb (fun t => { t with recv := t.recv.filter (fun x => !(x.closed && x.index == i)) ++ [r] }) s
    if kind == .stream then streamLate s.ttb.active i (dlFault 6 r.here false none s) else s

/-- The path that has ended was granted, from its guard band on, to the tailoring of the sleeves on which it reserved nothing (R24,
R118, R214). -/
def countGranted (s : State) : State :=
  let had (x : SleeveNo × Pass) : Bool :=
    !x.2.full && !s.ttb.dnMask.getLsbD x.1.toNat && decide (x.2.since.rail + 56 ≤ 64 * s.ttb.path)
  modTlr (fun t => { t with passes := mapIf had (fun x => (x.1, { x.2 with granted := x.2.granted + 1 })) t.passes }) s

/-- The path in force begins: reservations, due flits and open entries (R213). -/
def openPath (s : State) : State :=
  let s := countGranted s
  match s.bank with
  | none => s
  | some b =>
    let es := b.at (s.ttb.path - s.ttb.cycleG)
    let seen := (es.filter fun x => b.has x.1).map (·.2)
    let s := modTtb (fun t => { t with
      upMask := sleeveUnion (seen.filter (·.sends)), dnMask := sleeveUnion (seen.filter (fun e => !e.sends)),
      staged := t.staged.filter (fun x => t.path ≤ x.g) }) s
    es.foldl (fun s x => openEntry b x.1 x.2 s) s

/-! ## Streamed segments (R221) -/

/-- The number of segments of a bank. -/
def Bank.segs (b : Bank) : Nat := (b.entries.length + 127) / 128

/-- The last path of a segment's entries. -/
def Bank.segLast (b : Bank) (seg : Nat) : Nat := ((b.entries.drop (128 * seg)).take 128).foldl (fun m e => max m e.path) 0

/-- The read of a segment, one block of 4 KiB; on an absent port it fails at once and the segment is fetched again (R41, R221).
(DEDUCED: log entry 36) -/
def readSegment (bk : Bool) (n : Nat) (s : State) : State :=
  match s.bankAt bk with
  | none => s
  | some b =>
    let seg := n % atLeastOne b.segs
    match readRange (BitVec.ofNat 3 (s.fld F.TTB_CTRL.STREAM_PORT)) (b.base + BitVec.ofNat 64 (b.entryOff + 4096 * seg)) 4096
      (fun _ => .segment bk n) s with
    | (s, true) => s
    | (s, false) => modBank bk (fun b => { b with again := b.again ++ [n] }) s

/-- A fetch path (R221): the segment to be fetched again, or the next in cyclic order, where every entry in its ring slot lies
in a path that has ended. (DEDUCED: log entry 36) -/
def fetchPath (s : State) : State :=
  match s.bank with
  | none => s
  | some b =>
    let p := s.ttb.path - s.ttb.cycleG
    if !b.streamed || p % 32 != 31 then s
    else
      let n := b.again.headD b.nextSeg
      let seg := n % atLeastOne b.segs
      let slot := b.present.filter fun x => x.1 % 512 == seg % 512
      let ended := slot.all fun x => x.2 < s.ttb.cycleNo || (x.2 = s.ttb.cycleNo && b.segLast x.1 < p)
      if !ended then s
      else
        let s := modBank s.ttb.active (fun b => { b with
          present := b.present.filter fun x => x.1 % 512 != seg % 512
          again := b.again.drop 1
          nextSeg := if b.again.isEmpty then b.nextSeg + 1 else b.nextSeg }) s
        readSegment s.ttb.active n s

/-- A segment's read has ended: its entries enter the ring, or it is fetched again in the next fetch path (R221). The last segment's
CRC is of its entries alone. (DEDUCED: log entry 36) -/
def segmentDone (bk : Bool) (n : Nat) (ok : Bool) (data : List Byte) (s : State) : State :=
  modBank bk (fun b =>
    let seg := n % atLeastOne b.segs
    let count := min 128 (b.entries.length - 128 * seg)
    if ok && some (crc32 (data.take (32 * count))) == b.segCrc[seg]? then
      let new := (entryWords count data).map ttEntryOf
      { b with present := b.present ++ [(seg, n / atLeastOne b.segs)],
               entries := b.entries.take (128 * seg) ++ new ++ b.entries.drop (128 * seg + new.length) }
    else { b with again := b.again ++ [n] }) s

/-- The sleeves that the timetable reserves in the path in progress or the next 64 (R25); every one while a streamed bank's
reservations are not in the ring (R221). -/
def State.reserved64 (s : State) : Byte :=
  (List.range 65).foldl (fun m i =>
    match s.pathOf (s.ttb.path + i) with
    | none => m
    | some (_, k, p, _) =>
      let es := k.at p
      if es.all (fun x => k.has x.1) then m ||| sleeveUnion (es.map (·.2)) else 0xFF) 0

end Sys2Proof.Machine
end

