-- ==== Sys2Proof/Machine/Ttb.lean ====
section
/-!
DEFINITION. The timetable sequencer: loading, starting, switching and halting, path and cycle boundaries, N-1 variants, and
the station programming that loads and branch lines need (R202, R207 to R212, R220 to R224, R250, R285, R331).
-/
namespace Sys2Proof.Machine

/-! ## Loading (R207, R208) -/

/-- The Vetex status of a load's RESULT (R208). (DEDUCED: log entry 33) -/
def loadStatus (r : Nat) : BitVec 16 :=
  match r with
  | 0x00 => 0x0000 | 0x01 => 0x0001 | 0x12 => 0x0104 | 0x10 => 0x0110 | 0x11 => 0x0111 | 0x20 => 0x0210 | 0x30 => 0x0301
  | 0x31 => 0x0302 | 0x32 => 0x0303 | 0x33 => 0x0304 | 0x34 => 0x0305 | 0x35 => 0x0306 | 0x36 => 0x0214 | _ => 0x0216

/-- Branch-line entries placed in the store (R207, R250): entry `i` of the table under number `i`; one that is not VALID is
not in use. -/
def placeBranches (es : List (BitVec 128)) (s : State) : State :=
  let new := (es.zipIdx.filter fun x => Sys2Proof.bit x.1 102).map fun x => (BitVec.ofNat 12 x.2, x.1)
  { s with jct := { s.jct with branches := s.jct.branches.filter (fun b => es.length ≤ b.1.toNat) ++ new } }

/-- A load ends with a RESULT (R208). (DEDUCED: log entry 33) -/
def endLoad (r : Nat) (bank : Option Bank) (s : State) : State :=
  match s.ttb.load with
  | none => s
  | some ld =>
    let s := (modTtb (fun t => { t with load := none }) s).setFld F.TTB_LOAD_CTRL.RESULT r
    let sb := !s.ttb.active
    match bank with
    | some b =>
      let s := modTtb (fun t => { t with banks := vmod t.banks (b2n sb) (fun _ => some b), standby := .ready }) s
      let s := raise C.TTB.LOAD_DONE 0 (placeBranches b.branches s)
      wake .load 0 (leBytes 4 b.entries.length ++ leBytes 4 b.cycle ++ [BitVec.ofNat 8 (b2n sb), BitVec.ofNat 8 (b2n b.streamed), 0, 0]) s
    | none =>
      let s := if ld.keep then s
        else modTtb (fun t => { t with banks := vmod t.banks (b2n sb) (fun _ => none), standby := .empty }) s
      wake .load (loadStatus r) [] (raise C.TTB.LOAD_FAIL (detTtb 0 0 r s) s)

/-- A load asked for: RESULT where it ends at once (R208). A ready standby is given up, an armed one is untouched.
(DEDUCED: log entry 33) -/
def startLoad (addr : BitVec 64) (port : PortId) (stream : Bool) (s : State) : State :=
  if s.ttb.load.isSome then s.setFld F.TTB_LOAD_CTRL.RESULT 0x01
  else
    let keep := s.ttb.standby == .armed
    let ld : Load := { addr := addr, port := port, stream := stream, keep := keep, bank := none }
    let s := modTtb (fun t => { t with
      load := some ld, standby := if keep then t.standby else .loading,
      banks := if keep then t.banks else vmod t.banks (b2n (!t.active)) (fun _ => none) }) s
    if addr.toNat % 4096 != 0 then endLoad 0x12 none s else s

/-- The low and high words of a pair. -/
def State.pair (s : State) (lo : Nat) : BitVec 64 := s.reg (lo + 4) ++ s.reg lo

/-- A write of TTB_LOAD_CTRL (R224). (DEDUCED: log entry 33) -/
def loadCtrlWrite (data : Word) (s : State) : State :=
  let s := (s.setFld F.TTB_LOAD_CTRL.PORT (Sys2Proof.fld data 8 3)).setFld F.TTB_LOAD_CTRL.STREAM (Sys2Proof.fld data 1 1)
  if data.getLsbD 0 then startLoad (s.pair R.TTB_LOAD_ADDR_LO) (bits data 8 3) (data.getLsbD 1) s else s

/-- TTB_LOAD_GO: a write of TTB_LOAD_CTRL with GO at 1. -/
def execTtbLoadGo (data : Word) (s : State) : Host.Outcome State Fault Refusal :=
  whenFunctional s fun s => portWrite R.TTB_LOAD_CTRL (data.getLsbD 0) (loadCtrlWrite data) s

/-- The room that the active bank leaves (R208). -/
def State.freeEntries (s : State) : Nat := 131072 - ((s.bank.map Bank.room).getD 0)

/-- TTB_LOAD_FETCH_DONE (R207, R208): the image has been read, or its read failed after the bytes given; its checks end the load, those of
the header before a later read's failure, or the station section goes to the station.
(DESIGN CHOICE: log entry 12; DEDUCED: log entry 33) -/
def execTtbLoadFetchDone (fetched : Bool) (image : List Byte) (s : State) : Host.Outcome State Fault Refusal :=
  whenPlat s fun s =>
    match s.ttb.load with
    | none => s
    | some ld =>
      if ld.bank.isSome then s
      else if !s.hasPort ld.port || (!fetched && image.length < 128) then endLoad 0x35 none s
      else
        let r := hdrChecks image ld s.own s.freeEntries
        if r != 0 then endLoad r none s
        else if !fetched then endLoad 0x35 none s
        else if !s.structureOk image ld then endLoad 0x10 none s
        else
          let b := bankOf image ld
          let station := imgBytes image (leAt image 64 8) (leAt image 72 4)
          if station = [] then endLoad 0 (some b) s
          else sendProg .load station (modTtb (fun t => { t with load := some { ld with bank := some b } }) s)

/-! ## Station programming (R207) -/

/-- A programming that the station has accepted whole, refused, or not acknowledged in time. -/
def endProg (p : Prog) (status : BitVec 16) (s : State) : State :=
  let s := { s with vtx := { s.vtx with progs := s.vtx.progs.filter (· != p) } }
  match p.what with
  | .load =>
    if status = 0 then endLoad 0 (s.ttb.load.bind (·.bank)) s
    else endLoad (if status = 0x0214 then 0x36 else 0x37) none s
  | .branch ref num e =>
    if status = 0 then
      finish ref 0 { s with jct := { s.jct with branches := s.jct.branches.filter (·.1 != num) ++ [(num, e)] } }
    else finish ref status s
  | .asp ref =>
    match s.running ref with
    | some c => if status = 0 then aspOpenDest ref (cmdParams c) s else finish ref status s
    | none => s

/-- STATION_ACK (R207, R324): 0x00 accepts and 0x01 refuses the STATION_PROG of its RTAG. -/
def execStationAck (hdr : BitVec 128) (data : List Byte) (flits : Nat) (s : State) : Host.Outcome State Fault Refusal :=
  whenFunctional s fun s => takeT0 0x66 hdr data flits (s := s) fun h s =>
    match s.vtx.progs.find? (fun p => p.rtags.contains h.rtag) with
    | none => s
    | some p =>
      if data = [1] then endProg p 0x0216 s
      else if data = [0] then
        let p' : Prog := { p with rtags := p.rtags.filter (· != h.rtag) }
        let s := { s with vtx := { s.vtx with progs := mapIf (· == p) (fun _ => p') s.vtx.progs } }
        if p'.rtags = [] then endProg p' 0 s else s
      else s

/-- STATION_ACK_TIMEOUT (R207): 10 ms have passed without an acknowledgement of the oldest programming. -/
def execStationAckTimeout (s : State) : Host.Outcome State Fault Refusal :=
  whenFunctional s fun s =>
    match s.vtx.progs.head? with
    | some p => endProg p 0x0214 (s.lapse p.since 10000000)
    | none => s

/-! ## Starting (R202, R209) -/

/-- SWITCH_REFUSED with its RESULT. -/
def switchRefused (r : Nat) (s : State) : State := raise C.TTB.SWITCH_REFUSED (detTtb 0 0 r s) s

/-- START or RESUME may arm a start at path `g0` (R209). (DEDUCED: log entry 32) -/
def State.startOk (s : State) (g0 : Nat) (resume : Bool) : Bool :=
  s.rwt.st == .locked && s.now + 4096 ≤ 64 * g0
    && (if resume then s.ttb.st == .stopped && s.bank.isSome else (s.ttb.st == .idle || s.ttb.st == .stopped) && s.ttb.standby == .ready)

/-- A start armed (R209): the started bank becomes active at the write and the other half becomes free; a RESUME of a streamed
bank fills its ring again. (DEDUCED: log entry 32) -/
def armStart (g0 : Nat) (resume : Bool) (s : State) : State :=
  let t0 := s.ttb
  let s :=
    if resume then
      match s.bank with
      | some b =>
        if b.streamed then
          let n := min 512 b.segs
          (List.range n).foldl (fun s i => readSegment t0.active i s)
            (modBank t0.active (fun b => { b with present := [], again := [], late := [], nextSeg := n }) s)
        else s
      | none => s
    else
      modTtb (fun t => { t with
        active := !t.active, standby := .empty, banks := vmod t.banks (b2n t.active) (fun _ => none) }) s
  modTtb (fun t => { t with st := .startArmed, g0 := g0, resume := resume, stops := [], n1 := none, path := s.now / 64 }) s

/-- The ring of a streamed bank holds its first segments (R209, R221). (DEDUCED: log entry 36) -/
def Bank.filled (b : Bank) : Bool := !b.streamed || (List.range (min 512 b.segs)).all fun i => b.present.any (·.1 == i)

/-- G0 has come (R209): the bank runs, or stays loaded as the stopped active bank. (DEDUCED: log entry 36) -/
def beginRun (s : State) : State :=
  match s.bank with
  | none => s
  | some b =>
    let r := s.bankChecks b true
    if r != 0 || !b.filled then
      let s := disarm (modTtb (fun t => { t with st := .stopped, staged := [], stops := [], n1 := none }) s)
      wake .start 0x0211 [] (switchRefused r s)
    else
      let g0 := s.ttb.g0
      let s := modTtb (fun t => { t with
        st := .running, cycleG := g0, epoch := BitVec.ofNat 16 (s.fld F.RWT_EPOCH.START), cycleNo := 0, haltReason := 0,
        recv := [], due := [], logged := [] }) s
      -- an N-1 switch stands for the boundary B, whatever START has become since the notice
      let s := match s.ttb.n1 with
        | some n => modTtb (fun t => { t with armEpoch := t.epoch + BitVec.ofNat 16 ((n.atG - g0) / s.cyclePaths) }) s
        | none => s
      wake .start 0 (leBytes 8 (64 * g0)) (raise C.TTB.STARTED 0 (t6Cycle s))

/-! ## Switching (R210, R211, R223) -/

/-- An ARM for epoch `e`: its RESULT (R210). (DEDUCED: log entry 32) -/
def State.armResult (s : State) (e : BitVec 16) : Nat :=
  if s.ttb.st != .running || s.ttb.n1.isSome || !(s.ttb.standby == .ready || s.ttb.standby == .armed) then 0x20
  else
    let b := s.ttb.cycleG + (e - s.ttb.epoch).toNat * s.cyclePaths
    if !serialLt s.ttb.epoch e || 64 * b < s.now + 4096 then 0x21 else 0

/-- ARM (R210): it replaces an earlier arm, whose TTB_ARM ends with TTB_CANCELLED. (DEDUCED: log entry 32) -/
def armSwitch (e : BitVec 16) (s : State) : State :=
  let r := s.armResult e
  let s := s.setFld F.TTB_SWITCH.RESULT r
  if r = 0 then modTtb (fun t => { t with standby := .armed, armEpoch := e }) (disarm s) else s

/-- CANCEL (R210). -/
def cancelSwitch (s : State) : State := disarm s

/-- A write of TTB_SWITCH (R224). -/
def switchWrite (data : Word) (s : State) : State :=
  let s := s.setFld F.TTB_SWITCH.EPOCH (Sys2Proof.fld data 0 16)
  let s := if data.getLsbD 16 then armSwitch (bits data 0 16) s else s
  if data.getLsbD 17 then cancelSwitch s else s

/-- TTB_SWITCH_ARM: a write of TTB_SWITCH with ARM at 1. -/
def execTtbSwitchArm (data : Word) (s : State) : Host.Outcome State Fault Refusal :=
  whenFunctional s fun s => portWrite R.TTB_SWITCH (data.getLsbD 16) (switchWrite data) s

/-- TTB_SWITCH_CANCEL: a write of TTB_SWITCH with CANCEL at 1. -/
def execTtbSwitchCancel (data : Word) (s : State) : Host.Outcome State Fault Refusal :=
  whenFunctional s fun s => portWrite R.TTB_SWITCH (data.getLsbD 17) (switchWrite data) s

/-! ## Halting (R212) -/

/-- A HALT that host software asks for (R212). (DEDUCED: log entry 32) -/
def haltTt (byPath : Bool) (s : State) : State :=
  askStop { atG := if byPath then s.ttb.path + 1 else s.ttb.cycleG + s.cyclePaths, reason := 1, die := 0, fence := 0 } s

/-- A write of TTB_CTRL (R209, R212, R224). -/
def ttbCtrlWrite (data : Word) (s : State) : State :=
  let s := s.setReg R.TTB_CTRL (data &&& 0x000F070C)
  let g0 := (s.pair R.TTB_START_LO).toNat % 2 ^ 58
  let start := data.getLsbD 0
  let resume := data.getLsbD 4
  let s :=
    if start && resume then switchRefused 0 s
    else if start || resume then if s.startOk g0 resume then armStart g0 resume s else switchRefused 0 s
    else s
  if data.getLsbD 1 then haltTt (data.getLsbD 2) s else s

/-- TTB_CTRL_START: a write of TTB_CTRL with START at 1. -/
def execTtbCtrlStart (data : Word) (s : State) : Host.Outcome State Fault Refusal :=
  whenFunctional s fun s => portWrite R.TTB_CTRL (data.getLsbD 0) (ttbCtrlWrite data) s

/-- TTB_CTRL_RESUME: a write of TTB_CTRL with RESUME at 1. -/
def execTtbCtrlResume (data : Word) (s : State) : Host.Outcome State Fault Refusal :=
  whenFunctional s fun s => portWrite R.TTB_CTRL (data.getLsbD 4) (ttbCtrlWrite data) s

/-- TTB_CTRL_HALT: a write of TTB_CTRL with HALT at 1. -/
def execTtbCtrlHalt (data : Word) (s : State) : Host.Outcome State Fault Refusal :=
  whenFunctional s fun s => portWrite R.TTB_CTRL (data.getLsbD 1) (ttbCtrlWrite data) s

/-! ## Boundaries (R202, R211, R213, R223, R285) -/

/-- The release point of a staged generation falls at the cycle boundary that begins epoch `e` (R285). -/
def State.releaseHere (s : State) (e : BitVec 16) : Bool :=
  match s.msh.release with
  | some (.epoch x) => x == e
  | some (.time t) => t ≤ s.now
  | none => false

/-- A switch at this boundary has been refused: a binding generation committed for the same boundary stays staged and its commit is
withdrawn, so that the old bank does not run against it (R26). (DESIGN CHOICE: log entry 75) -/
def holdRelease (e : BitVec 16) (s : State) : State :=
  if s.releaseHere e then { s with msh := { s.msh with release := none } } else s

/-- A cycle boundary that begins epoch `e` (R202, R211): the armed switch, the release of a binding generation with it or on
its own (R26), and the next cycle. (DESIGN CHOICE: log entry 75) -/
def cycleBoundary (s : State) : State :=
  let e := s.ttb.epoch + 1
  let next := s.ttb.cycleG + s.cyclePaths
  let advance (switched : Bool) (s : State) : State :=
    let s := if s.releaseHere e then releaseNow s else s
    let s := modTtb (fun t => { t with
      cycleG := next, epoch := e, cycleNo := if switched then 0 else t.cycleNo + 1,
      logged := t.logged.filter fun x => x.2.1 == e - 1 }) s
    t6Cycle (modBank s.ttb.active (fun b => { b with late := [] }) s)
  if s.ttb.standby == .armed && s.ttb.armEpoch == e then
    match s.bankAt (!s.ttb.active) with
    | none => advance false s
    | some b =>
      let r := s.bankChecks b false
      let n1 := s.ttb.n1
      let s := s.setFld F.TTB_SWITCH.RESULT r
      if r = 0 then
        let s := modTtb (fun t => { t with
          active := !t.active, standby := .empty, n1 := none, banks := vmod t.banks (b2n t.active) (fun _ => none) }) s
        let s := match b.bindGen with
          | some g => if s.msh.hasStage && g == s.stagedGen then releaseNow s else s
          | none => s
        let s := raise C.TTB.SWITCHED 0 s
        let s := match n1 with
          | some n => raise C.TTB.N1_SWITCH (detFence n.die n.fence) s
          | none => s
        advance true (wake .arm 0 (leBytes 2 e.toNat) s)
      else
        let s := modTtb (fun t => { t with standby := .ready, n1 := none }) s
        let s := wake .arm 0x0213 [BitVec.ofNat 8 r] (switchRefused r s)
        match n1 with
        | some n => stopNow { atG := next, reason := 5, die := n.die, fence := n.fence } (64 * next) s
        | none => advance false (holdRelease e s)
  else advance false s

/-- The path that the next boundary begins: while a start is armed or a timetable runs, one after the other. -/
def State.nextPath (s : State) : Nat :=
  let lo := s.ttb.g0 - s.lead
  match s.ttb.st with
  | .running => s.ttb.path + 1
  | .startArmed => if s.now / 64 + 1 ≤ lo then s.now / 64 + 1 else max (s.ttb.path + 1) lo
  | _ => s.now / 64 + 1

/-- The stop that falls at the boundary of path `g`, if one does. -/
def State.stopDue (s : State) (g : Nat) : Option Stop := s.ttb.stops.find? fun (x : Stop) => decide (x.atG ≤ g)

/-- A path boundary (R213): the path that ends is settled, then a stop, a start or a cycle boundary falls, then the path
begins and the reads of a later one are issued. -/
def pathBoundary (s : State) : State :=
  let g := s.nextPath
  let s := closeDue (s.reach (64 * g))
  let s := modTtb (fun t => { t with path := g }) (missDue s)
  let s := match s.ttb.st with
    | .startArmed =>
      match s.stopDue g with
      | some x => stopNow x (64 * g) s
      | none => if s.ttb.g0 ≤ g then beginRun s else s
    | .running =>
      match s.stopDue g with
      | some x => stopNow x (64 * g) s
      | none => if s.ttb.cycleG + s.cyclePaths ≤ g then catchUp g (cycleBoundary s) else s
    | _ => s
  match s.ttb.st with
  | .running => prefetch (g + s.lead) (fetchPath (openPath s))
  | .startArmed => prefetch (g + s.lead) s
  | _ => s

/-- BINDING_RELEASE (R285): with no timetable running, a staged generation is released at its time. -/
def execBindingRelease (s : State) : Host.Outcome State Fault Refusal :=
  whenPlat s fun s =>
    match s.msh.release with
    | some (.time t) => if s.running? then s else releaseIfDue (s.reach t)
    | _ => s

/-! ## N-1 (R222, R223) -/

/-- The active bank names a die (R222). -/
def State.names (s : State) (die : BitVec 14) : Bool :=
  match s.bank with
  | none => false
  | some b => b.entries.any fun e => !e.group &&
      (let x := s.bindOf e.peer
       (bState x == 1 || bState x == 2 || bState x == 3) && bPhys x == die)

/-- What the sequencer does on a FENCE_NOTICE (R222). (DEDUCED: log entry 34) -/
def fenceTtb (die : BitVec 14) (t : Nat) (s : State) : State :=
  let runs := s.ttb.st == .running || s.ttb.st == .startArmed
  if !s.flag F.TTB_CTRL.AUTO_N1 || !runs || !s.names die then s
  else
    let tb := t + s.leadNs
    let armed := s.ttb.st == .startArmed
    let base := if armed then s.ttb.g0 else s.ttb.cycleG
    let cyc := s.cyclePaths
    let k := max (b2n armed) ((tb - 64 * base + 64 * cyc - 1) / (64 * cyc))
    let b := base + k * cyc
    let g := (tb + 63) / 64
    let now := s.now / 64
    let late := askStop { atG := s.ttb.path + 1, reason := 4, die := die, fence := t } s
    let variant := (s.ttb.standby == .ready || s.ttb.standby == .armed)
      && ((s.bankAt (!s.ttb.active)).bind (·.variantOf)) == some die
    if variant then
      if b ≤ now then late
      else
        let e0 : BitVec 16 := if armed then BitVec.ofNat 16 (s.fld F.RWT_EPOCH.START) else s.ttb.epoch
        modTtb (fun x => { x with standby := .armed, armEpoch := e0 + BitVec.ofNat 16 k, n1 := some { die := die, fence := t, atG := b } })
          (disarm s)
    else if g ≤ now then late
    else
      let stop : Stop := { atG := g, reason := 3, die := die, fence := t }
      modTtb (fun x => { x with stops := x.stops ++ [stop] }) s

/-- FENCE_NOTICE (R222, R253, R276, R289, R300): FENCE_SEEN, and what each unit does with the notice. (DEDUCED: log entry 34) -/
def execFenceNotice (msg : BitVec 96) (s : State) : Host.Outcome State Fault Refusal :=
  whenMsg s fun s =>
    let die : BitVec 14 := bits msg 0 14
    let t := Sys2Proof.fld msg 32 64
    let s := raise C.TTB.FENCE_SEEN (detTtb 0 0 0 s) s
    -- each unit reads the binding that the notice found
    let s := fenceTtb die t s
    let s := fenceTheirs die (fenceMine die s)
    let s := fencePairs die t s
    fenceAsp die t (fenceGroups die s)

/-! ## Register views (R224, R225) -/

/-- TTB_STATUS. -/
def State.ttbStatus (s : State) : Word :=
  let st := match s.ttb.st with | .idle => 0 | .startArmed => 1 | .running => 2 | .stopped => 3
  let sb := match s.ttb.standby with | .empty => 0 | .loading => 1 | .ready => 2 | .armed => 3
  BitVec.ofNat 32 (s.ttb.haltReason.toNat * 2 ^ 28 + b2n ((s.bank.map (·.streamed)).getD false) * 2 ^ 25 + b2n s.ttb.active * 2 ^ 24
    + sb * 2 ^ 22 + st * 2 ^ 16)

/-- RWT_EPOCH. -/
def State.rwtEpoch (s : State) : Word := BitVec.ofNat 32 (s.fld F.RWT_EPOCH.START * 2 ^ 16 + s.ttb.epoch.toNat)

/-- RWT_STATUS. -/
def State.rwtStatus (s : State) : Word :=
  let st := match s.rwt.st with | .unlocked => 0 | .locking => 1 | .locked => 2 | .lost => 3
  BitVec.ofNat 32 (s.rwt.offset.toNat * 2 ^ 16 + s.rwt.q.toNat * 2 ^ 8 + st)

/-! ## Vetex commands (R315, R331) -/

/-- TTB_LOAD (R331): the reply comes when RESULT is final; with a load in progress at once. -/
def execTtbLoad (ref : CmdRef) (s : State) : Host.Outcome State Fault Refusal :=
  whenFunctional s fun s => withCmd ref 0x0301 s fun p s =>
    if s.ttb.load.isSome then finish ref 0x0001 (s.setFld F.TTB_LOAD_CTRL.RESULT 0x01)
    else if 7 < leAt p 8 1 then finish ref 0x0104 s
    else startLoad (leWord 64 p 0 8) (leWord 3 p 8 1) ((leAt p 9 1).testBit 0) (addWait ref .load false s)

/-- TTB_START (R331): the reply comes at STARTED. -/
def execTtbStart (ref : CmdRef) (s : State) : Host.Outcome State Fault Refusal :=
  whenFunctional s fun s => withCmd ref 0x0302 s fun p s =>
    let g0 := leAt p 0 8
    let resume := leAt p 8 1 == 1
    if 2 ^ 58 ≤ g0 || 1 < leAt p 8 1 then finish ref 0x0104 s
    else if s.startOk g0 resume then armStart g0 resume (addWait ref .start true s)
    else finish ref 0x0211 (switchRefused 0 s)

/-- TTB_ARM (R331): the reply comes at the armed boundary. -/
def execTtbArm (ref : CmdRef) (s : State) : Host.Outcome State Fault Refusal :=
  whenFunctional s fun s => withCmd ref 0x0303 s fun p s =>
    let e : BitVec 16 := leWord 16 p 0 2
    let r := s.armResult e
    let s := armSwitch e s
    if r = 0 then addWait ref .arm true s else finish ref (if r = 0x20 then 0x0210 else 0x0212) s

/-- TTB_CANCEL (R331). -/
def execTtbCancel (ref : CmdRef) (s : State) : Host.Outcome State Fault Refusal :=
  whenFunctional s fun s => withCmd ref 0x0304 s fun _ s =>
    if s.ttb.standby == .armed then finish ref 0 (cancelSwitch s) else finish ref 0x0210 s

/-- TTB_HALT (R331): the reply comes at the stop. (DEDUCED: log entry 32) -/
def execTtbHalt (ref : CmdRef) (s : State) : Host.Outcome State Fault Refusal :=
  whenFunctional s fun s => withCmd ref 0x0305 s fun p s =>
    if 1 < leAt p 0 1 then finish ref 0x0104 s
    else if s.ttb.st == .running || s.ttb.st == .startArmed then haltTt (leAt p 0 1 == 1) (addWait ref .halt false s)
    else finish ref 0x0210 s

/-- TTB_STATUS_GET (R331). -/
def execTtbStatusGet (ref : CmdRef) (s : State) : Host.Outcome State Fault Refusal :=
  whenFunctional s fun s => withCmd ref 0x0306 s fun _ s =>
    let dl := (List.range 7).flatMap fun i => bvBytes (s.reg (R.TTB_DL_CNT + 4 * i))
    complete ref 0 (bvBytes s.ttbStatus ++ bvBytes s.rwtEpoch ++ leBytes 8 (s.now / 64) ++ dl ++ bvBytes s.ttb.dlLast
      ++ bvBytes s.rwtStatus) s

/-- JCT_BRANCH_SET, its parameters `p` (R207, R250, R256, R332). -/
def branchSet (r : CmdRef) (p : List Byte) (s : State) : State :=
  let n := leAt p 4 1 + 1
  let num := leAt p 0 2
  if 4096 ≤ num || p.length != 8 + 2 * n then finish r 0x0121 s
  else if 4096 ≤ s.jct.branches.length then refuseOpen r num false 0x0313 s
  else if !s.flag F.MSH_CTRL.EN then addWait r .resolve false s
  else
    let ids := (List.range n).map fun i => (leWord 16 p (8 + 2 * i) 2 : BitVec 16)
    if ids.any (fun l => (s.physOf l).isNone) then finish r 0x0121 s
    else
      let e : BitVec 128 := leWord 16 p 2 2 ++ BitVec.ofNat 9 (n - 1) ++ 1#1 ++ 0#102
      sendProg (.branch r (BitVec.ofNat 12 num) e) (Config.stationFormat p) (addWait r (.station []) false s)

/-- JCT_BRANCH_SET. -/
def execJctBranchSet (ref : CmdRef) (s : State) : Host.Outcome State Fault Refusal :=
  whenFunctional s fun s => withCmd ref 0x0420 s (branchSet ref)

end Sys2Proof.Machine
end

