-- ==== Sys2Proof/Machine/Lanes.lean ====
section
/-!
DEFINITION. What the seam, tailoring and the link share: lanes and sleeves, seam control exchanges of the block's own, width
changes, the end of passes, the rebuilding of the snapshot, and the reading of flits from the lanes (R72 to R96, R113, R119, R121,
R128, R135, R137).
-/
namespace Sys2Proof.Machine

/-! ## Records -/

/-- The seam changed. -/
def modSeam (f : Seam → Seam) (s : State) : State := { s with seam := f s.seam }

/-- The link layer changed. -/
def modLnk (f : Lnk → Lnk) (s : State) : State := { s with lnk := f s.lnk }

/-- The sleeve of a lane (R64). -/
def slvOf (n : LaneNo) : SleeveNo := BitVec.ofNat 3 (n.toNat / 9)

/-- A lane's place in its sleeve: 0 to 7, or 8 for the spare (R64). -/
def placeOf (n : LaneNo) : Nat := n.toNat % 9

/-- A lane of a sleeve (R64). -/
def laneOf (k : SleeveNo) (j : Nat) : LaneNo := BitVec.ofNat 7 (9 * k.toNat + j)

/-- One sleeve in one direction. -/
def State.slv (s : State) (d : Dir) (k : SleeveNo) : Slv :=
  match d with
  | .up => s.seam.up[k.toNat]'(by have := k.isLt; omega)
  | .down => s.seam.dn[k.toNat]'(by have := k.isLt; omega)

/-- One sleeve in one direction changed. -/
def modSlv (d : Dir) (k : SleeveNo) (f : Slv → Slv) (s : State) : State :=
  match d with
  | .up => modSeam (fun m => { m with up := vmod m.up k.toNat f }) s
  | .down => modSeam (fun m => { m with dn := vmod m.dn k.toNat f }) s

/-- A cause about a lane of a sleeve; lane 0xF is the whole sleeve (R425). (DEDUCED: log entry 15) -/
def raiseLane (c : Cause) (d : Dir) (k : SleeveNo) (lane : Nat) (s : State) : State :=
  raise c (detSeam k.toNat lane (d == .up) (s.slv d k).spareState.toNat s) s

/-- A cause about the seam as a whole: lane 0xF of sleeve 0 (R425). (DEDUCED: log entries 16, 61) -/
def raiseSeam (c : Cause) (s : State) : State := raise c (detSeam 0 0xF false (s.slv .down 0).spareState.toNat s) s

/-- SEAM_SLV_TX_k or SEAM_SLV_RX_k (R103). -/
def State.slvWord (s : State) (d : Dir) (k : SleeveNo) : Word :=
  let v := s.slv d k
  BitVec.ofNat 32 (b2n (s.seam.retired.getLsbD k.toNat) * 2 ^ 31 + b2n v.clkFail * 2 ^ 30 + v.spareState.toNat * 2 ^ 20
    + v.spareLane.toNat * 2 ^ 16 + v.failed.toNat)

/-! ## The snapshot (R128 to R130) -/

/-- A rebuild of the snapshot falls due, unless a freeze stops it (R128, R129). -/
def askRebuild (s : State) : State :=
  if s.tlr.frozenHost || s.tlr.frozenBrown then s else modTlr (fun t => { t with rebuild := some 0 }) s

/-! ## Lane records and passes (R113, R119, R121, R127) -/

/-- One downstream lane's tailoring record changed. -/
def modRx (n : LaneNo) (f : TlrLane → TlrLane) (s : State) : State := modTlr (fun t => { t with rx := vmod t.rx n.toNat f }) s

/-- One upstream lane's tailoring record changed. -/
def modTx (n : LaneNo) (f : TlrLane → TlrLane) (s : State) : State := modTlr (fun t => { t with tx := vmod t.tx n.toNat f }) s

/-- A downstream lane's record. -/
def State.rx (s : State) (n : LaneNo) : TlrLane := (s.tlr.rx[n.toNat]?).getD TlrLane.reset

/-- FFE_PRE and FFE_POST of a receive record (R127). -/
def ffeOf (r : BitVec 128) : BitVec 4 × BitVec 5 := (bits r 98 4, bits r 102 5)

/-- The fields of FFE_SET and FFE_DONE (R119). -/
def ffeMsg (n : LaneNo) (pre : BitVec 4) (post : BitVec 5) (slot : BitVec 32) (status : Byte) : List Word :=
  msgWords 3 (n.toNat + pre.toNat * 2 ^ 8 + post.toNat * 2 ^ 16 + slot.toNat * 2 ^ 32 + status.toNat * 2 ^ 64)

/-- The block asks the station for FFE values on a downstream lane (R119). -/
def sendFfe (n : LaneNo) (f : BitVec 4 × BitVec 5) (s : State) : State :=
  sendSlp 0x18 (ffeMsg n f.1 f.2 (Config.applySlot s.free) 0) s.draw

/-- The pass in a sleeve in service (R117). -/
def State.passIn (s : State) (k : SleeveNo) : Option Pass := (s.tlr.passes.find? fun q => q.1 == k && !q.2.train).map (·.2)

/-- The pass on a lane, in service or of its training. -/
def State.passOn (s : State) (n : LaneNo) : Option Pass := (s.tlr.passes.find? (·.2.lane == n)).map (·.2)

/-- The shadow values of a lane discarded; where they asked the station for other FFE values, the committed ones are asked for
again (R111, R113). (DEDUCED: log entry 26) -/
def discardShadow (n : LaneNo) (s : State) : State :=
  let r := s.rx n
  let s := if ffeOf r.shd != ffeOf r.act then sendFfe n (ffeOf r.act) s else s
  modRx n (fun r => { r with shd := r.act }) s

/-- A pass ends: it leaves its sleeve, which is no longer one whose last pass ended STARVED, and the interval to the next runs from now
(R117, R133). -/
def endPass (k : SleeveNo) (s : State) : State :=
  modTlr (fun t => { t with
    passes := t.passes.filter (fun q => q.1 != k || q.2.train), starvedMask := t.starvedMask &&& ~~~(slvBit k)
    lastEnd := vmod t.lastEnd k.toNat (fun _ => s.now) }) s

/-- A pass ends with its shadow values discarded. -/
def dropPass (k : SleeveNo) (s : State) : State :=
  match s.passIn k with
  | some p => endPass k (discardShadow p.lane s)
  | none => s

/-- A pass is abandoned (R112, R121). -/
def abandonPass (k : SleeveNo) (s : State) : State :=
  match s.passIn k with
  | some p => raiseLane C.TLR.PASS_ABANDONED .down k (placeOf p.lane) (dropPass k s)
  | none => s

/-- Every pass is abandoned. -/
def abandonPasses (s : State) : State := (s.tlr.passes.map (·.1)).foldl (fun s k => abandonPass k s) s

/-- A path is granted to the tailoring of a sleeve whose spare is not free: a pass is in progress there, and the path reserves nothing
on the sleeve in the direction of its lanes (R24, R118, R214). -/
def State.granted (s : State) (k : SleeveNo) : Bool :=
  ((s.passIn k).map fun p => !p.full).getD false && !(s.ttb.st == .running && s.ttb.dnMask.getLsbD k.toNat)

/-- The sleeves that carry no dynamic traffic in this path, as it is granted to their tailoring (R24). -/
def State.grantedMask (s : State) : Byte := ((sleevesOf 0xFF).filter s.granted).foldl (fun m k => m ||| slvBit k) 0

/-- Sleeves with a lane of the block's own under rolling tailoring on the spare. -/
def State.rolling (s : State) : List SleeveNo :=
  (sleevesOf 0xFF).filter fun k => (s.slv .down k).spareState == 2

/-! ## Seam control flits (R79 to R82) -/

/-- A control flit's payload. -/
def ctlFlit (type xid : Byte) (slv : SleeveNo) (lane : BitVec 4) (reason : BitVec 2) (target nak : Byte) (after : BitVec 16) :
    BitVec 1920 :=
  SeamCtl.toBits { rest := 0, after := after, nak := nak, target := target, rsv2 := 0, reason := reason, lane := lane,
                   rsv1 := 0, sleeve := slv, xid := xid, type := type }

/-- A control flit put up for the next slot (R80). -/
def queueCtl (p : BitVec 1920) (s : State) : State := modSeam (fun m => { m with ctlOut := m.ctlOut ++ [p] }) s

/-- SEAM_CTRL.SWITCH_AFTER, as written: the spec has no rule for a value below 16. (DESIGN CHOICE: log entry 76) -/
def State.switchAfter (s : State) : BitVec 16 := BitVec.ofNat 16 (s.fld F.SEAM_CTRL.SWITCH_AFTER)

/-- The request flit of an exchange. -/
def reqFlit (k : ExKind) (xid : Byte) : BitVec 1920 :=
  match k with
  | .subst slv lane reason => ctlFlit 0x01 xid slv lane reason 0 0 0
  | .retire slv => ctlFlit 0x03 xid slv 0 0 0 0 0
  | .width t => ctlFlit 0x05 xid 0 0 0 t 0 0

/-- Seam control exchanges can run: the link is up and some sleeve is usable (R80, R157). (DEDUCED: log entry 19) -/
def State.talks (s : State) : Bool := s.lnk.st == .up && s.seam.usable != 0

/-- SEAM_CTRL lets the block ask for it: darning with DARN_EN, retirement with RETIRE_EN (R85, R87). -/
def State.mayAsk (s : State) : ExKind → Bool
  | .subst _ _ reason => reason != 0 || s.flag F.SEAM_CTRL.DARN_EN
  | .retire _ => s.flag F.SEAM_CTRL.RETIRE_EN
  | .width _ => true

/-- What an exchange that waits has become by its turn: a darning whose spare is taken is a retirement (R87), and a rolling
exchange that no longer fits the spare's state is not due. -/
def State.dueAs (s : State) (k : ExKind) : Option ExKind :=
  match k with
  | .subst slv _ reason =>
    let st := (s.slv .down slv).spareState
    if s.seam.retired.getLsbD slv.toNat then none
    else if reason = 0 then
      let k' := if st = 1 || st = 3 then .retire slv else k
      if s.mayAsk k' then some k' else none
    else if reason = 1 then (if st = 0 then some k else none)
    else if st = 2 then some k else none
  | .retire slv => if s.seam.retired.getLsbD slv.toNat || !s.mayAsk k then none else some k
  | .width _ => some k

/-- The first exchange of a list that is due, and those behind it. -/
def State.firstDue (s : State) : List ExKind → Option (ExKind × List ExKind)
  | [] => none
  | k :: ks =>
    match s.dueAs k with
    | some k' => if s.seam.refused.contains k' then s.firstDue ks else some (k', ks)
    | none => s.firstDue ks

/-- The next exchange that waits begins (R82: at most one outstanding). -/
def nextEx (s : State) : State :=
  if s.seam.mine.isSome || !s.talks then s
  else
    match s.firstDue s.seam.want with
    | some (k, rest) =>
      let x := s.seam.nextXid
      queueCtl (reqFlit k x)
        (modSeam (fun m => { m with want := rest, mine := some ⟨k, x, 1, false, s.mark⟩, nextXid := x + 1 }) s)
    | none => modSeam (fun m => { m with want := [] }) s

/-- A repair or a retirement, which go ahead of other exchanges. -/
def ExKind.repair : ExKind → Bool
  | .subst _ _ r => r == 0
  | .retire _ => true
  | .width _ => false

/-- An exchange asked for, unless it runs, waits, or has been refused for good (R82, R85, R87). -/
def wantEx (k : ExKind) (s : State) : State :=
  let dup := s.seam.want.contains k || s.seam.refused.contains k || (s.seam.mine.map (·.kind)) == some k
  if dup then s
  else
    let w := s.seam.want
    let w' := if k.repair then w.filter ExKind.repair ++ [k] ++ w.filter (fun x => !x.repair) else w ++ [k]
    nextEx (modSeam (fun m => { m with want := w' }) s)

/-- The block's own exchange has ended. -/
def endEx (s : State) : State := nextEx (modSeam (fun m => { m with mine := none }) s)

/-- Exchanges about a sleeve no longer wait. -/
def dropWants (k : SleeveNo) (s : State) : State :=
  modSeam (fun m => { m with
    want := m.want.filter fun x =>
      match x with
      | .subst j _ _ => j != k
      | .retire j => j != k
      | .width _ => true }) s

/-! ## Failed lanes (R70, R84, R85, R87, R89) -/

/-- The retirement of a sleeve is requested (R87). -/
def wantRetire (k : SleeveNo) (s : State) : State :=
  if s.flag F.SEAM_CTRL.RETIRE_EN then wantEx (.retire k) (dropWants k s) else s

/-- A failed data lane of a downstream sleeve goes to its repair (R23, R85, R87). -/
def repairLane (k : SleeveNo) (j : Nat) (s : State) : State :=
  let v := s.slv .down k
  let darn := s.flag F.SEAM_CTRL.DARN_EN
  let ask := wantEx (.subst k (BitVec.ofNat 4 j) 0)
  let s := if v.spareState = 2 then s else abandonPass k s
  if v.spareState = 0 then if darn then ask s else s
  else if v.spareState = 2 then
    if v.spareLane.toNat = j then
      -- the lane under tailoring: the spare keeps its traffic
      raiseLane C.SEAM.LANE_DARNED .down k j (modSlv .down k (fun v => { v with spareState := 1 }) (dropPass k s))
    else if darn then ask (modSlv .down k (fun v => { v with spareState := 0 }) (abandonPass k s))
    else wantEx (.subst k v.spareLane 2) (abandonPass k s)
  else wantRetire k s

/-- A downstream spare fails (R87, R89). (DEDUCED: log entry 15) -/
def failSpare (k : SleeveNo) (s : State) : State :=
  let v := s.slv .down k
  let mark := modSlv .down k (fun v => { v with spareState := 3 })
  if v.spareState = 1 then wantRetire k (raiseLane C.SEAM.LANE_FAILED .down k 8 (mark s))
  else if v.spareState = 3 then s
  else raiseLane C.SEAM.SPARE_LOST .down k 8 (mark (abandonPass k s))

/-- A downstream lane is marked failed, once, and goes to its repair (R84). (DEDUCED: log entry 15) -/
def failLane (n : LaneNo) (s : State) : State :=
  let k := slvOf n
  let j := placeOf n
  if (s.slv .down k).failed.getLsbD j || s.seam.retired.getLsbD k.toNat then s
  else
    let s := askRebuild (modSlv .down k (fun v => { v with failed := v.failed ||| (1#9 <<< j) }) s)
    if j = 8 then failSpare k s else repairLane k j (raiseLane C.SEAM.LANE_FAILED .down k j s)

/-- A downstream forwarded clock fails, and every lane of the sleeve with it (R70, R87). (DEDUCED: log entry 15) -/
def failClock (k : SleeveNo) (s : State) : State :=
  if (s.slv .down k).clkFail || s.seam.retired.getLsbD k.toNat then s
  else
    let s := modSlv .down k (fun v => { v with clkFail := true, failed := 0x1FF }) (abandonPass k s)
    wantRetire k (raiseLane C.SEAM.LANE_FAILED .down k 0xF (askRebuild s))

/-- Failed lanes of a sleeve that no spare carries. (DEDUCED: log entry 19) -/
def Slv.bare (v : Slv) : List Nat :=
  (List.range 8).filter fun j => v.failed.getLsbD j && !(v.spareState == 1 && v.spareLane.toNat == j)

/-- Failed lanes are taken up again once the link has resumed (R88). (DEDUCED: log entry 19) -/
def repairAgain (s : State) : State :=
  (sleevesOf (~~~s.seam.retired)).foldl (fun s k =>
    let v := s.slv .down k
    if v.clkFail || (v.spareState == 1 && v.failed.getLsbD 8) then wantRetire k s
    else v.bare.foldl (fun s j => repairLane k j s) s) s

/-! ## Width (R91 to R96) -/

/-- The Vetex status of a width change's RESULT (R328). -/
def widthStatus (r : Nat) : BitVec 16 :=
  if r = 0 then 0 else if r = 7 then 0x0150 else BitVec.ofNat 16 (0x024E + r)

/-- USABLE_MASK as reply data. (DEDUCED: log entry 52) -/
def State.usableByte (s : State) : List Byte := [s.seam.usable]

/-- A sleep by the PCM or a command ends without width 0 (R335, R387). -/
def sleepEnds (status : BitVec 16) (s : State) : State :=
  let s := s.setFld F.PCM_CTRL.SLEEP 0
  wake .sleep status [] { s with pcm := { s.pcm with
    st := if s.pcm.st == .sleeping then .awake else s.pcm.st, sleepCmd := false } }

/-- A width change of the block's own ends, or is refused, with its RESULT (R92 to R94). -/
def widthResult (r : Nat) (s : State) : State :=
  let s := s.setFld F.SEAM_WIDTH_CTRL.RESULT r
  let s := if r = 0 then s else raiseSeam C.SEAM.WIDTH_REFUSED s
  let s := wake .width (widthStatus r) s.usableByte s
  if r != 0 && s.pcm.st == .sleeping then sleepEnds (widthStatus r) (raise C.PCM.SLEEP_REFUSED (detPcm s) s) else s

/-- A widening of the PCM's own has ended: PCM_WAKE and PCM_CTRL.WAKE end at the widest width, or where it cannot be reached
(R335, R387). -/
def wakeWidened (r : Nat) (s : State) : State :=
  if s.pcm.st == .awake && (r != 0 || s.seam.usable == s.permitted) then
    wake .wake (if r = 0 then 0 else if r = 6 then 0x0254 else 0x0251) s.usableByte (s.setFld F.PCM_CTRL.WAKE 0)
  else s

/-- Width 0 takes effect (R96): Sleeper mode, held. -/
def enterSleep (s : State) : State :=
  let s := { s with pcm := { s.pcm with st := .held, sleepCmd := false } }
  let s := raise C.PCM.SLEPT (detPcm s) s
  wake .sleep 0 [] (s.setFld F.PCM_CTRL.SLEEP 0)

/-- A wake is complete (R373): WOKE with its duration, and the ports take requests. -/
def finishWake (s : State) : State :=
  let s := { s with pcm := { s.pcm with
    st := .awake, joining := false, duration := BitVec.ofNat 24 (min (2 ^ 24 - 1) (s.aoCycles - s.pcm.wakeFrom)), lastDyn := s.now,
    windowAt := s.now, useUp := 0, capUp := 0, useDn := 0, capDn := 0 } }
  let s := raise C.PCM.WOKE 0 (s.setFld F.PCM_CTRL.WAKE 0)
  nextEx (repairAgain (wake .wake 0 s.usableByte s))

/-- The width change in progress ends with a RESULT, and with it a wake; sleeves that it added and that did not join are powered down. -/
def endWidth (r : Nat) (s : State) : State :=
  match s.seam.width with
  | none => s
  | some w =>
    let isWidth (k : ExKind) : Bool := match k with | .width _ => true | _ => false
    let s := modSeam (fun m => { m with
      width := none
      want := m.want.filter fun k => !isWidth k
      mine := m.mine.filter fun x => !isWidth x.kind
      powered := if r = 0 then m.powered else m.powered &&& ~~~(w.added &&& ~~~m.usable) }) s
    let s := if w.mine then widthResult r s else s
    let s := if r = 0 || (w.mine && w.byPcm) then wakeWidened r s else s
    if s.pcm.st == .waking && s.pcm.joining then finishWake s else s

/-- The mask of a target width (R91). (DEDUCED: log entry 19) -/
def State.maskFor (s : State) (n : Nat) : Byte := lowest s.permitted n

/-- The SLEEVE_MASK of the bank running or start armed (R92). (DEDUCED: log entry 19) -/
def State.bankMask (s : State) : Byte :=
  if s.ttb.st == .running || s.ttb.st == .startArmed then (s.bank.map (·.mask)).getD 0 else 0

/-- The refusal of a width change, 0 where there is none (R92, R98). An invalid target is found first: the other tests need a
valid one. (DEDUCED: log entry 19) -/
def State.widthRefusal (s : State) (target : Nat) (force : Bool) : Nat :=
  if !(target = 0 || target = 1 || target = 2 || target = 4 || target = 6 || target = 8) then 7
  else if !force && s.seam.usable &&& ~~~(s.maskFor target) &&& s.bankMask != 0 then 2
  else if target = 0 && (s.pins.hostReq == 1 || !s.slp.lock) then 3
  else 0

/-- A width change of the block's own to a mask begins; an added sleeve is powered first (R92 to R94). -/
def startWidth (t : Byte) (byPcm : Bool) (s : State) : State :=
  let added := t &&& ~~~s.seam.usable
  let w : WidthChange := { mine := true, byPcm := byPcm, target := t, xid := 0, added := added, phase := [], ready := added == 0,
                           acked := false, upSlot := none, dnSlot := none, upDone := false, dnDone := false, since := s.mark }
  let s := modSeam (fun m => { m with
    width := some w, powered := m.powered ||| added, switchFrom := if added = 0 then m.switchFrom else s.mark }) (s.setFld F.SEAM_WIDTH_CTRL.RESULT 1)
  if added = 0 then wantEx (.width t) s else s

/-- A width change of the block's own begins, or is refused, or finds its width in force (R92 to R94). (DEDUCED: log entry 19) -/
def beginWidth (target : Nat) (force byPcm : Bool) (s : State) : State :=
  let s := s.setFld F.SEAM_WIDTH_CTRL.GO 0
  let r := s.widthRefusal target force
  let t := s.maskFor target
  if r != 0 then (if byPcm then wakeWidened r (widthResult r s) else widthResult r s)
  else if t = s.seam.usable then wakeWidened 0 (widthResult 0 s)
  else startWidth t byPcm s

/-- A change asked for while another is in progress is queued; a queued one is superseded (R92). -/
def queueWidth (target : BitVec 4) (force : Bool) (s : State) : State :=
  let s := wake .widthQueued 0x0255 s.usableByte s
  modSeam (fun m => { m with queued := some { target := target, force := force } }) (s.setFld F.SEAM_WIDTH_CTRL.GO 1)

/-- The queued change begins when none is in progress (R92). -/
def dequeueWidth (s : State) : State :=
  match s.seam.queued with
  | some q =>
    if s.seam.width.isNone then
      let s := { s with vtx := { s.vtx with waits := s.vtx.waits.map fun x => if x.2 == .widthQueued then (x.1, .width) else x } }
      beginWidth q.target.toNat q.force false (modSeam (fun m => { m with queued := none }) s)
    else s
  | none => s

/-- The rolling substitution of a sleeve and direction ends without an exchange, its spare idle again (R88, R121). -/
def endRolling (d : Dir) (k : SleeveNo) (s : State) : State :=
  if (s.slv d k).spareState = 2 then modSlv d k (fun v => { v with spareState := 0, spareLane := 0 }) s else s

/-- Sleeves leave the seam at a switch slot: their passes are abandoned and their spares idle (R121). -/
def leaveSleeves (m : Byte) (s : State) : State :=
  (sleevesOf m).foldl (fun s k => endRolling .up k (endRolling .down k (abandonPass k (dropWants k s)))) s

/-- The later switch of a width change (R93, R94, R96): the mask in force, WIDTH_DONE, the removed sleeves powered down. A
sleeve retired meanwhile is left out (R386). -/
def finishWidth (w : WidthChange) (s : State) : State :=
  let t := w.target &&& s.permitted
  let gone := s.seam.powered &&& ~~~t
  let s := modSeam (fun m => { m with usable := t, powered := t ||| (m.powered &&& s.testMask) }) (leaveSleeves gone s)
  let s := endWidth 0 (raise C.SEAM.WIDTH_DONE 0 s)
  if t = 0 then enterSleep s else s

/-- A direction's switch slot of a width change (R93): a reduction narrows the mask at the first of the two. -/
def switchWidth (d : Dir) (s : State) : State :=
  match s.seam.width with
  | none => s
  | some w =>
    let has := match d with
      | .up => w.upSlot.isSome && !w.upDone
      | .down => w.dnSlot.isSome && !w.dnDone
    if !has then s
    else
      let w := match d with
        | .up => { w with upDone := true }
        | .down => { w with dnDone := true }
      let s := modSeam (fun m => { m with width := some w }) s
      if w.upDone && w.dnDone then finishWidth w s
      else if w.added = 0 then
        let t := s.seam.usable &&& w.target
        modSeam (fun m => { m with usable := t }) (leaveSleeves (s.seam.usable &&& ~~~t) s)
      else s

/-! ## What sending a control flit fixes (R81, R93) -/

/-- A control flit has left in an upstream slot: the wait of R82 for an answer to the block's request begins, and the switch that an
ACK or CFM names is fixed. (DEDUCED: log entry 18) -/
def ctlSent (p : BitVec 1920) (slot : BitVec 32) (s : State) : State :=
  let c := SeamCtl.ofBits p
  let s := modSeam (fun m => { m with mine := m.mine.map fun x => if p = reqFlit x.kind x.xid then { x with since := s.mark } else x }) s
  let at' := slot + c.after.setWidth 32
  if c.type = 0x02 then
    let x : SubstSw := { dir := .up, slv := c.sleeve, lane := c.lane, reason := c.reason, slot := at' }
    modSeam (fun m => { m with subst := m.subst.filter (fun y => !(y.dir == .up && y.slv == c.sleeve)) ++ [x] }) s
  else if c.type = 0x04 then
    modSeam (fun m => { m with retireAt := m.retireAt.filter (·.1 != c.sleeve) ++ [(c.sleeve, some at', none)] }) s
  else if c.type = 0x06 || c.type = 0x07 then
    modSeam (fun m => { m with width := m.width.map fun w => { w with upSlot := some at', acked := true } }) s
  else s

/-! ## Flits received (R72, R73, R75, R79, R80, R135, R137) -/

/-- A CRC-64 failure on a sleeve: counted, and UNATTRIBUTED at the failure that reaches the threshold in its window. -/
def crcFail (k : SleeveNo) (s : State) : State :=
  let a := R.LNK_CRC_ERR + 4 * k.toNat
  let s := s.setReg a (if s.reg a = 0xFFFFFFFF#32 then 0xFFFFFFFF#32 else s.reg a + 1)
  let s := modSeam (fun m => { m with crcWin := vmod m.crcWin k.toNat (· + 1) }) s
  let n := s.seam.crcWin[k.toNat]'(by have := k.isLt; omega)
  let v := s.slv .down k
  let t := s.fld F.SEAM_DET_CFG.UNATTR_CRC
  if t != 0 && n = t && v.bare = [] && !v.clkFail then raiseLane C.SEAM.UNATTRIBUTED .down k 0xF s else s

/-- A discarded flit in the log, its source unknown (R425). -/
def linkProtocol (hdr : BitVec 64) (s : State) : State := raise C.LNK.PROTOCOL (detProto hdr.toNat 0x3FFF 0) s

/-- The slot that the lanes of a sleeve bring: the line of the current downstream slot, read through the lane demultiplexer and
descrambled (R72, R75). -/
def State.slotOf (s : State) (k : SleeveNo) (line : BitVec 2304) : BitVec 2048 :=
  let v := s.slv .down k
  recvLine v.spareState v.spareLane.toNat k.toNat s.seam.dnSlot.toNat line

/-- The KIND of a flit (R135). -/
def kindOf (f : BitVec 2048) : Nat := Sys2Proof.fld f 61 3

/-- The physical lane that carries logical data lane `j` of a sleeve: itself, or the spare (R85, R115). -/
def Slv.carrier (v : Slv) (j : Nat) : Nat := if (v.spareState = 1 || v.spareState = 2) && v.spareLane.toNat = j then 8 else j

/-- A logical lane brings filler in slot `n`: its descrambled bits are all zero (R73, R75). -/
def State.fillerOn (s : State) (k : SleeveNo) (j : Nat) (n : BitVec 32) (line : BitVec 2304) : Bool :=
  laneDown k.toNat j n.toNat (lineLane line ((s.slv .down k).carrier j)) == 0

/-- The slots counted of a logical lane towards the 1,024 zero bits that confirm its scrambler phase (R75). -/
def WidthChange.slots (w : WidthChange) (l : LaneNo) : Nat := (w.phase.filter (·.1 == l)).length

/-- A slot on a sleeve that a width change adds: a logical data lane that brings filler has one slot more, up to the four of 1,024 bits, and
one that brings anything else begins again (R75, R94). (DEDUCED: log entry 19) -/
def notePhase (k : SleeveNo) (line : BitVec 2304) (s : State) : State :=
  match s.seam.width with
  | none => s
  | some w =>
    if !w.ready && w.added.getLsbD k.toNat then
      let n := s.seam.dnSlot
      let count (w : WidthChange) (j : Nat) : WidthChange :=
        let l := laneOf k j
        if !s.fillerOn k j n line then { w with phase := w.phase.filter (·.1 != l) }
        else if w.phase.contains (l, n) || 4 ≤ w.slots l then w
        else { w with phase := w.phase ++ [(l, n)] }
      modSeam (fun m => { m with width := some ((List.range 8).foldl count w) }) s
    else s

/-- A slot received on a usable sleeve, as the flit of a kind whose trailer is a CRC-64 (R24, R73, R87, R114, R135, R137): filler is no
flit, nor is what a lane under tailoring brings in a granted path, a
reserved KIND is a PROTOCOL event, and a flit that fails its CRC-64 is counted against its sleeve and is `lost`. -/
def onFlit (kind : Nat) (k : SleeveNo) (line : BitVec 2304) (lost : State → State) (take : BitVec 2048 → State → State) (s : State) :
    State :=
  let f := s.slotOf k line
  let n := kindOf f
  if !s.seam.usable.getLsbD k.toNat then notePhase k line s
  else if s.granted k || bits f 0 64 == 0 then s
  else if 5 ≤ n then linkProtocol (bits f 0 64) s
  else if n = 0 || n = 2 then s
  else if !crcOk f then (if n = kind then lost (crcFail k s) else crcFail k s)
  else if n = kind then take f s else s

/-! ## Lock of the Sleeper receiver (R98) -/

/-- A sync header other than 0b01 and 0b10 (R97). -/
def badHeader (b : BitVec 34) : Bool := bits b 32 2 == 0#2 || bits b 32 2 == 3#2

/-- 16 of some 64 consecutive blocks have an invalid header (R98). -/
def slips (heads : List Bool) : Bool := (List.range heads.length).any fun i => 16 ≤ (((heads.drop i).take 64).filter id).length

/-- The invalid headers more, in blocks that follow, with which the receiver loses lock (R98). (DEDUCED: log entry 16) -/
def toSlip (heads : List Bool) : Nat := ((List.range 17).find? fun k => slips (heads ++ List.replicate k true)).getD 16

/-- Blocks come to a receiver in lock: those with an invalid header are counted in SYNC_ERR, and at 16 of some 64 consecutive ones lock is
lost (R98, R103). (DEDUCED: log entry 16) -/
def takeHeads (bad : List Bool) (s : State) : State :=
  let all := s.slp.heads ++ bad
  let s := s.setFld F.SEAM_SLP_STATUS.SYNC_ERR (min 0xFFFF (s.fld F.SEAM_SLP_STATUS.SYNC_ERR + (bad.filter id).length))
  if slips all then
    raise C.SEAM.SLEEPER_LOSS (detSeam 0 0xE false 0 s) { s with slp := { s.slp with lock := false, lostAt := s.now, heads := [] } }
  else { s with slp := { s.slp with heads := all.drop (all.length - 63) } }

end Sys2Proof.Machine
end

