-- ==== Sys2Proof/Machine/Manifest.lean ====
section
/-!
DEFINITION. The meanings of the manifest's commands: packets from other dies, replies, sweeps, quarantine, forwarding, and what
a flush does to the entries (R161, R167, R174, R179 to R191).
-/
namespace Sys2Proof.Machine

/-- A discarded packet (R167): PROTOCOL with the first 64 bits of its header and its source. -/
def discardPacket (hdr : BitVec 256) (src : BitVec 14) (s : State) : State :=
  raise C.MNF.PROTOCOL (detProto (fld hdr 0 64) src.toNat 1) s

/-- Data bytes that a packet of an operation carries (R166). -/
def dataLen (h : THdr) : Nat :=
  if h.op = 0x02 || h.op = 0x04 then h.len.toNat + 1
  else if (h.op = 0x81 || h.op = 0x83) && h.status = 0 then h.len.toNat + 1 else 0

/-- A request packet breaks R165 or R167. (DEDUCED: log entry 28) -/
def badRequest (own : BitVec 14) (track : BitVec 3) (h : THdr) (data : List Byte) (flits : Nat) : Bool :=
  let named := h.via == tileOf own && h.vsite == siteOf own
  !(h.op == 1 || h.op == 2 || h.op == 3 || h.op == 4) || !(track == 1 || track == 3 || track == 4) || h.rsv != 0
    || h.status != 0 || h.poison != 0 || data.length != dataLen h || flits != flitsOf (32 + data.length)
    || (h.dest != own && !(track == 3 && named)) || (opReads h.op && 4096 < h.len.toNat + 1)

/-- REQUEST_PACKET_RECEIVE (R167, R173, R179, R190): a packet is discarded, kept to be forwarded, or served in order.
(DESIGN CHOICE: log entry 12) -/
def execRequestPacketReceive (track : BitVec 3) (hdr : BitVec 256) (data : List Byte) (flits : Nat) (s : State) :
    Host.Outcome State Fault Refusal :=
  whenFunctional s fun s =>
    let h := THdr.ofBits hdr
    let (fs, s) := takePacket track s
    if badRequest s.own track h data flits then discardPacket hdr h.src (freeFlits fs s)
    else
      let p : RxPacket := { track := track, hdr := hdr, data := data, held := fs }
      if h.dest != s.own then { s with mnf := { s.mnf with fwd := s.mnf.fwd ++ [p] } }
      else pumpMig (pumpMnf { s with mnf := { s.mnf with waiting := s.mnf.waiting ++ [p] } })

/-- VALIANT_FORWARD (R190): the oldest request kept for another die leaves on T4 unchanged, once its queue has room. -/
def execValiantForward (s : State) : Host.Outcome State Fault Refusal :=
  whenFunctional s fun s =>
    match s.mnf.fwd with
    | [] => s
    | p :: ps =>
      if s.room 4 then
        freeFlits p.held (queuePacket 4 (bvBytes p.hdr ++ p.data) { s with mnf := { s.mnf with fwd := ps } })
      else s

/-- A reply that no entry awaits (R186). -/
def staleReply (h : THdr) (s : State) : State :=
  raise C.MNF.STALE_REPLY (detTxn h.tag.toNat 0 false h.attempt.toNat h.status.toNat h.dest.toNat h.ldest.toNat) s

/-- A reply reaches the entry that it names. -/
def replyTo (tag : Nat) (o : Orig) (h : THdr) (data : List Byte) (s : State) : State :=
  match o.owner with
  | .copy page =>
    let s := freeEntry tag s
    if h.status = 0 then copyDone page s else copyFail page s
  | .host p n i => hostDone tag o p n i h.status data (h.poison == 1) s

/-- A transaction of a tag waits at an issue queue to be sent again. -/
def State.queuedAgain (s : State) (tag : Nat) : Bool := s.ports.toList.any fun p => p.issue.any fun t => t.tag == some tag

/-- REPLY_RECEIVE (R167, R186): a reply completes its entry, or is discarded. (DEDUCED: log entry 28) -/
def execReplyReceive (hdr : BitVec 256) (data : List Byte) (flits : Nat) (s : State) : Host.Outcome State Fault Refusal :=
  whenFunctional s fun s =>
    let h := THdr.ofBits hdr
    let s := freePacket 2 s
    if !(0x81 ≤ h.op.toNat && h.op.toNat ≤ 0x84) || h.rsv != 0 || data.length != dataLen h
        || flits != flitsOf (32 + data.length) then discardPacket hdr h.src s
    else
      match cellsGet h.tag.toNat s.mnf.entries with
      | some (.orig o) =>
        let match? := !o.quarantined && !s.queuedAgain h.tag.toNat && h.src == s.own && h.dest == o.dest.phys
          && h.attempt.toNat == o.attempt && h.op == o.op + 0x80
        if !match? then staleReply h s
        else if o.withdrawn then pumpMnf (freeEntry h.tag.toNat (staleReply h s))
        else pumpMnf (replyTo h.tag.toNat o h data s)
      | _ => staleReply h s

/-- An entry times out (R178, R183 to R185): a segment is sent again, or the entry is quarantined and its transaction ends
with TIMEOUT. -/
def timeOut (tag : Nat) (o : Orig) (s : State) : State :=
  let port := match o.owner with
    | .host p _ _ => p.toNat
    | .copy _ => 0
  let s := raise C.MNF.TIMEOUT (detTxn tag port false o.attempt 2 o.dest.phys.toNat o.dest.ldest.toNat) s
  let held := putEntry tag (.orig { o with quarantined := true }) s
  match o.owner with
  | .copy page => copyFail page held
  | .host p n i =>
    if o.withdrawn then held
    else if s.retries o p 0x02 then sendAgain tag o p n i s
    else segDone p n i 0x02 [] false held

/-- One entry under one sweep (R183): a transaction times out at the fourth sweep after its send. -/
def sweepOne (tag : Nat) (s : State) : State :=
  match cellsGet tag s.mnf.entries with
  | some (.orig o) =>
    if s.queuedAgain tag then s
    else
      let o := { o with sweeps := o.sweeps + 1 }
      if !o.quarantined && 4 ≤ o.sweeps then timeOut tag { o with sweeps := 0 } s else putEntry tag (.orig o) s
  | _ => s

/-- A quarter of MNF_TIMEOUT's timeout in ns; values below 9 are taken as 9 (R183, R195). -/
def State.sweepNs (s : State) : Nat := 16000 * max 9 (s.fld F.MNF_TIMEOUT.TIMEOUT_64US)

/-- MANIFEST_SWEEP (R183): every entry is swept once, T / 4 after the sweep before. -/
def execManifestSweep (s : State) : Host.Outcome State Fault Refusal :=
  whenFunctional s fun s =>
    let s := s.lapse s.mnf.sweptAt s.sweepNs
    let s := { s with mnf := { s.mnf with sweeps := s.mnf.sweeps + 1, sweptAt := s.mark } }
    pumpMnf ((s.mnf.entries.map (·.1)).foldl (fun s t => sweepOne t s) s)

/-- QUARANTINE_END (R174, R183): a quarantined entry is freed, once four further sweeps have passed. (DEDUCED: log entry 8) -/
def execQuarantineEnd (tag : BitVec 18) (s : State) : Host.Outcome State Fault Refusal :=
  whenFunctional s fun s =>
    match cellsGet tag.toNat s.mnf.entries with
    | some (.orig o) => if o.quarantined && 4 ≤ o.sweeps then pumpMnf (freeEntry tag.toNat s) else s
    | _ => s

/-- One entry under a flush (R161): it completes with LINK_DOWN. -/
def flushOne (tag : Nat) (s : State) : State :=
  match cellsGet tag s.mnf.entries with
  | some (.orig o) =>
    if o.quarantined then s
    else
      let s := { s with ports := s.ports.map fun p => { p with issue := p.issue.filter fun t => t.tag != some tag } }
      let s := freeEntry tag s
      match o.owner with
      | .copy page => copyFail page s
      | .host p n i => if o.withdrawn then s else segDone p n i 0x03 [] false s
  | _ => s

/-- The entries that a flush completes with LINK_DOWN (R161, R329). -/
def flushEntries (s : State) : State :=
  let tags := s.mnf.entries.filterMap fun x =>
    match x.2 with
    | .orig o => if o.quarantined then none else some x.1
    | .served _ => none
  let s := tags.foldl (fun s t => flushOne t s) s
  { s with lnk := { s.lnk with flushedEntries := tags.length } }

end Sys2Proof.Machine
end

