-- ==== Sys2Proof/Machine/Link.lean ====
section
/-!
DEFINITION. The link's larger operations: resends and their limits, retrain, link down, grace hold and flush, the retirement of
a sleeve, and the restart at negotiation (R87, R141 to R143, R156 to R161, R409, R412, R414).
-/
namespace Sys2Proof.Machine

/-! ## Start-up's later steps (R409, R412, R416) -/

/-- Start-up holds, and a LINK_RESTART that waits for the link ends with LINK_START_FAIL (R329, R416). (DEDUCED: log entry 51) -/
def holdStart (code : Nat) (region : Byte) (s : State) : State := wake .linkUp 0x0259 [] (startHold code region s)

/-- GRACE_US, where larger values are taken as 1,000,000 (R164). (DEDUCED: log entry 8) -/
def State.graceUs (s : State) : Nat := min 1000000 (s.fld F.LNK_GRACE.GRACE_US)

/-- NEG_OFFER (R409). -/
def sendOffer (s : State) : State :=
  let sel := s.flag F.LNK_CTRL.REPLAY_MODE
  let g := s.graceUs
  let v := 0b111 + 8 * b2n sel + 0x30 * 2 ^ 8 + g * 2 ^ 16 + 16 * 2 ^ 36 + (if sel then 688 else 944) * 2 ^ 44
  sendSlp 0x01 (msgWords 2 v) { s with boot := { s.boot with
    offers := s.boot.offers + 1, sentAt := s.mark, offerSelective := sel, offerGrace := BitVec.ofNat 20 g } }

/-- The counters of the link layer that stand in registers start again: LNK_EVT_CNT_n, the FEC counts and LNK_CRC_ERR_k (R161,
R164). (DEDUCED: log entry 25) -/
def resetLnkCounts (s : State) : State :=
  let s := (List.range 9).foldl (fun s n => s.setReg (R.LNK_EVT_CNT + 4 * n) 0) s
  let s := (s.setReg R.LNK_FEC_CORR 0).setReg R.LNK_FEC_UNCORR 0
  (List.range 8).foldl (fun s k => s.setReg (R.LNK_CRC_ERR + 4 * k) 0) s

/-- NEGOTIATED begins: the link starts afresh and the block offers (R161, R409, R414). -/
def negotiate (again : Bool) (s : State) : State :=
  let s := { s with pcm := { s.pcm with joining := false } }
  let s := modTlr (fun t => { t with mode := .idle, passes := [] }) (endWidth 5 s)
  let s := modSeam (fun m => { m with
    usable := 0, counting := false, mine := none, want := [], answered := none, ctlOut := [], subst := [], retireAt := [] }) s
  let s := if again then resetLnkCounts s else s
  let s := { s with lnk := Lnk.reset, pcm := { s.pcm with st := .start } }
  let s := { s with boot := { s.boot with
    offers := 0, again := again, peerMask := none, ownUsable := none, peerUsable := none, trainSends := 0 } }
  sendOffer (toStep 6 s)

/-! ## Retrain (R156 to R158) -/

/-- A retrain ends without success for the commands that wait for it. (DEDUCED: log entry 19) -/
def retrainLost (s : State) : State :=
  if s.lnk.retraining.isSome then wake .retrain 0x0256 [] (modLnk (fun l => { l with retraining := none }) s) else s

/-- A retrain begins (R88, R121, R157); `send` where the block is the initiating end. -/
def beginRetrain (send : Bool) (s : State) : State :=
  let s := endWidth 5 (abandonPasses s)
  let s := modSeam (fun m => { m with mine := none, want := [], ctlOut := [] }) s
  let s := modTlr (fun t => { t with mode := .retrain }) s
  let r : Retrain := { startedAt := s.now, tailored := false, resume := none, downAfter := false, inGrace := s.lnk.st == .grace }
  let s := modLnk (fun l => { l with
    st := if l.st == .grace then .grace else .retrain, retrains := if l.retrains = 0xFFFF then 0xFFFF else l.retrains + 1,
    retraining := some r, retrainDue := send }) s
  let s := raise C.LNK.RETRAIN (detLink 0 s) s
  if send then sendSlp 0x28 [] s else s

/-- A retrain asked for: it has effect while the link is up (R156). -/
def startRetrain (send : Bool) (s : State) : State :=
  if s.lnk.st == .up && s.lnk.retraining.isNone then beginRetrain send s else s

/-! ## Flush, link down (R159 to R161) -/

/-- Packets of the receive pool whose EOP has not been accepted are left out: the flits of a track after its last EOP. -/
def wholePackets : List RxFlit → List RxFlit
  | [] => []
  | f :: fs =>
    let whole := f.flit.eop || fs.any fun g => g.flit.track == f.flit.track && g.flit.eop
    if whole then f :: wholePackets fs else wholePackets fs

/-- What a flush throws away (R161): siding, outbound queues, reorder area and packets not yet whole. -/
def discardLink (s : State) : State :=
  modLnk (fun l => { l with
    outq := Vector.replicate 6 [], siding := [], reorder := [], pool := wholePackets l.pool, st := .flushed, stalled := false,
    ctlDue := false, nakDue := false, retrainDue := false }) s

/-- The flush (R161, R212, R422). -/
def flush (s : State) : State :=
  let running := s.ttb.st == .running || s.ttb.st == .startArmed
  let s := stopAtPath 7 (flushEntries (discardLink (retrainLost s)))
  let n := s.lnk.flushedEntries
  let others := (if n = 0 then [] else [C.MNF.LINK_FLUSH]) ++ (if running then [C.TTB.STOPPED] else [])
  let s := if others = [] then raiseAs C.LNK.FLUSHED 0x02 0x04 (detLink 0 s) s
    else raiseMulti C.LNK.FLUSHED others 0x02 0x04 (detLink 0 s) s
  wake .flush 0 (leBytes 4 n) s

/-- The link is declared down (R159, R160); `send` where the block declares it itself. -/
def declareDown (cause : Byte) (send : Bool) (s : State) : State :=
  if s.lnk.st != .up && s.lnk.st != .retrain then s
  else
    let s := endWidth 5 (retrainLost s)
    let s := modSeam (fun m => { m with mine := none, want := [], ctlOut := [] }) s
    let s := modLnk (fun l => { l with st := .grace, downAt := s.now, downCause := cause, retrainDue := false, graceFrom := s.mark }) s
    let s := raise C.LNK.LINK_DOWN (detLink cause.toNat s) s
    let s := if send then sendSlp 0x2A [cause.setWidth 32] s else s
    if s.graceUs = 0 then flush s
    else if s.slp.lock || !s.asleep then beginRetrain true s else s

/-- A retrain fails (R158, R159, R162). -/
def failRetrain (s : State) : State :=
  match s.lnk.retraining with
  | none => s
  | some r =>
    let n := s.lnk.retrainFails + 1
    let s := modLnk (fun l => { l with retrainFails := n }) s
    let s := retrainLost (raise C.LNK.RETRAIN_FAIL (detLink 0 s) s)
    if s.lnk.st == .grace then s
    else if n = 3 then declareDown 0x01 true s
    else if r.downAfter then declareDown 0x02 true s
    else beginRetrain true s

/-! ## Resends (R141 to R143, R156) -/

/-- A count that starts a retrain (R156). -/
def retrainAt (n : Nat) : Bool := n == 4 || n == 8 || n == 12

/-- The limits of R156 and R159 for counts that have just risen. (DEDUCED: log entry 23) -/
def replayLimits (counts : List Nat) (s : State) : State :=
  if counts.any (· == 16) then
    if s.lnk.retraining.isSome then
      modLnk (fun l => { l with retraining := l.retraining.map fun r => { r with downAfter := true } }) s
    else declareDown 0x02 true s
  else if counts.any retrainAt then startRetrain true s else s

/-- Flits of the siding are due to be sent again, and REPLAY is raised where one was not due already (R141). (DEDUCED: log entry 23) -/
def resend (p : SideFlit → Bool) (s : State) : State :=
  if s.lnk.siding.all fun f => !p f || f.again then s
  else raise C.LNK.REPLAY (detLink 0 s) (modLnk (fun l => { l with siding := mapIf p (fun f => { f with again := true }) l.siding }) s)

/-- A flit of the siding is sent again: its replay count rises by one (R141), to the limits of R156 and R159. -/
def resent (f : SideFlit) (s : State) : State :=
  replayLimits [f.replays + 1] (modLnk (fun l => { l with
    siding := mapIf (·.seq == f.seq) (fun x => { x with again := false, replays := x.replays + 1 }) l.siding }) s)

/-- The link resumes (R88, R157, R160). -/
def resumeLink (s : State) : State :=
  match s.lnk.retraining with
  | none => s
  | some r =>
    if s.seam.usable = 0 then failRetrain s
    else
      let grace := s.lnk.st == .grace
      let s := modLnk (fun l => { l with
        st := .up, retraining := none, retrainFails := 0, gapFrom := s.mark, replayFrom := s.mark, rxCount := if grace then 0 else l.rxCount, ctlDue := true,
        siding := l.siding.map fun f => { f with again := false, replays := if grace then 0 else f.replays } }) s
      let s := modTlr (fun t => { t with mode := .service }) s
      let s := (sleevesOf 0xFF).foldl (fun s k => endRolling .up k (endRolling .down k s)) s
      let s := wake .retrain 0 [] s
      let s := nextEx (repairAgain s)
      let s := resend (fun _ => true) s
      if r.downAfter then declareDown 0x02 true s else s

/-! ## Retirement (R87) -/

/-- A sleeve is retired in both directions: it leaves the mask and is powered down; with the last usable one the link is down
(R87, R159, R422). (DEDUCED: log entry 18) -/
def retireNow (k : SleeveNo) (s : State) : State :=
  if s.seam.retired.getLsbD k.toNat then s
  else
    let had := s.seam.usable.getLsbD k.toNat
    let m := ~~~(slvBit k)
    let s := leaveSleeves (slvBit k) s
    let about (x : ExKind) : Bool :=
      match x with
      | .subst j _ _ => j == k
      | .retire j => j == k
      | .width _ => false
    let s := modSeam (fun t => { t with
      retired := t.retired ||| slvBit k, usable := t.usable &&& m, powered := t.powered &&& (m ||| s.testMask),
      retireAt := t.retireAt.filter (·.1 != k), lastRetired := some (k, t.dnSlot), subst := t.subst.filter (·.slv != k),
      abandoned := t.abandoned.filter (fun x => !about x.1), mine := t.mine.filter (fun x => !about x.kind) }) s
    let s := raiseAs C.SEAM.SLEEVE_RETIRED 0x01 0x03 (detSeam k.toNat 0xF false (s.slv .down k).spareState.toNat s) s
    let s := nextEx (askRebuild s)
    if had && s.seam.usable = 0 then declareDown 0x03 true s else s

end Sys2Proof.Machine
end

