-- ==== Sys2Proof/Machine/Idn.lean ====
section
/-!
DEFINITION. The identity unit: the key pair, the certificate chain, the SPDM responder and requester, the authorisation keys and the
tests of a signed command (R388 to R404), with the steps of start-up that they end (R412).
-/
namespace Sys2Proof.Machine

/-- The identity unit changed. -/
def modIdn (f : Idn → Idn) (s : State) : State := { s with idn := f s.idn }

/-- Bytes put into a window of registers at an offset, `n` words. -/
def putBytes (base n : Nat) (b : List Byte) (s : State) : State :=
  (List.range n).foldl (fun s i => s.setReg (base + 4 * i) (leWord 32 b (4 * i) 4)) s

/-- The bytes of a window of registers, `n` words. -/
def State.windowBytes (s : State) (base n : Nat) : List Byte := (List.range n).flatMap fun i => bvBytes (s.reg (base + 4 * i))

/-! ## The steps of start-up up to AUTH (R412, R416) -/

/-- A request of the block goes to the station (R398). -/
def sendReq (m : List Byte) (s : State) : State :=
  sendSlp 0x08 (bytesWords m) (modIdn (fun i => { i with req := i.req.map fun r => { r with request := m } }) s)

/-- AUTH begins with GET_VERSION (R398, R412). -/
def startAuth (s : State) : State :=
  let s := modIdn (fun i => { i with
    stationOk := false, blockOk := false,
    req := some { step := 0, msgA := [], msgB := [], chain := [], request := [] } }) (toStep 5 s)
  sendReq [0x10, 0x84, 0, 0] s

/-- The step after FW_LOAD that is in force: KEY, CHAIN or AUTH (R412). (DEDUCED: log entry 51) -/
def advance (s : State) : State :=
  if (s.boot.step = 2 && s.sbx.ready) || s.boot.step = 3 || s.boot.step = 4 then
    if s.idn.key != .ready then toStep 3 s
    else if s.idn.chain.isEmpty then toStep 4 s
    else startAuth s
  else s

/-- Start-up leaves a hold (R416): it negotiates again, or goes on at the step that held where it had not come to negotiate.
(DEDUCED: log entry 51) -/
def resumeStart (s : State) : State :=
  if s.idn.auth == .passed then negotiate true s
  else
    let s := advance (toStep s.boot.heldAt s)
    if s.boot.step = 5 then startAuth s else s

/-- Start-up has not come to a hold. -/
def State.starting (s : State) : Bool := s.boot.step != 0 && s.boot.step != 0xF

/-! ## The key pair (R389 to R391) -/

/-- The private key that the PUF array gives with a SALT and a CODE (R389). (PRESUMED: log entry 54) -/
def pufPriv (salt : BitVec 256) (code : BitVec 7424) : BitVec 384 :=
  BitVec.ofNat 384 (secretOf (Config.extraBits (Config.pufSeed Config.puf code salt)))

/-- The public key of a SALT and a CODE: 97 bytes (R389). -/
def pufKeyBytes (salt : BitVec 256) (code : BitVec 7424) : List Byte := pubBytes (pufPriv salt code).toNat

/-- The CODE that the PUF array gives with a SALT (R390). -/
def pufCodeOf (salt : BitVec 256) : BitVec 7424 := Config.pufCode Config.puf salt

/-- The first failing check of a helper image, 0 for none (R389). -/
def helperReject (h : List Byte) : BitVec 4 :=
  if leAt h 0 4 != 0x50465548 || leAt h 4 2 != 0x0300 || leAt h 6 2 != 1024 || !zeroAt h 1016 4 then 1
  else if leWord 32 h 1020 4 != crc32 (h.take 1020) then 2
  else if digestBytes (sha384 (pufKeyBytes (leWord 256 h 8 32) (leWord 7424 h 88 928))) != slice h 40 48 then 3
  else 0

/-- The key is there: KEY_READY, and start-up goes on (R389, R412). -/
def keyReady (d : BitVec 384) (s : State) : State :=
  advance (raise C.IDN.KEY_READY 0 (modIdn (fun i => { i with
    key := .ready, reject := 0, privkey := d, pubkey := pubBytes d.toNat, enrolling := false }) s))

/-- The helper image at an enrolment (R390). -/
def helperImage (salt : BitVec 256) (code : BitVec 7424) : List Byte :=
  let b := leBytes 4 0x50465548 ++ leBytes 2 0x0300 ++ leBytes 2 1024 ++ bvBytes salt ++ digestBytes (sha384 (pufKeyBytes salt code))
    ++ bvBytes code ++ List.replicate 4 0
  b ++ leBytes 4 (crc32 b).toNat

/-- The window of an authorisation key slot. -/
def authWin (slot : Nat) : Nat := if slot = 0 then R.IDN_AUTHKEY_WIN_0 else R.IDN_AUTHKEY_WIN_1

/-- A slot is valid (R399). -/
def State.authValid (s : State) (slot : Nat) : Bool := if slot = 0 then s.idn.valid0 else s.idn.valid1

/-- The 97 bytes of an authorisation key. -/
def State.authKey (s : State) (slot : Nat) : List Byte := (s.windowBytes (authWin slot) 25).take 97

/-- A slot is locked: valid when its key is a point on P-384 (R399). (DEDUCED: log entry 64) -/
def lockSlot (slot : Nat) (s : State) : State :=
  if (if slot = 0 then s.idn.locked0 else s.idn.locked1) then s
  else
    let ok := (pointOf (s.authKey slot)).isSome
    let s := modIdn (fun i => if slot = 0 then { i with locked0 := true, valid0 := ok } else { i with locked1 := true, valid1 := ok }) s
    if ok then s else raise C.IDN.KEY_FAIL (detSec 0 0 slot 0) s

/-- A write of IDN_CTRL (R390, R391, R399, R403). (DEDUCED: log entry 64) -/
def idnCtrlWrite (data : Word) (s : State) : State :=
  let s := if Sys2Proof.bit data 2 then lockSlot 0 s else s
  let s := if Sys2Proof.bit data 3 then lockSlot 1 s else s
  if (Sys2Proof.bit data 0 || Sys2Proof.bit data 1) && s.idn.key == .absent then
    modIdn (fun i => { i with key := .underway, enrolling := !Sys2Proof.bit data 0 }) s
  else s

/-- DERIVE (R389). (DEDUCED: log entry 64) -/
def execDerive (data : Word) (s : State) : Host.Outcome State Fault Refusal :=
  whenFunctional s fun s => portWrite R.IDN_CTRL (Sys2Proof.bit data 0) (idnCtrlWrite data) s

/-- ENROLL (R390). (DEDUCED: log entry 64) -/
def execEnroll (data : Word) (s : State) : Host.Outcome State Fault Refusal :=
  whenFunctional s fun s => portWrite R.IDN_CTRL (Sys2Proof.bit data 1) (idnCtrlWrite data) s

/-- AUTHKEY_LOCK (R399). (DEDUCED: log entry 64) -/
def execAuthkeyLock (data : Word) (s : State) : Host.Outcome State Fault Refusal :=
  whenFunctional s fun s =>
    portWrite R.IDN_CTRL (Sys2Proof.bit data 2 || Sys2Proof.bit data 3) (idnCtrlWrite data) s

/-- DERIVE_DONE (R389, R416): the helper image is checked and the key derived. -/
def execDeriveDone (s : State) : Host.Outcome State Fault Refusal :=
  whenFunctional s fun s =>
    if s.idn.key == .underway && !s.idn.enrolling then
      let h := s.windowBytes R.IDN_HELPER_WIN 256
      let r := helperReject h
      if r = 0 then keyReady (pufPriv (leWord 256 h 8 32) (leWord 7424 h 88 928)) s
      else
        let s := raise C.IDN.KEY_FAIL (detSec 0 r.toNat 0 0) (modIdn (fun i => { i with key := .failed, reject := r }) s)
        if s.starting then holdStart 2 0x0C s else s
    else s

/-- ENROLL_DONE (R390). -/
def execEnrollDone (s : State) : Host.Outcome State Fault Refusal :=
  whenFunctional s fun s =>
    if s.idn.key == .underway && s.idn.enrolling then
      let salt := Config.enrollSalt s.free
      let code := pufCodeOf salt
      let s := putBytes R.IDN_HELPER_WIN 256 (helperImage salt code) s.draw
      keyReady (pufPriv salt code) (raise C.IDN.ENROLLED 0 s)
    else s

/-! ## Measurements and the chain as SPDM shows them (R394, R397; DSP0274 1.2) -/

/-- The certificate chain of slot 0: length, reserved, hash of the root certificate, certificates (R394). -/
def spdmChain (chain : List Byte) : List Byte :=
  let root := match certOf chain with
    | some (c, _) => c.whole
    | none => []
  leBytes 2 (52 + chain.length) ++ [0, 0] ++ digestBytes (sha384 root) ++ chain

/-- A DMTF measurement block: index, type (bit 7 for a raw form) and value (DSP0274). (PRESUMED: log entry 53) -/
def measBlock (index : Nat) (type : Nat) (v : List Byte) : Nat × List Byte :=
  (index, leBytes 1 index ++ [0x01] ++ leBytes 2 (3 + v.length) ++ leBytes 1 type ++ leBytes 2 v.length ++ v)

/-- The box that holds the token. -/
def State.activeBox (s : State) : BoxRec := match s.sbx.holder with | .a => s.sbx.a | .b => s.sbx.b

/-- The other box. -/
def State.otherBox (s : State) : BoxRec := match s.sbx.holder with | .a => s.sbx.b | .b => s.sbx.a

/-- An authorisation key as measurement 6 takes it: 97 zero bytes for an empty slot. -/
def State.slotKey (s : State) (slot : Nat) : List Byte := if s.authValid slot then s.authKey slot else List.replicate 97 0

/-- The measurements present (R397). -/
def State.measurements (s : State) : List (Nat × List Byte) :=
  let v := s.activeBox.ver
  [measBlock 1 0 (digestBytes Config.maskRomHash), measBlock 2 1 (digestBytes s.activeBox.imageHash)]
    ++ (if s.otherBox.st == .standby then [measBlock 3 1 (digestBytes s.otherBox.imageHash)] else [])
    ++ [measBlock 4 0x84 [3, 0, 0x41, 0x30, Sys2Proof.bits v 16 8, Sys2Proof.bits v 8 8, Sys2Proof.bits v 0 8, s.boot.gen.setWidth 8],
        measBlock 5 0x82 (leBytes 1 s.par.ports ++ leBytes 1 s.par.ratio ++ leBytes 1 (b2n s.par.orient180)
          ++ leBytes 1 (if s.par.wsp = .pins then 1 else 0) ++ leBytes 1 (s.par.regClkMax / 2)),
        measBlock 6 3 (digestBytes (sha384 (s.slotKey 0 ++ s.slotKey 1)))]

/-- What is signed: SHA-384 of the 100-byte context and the hash of the transcript (DSP0274 1.2). -/
def signDigest (context : List Byte) (transcript : List Byte) : BitVec 384 :=
  let p : List Byte := [0x64, 0x6D, 0x74, 0x66, 0x2D, 0x73, 0x70, 0x64, 0x6D, 0x2D, 0x76, 0x31, 0x2E, 0x32, 0x2E, 0x2A]
  sha384 (p ++ p ++ p ++ p ++ List.replicate (36 - context.length) 0 ++ context ++ digestBytes (sha384 transcript))

/-- "responder-challenge_auth signing". (PRESUMED: log entry 53) -/
def ctxChallenge : List Byte :=
  [0x72, 0x65, 0x73, 0x70, 0x6F, 0x6E, 0x64, 0x65, 0x72, 0x2D, 0x63, 0x68, 0x61, 0x6C, 0x6C, 0x65, 0x6E, 0x67, 0x65, 0x5F, 0x61,
   0x75, 0x74, 0x68, 0x20, 0x73, 0x69, 0x67, 0x6E, 0x69, 0x6E, 0x67]

/-- "responder-measurements signing". (PRESUMED: log entry 53) -/
def ctxMeasurements : List Byte :=
  [0x72, 0x65, 0x73, 0x70, 0x6F, 0x6E, 0x64, 0x65, 0x72, 0x2D, 0x6D, 0x65, 0x61, 0x73, 0x75, 0x72, 0x65, 0x6D, 0x65, 0x6E, 0x74,
   0x73, 0x20, 0x73, 0x69, 0x67, 0x6E, 0x69, 0x6E, 0x67]

/-! ## The responder (R395, R396) -/

/-- What a request gives: the connection after, a response, the digest to be signed and appended to it, and whether a nonce was
drawn. -/
structure SpdmAnswer where
  conn : SpdmConn
  response : List Byte
  sign : Option (BitVec 384)
  drew : Bool
deriving DecidableEq, Repr

/-- An ERROR response (DSP0274): code and data. (PRESUMED: log entry 53) -/
def spdmError (c : SpdmConn) (ver code data : Byte) : SpdmAnswer :=
  { conn := c, response := [ver, 0x7F, code, data], sign := none, drew := false }

/-- The bytes that a request has by its own fields; none for a request the block does not support (DSP0274).
(PRESUMED: log entry 53) -/
def spdmReqLen (m : List Byte) : Option Nat :=
  let code := leAt m 1 1
  if code = 0x84 then some 4
  else if code = 0xE1 then some 20
  else if code = 0xE3 then some (max 32 (leAt m 4 2))
  else if code = 0x82 then some 8
  else if code = 0x83 then some 36
  else if code = 0xE0 then some (if (leAt m 2 1).testBit 0 then 37 else 4)
  else none

/-- GET_CAPABILITIES answered: CERT_CAP, CHAL_CAP and MEAS_CAP with signature, CTExponent 12 (R395). (PRESUMED: log entry 53) -/
def spdmCaps (c : SpdmConn) (m : List Byte) : SpdmAnswer :=
  if c.st != .version then spdmError c 0x12 0x04 0
  else if leAt m 12 4 < 42 || leAt m 16 4 < leAt m 12 4 then spdmError c 0x12 0x01 0
  else
    let r : List Byte := [0x12, 0x61, 0, 0, 0, 12, 0, 0] ++ leBytes 4 0x16 ++ leBytes 4 1000 ++ leBytes 4 1000
    { conn := { c with st := .capabilities, msgA := c.msgA ++ m ++ r }, response := r, sign := none, drew := false }

/-- NEGOTIATE_ALGORITHMS answered (R395). (PRESUMED: log entry 53) -/
def spdmAlgs (c : SpdmConn) (m : List Byte) : SpdmAnswer :=
  if c.st != .capabilities then spdmError c 0x12 0x04 0
  else if !((leAt m 6 1).testBit 0 && (leAt m 8 4).testBit 7 && (leAt m 12 4).testBit 1) then spdmError c 0x12 0x07 0xE3
  else
    let r : List Byte := [0x12, 0x63, 0, 0, 36, 0, 1, 0] ++ leBytes 4 4 ++ leBytes 4 0x80 ++ leBytes 4 2 ++ List.replicate 16 0
    { conn := { c with st := .negotiated, msgA := c.msgA ++ m ++ r }, response := r, sign := none, drew := false }

/-- GET_CERTIFICATE answered: slot 0, in portions of at most 992 bytes (R394, R395). (PRESUMED: log entry 53) -/
def spdmCert (c : SpdmConn) (m : List Byte) (s : State) : SpdmAnswer :=
  let all := spdmChain s.idn.chain
  let off := leAt m 4 2
  if leAt m 2 1 % 16 != 0 || s.idn.chain.isEmpty || all.length ≤ off then spdmError c 0x12 0x01 0
  else
    let part := ((all.drop off).take (min 992 (leAt m 6 2)))
    let r : List Byte := [0x12, 0x02, 0, 0] ++ leBytes 2 part.length ++ leBytes 2 (all.length - off - part.length) ++ part
    { conn := { c with msgB := c.msgB ++ m ++ r, msgL := [] }, response := r, sign := none, drew := false }

/-- The measurement summary hash of a CHALLENGE (R395): none, TCB or all. (PRESUMED: log entry 53) -/
def State.summary (s : State) (type : Nat) : List Byte :=
  if type = 0xFF then digestBytes (sha384 (s.measurements.flatMap (·.2)))
  else if type = 1 then digestBytes (sha384 ((s.measurements.filter fun x => Config.tcbIndex x.1).flatMap (·.2)))
  else []

/-- CHALLENGE answered: the response leaves once it is signed (R395, R396). (PRESUMED: log entry 53) -/
def spdmChallenge (c : SpdmConn) (m : List Byte) (s : State) : SpdmAnswer :=
  let type := leAt m 3 1
  if leAt m 2 1 % 16 != 0 || s.idn.chain.isEmpty || (type != 0 && type != 1 && type != 0xFF) then spdmError c 0x12 0x01 0
  else
    let r : List Byte := [0x12, 0x03, 0, 1] ++ digestBytes (sha384 (spdmChain s.idn.chain)) ++ bvBytes (Config.nonce s.free)
      ++ s.summary type ++ [0, 0]
    { conn := { c with msgB := [], msgL := [] }, response := r,
      sign := some (signDigest ctxChallenge (c.msgA ++ c.msgB ++ m ++ r)), drew := true }

/-- GET_MEASUREMENTS answered (R395, R397). (PRESUMED: log entry 53) -/
def spdmMeas (c : SpdmConn) (m : List Byte) (s : State) : SpdmAnswer :=
  let sig := (leAt m 2 1).testBit 0
  let ix := leAt m 3 1
  let all := s.measurements
  let bs := if ix = 0 then [] else if ix = 0xFF then all else all.filter (·.1 == ix)
  if (ix != 0 && bs.isEmpty) || (sig && (leAt m 36 1 % 16 != 0 || s.idn.chain.isEmpty)) then spdmError c 0x12 0x01 0
  else
    let rec0 := bs.flatMap (·.2)
    let r : List Byte := [0x12, 0x60] ++ leBytes 1 (if ix = 0 then all.length else 0) ++ [0] ++ leBytes 1 bs.length
      ++ leBytes 3 rec0.length ++ rec0 ++ bvBytes (Config.nonce s.free) ++ [0, 0]
    let l := c.msgL ++ m ++ r
    if sig then
      { conn := { c with msgL := [] }, response := r, sign := some (signDigest ctxMeasurements (c.msgA ++ l)), drew := true }
    else { conn := { c with msgL := l }, response := r, sign := none, drew := true }

/-- A request answered (R395, R396, R403): the order of the SPDM specification, and every option beyond R395 refused.
(PRESUMED: log entry 53) -/
def spdmAnswer (c : SpdmConn) (msg : List Byte) (s : State) : SpdmAnswer :=
  let ver := msg.headD 0
  let code := leAt msg 1 1
  match spdmReqLen msg with
  | none =>
    if c.st == .resync then spdmError c 0x12 0x43 0
    else if ver != 0x12 then spdmError c 0x12 0x41 0
    else spdmError c 0x12 0x07 (BitVec.ofNat 8 code)
  | some n =>
    let m := msg.take n
    if code = 0x84 then
      if ver != 0x10 then spdmError c 0x10 0x41 0
      else if msg.length < n then spdmError c 0x10 0x01 0
      else
        let r : List Byte := [0x10, 0x04, 0, 0, 0, 1, 0, 0x12]
        { conn := { c with st := .version, msgA := m ++ r, msgB := [], msgL := [] }, response := r, sign := none, drew := false }
    else if c.st == .resync then spdmError c 0x12 0x43 0
    else if ver != 0x12 then spdmError c 0x12 0x41 0
    else if msg.length < n then spdmError c 0x12 0x01 0
    else if code = 0xE1 then spdmCaps c m
    else if code = 0xE3 then spdmAlgs c m
    else if c.st != .negotiated then spdmError c 0x12 0x04 0
    else if code = 0x82 then spdmCert c m s
    else if code = 0x83 then spdmChallenge c m s
    else spdmMeas c m s

/-- A connection at its start. -/
def SpdmConn.fresh (p : SpdmPeer) : SpdmConn := { peer := p, st := .start, msgA := [], msgB := [], msgL := [] }

/-- The peer is a die. -/
def SpdmPeer.isRemote : SpdmPeer → Bool
  | .remote _ => true
  | _ => false

/-- A connection used: it becomes the last of the list; a fifth remote requester replaces the one used longest ago (R396). -/
def useConn (c : SpdmConn) (cs : List SpdmConn) : List SpdmConn :=
  let cs := cs.filter fun x => x.peer != c.peer
  let full := c.peer.isRemote && 4 ≤ (cs.filter (·.peer.isRemote)).length
  (if full then cs.eraseP (·.peer.isRemote) else cs) ++ [c]

/-- A response leaves: to the station, or as the reply of its command. -/
def sendAnswer (ref : Option CmdRef) (m : List Byte) (s : State) : State :=
  match ref with
  | some r => complete r 0 m s
  | none => sendSlp 0x08 (bytesWords m) s

/-- A request of a peer answered, or answered once it is signed. -/
def spdmServe (p : SpdmPeer) (ref : Option CmdRef) (msg : List Byte) (s : State) : State :=
  let c := (s.idn.conns.find? (·.peer == p)).getD (SpdmConn.fresh p)
  let a := spdmAnswer c msg s
  let s := modIdn (fun i => { i with conns := useConn a.conn i.conns }) (if a.drew then s.draw else s)
  match a.sign with
  | none => sendAnswer ref a.response s
  | some d => modIdn (fun i => { i with signing := i.signing ++ [{ ref := ref, response := a.response, digest := d }] }) s

/-- SPDM_EXCHANGE (R336, R395). -/
def execSpdmExchange (ref : CmdRef) (s : State) : Host.Outcome State Fault Refusal :=
  whenFunctional s fun s => withCmd ref 0x0801 s fun p s =>
    if s.idn.key != .ready then finish ref 0x0200 s
    else
      let peer := match ref with
        | .tag _ => SpdmPeer.host
        | .context n => SpdmPeer.remote (((s.ctx n).map (·.src)).getD 0)
      spdmServe peer (some ref) p (addWait ref .spdm false s)

/-! ## Mutual authentication (R398) -/

/-- Start-up holds: the block rejects the station, or hears that it is rejected (R398, R416). -/
def authFailed (s : State) : State :=
  let s := raise C.IDN.STATION_AUTH_FAIL (detSec 0 0 0 0) (modIdn (fun i => { i with auth := .failed, req := none }) s)
  if s.starting then holdStart 3 0x0C s else s

/-- Both directions have ended well: NEGOTIATED begins (R398, R412). -/
def authPassed (s : State) : State :=
  if s.boot.step = 5 && s.idn.stationOk && s.idn.blockOk then
    negotiate false (raise C.IDN.STATION_AUTH_OK 0 (modIdn (fun i => { i with auth := .passed, req := none }) s))
  else s

/-- The bytes that a response has by its own fields (DSP0274), up to the bytes there are. (PRESUMED: log entry 53) -/
def spdmRespLen (m : List Byte) : Nat :=
  let code := leAt m 1 1
  if code = 0x04 then 6 + 2 * leAt m 5 1
  else if code = 0x61 then 20
  else if code = 0x63 then leAt m 4 2
  else if code = 0x02 then 8 + leAt m 4 2
  else if code = 0x03 then 86 + leAt m 84 2 + 96
  else 4

/-- The leaf's serialNumber is four hexadecimal digits: its number. -/
def hex4 (b : List Byte) : Option Nat :=
  let dig (c : Byte) : Option Nat :=
    let n := c.toNat
    if 48 ≤ n && n ≤ 57 then some (n - 48) else if 65 ≤ n && n ≤ 70 then some (n - 55)
    else if 97 ≤ n && n ≤ 102 then some (n - 87) else none
  if b.length != 4 then none
  else b.foldl (fun acc c => acc.bind fun n => (dig c).map fun d => 16 * n + d) (some 0)

/-- The station's chain as the block accepts it: the leaf, when the root's key has the hash in mask ROM and the signatures verify
(R392, R398). (DEDUCED: log entry 64) -/
def stationLeaf (c : List Byte) : Option Cert :=
  let certs := c.drop 52
  match chainOk certs with
  | some (root :: rest) =>
    if leAt c 0 2 == c.length && slice c 4 48 == digestBytes (sha384 root.whole) && sha384 root.key == Config.stationRootHash then
      some ((root :: rest).getLastD root)
    else none
  | _ => none

/-- A response of the station to the block's request (R398). (PRESUMED: log entry 53) -/
def spdmResponse (msg : List Byte) (s : State) : State :=
  match s.idn.req with
  | none => s
  | some r =>
    let n := spdmRespLen msg
    let m := msg.take n
    let code := leAt m 1 1
    let next (r' : SpdmReq) (q : List Byte) : State := sendReq q (modIdn (fun i => { i with req := some r' }) s)
    let both := r.request ++ m
    if msg.length < n then authFailed s
    else if r.step = 0 then
      let has := (List.range (leAt m 5 1)).any fun i => leAt m (7 + 2 * i) 1 == 0x12
      if code = 0x04 && has then
        next { r with step := 1, msgA := both } ([0x12, 0xE1, 0, 0, 0, 12, 0, 0] ++ leBytes 4 0 ++ leBytes 4 1000 ++ leBytes 4 1000)
      else authFailed s
    else if r.step = 1 then
      if code = 0x61 && (leAt m 8 4).testBit 1 && (leAt m 8 4).testBit 2 then
        next { r with step := 2, msgA := r.msgA ++ both }
          ([0x12, 0xE3, 0, 0, 32, 0, 1, 0] ++ leBytes 4 0x80 ++ leBytes 4 2 ++ List.replicate 16 0)
      else authFailed s
    else if r.step = 2 then
      if code = 0x63 && leAt m 12 4 == 0x80 && leAt m 16 4 == 2 then
        next { r with step := 3, msgA := r.msgA ++ both } ([0x12, 0x82, 0, 0, 0, 0] ++ leBytes 2 992)
      else authFailed s
    else if r.step = 3 then
      let chain := r.chain ++ slice m 8 (leAt m 4 2)
      let r' := { r with msgB := r.msgB ++ both, chain := chain }
      if code != 0x02 || leAt m 4 2 = 0 then authFailed s
      else if leAt m 6 2 = 0 then
        sendReq ([0x12, 0x83, 0, 0] ++ bvBytes (Config.nonce s.free)) (modIdn (fun i => { i with req := some { r' with step := 4 } }) s).draw
      else next r' ([0x12, 0x82, 0, 0] ++ leBytes 2 chain.length ++ leBytes 2 992)
    else
      match stationLeaf r.chain with
      | none => authFailed s
      | some leaf =>
        let d := signDigest ctxChallenge (r.msgA ++ r.msgB ++ r.request ++ m.take (n - 96))
        let serial := leaf.serial.getD []
        if code = 0x03 && leAt m 2 1 % 16 = 0 && slice m 4 48 == digestBytes (sha384 r.chain) && ecdsaOk leaf.key d (m.drop (n - 96))
            && (hex4 serial).isSome then
          authPassed (modIdn (fun i => { i with stationOk := true, serial := serial, req := none }) s)
        else authFailed s

/-- SPDM_MESSAGE (R398, R408): a request of the station, a response to the block, or an ERROR, with which the station rejects it. -/
def execSpdmMessage (words : List Word) (s : State) : Host.Outcome State Fault Refusal :=
  whenMsg s fun s =>
    let m := wordsBytes words
    if !s.ctlOn || words = [] || 255 < words.length then s
    else if (leAt m 1 1).testBit 7 then (if s.idn.key == .ready then spdmServe .station none m s else s)
    else if s.boot.step != 5 then s
    else if leAt m 1 1 = 0x7F then authFailed s
    else spdmResponse m s

/-- The block's signature of a digest (R396); the draw's number stands for its random bits. -/
def State.signature (s : State) (d : BitVec 384) : List Byte := ecdsaSign s.idn.privkey.toNat d (Config.signBits s.free) 16 0

/-- SPDM_SIGN_DONE (R396): the oldest response that waits for its signature is signed and leaves. The block's answer to the
station's CHALLENGE ends that direction of the authentication (R398). -/
def execSpdmSignDone (s : State) : Host.Outcome State Fault Refusal :=
  whenFunctional s fun s =>
    match s.idn.signing with
    | [] => s
    | x :: xs =>
      let sig := s.signature x.digest
      let s := sendAnswer x.ref (x.response ++ sig) (modIdn (fun i => { i with signing := xs }) s).draw
      if x.ref.isNone && leAt x.response 1 1 = 0x03 && s.boot.step = 5 then authPassed (modIdn (fun i => { i with blockOk := true }) s)
      else s

/-! ## Commands (R336, R392, R393) -/

/-- IDN_KEY_GET. -/
def execIdnKeyGet (ref : CmdRef) (s : State) : Host.Outcome State Fault Refusal :=
  whenFunctional s fun s => withCmd ref 0x0802 s fun _ s =>
    if s.idn.key != .ready then finish ref 0x0200 s else complete ref 0 ([0x02, 0, 0] ++ s.idn.pubkey) s

/-- A chain installed: CHAIN_SET, every SPDM connection back at its start, and start-up goes on (R393, R403, R412). -/
def installChain (chain : List Byte) (s : State) : State :=
  advance (raise C.IDN.CHAIN_SET 0 (modIdn (fun i => { i with chain := chain, conns := i.conns.map fun c => { c with st := .resync } }) s))

/-- IDN_CHAIN_SET (R336, R392, R393): `fetched` tells whether the block reads of the chain succeeded. (DESIGN CHOICE: log entry 12) -/
def execIdnChainSet (ref : CmdRef) (fetched : Bool) (chain : List Byte) (s : State) : Host.Outcome State Fault Refusal :=
  whenFunctional s fun s => withCmd ref 0x0803 s fun p s =>
    let len := leAt p 10 2
    if s.idn.key != .ready then finish ref 0x0200 s
    else if len = 0 || 8192 < len || 7 < leAt p 8 1 then finish ref 0x0104 s
    else if !fetched || !s.hasPort (leWord 3 p 8 1) then finish ref 0x0307 s
    else
      let c := slice chain 0 len
      match chainOk c with
      | some (x :: xs) =>
        if ((x :: xs).getLastD x).key == s.idn.pubkey then finish ref 0 (installChain c s) else finish ref 0x0410 s
      | _ => finish ref 0x0104 s

/-! ## Signed commands (R400, R401) -/

/-- The five tests of R401 on a command's bytes: the status of the first that fails, 0 when all pass, and the state after.
(DEDUCED: log entry 44) -/
def authCheck (c : List Byte) (s : State) : BitVec 16 × State :=
  let len := cmdLength c
  let ps := cmdParams c
  let b := ps.drop (len - 128)
  let slot := leAt b 0 1
  let ctr := leAt b 8 8
  let exp := leAt b 16 8
  let life := 1000000 * atLeastOne (s.fld F.IDN_AUTH_CFG.MAX_LIFE_MS)
  let last := if slot = 0 then s.idn.ctr0 else s.idn.ctr1
  let msg := c.take 2 ++ (c.drop 3).take 1 ++ (c.drop 6).take 2 ++ ps.take (len - 128) ++ b.take 32
  if !(cmdFlags c).getLsbD 1 || len < 128 then (0x0401, s)
  else if 1 < slot || !s.authValid slot then (0x0403, s)
  else if !zeroAt b 2 6 || !zeroAt b 24 8 || !((leAt b 1 1).testBit 7 || leAt b 1 1 % 128 == (tileOf s.own).toNat) then (0x0401, s)
  else if s.unlocked || exp < s.now || s.now + life < exp then
    (0x0401, raise C.IDN.AUTH_EXPIRED (detCmd c 0x0401) s)
  else if !ecdsaOk (s.authKey slot) (sha384 msg) (slice b 32 96) then (0x0401, s)
  else if ctr ≤ last.toNat then (0x0402, raise C.IDN.AUTH_REPLAY (detCmd c 0x0402) s)
  else
    let v : BitVec 64 := BitVec.ofNat 64 ctr
    (0, modIdn (fun i => if slot = 0 then { i with ctr0 := v } else { i with ctr1 := v }) s)

/-! ## Register views (R404) -/

/-- IDN_CTRL. -/
def State.idnCtrl (s : State) : Word :=
  BitVec.ofNat 32 (8 * b2n s.idn.locked1 + 4 * b2n s.idn.locked0 + 2 * b2n (s.idn.key == .underway && s.idn.enrolling)
    + b2n (s.idn.key == .underway && !s.idn.enrolling))

/-- KEY_STATE. -/
def keyCode : KeySt → Nat
  | .absent => 0
  | .underway => 1
  | .ready => 2
  | .failed => 3

/-- STATION_AUTH. -/
def authCode : AuthSt → Nat
  | .notRun => 0
  | .passed => 1
  | .failed => 2

/-- IDN_STATUS. -/
def State.idnStatus (s : State) : Word :=
  let i := s.idn
  BitVec.ofNat 32 (keyCode i.key * 2 ^ 30 + i.reject.toNat * 2 ^ 24 + b2n (!i.chain.isEmpty) * 2 ^ 23 + authCode i.auth * 2 ^ 21
    + b2n i.valid1 * 2 ^ 20 + b2n i.valid0 * 2 ^ 19 + i.chain.length)

/-- A word of IDN_PUBKEY_WIN. -/
def State.pubkeyWord (s : State) (i : Nat) : Word := if s.idn.key == .ready then leWord 32 s.idn.pubkey (4 * i) 4 else 0

end Sys2Proof.Machine
end

