-- ==== Sys2Proof/Machine/Seam.lean ====
section
/-!
DEFINITION. The meanings of the seam's commands: failed lanes, seam control flits, width changes and the test modes (R70 to
R103).
-/
namespace Sys2Proof.Machine

/-! ## Lane failure (R70, R84) -/

/-- A receive lane can fail: its sleeve is powered and under no test. -/
def State.listens (s : State) (k : SleeveNo) : Bool := (s.seam.powered &&& ~~~s.testMask).getLsbD k.toNat

/-- LOSS_OF_SIGNAL (R84): the lane is marked failed and goes to its repair. -/
def execLossOfSignal (lane : LaneNo) (s : State) : Host.Outcome State Fault Refusal :=
  whenLane lane s fun s => if s.listens (slvOf lane) then failLane lane s else s

/-- PHASE_TRACKER_LIMIT (R84): the lane is marked failed and goes to its repair. -/
def execPhaseTrackerLimit (lane : LaneNo) (s : State) : Host.Outcome State Fault Refusal :=
  whenLane lane s fun s => if s.listens (slvOf lane) then failLane lane s else s

/-- STUCK_LEVELS (R84): the lane is marked failed and goes to its repair. -/
def execStuckLevels (lane : LaneNo) (s : State) : Host.Outcome State Fault Refusal :=
  whenLane lane s fun s => if s.listens (slvOf lane) then failLane lane s else s

/-- FORWARDED_CLOCK_FAIL (R70, R87). -/
def execForwardedClockFail (slv : SleeveNo) (s : State) : Host.Outcome State Fault Refusal :=
  whenFunctional s fun s => if s.listens slv then failClock slv s else s

/-! ## Control flits received (R81, R82) -/

/-- A control flit breaks R81. (DEDUCED: log entry 17) -/
def SeamCtl.malformed (c : SeamCtl) : Bool :=
  let switches := c.type == 0x02 || c.type == 0x04 || c.type == 0x06 || c.type == 0x07
  c.type == 0 || 8 < c.type.toNat || c.rest != 0 || c.rsv1 != 0 || c.rsv2 != 0
    || (switches && (c.after.toNat < 16 || 1023 < c.after.toNat))
    || ((c.type == 0x01 || c.type == 0x02) && (c.reason == 3 || 7 < c.lane.toNat))

/-- A NAK queued. -/
def nak (xid reason : Byte) (s : State) : State := queueCtl (ctlFlit 0x08 xid 0 0 0 0 reason 0) s

/-- The payload of a good control flit, of a TYPE, is acted on while the seam carries them: further copies in its slot are ignored
(R80), and a malformed one is answered with NAK 0x05 and is an unattributed event (R81). (DEDUCED: log entry 17) -/
def takePayload (type : Byte) (p : BitVec 1920) (s : State) (k : SeamCtl → State → State) : State :=
  let c := SeamCtl.ofBits p
  if !s.talks || s.seam.ctlSeen = some (s.seam.dnSlot, p) then s
  else
    let s := modSeam (fun m => { m with ctlSeen := some (m.dnSlot, p) }) s
    if c.malformed then raiseSeam C.SEAM.UNATTRIBUTED (nak c.xid 0x05 s)
    else if c.type = type then k c s else s

/-- A control flit of a TYPE received on a sleeve (R79 to R81, R137). -/
def takeCtl (type : Byte) (slv : SleeveNo) (line : BitVec 2304) (s : State) (k : SeamCtl → State → State) : State :=
  onFlit 4 slv line id (fun f s => takePayload type (payloadOf f) s k) s

/-- An answer to a request, kept for its repetition (R82). (DEDUCED: log entry 18) -/
def answer (c : SeamCtl) (p : BitVec 1920) (s : State) : State :=
  queueCtl p (modSeam (fun m => { m with answered := some (c.type, c.xid, p) }) s)

/-- A request answered with a NAK. (DEDUCED: log entry 17) -/
def answerNak (c : SeamCtl) (reason : Byte) (s : State) : State := answer c (ctlFlit 0x08 c.xid 0 0 0 0 reason 0) s

/-- A request of the station: one received again is answered again and not acted on (R82). (DEDUCED: log entries 17, 18) -/
def takeReq (type : Byte) (slv : SleeveNo) (line : BitVec 2304) (s : State) (k : SeamCtl → State → State) : State :=
  takeCtl type slv line s fun c s =>
    match s.seam.answered with
    | some (t, x, p) => if t = c.type && x = c.xid then queueCtl p s else k c s
    | none => k c s

/-- SUBST_REQ for darning (R84, R85, R87, R23). -/
def darnUp (c : SeamCtl) (s : State) : State :=
  let v := s.slv .up c.sleeve
  let j := c.lane.toNat
  let s := if v.failed.getLsbD j then s
    else raiseLane C.SEAM.LANE_FAILED .up c.sleeve j
      (askRebuild (modSlv .up c.sleeve (fun v => { v with failed := v.failed ||| (1#9 <<< j) }) s))
  if !s.flag F.SEAM_CTRL.DARN_EN then answerNak c 0x07 s
  else if v.spareState = 0 || v.spareState = 2 then
    answer c (ctlFlit 0x02 c.xid c.sleeve c.lane 0 0 0 s.switchAfter) s
  else answerNak c 0x06 s

/-- Sleeves whose lanes can be repaired: those in use, and those that a width change is adding (R85, R94). -/
def State.mendable (s : State) : Byte := s.seam.usable ||| (s.seam.width.map (·.added)).getD 0

/-- SUBST_REQ (R82, R84, R85, R87, R94, R115): the station asks for an upstream lane to go onto its spare, or back.
(DEDUCED: log entry 17) -/
def execSubstReq (got : SlvLine) (s : State) : Host.Outcome State Fault Refusal :=
  whenFunctional s fun s => takeReq 0x01 got.slv got.line s fun c s =>
    let v := s.slv .up c.sleeve
    let ack := answer c (ctlFlit 0x02 c.xid c.sleeve c.lane c.reason 0 0 s.switchAfter)
    if !s.mendable.getLsbD c.sleeve.toNat then answerNak c 0x02 s
    else if c.reason = 0 then darnUp c s
    else if c.reason = 1 then if v.spareState = 0 then ack s else answerNak c 0x06 s
    else if v.spareState = 2 && v.spareLane = c.lane then ack s else answerNak c 0x06 s

/-- Consecutive abandonments of an exchange are forgotten when it succeeds (R88). -/
def forgiven (k : ExKind) (s : State) : State := modSeam (fun m => { m with abandoned := m.abandoned.filter (·.1 != k) }) s

/-- The block's own exchange of an XID. -/
def State.exOf (s : State) (xid : Byte) : Option ExKind := (s.seam.mine.filter (fun x => x.xid == xid)).map (·.kind)

/-- The downstream slot that an ACK or CFM names. -/
def State.downAt (s : State) (c : SeamCtl) : BitVec 32 := s.seam.dnSlot + c.after.setWidth 32

/-- SUBST_ACK (R82, R85): the switch of a downstream lane is fixed. -/
def execSubstAck (got : SlvLine) (s : State) : Host.Outcome State Fault Refusal :=
  whenFunctional s fun s => takeCtl 0x02 got.slv got.line s fun c s =>
    match s.exOf c.xid with
    | some (.subst k lane reason) =>
      let x : SubstSw := { dir := .down, slv := k, lane := lane, reason := reason, slot := s.downAt c }
      let s := modSeam (fun m => { m with subst := m.subst.filter (fun y => !(y.dir == .down && y.slv == k)) ++ [x] }) s
      endEx (forgiven (.subst k lane reason) s)
    | _ => s

/-- RETIRE_REQ (R82, R87). -/
def execRetireReq (got : SlvLine) (s : State) : Host.Outcome State Fault Refusal :=
  whenFunctional s fun s => takeReq 0x03 got.slv got.line s fun c s =>
    if !s.flag F.SEAM_CTRL.RETIRE_EN then answerNak c 0x07 s
    else if s.seam.retired.getLsbD c.sleeve.toNat then answerNak c 0x02 s
    else answer c (ctlFlit 0x04 c.xid c.sleeve 0 0 0 0 s.switchAfter) s

/-- RETIRE_ACK (R82, R87): the slot of the retirement is fixed. -/
def execRetireAck (got : SlvLine) (s : State) : Host.Outcome State Fault Refusal :=
  whenFunctional s fun s => takeCtl 0x04 got.slv got.line s fun c s =>
    match s.exOf c.xid with
    | some (.retire k) =>
      let s := modSeam (fun m => { m with retireAt := m.retireAt.filter (·.1 != k) ++ [(k, none, some (s.downAt c))] }) s
      endEx (forgiven (.retire k) s)
    | _ => s

/-- The NAK that a WIDTH_REQ meets at once, 0 for none (R82, R91, R92, R98). No rule names a reason for width 0 while pcm_host_req_i or the
Sleeper lane forbids it; the model gives 0x02. (DESIGN CHOICE: log entry 76) -/
def State.widthNak (s : State) (t : Byte) : Byte :=
  let busy := match s.seam.width with
    | some w => !w.mine || w.acked
    | none => false
  if busy then 0x04
  else if t &&& ~~~s.permitted != 0 then 0x02
  else if t = 0 && (s.pins.hostReq == 1 || !s.slp.lock) then 0x02
  else if s.seam.usable &&& ~~~t &&& s.bankMask != 0 then 0x01
  else 0

/-- The block's own change gives way to the station's (R82): at once where its WIDTH_REQ has not been sent, else when the
station's NAK to it arrives. -/
def giveWay (s : State) : State :=
  match s.seam.width, s.seam.mine with
  | some w, some x =>
    match x.kind with
    | .width _ => modSeam (fun m => { m with width := none, powered := m.powered &&& ~~~(w.added &&& ~~~m.usable) }) s
    | _ => endWidth 4 s
  | some _, none => endWidth 4 s
  | none, _ => s

/-- The WIDTH_ACK of a change of the station's. -/
def ackWidth (xid : Byte) (t : Byte) (s : State) : State :=
  let p := ctlFlit 0x06 xid 0 0 0 t 0 s.switchAfter
  queueCtl p (modSeam (fun m => { m with answered := some (0x05, xid, p) }) s)

/-- WIDTH_REQ (R82, R93, R94): the station's change is refused, acknowledged, or waits for the added sleeves. -/
def execWidthReq (got : SlvLine) (s : State) : Host.Outcome State Fault Refusal :=
  whenFunctional s fun s => takeReq 0x05 got.slv got.line s fun c s =>
    let waiting := match s.seam.width with
      | some w => !w.mine && !w.acked && w.xid == c.xid
      | none => false
    if waiting then s
    else
      let n := s.widthNak c.target
      if n != 0 then answerNak c n s
      else
        let s := giveWay s
        let added := c.target &&& ~~~s.seam.usable
        let w : WidthChange := { mine := false, byPcm := false, target := c.target, xid := c.xid, added := added, phase := [],
                                 ready := added == 0, acked := false, upSlot := none, dnSlot := none, upDone := false, dnDone := false, since := s.mark }
        let s := modSeam (fun m => { m with
          width := some w, powered := m.powered ||| added, switchFrom := if added = 0 then m.switchFrom else s.mark }) s
        if added = 0 then ackWidth c.xid c.target s else s

/-- WIDTH_ACK (R93): the downstream switch is fixed, and WIDTH_CFM follows. -/
def execWidthAck (got : SlvLine) (s : State) : Host.Outcome State Fault Refusal :=
  whenFunctional s fun s => takeCtl 0x06 got.slv got.line s fun c s =>
    match s.exOf c.xid, s.seam.width with
    | some (.width t), some w =>
      if w.mine then
        let s := modSeam (fun m => { m with width := some { w with acked := true, dnSlot := some (s.downAt c) } }) s
        endEx (queueCtl (ctlFlit 0x07 c.xid 0 0 0 t 0 s.switchAfter) s)
      else s
    | _, _ => s

/-- WIDTH_CFM (R93): the downstream switch of the station's change is fixed. -/
def execWidthCfm (got : SlvLine) (s : State) : Host.Outcome State Fault Refusal :=
  whenFunctional s fun s => takeCtl 0x07 got.slv got.line s fun c s =>
    match s.seam.width with
    | some w =>
      if !w.mine && w.acked && w.xid = c.xid then
        modSeam (fun m => { m with width := some { w with dnSlot := some (s.downAt c) } }) s
      else s
    | none => s

/-- The block's own change ends without having taken effect, be it in progress or set aside for the station's (R82, R94). -/
def endMyWidth (r : Nat) (s : State) : State :=
  match s.seam.width with
  | some w => if w.mine then endWidth r s else widthResult r s
  | none => widthResult r s

/-- The station's silence, a departure under R5, at the third abandonment: CTRL_TIMEOUT, with an entry of class 0x0D (R88, R420).
(DEDUCED: log entry 19) -/
def raiseSilence (s : State) : State := raiseAs C.SEAM.CTRL_TIMEOUT 0x0D 0x01 (detProto 0 0x3FFF 3) s

/-- An exchange abandoned (R82, R88): CTRL_TIMEOUT, and a retrain, or at the third consecutive time the retirement on the
block's side, with the station's silence reported. -/
def abandonEx (x : Exch) (s : State) : State :=
  let s := modSeam (fun m => { m with mine := none }) s
  let escalate (k : SleeveNo) (lane : Nat) (s : State) : State :=
    let n := ((s.seam.abandoned.find? (·.1 == x.kind)).map (·.2)).getD 0 + 1
    if 3 ≤ n && s.flag F.SEAM_CTRL.RETIRE_EN then retireNow k (raiseSilence s)
    else
      let s := raiseLane C.SEAM.CTRL_TIMEOUT .down k lane s
      startRetrain true (modSeam (fun m => { m with abandoned := m.abandoned.filter (·.1 != x.kind) ++ [(x.kind, n)] }) s)
  match x.kind with
  | .width _ => nextEx (endMyWidth 5 (raiseSeam C.SEAM.CTRL_TIMEOUT s))
  | .subst k lane _ => escalate k lane.toNat s
  | .retire k => escalate k 0xF s

/-- The exchange is due again with a new XID, or has had its three sends (R82). -/
def renewEx (x : Exch) (s : State) : State :=
  if 3 ≤ x.sends then abandonEx x s
  else modSeam (fun m => { m with mine := some { x with renew := true, since := s.mark } }) s

/-- A darning or a retirement refused for good (R85, R87). -/
def refuseEx (x : Exch) (s : State) : State := endEx (modSeam (fun m => { m with refused := m.refused ++ [x.kind] }) s)

/-- SEAM_NAK (R82, R85, R87, R94): the block's exchange ends, is renewed, or leads to retirement. (DEDUCED: log entry 17) -/
def execSeamNak (got : SlvLine) (s : State) : Host.Outcome State Fault Refusal :=
  whenFunctional s fun s => takeCtl 0x08 got.slv got.line s fun c s =>
    match s.seam.mine with
    | none => s
    | some x =>
      if x.xid != c.xid || x.renew then s
      else
        match x.kind with
        | .width _ => nextEx (endMyWidth (if c.nak = 0x03 then 6 else 4) (modSeam (fun m => { m with mine := none }) s))
        | .retire _ => if c.nak = 0x07 then refuseEx x s else renewEx x s
        | .subst k _ reason =>
          let s' := modSeam (fun m => { m with mine := none }) s
          if c.nak = 0x07 && reason = 0 then refuseEx x s
          else if c.nak = 0x06 && reason = 0 then nextEx (wantRetire k s')
          else if c.nak = 0x06 || c.nak = 0x07 then nextEx (endRolling .down k (abandonPass k s'))
          else renewEx x s

/-- CTRL_RESEND_TIMEOUT (R82, R85, R87, R88): 1 µs after a send without an answer, or after a NAK, the request goes again; after the
third send it is abandoned. One that still waits for its slot has not been sent, and one that SEAM_CTRL no longer lets the block ask
for ends. -/
def execCtrlResendTimeout (s : State) : Host.Outcome State Fault Refusal :=
  whenFunctional s fun s =>
    match s.seam.mine with
    | none => s
    | some x =>
      if !s.talks || s.seam.ctlOut.contains (reqFlit x.kind x.xid) then s
      else
        let s := s.lapse x.since 1000
        if !s.mayAsk x.kind then endEx s
        else if 3 ≤ x.sends then abandonEx x s
        else if x.renew then
          let n := s.seam.nextXid
          queueCtl (reqFlit x.kind n)
            (modSeam (fun m => { m with mine := some ⟨x.kind, n, x.sends + 1, false, s.mark⟩, nextXid := n + 1 }) s)
        else queueCtl (reqFlit x.kind x.xid) (modSeam (fun m => { m with mine := some { x with sends := x.sends + 1, since := s.mark } }) s)

/-! ## Switch slots (R85, R87, R93) -/

/-- A lane goes onto the spare as its repair. -/
def darned (d : Dir) (x : SubstSw) (s : State) : State :=
  raiseLane C.SEAM.LANE_DARNED d x.slv x.lane.toNat
    (askRebuild (modSlv d x.slv (fun v => { v with spareState := 1, spareLane := x.lane }) s))

/-- The switch of a downstream lane. -/
def switchDown (x : SubstSw) (s : State) : State :=
  let v := s.slv .down x.slv
  if x.reason = 0 then
    if v.spareState = 0 || v.spareState = 2 then darned .down x s
    else if v.spareState = 1 && v.spareLane = x.lane then s
    else wantRetire x.slv s
  else if x.reason = 1 then
    if v.spareState != 0 then s
    else
      let s := modSlv .down x.slv (fun v => { v with spareState := 2, spareLane := x.lane }) s
      match s.passIn x.slv with
      | some p =>
        if placeOf p.lane = x.lane.toNat then
          modTlr (fun t => { t with passes := mapIf (·.1 == x.slv) (fun q => (q.1, { q.2 with onSpare := true })) t.passes }) s
        else wantEx (.subst x.slv x.lane 2) s
      | none => wantEx (.subst x.slv x.lane 2) s
  else endRolling .down x.slv s

/-- The switch of an upstream lane. (DEDUCED: log entry 18) -/
def switchUp (x : SubstSw) (s : State) : State :=
  let v := s.slv .up x.slv
  if x.reason = 0 then if v.spareState = 0 || v.spareState = 2 then darned .up x s else s
  else if x.reason = 1 then
    if v.spareState = 0 then modSlv .up x.slv (fun v => { v with spareState := 2, spareLane := x.lane }) s else s
  else endRolling .up x.slv s

/-- SUBST_SWITCH (R23, R85, R115): at the switch slot a lane moves onto or off its spare. -/
def execSubstSwitch (dir : Dir) (slv : SleeveNo) (s : State) : Host.Outcome State Fault Refusal :=
  whenFunctional s fun s =>
    match s.seam.subst.find? (fun x => x.dir == dir && x.slv == slv) with
    | none => s
    | some x =>
      let s := modSeam (fun m => { m with subst := m.subst.filter (· != x) }) s
      match dir with
      | .down => switchDown x s
      | .up => switchUp x s

/-- RETIRE_SWITCH (R87, R159): at the slot that RETIRE_ACK named the sleeve is retired. -/
def execRetireSwitch (slv : SleeveNo) (s : State) : Host.Outcome State Fault Refusal :=
  whenFunctional s fun s => if s.seam.retireAt.any (·.1 == slv) then retireNow slv s else s

/-- WIDTH_SWITCH (R93 to R96). -/
def execWidthSwitch (dir : Dir) (s : State) : Host.Outcome State Fault Refusal :=
  whenFunctional s fun s => switchWidth dir s

/-! ## Width (R91 to R94) -/

/-- A write of SEAM_WIDTH_CTRL (R92, R103). -/
def widthCtrlWrite (data : Word) (s : State) : State :=
  let s := (s.setFld F.SEAM_WIDTH_CTRL.TARGET (Sys2Proof.fld data 0 4)).setFld F.SEAM_WIDTH_CTRL.FORCE (Sys2Proof.fld data 4 1)
  if data.getLsbD 8 then
    if s.seam.width.isSome then queueWidth (bits data 0 4) (data.getLsbD 4) s
    else beginWidth (Sys2Proof.fld data 0 4) (data.getLsbD 4) false s
  else s

/-- WIDTH_GO: a write of SEAM_WIDTH_CTRL with GO at 1. -/
def execWidthGo (data : Word) (s : State) : Host.Outcome State Fault Refusal :=
  whenFunctional s fun s => portWrite R.SEAM_WIDTH_CTRL (data.getLsbD 8) (widthCtrlWrite data) s

/-- WIDTH_GO_DEQUEUE (R92): the queued change begins. -/
def execWidthGoDequeue (s : State) : Host.Outcome State Fault Refusal :=
  whenFunctional s fun s => dequeueWidth s

/-- Every logical data lane of an added sleeve has a sound carrier, after its repair, and has confirmed its scrambler phase: 1,024
descrambled bits of filler, those of four slots, have been zero (R75, R76, R85, R94). Skew is measured at training only, and a lane that
failed there counts as failed (R76). (DEDUCED: log entry 19) -/
def State.phased (s : State) (w : WidthChange) (k : SleeveNo) : Bool :=
  let v := s.slv .down k
  !v.clkFail && !s.seam.retired.getLsbD k.toNat && v.bare == [] && (List.range 8).all fun j => 4 ≤ w.slots (laneOf k j)

/-- ADDED_SLEEVES_READY (R75, R76, R94): every lane of the added sleeves, after its repair, has passed the deskew and confirmed its
scrambler phase, and WIDTH_REQ or WIDTH_ACK goes. (DEDUCED: log entry 19) -/
def execAddedSleevesReady (s : State) : Host.Outcome State Fault Refusal :=
  whenFunctional s fun s =>
    match s.seam.width with
    | none => s
    | some w =>
      if w.ready || !((sleevesOf w.added).all fun k => s.phased w k) then s
      else
        let s := modSeam (fun m => { m with width := some { w with ready := true } }) s
        if w.mine then wantEx (.width w.target) s else ackWidth w.xid w.target s

/-- WIDTH_LOCK_TIMEOUT (R94): added sleeves that are not ready within 5 µs end the increase. -/
def execWidthLockTimeout (s : State) : Host.Outcome State Fault Refusal :=
  whenFunctional s fun s =>
    match s.seam.width with
    | none => s
    | some w =>
      if w.ready then s
      else
        let s := s.lapse w.since 5000
        if w.mine then endWidth 6 s
        else
          let p := ctlFlit 0x08 w.xid 0 0 0 0 0x03 0
          endWidth 6 (queueCtl p (modSeam (fun m => { m with answered := some (0x05, w.xid, p) }) s))

/-! ## The window of R89 -/

/-- CRC_WINDOW_END (R89): the window of 1 ms ends and the counts start again. -/
def execCrcWindowEnd (s : State) : Host.Outcome State Fault Refusal :=
  whenFunctional s fun s =>
    modSeam (fun m => { m with crcWin := Vector.replicate 8 0 }) (s.reach ((s.now / 1000000 + 1) * 1000000))

/-! ## Test modes (R100 to R102) -/

/-- A TEST_REQ with a mode (R101). -/
def sendTestReq (mode : Nat) (s : State) : State :=
  let v := s.fld F.SEAM_TEST_CTRL.SLEEVE + mode * 2 ^ 3 + s.fld F.SEAM_TEST_CTRL.DIR * 2 ^ 6
    + s.fld F.SEAM_TEST_CTRL.LANE_MASK * 2 ^ 8
  sendSlp 0x22 [BitVec.ofNat 32 v] s

/-- The test changed. -/
def modTest (f : TestMode → TestMode) (s : State) : State := modSeam (fun m => { m with test := f m.test }) s

/-- The block's own part of a test starts: generators and checkers begin anew (R101, R102). -/
def runTest (s : State) : State :=
  wake .test 0 [] (modTest (fun t => { t with
    waiting := false, running := true, everRun := true, gens := Vector.ofFn fun j => Config.prbsSeed s.free j.val,
    checks := Vector.replicate 9 0, locked := 0, compared := Vector.replicate 9 0 }) s).draw

/-- A test begins on the sleeve that SEAM_TEST_CTRL names (R101). Under the wrapper with the Sleeper lane out of lock the block's
part starts at once. -/
def startTest (s : State) : State :=
  let k : SleeveNo := BitVec.ofNat 3 (s.fld F.SEAM_TEST_CTRL.SLEEVE)
  let off := !s.seam.powered.getLsbD k.toNat
  let s := abandonPass k (modSeam (fun m => { m with
    powered := m.powered ||| slvBit k, switchFrom := if off then s.mark else m.switchFrom }) s)
  let s := modTest (fun t => { t with
    waiting := true, running := false, sends := 1, poweredFor := off || t.poweredFor, since := s.mark }) s
  if s.wrapped && !s.slp.lock then runTest s else sendTestReq (s.fld F.SEAM_TEST_CTRL.MODE) s

/-- The sleeve goes back to the control of the PCM (R101). -/
def releaseSleeve (s : State) : State :=
  let k := slvBit (BitVec.ofNat 3 (s.fld F.SEAM_TEST_CTRL.SLEEVE))
  let s := modTest (fun t => { t with waiting := false, running := false, poweredFor := false, locked := 0 }) s
  (modSeam (fun m => { m with powered := m.powered &&& (m.usable ||| ~~~k) }) s).setFld F.SEAM_TEST_CTRL.ENABLE 0

/-- A test stops (R101). -/
def stopTest (s : State) : State := releaseSleeve (sendTestReq 0 s)

/-- A test that the station has refused or not answered (R101, R338). -/
def failTest (s : State) : State := wake .test 0x0292 [] (releaseSleeve s)

/-- A test waits or runs. -/
def State.testing (s : State) : Bool := s.seam.test.waiting || s.seam.test.running

/-- A write of SEAM_TEST_CTRL (R100): it has effect under the wrapper, or while a diagnostic command's test runs. ENABLE at 0 stops the
test, and other fields than those in force start it with them, on another sleeve after the first has been given back.
(DEDUCED: log entry 20) -/
def testCtrlWrite (data : Word) (s : State) : State :=
  let new := data &&& 0x80371FF7
  let same := bits new 0 3 == (bits (s.reg R.SEAM_TEST_CTRL) 0 3 : BitVec 3)
  if !s.wrapped && (!s.testing || s.seam.usable.getLsbD (Sys2Proof.fld new 0 3)) then s
  else if !data.getLsbD 31 then (if s.testing then stopTest s else s).setReg R.SEAM_TEST_CTRL new
  else if s.testing && new = s.reg R.SEAM_TEST_CTRL then s
  else startTest ((if s.testing && !same then stopTest s else s).setReg R.SEAM_TEST_CTRL new)

/-- TEST_ENABLE: a write of SEAM_TEST_CTRL with ENABLE at 1. (DEDUCED: log entry 20) -/
def execTestEnable (data : Word) (s : State) : Host.Outcome State Fault Refusal :=
  whenUp s fun s =>
    if data.getLsbD 31 then
      (if s.wrapped || s.regOn R.SEAM_TEST_CTRL then (testCtrlWrite data s).answer false else s.answer true)
    else s

/-- TEST_DISABLE: a write of SEAM_TEST_CTRL with ENABLE at 0. (DEDUCED: log entry 20) -/
def execTestDisable (data : Word) (s : State) : Host.Outcome State Fault Refusal :=
  whenUp s fun s =>
    if data.getLsbD 31 then s
    else if s.wrapped || s.regOn R.SEAM_TEST_CTRL then (testCtrlWrite data s).answer false else s.answer true

/-- TEST_ACK (R101): the station takes its part, or refuses. -/
def execTestAck (msg : BitVec 32) (s : State) : Host.Outcome State Fault Refusal :=
  whenUp s fun s =>
    if s.slp.lock && s.seam.test.waiting && Sys2Proof.fld msg 0 3 = s.fld F.SEAM_TEST_CTRL.SLEEVE then
      if msg.getLsbD 8 then failTest s else runTest s
    else s

/-- TEST_REQ_TIMEOUT (R101): 100 µs without an answer; after the third send the test has failed. -/
def execTestReqTimeout (s : State) : Host.Outcome State Fault Refusal :=
  whenUp s fun s =>
    if !s.seam.test.waiting then s
    else
      let s := s.lapse s.seam.test.since 100000
      if 3 ≤ s.seam.test.sends then failTest s
      else sendTestReq (s.fld F.SEAM_TEST_CTRL.MODE) (modTest (fun t => { t with sends := t.sends + 1, since := s.mark }) s)

/-- An event on a lane of the sleeve under test: lanes 0 to 7, and 8 for the spare (R102). (DEDUCED: log entry 68) -/
def whenTestLane (lane : BitVec 4) (s : State) (k : State → State) : Host.Outcome State Fault Refusal :=
  if lane.toNat < 9 then whenUp s k else .fault (.noSuchTestLane lane)

/-- A lane of the sleeve under test has a running checker: a mode runs with downstream checking, and LANE_MASK has the lane
(R100 to R103). (DEDUCED: log entry 20) -/
def State.checks (s : State) (lane : BitVec 4) : Bool :=
  let m := s.fld F.SEAM_TEST_CTRL.MODE
  s.seam.test.running && 1 ≤ m && m ≤ 5 && (s.fld F.SEAM_TEST_CTRL.DIR).testBit 1
    && (s.fld F.SEAM_TEST_CTRL.LANE_MASK).testBit lane.toNat

/-- What a lane's checker takes of the bits that come, the first in bit 0: in near-end digital loopback it sees the lane's own
generator and the station is ignored (R100), and in the inverted mode the sequence is inverted (R102). (DEDUCED: log entry 20) -/
def testBits {w : Nat} (lane : BitVec 4) (got : BitVec w) (s : State) : BitVec w × State :=
  let m := s.fld F.SEAM_TEST_CTRL.MODE
  if m = 3 then
    let g := s.seam.test.gens.toList.getD lane.toNat 0
    (seqTake w g, modTest (fun t => { t with gens := vmod t.gens lane.toNat (seqDrop w) }) s)
  else (if m = 2 then ~~~got else got, s)

/-- PRBS_LOCK (R102): a checker out of lock seeds itself from 31 received bits, and declares lock when the 1,024 bits that follow are
error-free. -/
def execPrbsLock (got : PrbsBits) (s : State) : Host.Outcome State Fault Refusal :=
  whenTestLane got.lane s fun s =>
    let lane := got.lane
    if s.checks lane && !s.seam.test.locked.getLsbD lane.toNat then
      let (b, s) := testBits lane got.got s
      let y : BitVec 31 := bits b 0 31
      if b = seqTake 1055 y then
        modTest (fun t => { t with
          locked := t.locked ||| (1#9 <<< lane.toNat), checks := vmod t.checks lane.toNat fun _ => seqDrop 1055 y }) s
      else s
    else s

/-- PRBS_LOSS (R102): the next 1,024 bits of a checker in lock, in two halves. Each wrong one is counted in SEAM_PRBS_ERR_j, all are counted as
compared, and with more than 256 wrong the checker leaves lock and holds its count. (DEDUCED: log entry 20) -/
def execPrbsLoss (lane : BitVec 4) (first second : BitVec 512) (s : State) : Host.Outcome State Fault Refusal :=
  whenTestLane lane s fun s =>
    if s.checks lane && s.seam.test.locked.getLsbD lane.toNat then
      let (b, s) := testBits lane (second ++ first) s
      let y := s.seam.test.checks.toList.getD lane.toNat 0
      let wrong := wrongBits b (seqTake 1024 y)
      let a := R.SEAM_PRBS_ERR + 4 * lane.toNat
      let s := s.setReg a (BitVec.ofNat 32 (min ((s.reg a).toNat + wrong) 0xFFFFFFFF))
      modTest (fun t => { t with
        checks := vmod t.checks lane.toNat (seqDrop 1024), compared := vmod t.compared lane.toNat (· + 1024)
        locked := if 256 < wrong then t.locked &&& ~~~(1#9 <<< lane.toNat) else t.locked }) s
    else s

/-- SEAM_PRBS_BITS: the count of the lane that has been compared longest (R102, R103). (DEDUCED: log entry 20) -/
def State.prbsCompared (s : State) : BitVec 64 := s.seam.test.compared.toList.foldl (fun a b => if a < b then b else a) 0

/-! ## Register views (R103) -/

/-- SEAM_STATUS. -/
def State.seamStatus (s : State) : Word :=
  BitVec.ofNat 32 (s.seam.powered.toNat * 2 ^ 24 + s.seam.retired.toNat * 2 ^ 16 + s.seam.usable.toNat * 2 ^ 8
    + b2n s.seam.width.isSome * 2 ^ 4 + popcount8 s.seam.usable)

/-- SEAM_SLP_STATUS but for SYNC_ERR, which is stored. (DEDUCED: log entry 16) -/
def State.slpStatus (s : State) : Word :=
  (s.reg R.SEAM_SLP_STATUS &&& 0xFFFF0000) ||| BitVec.ofNat 32 (2 * b2n s.slp.txActive + b2n s.slp.lock)

end Sys2Proof.Machine
end

