-- ==== Sys2Proof/Machine/Tlr.lean ====
section
/-!
DEFINITION. Tailoring: passes and their search, transmitter FFE, training, verification, measurement, and the calibration
snapshot (R104 to R133, R330).
-/
namespace Sys2Proof.Machine

/-! ## Settings of a receive record (R104, R110, R127) -/

/-- The lowest bit, the width and the greatest code of a searched setting: CTLE, DFE taps 1 to 6, FFE pre, FFE post. A greatest
code of none marks a signed setting, whose range is its width's. -/
def settingAt (p : Nat) : Nat × Nat × Option Nat :=
  if p = 0 then (8, 4, some 15) else if p = 1 then (16, 6, none) else if p = 7 then (98, 4, some 15)
  else if p = 8 then (102, 5, some 23) else (24 + 5 * (p - 2), 5, none)

/-- A setting moved one step; none where it would leave its range. -/
def stepSetting (p : Nat) (up : Bool) (r : BitVec 128) : Option (BitVec 128) :=
  let (lo, n, top) := settingAt p
  let v := Sys2Proof.fld r lo n
  match top with
  | some m => if up then (if v < m then some (putField r lo n (v + 1)) else none) else (if 0 < v then some (putField r lo n (v - 1)) else none)
  | none =>
    if up then (if v = 2 ^ (n - 1) - 1 then none else some (putField r lo n (v + 1)))
    else if v = 2 ^ (n - 1) then none else some (putField r lo n (v + 2 ^ n - 1))

/-- Eye height in percent of nominal level spacing, saturating (R127). -/
def eyePct (h : Nat) : Nat := min 255 (100 * h / 32)

/-- An eye in level codes is below EYE_MIN_PCT. -/
def State.eyeLow (s : State) (h : Nat) : Bool := 100 * h < 32 * s.fld F.SEAM_DET_CFG.EYE_MIN_PCT

/-! ## Histograms and phase scans (R106, R107, R110) -/

/-- The longest run of places below `n`, from `lo` on, that meet a test: its start and length, the first of equals.
(DESIGN CHOICE: log entry 73) -/
def longestRun (p : Nat → Bool) (lo n : Nat) : Nat × Nat :=
  let step (a : (Nat × Nat) × (Nat × Nat)) (i : Nat) : (Nat × Nat) × (Nat × Nat) :=
    let cur := if p i then (if a.2.2 = 0 then (i, 1) else (a.2.1, a.2.2 + 1)) else (0, 0)
    (if a.1.2 < cur.2 then cur else a.1, cur)
  ((((List.range n).filter (lo ≤ ·)).foldl step ((lo, 0), (0, 0)))).1

/-- TLR_CFG.DWELL_LOG2 as symbols (R106). -/
def State.dwell (s : State) : Nat := 2 ^ s.fld F.TLR_CFG.DWELL_LOG2

/-- The symbols above a code of a histogram. -/
def histAbove (h : Histogram) (i : Nat) : Nat := (h.above.toList.getD i 0).toNat

/-- The distribution that the differentiated counts give: symbols between a code and the next (R106). -/
def histDensity (h : Histogram) (i : Nat) : Nat := histAbove h i - histAbove h (i + 1)

/-- The code at the middle of level `l`'s share of the distribution, with a dwell of `n` symbols. (DESIGN CHOICE: log entry 73) -/
def histLevel (h : Histogram) (n l : Nat) : Nat :=
  ((List.range 128).find? fun i => 8 * histAbove h i ≤ n * (7 - 2 * l)).getD 127

/-- Sub-eye 0 lower, 1 middle or 2 upper: its first code and its height, the longest run between the two levels of codes whose population
is at most 1 in 2^16 (R106). (DESIGN CHOICE: log entry 73) -/
def histSubEye (h : Histogram) (n e : Nat) : Nat × Nat :=
  longestRun (fun i => decide (histDensity h i * 2 ^ 16 ≤ n)) (histLevel h n e) (histLevel h n (e + 1))

/-- The midpoint of a sub-eye as a threshold, in level codes from -64 on (R110). -/
def histMid (h : Histogram) (n e : Nat) : BitVec 8 :=
  let (lo, len) := histSubEye h n e
  BitVec.ofInt 8 ((lo + len / 2 : Nat) - 64)

/-- The three sub-eye heights. -/
def histHeights (h : Histogram) (n : Nat) : Nat × Nat × Nat := ((histSubEye h n 0).2, (histSubEye h n 1).2, (histSubEye h n 2).2)

/-- The eye of a lane: its smallest sub-eye (R106). -/
def State.histEye (s : State) (h : Histogram) : Nat :=
  let (a, b, c) := histHeights h s.dwell
  min a (min b c)

/-- The narrowest sub-eye: 0 lower, 1 middle, 2 upper (R133). -/
def State.histWorst (s : State) (h : Histogram) : BitVec 2 :=
  let (a, b, c) := histHeights h s.dwell
  if a ≤ b && a ≤ c then 0 else if b ≤ c then 1 else 2

/-- The symbols of a histogram (R107). -/
def histPopulation (h : Histogram) : Nat := (h.levels.toList.map (·.toNat)).sum

/-- A phase of a scan is open: the symbols above the midpoint of the narrowest sub-eye are those of the levels above it, but for 1 in
2^16 (R106, R110). (DESIGN CHOICE: log entry 73) -/
def State.phaseOpen (s : State) (h : Histogram) (i : Nat) : Bool :=
  let up := ((h.levels.toList.drop ((s.histWorst h).toNat + 1)).map (·.toNat)).sum
  let d := ((h.phases.toList.getD i 0).toNat * histPopulation h : Int) - (s.dwell * up : Nat)
  d.natAbs * 2 ^ 16 ≤ s.dwell * histPopulation h

/-- The open phases of a scan of 33 offsets about the sampling phase: the eye width, and the offset of the centre (R110).
(DESIGN CHOICE: log entry 73) -/
def State.phaseCentre (s : State) (h : Histogram) : Nat × Int :=
  let below := ((List.range 17).map (16 - ·)).takeWhile (s.phaseOpen h)
  let after := ((List.range 17).map (16 + ·)).takeWhile (s.phaseOpen h)
  if below = [] then (0, 0) else (below.length + after.length - 1, ((after.length : Int) - below.length) / 2)

/-- The sampling phase moved to the centre that a scan found, as far as its range goes (R104, R105, R110). -/
def State.centrePhase (s : State) (h : Histogram) (r : BitVec 128) : BitVec 128 :=
  putField r 0 6 (max 0 (min 63 ((Sys2Proof.fld r 0 6 : Int) + (s.phaseCentre h).2))).toNat

/-- The three thresholds at the midpoints of their sub-eyes (R110). -/
def State.putThresholds (s : State) (h : Histogram) (r : BitVec 128) : BitVec 128 :=
  putField (putField (putField r 56 8 (histMid h s.dwell 0).toNat) 64 8 (histMid h s.dwell 1).toNat) 72 8 (histMid h s.dwell 2).toNat

/-- A histogram passes the balance test of R107, and has its symbols; MIN_POP_LOG2 counts as written. (DESIGN CHOICE: log entry 74) -/
def State.fits (s : State) (h : Histogram) : Bool :=
  h.levels.toList.all (fun x =>
      s.fld F.TLR_CFG.BAL_MIN_PCT * histPopulation h ≤ 100 * x.toNat && 100 * x.toNat ≤ s.fld F.TLR_CFG.BAL_MAX_PCT * histPopulation h)
    && 2 ^ s.fld F.TLR_CFG.MIN_POP_LOG2 ≤ histPopulation h

/-- TLR_CFG2.STARVE_MS in ns (R107). -/
def State.starveNs (s : State) : Nat := 1000000 * s.fld F.TLR_CFG2.STARVE_MS

/-- A histogram begun at a moment passes both tests of R107 now: its symbols came within STARVE_MS. -/
def State.fitsIn (s : State) (m : Mark) (h : Histogram) : Bool := s.fits h && s.now ≤ m.rail + s.starveNs

/-- TLR_LANE_QUAL (R125, R133). -/
def qualWord (source : Nat) (worst : BitVec 2) (w h : Nat) : Word :=
  BitVec.ofNat 32 (source * 2 ^ 30 + worst.toNat * 2 ^ 24 + (w % 128) * 2 ^ 8 + h)

/-! ## Degraded eye (R84) -/

/-- An eye measured with a lane's committed values: the lane fails at the DEGRADE_COUNTth low one in succession.
(DEDUCED: log entry 26) -/
def noteEye (n : LaneNo) (h : Nat) (s : State) : State :=
  let old := ((s.seam.lowEye.find? (·.1 == n)).map (·.2)).getD 0
  let rest := s.seam.lowEye.filter (·.1 != n)
  if s.eyeLow h then
    let s' := modSeam (fun m => { m with lowEye := rest ++ [(n, old + 1)] }) s
    if s.fld F.SEAM_DET_CFG.DEGRADE_COUNT ≤ old + 1 then failLane n s' else s'
  else modSeam (fun m => { m with lowEye := rest }) s

/-! ## The phase tracker (R105) -/

/-- The lane of a pass runs on its shadow values: it is in training, its traffic is on the spare, it is the idle spare, or the path is
granted (R114, R118). -/
def State.live (s : State) (p : Pass) : Bool :=
  p.train || p.onSpare || (if p.full then placeOf p.lane == 8 else s.granted (slvOf p.lane))

/-- PHASE_TRACKER_SHIFT (R105): the tracker's offset; at a magnitude of 8 or more the sampling phase of the values in use takes one step
over, as far as its range goes. (DEDUCED: log entry 26) -/
def execPhaseTrackerShift (lane : LaneNo) (offset : BitVec 5) (s : State) : Host.Outcome State Fault Refusal :=
  whenLane lane s fun s =>
    let o := offset.toInt
    let d : Int := if 8 ≤ o then 1 else if o ≤ -8 then -1 else 0
    let phase (r : BitVec 128) : Int := Sys2Proof.fld r 0 6
    let used := if ((s.passOn lane).map s.live).getD false then (s.rx lane).shd else (s.rx lane).act
    let stuck := phase used + d < 0 || 63 < phase used + d
    let move (r : BitVec 128) : BitVec 128 := if stuck then r else putField r 0 6 (max 0 (min 63 (phase r + d))).toNat
    modRx lane (fun r => { r with
      act := move r.act, shd := move r.shd, tracker := if stuck then offset else offset - BitVec.ofInt 5 d }) s

/-! ## Passes (R110 to R118, R122) -/

/-- The pass on a lane changed. -/
def modPass (n : LaneNo) (f : Pass → Pass) (s : State) : State :=
  modTlr (fun t => { t with passes := mapIf (·.2.lane == n) (fun q => (q.1, f q.2)) t.passes }) s

/-- Automatic passes can run: in service, neither frozen nor under MANUAL (R114, R129), while the active box's firmware schedules them
(R339). (DEDUCED: log entry 49) -/
def State.rolls (s : State) : Bool :=
  s.sbx.ready && s.tlr.mode == .service && s.lnk.st == .up && !s.tlr.frozenHost && !s.tlr.frozenBrown && !s.flag F.TLR_CTRL.MANUAL

/-- A pass as it begins on a lane. -/
def State.newPass (s : State) (n : LaneNo) (step : PassStep) (full train : Bool) : Pass :=
  { lane := n, step := step, opening := 0, full := full, onSpare := false, ffeWait := false, startedAt := s.now, train := train,
    since := s.mark, granted := 0 }

/-- A lane of a sleeve can be tailored (R117, R118): it has not failed, and the spare itself only while it carries no lane of
its own turn. -/
def State.tailors (s : State) (k : SleeveNo) (j : Nat) : Bool :=
  let v := s.slv .down k
  !v.failed.getLsbD j && !(j == 8 && v.spareState == 3)

/-- The lane whose turn it is, from place `j` on, in at most `n` tries. -/
def State.nextLane (s : State) (k : SleeveNo) : Nat → Nat → Option Nat
  | _, 0 => none
  | j, n + 1 => if s.tailors k j then some j else s.nextLane k ((j + 1) % 9) n

/-- A pass begins on the lane whose turn it is (R115, R117, R118). -/
def startPass (k : SleeveNo) (s : State) : State :=
  let v := s.slv .down k
  let darned := v.spareState == 1 || v.spareState == 3
  if !s.rolls || !s.seam.usable.getLsbD k.toNat || (s.passIn k).isSome || v.spareState = 2
      || !s.flag (if darned then F.TLR_CTRL.DARNED_EN else F.TLR_CTRL.ROLL_EN) then s
  else
    match s.nextLane k (s.tlr.turn[k.toNat]'(by have := k.isLt; omega)).val 9 with
    | none => s
    | some j =>
      let n := laneOf k j
      let p := s.newPass n .opening (!darned) false
      let s := modTlr (fun t => { t with passes := t.passes ++ [(k, p)], turn := vmod t.turn k.toNat (fun _ => Fin.ofNat 9 j) }) s
      let s := modRx n (fun r => { r with shd := r.act }) s
      if darned || j = 8 then s else wantEx (.subst k (BitVec.ofNat 4 j) 1) s

/-- ROLLING_PASS_START (R117): INTERVAL_MS after the previous pass of the sleeve ended. -/
def execRollingPassStart (slv : SleeveNo) (s : State) : Host.Outcome State Fault Refusal :=
  whenFunctional s fun s =>
    let last := s.tlr.lastEnd[slv.toNat]'(by have := slv.isLt; omega)
    startPass slv (s.reach (last + 1000000 * s.fld F.TLR_ROLL_CFG.INTERVAL_MS))

/-- STARVED_RETRY (R108): RETRY_MS after a pass that ended STARVED the lane is tried again. -/
def execStarvedRetry (slv : SleeveNo) (s : State) : Host.Outcome State Fault Refusal :=
  whenFunctional s fun s =>
    let last := s.tlr.lastEnd[slv.toNat]'(by have := slv.isLt; omega)
    if s.tlr.starvedMask.getLsbD slv.toNat then startPass slv (s.reach (last + 1000000 * s.fld F.TLR_CFG2.RETRY_MS)) else s

/-- The next turn in a sleeve. -/
def nextTurn (k : SleeveNo) (s : State) : State := modTlr (fun t => { t with turn := vmod t.turn k.toNat (· + 1) }) s

/-- A lane under tailoring goes back to its own traffic by a REASON 0b10 exchange, where it has left it (R115). -/
def returnLane (k : SleeveNo) (p : Pass) (s : State) : State :=
  if p.onSpare then wantEx (.subst k (BitVec.ofNat 4 (placeOf p.lane)) 2) s
  else
    modSeam (fun m => { m with want := m.want.filter (· != .subst k (BitVec.ofNat 4 (placeOf p.lane)) 1) }) s

/-- A pass ends STARVED (R108). -/
def starve (k : SleeveNo) (p : Pass) (s : State) : State :=
  let s := modTlr (fun t => { t with starvedMask := t.starvedMask ||| slvBit k }) (dropPass k s)
  let s := modRx p.lane (fun r => { r with starved := if r.starved = 0xFF then 0xFF else r.starved + 1 }) s
  returnLane k p (raiseLane C.TLR.STARVED .down k (placeOf p.lane) s)

/-- The step of a pass, with a measurement of its own that begins now. -/
def toPass (n : LaneNo) (st : PassStep) (wait : Bool) (s : State) : State :=
  modPass n (fun p => { p with step := st, ffeWait := wait, since := s.mark, granted := 0 }) s

/-- The setting after `p` in the order of R110 and R122; none after the last of a search. -/
def State.nextSetting (s : State) (p : Pass) (i : Nat) : Option Nat :=
  if i < 6 then some (i + 1)
  else if i = 6 then (if p.full && !p.train && s.flag F.TLR_CTRL.TXFFE_EN then some 7 else none)
  else if i = 7 then some 8 else none

/-- A searched setting belongs to the station's transmitter. -/
def peerSetting (i : Nat) : Bool := i == 7 || i == 8

/-- The search of a setting has ended; `undo` where the station must be given the kept FFE value again. -/
def endSearch (p : Pass) (i : Nat) (undo : Bool) (s : State) : State :=
  let s' := if undo then sendFfe p.lane (ffeOf (s.rx p.lane).shd) s else s
  match s.nextSetting p i with
  | some j => toPass p.lane (.base j) undo s'
  | none => toPass p.lane (if p.train && 6 < i then .phase else .thresholds) undo s'

/-- A step of a setting is tried (R110): up, then down; where neither is in range the search ends. -/
def tryStep (p : Pass) (i best steps : Nat) (up undo : Bool) (s : State) : State :=
  let r := (s.rx p.lane).shd
  let go (up : Bool) (r' : BitVec 128) : State :=
    let s := modRx p.lane (fun x => { x with shd := r' }) s
    let s := if peerSetting i then sendFfe p.lane (ffeOf r') s else s
    toPass p.lane (.attempt i up best steps) (peerSetting i) s
  if s.fld F.TLR_CFG2.MAX_STEPS ≤ steps then endSearch p i undo s
  else if up then
    match stepSetting i true r with
    | some r' => go true r'
    | none =>
      match stepSetting i false r with
      | some r' => go false r'
      | none => endSearch p i undo s
  else
    match stepSetting i false r with
    | some r' => go false r'
    | none => endSearch p i undo s

/-- A step that is not kept (R110): the setting goes back, and the other direction or the next setting follows. `sent` where the
station has taken the step over. (DEDUCED: log entry 26) -/
def notKept (p : Pass) (i best steps : Nat) (up sent : Bool) (s : State) : State :=
  let s := modRx p.lane (fun x => { x with shd := (stepSetting i (!up) x.shd).getD x.shd }) s
  if up then tryStep p i best steps false (sent && peerSetting i) s else endSearch p i (sent && peerSetting i) s

/-- A lane's record as it was before a commit of this AO cycle is kept, for a freeze in the same cycle (R121). -/
def keepRecord (n : LaneNo) (s : State) : State :=
  modTlr (fun t => { t with
    recentAt := s.aoCycles, recent := (if t.recentAt = s.aoCycles then t.recent else []) ++ [(n, s.rx n)] }) s

/-- A commit of a lane's shadow values, with the eye where one was measured (R111, R113, R127). -/
def commitLane (n : LaneNo) (eye : Option Nat) (s : State) : State :=
  let put (r : BitVec 128) : BitVec 128 :=
    match eye with
    | some e => putField r 112 8 (eyePct e)
    | none => r
  askRebuild (modRx n (fun r => { r with
    act := put r.shd, shd := put r.shd, commits := if r.commits = 0xFF then 0xFF else r.commits + 1,
    time := BitVec.ofNat 64 s.now }) (keepRecord n s))

/-- A pass has had its closing measurement (R111): commit or discard, then the verification of a lane on the spare (R115). While
frozen nothing is committed (R129). -/
def closePass (k : SleeveNo) (p : Pass) (eye : Nat) (s : State) : State :=
  let s := modRx p.lane (fun r => { r with passes := if r.passes = 0xFFFF then 0xFFFF else r.passes + 1 }) s
  let gains := p.opening + s.fld F.TLR_CFG2.COMMIT_GAIN ≤ eye && !s.tlr.frozenHost && !s.tlr.frozenBrown
  let s := if gains then commitLane p.lane (some eye) s else discardShadow p.lane s
  if p.onSpare then toPass p.lane .verify false s else nextTurn k (endPass k s)

/-- The verification at the end of a pass (R115, R116). (DEDUCED: log entry 26) -/
def verifyPass (k : SleeveNo) (p : Pass) (eye : Nat) (s : State) : State :=
  if s.eyeLow eye then
    failLane p.lane (nextTurn k (endPass k (raiseLane C.TLR.VERIFY_FAIL .down k (placeOf p.lane) s)))
  else returnLane k p (nextTurn k (endPass k s))

/-- The nulling of a lane's slicer offsets, where the pass permits it (R110). -/
def nullLane (p : Pass) (s : State) : State :=
  if p.full then modRx p.lane (fun r => { r with shd := putField r.shd 80 18 (Config.offsetTrims s.free).toNat }) s.draw else s

/-- A code of CTLE is measured in training's sweep of all 16 (R122): the next follows, and after the last the best is taken. -/
def sweepCtle (p : Pass) (i best code eye : Nat) (s : State) : State :=
  let (best, code) := if i = 0 || best < eye then (eye, i) else (best, code)
  let put (c : Nat) (s : State) : State := modRx p.lane (fun r => { r with shd := putField r.shd 8 4 c }) s
  if i < 15 then toPass p.lane (.ctle (i + 1) best code) false (put (i + 1) s) else toPass p.lane .coarse false (put code s)

/-- The middle of the widest open eye of a scan of all 64 phases (R122). (DESIGN CHOICE: log entry 73) -/
def State.coarsePhase (s : State) (h : Histogram) : Nat :=
  let (lo, len) := longestRun (s.phaseOpen h) 0 64
  lo + len / 2

/-- A histogram of a pass's lane (R107, R109 to R111, R122). -/
def passHist (k : SleeveNo) (p : Pass) (h : Histogram) (s : State) : State :=
  let e := s.histEye h
  let n := p.lane
  if !s.fitsIn p.since h then (if p.train then toPass n (.done false) false s else starve k p s)
  else
    match p.step with
    | .opening =>
      let s := noteEye n e s
      if (s.passIn k).isNone then s else toPass n (.base 0) false (nullLane p (modPass n (fun q => { q with opening := e }) s))
    | .ctle i best code => sweepCtle p i best code e s
    | .coarse => toPass n (.base 1) false (modRx n (fun r => { r with shd := putField r.shd 0 6 (s.coarsePhase h) }) s)
    | .base i => tryStep p i e 0 true false s
    | .attempt i up best steps => if best < e then tryStep p i e (steps + 1) true false s else notKept p i best steps up true s
    | .thresholds =>
      toPass n (if p.train then .base 7 else .phase) false (modRx n (fun r => { r with shd := s.putThresholds h r.shd }) s)
    | .phase =>
      toPass n (if p.train then .done true else .closing) false (modRx n (fun r => { r with shd := s.centrePhase h r.shd }) s)
    | .closing => closePass k p e s
    | .verify => verifyPass k p e s
    | .done _ | .waiting _ => s

/-- A measure-only run ends with its quality record (R109, R124, R125). -/
def endMeasure (n : LaneNo) (q : Word) (s : State) : State :=
  let s := modRx n (fun r => { r with qual := q }) (modTlr (fun t => { t with measuring := none }) s)
  wake .measure 0 (bvBytes q) (s.setFld F.TLR_CTRL.MEASURE 0)

/-- The dwells of a pass's histogram can be complete: in a sleeve whose spare is not free each granted path gives 3,584 symbols, and
with no timetable running every path is granted (R118). -/
def State.gathered (s : State) (p : Pass) : Bool :=
  p.full || s.ttb.st != .running || 128 * s.dwell ≤ 3584 * p.granted

/-- HISTOGRAM_DONE (R84, R107, R109 to R111, R116, R118, R122, R124): a measure-only run ends, or the pass on the lane takes its next
step. -/
def execHistogramDone (lane : LaneNo) (h : Histogram) (s : State) : Host.Outcome State Fault Refusal :=
  whenLane lane s fun s =>
    if s.tlr.measuring = some lane then
      if s.fitsIn s.tlr.measureFrom h then
        noteEye lane (s.histEye h) (endMeasure lane (qualWord 3 (s.histWorst h) (s.phaseCentre h).1 (eyePct (s.histEye h))) s)
      else endMeasure lane (qualWord 3 0 0 0) s
    else
      match s.passOn lane with
      | some p => if s.live p && s.gathered p && !p.ffeWait then passHist (slvOf lane) p h s else s
      | none => s

/-- POPULATION_TIMEOUT (R107 to R109): a histogram has not gathered its symbols within STARVE_MS. -/
def execPopulationTimeout (lane : LaneNo) (s : State) : Host.Outcome State Fault Refusal :=
  whenLane lane s fun s =>
    if s.tlr.measuring = some lane then endMeasure lane (qualWord 3 0 0 0) (s.lapse s.tlr.measureFrom s.starveNs)
    else
      match s.passOn lane with
      | some p =>
        let late := s.lapse p.since s.starveNs
        if p.train then toPass lane (.done false) false late
        else if s.live p || !p.full then starve (slvOf lane) p late else s
      | none => s

/-- PASS_LIMIT_TIMEOUT (R112): the pass is abandoned, and the lane waits for its next turn. -/
def execPassLimitTimeout (lane : LaneNo) (s : State) : Host.Outcome State Fault Refusal :=
  whenLane lane s fun s =>
    let k := slvOf lane
    match s.passIn k with
    | some p =>
      if p.lane = lane then
        let s := s.reach (p.startedAt + 1000 * s.fld F.TLR_ROLL_CFG.PASS_LIMIT_US)
        returnLane k p (nextTurn k (abandonPass k s))
      else s
    | none => s

/-- Every pass is abandoned, and lanes on a spare go back (R121, R129). -/
def haltPasses (s : State) : State :=
  s.tlr.passes.foldl (fun s x => returnLane x.1 x.2 (abandonPass x.1 s)) s

/-! ## Transmitter FFE (R119, R120) -/

/-- An upstream lane takes FFE values from the station (R120). -/
def State.ffeOpen (s : State) (n : LaneNo) : Bool :=
  let v := s.slv .up (slvOf n)
  (v.spareState == 2 && v.spareLane.toNat == placeOf n) || s.tlr.mode == .training || s.lnk.retraining.isSome

/-- FFE_SET (R119, R120): answered, and applied at its slot; a LANE above 71 is answered 0x02. (DESIGN CHOICE: log entry 74) -/
def execFfeSet (msg : BitVec 96) (s : State) : Host.Outcome State Fault Refusal :=
  whenMsg s fun s =>
    let n : LaneNo := bits msg 0 7
    let pre : BitVec 4 := bits msg 8 4
    let post : BitVec 5 := bits msg 16 5
    let ok := n.toNat < 72 && s.ffeOpen n
    let st : Byte := if 71 < n.toNat then 2 else if !ok then 1 else if 23 < post.toNat then 2 else 0
    let s := if st = 0 then modTlr (fun t => { t with ffeDue := t.ffeDue.filter (·.1 != n) ++ [(n, msg)] }) s else s
    sendSlp 0x19 (ffeMsg n pre post (bits msg 32 32) st) s

/-- FFE_APPLY (R119, R120, R129): at APPLY_SLOT, or the next slot after it, the values are in force and recorded; under a freeze they
wait for its release. (DEDUCED: log entry 26) -/
def execFfeApply (lane : LaneNo) (s : State) : Host.Outcome State Fault Refusal :=
  whenLane lane s fun s =>
    match (if s.tlr.frozenHost || s.tlr.frozenBrown then none else s.tlr.ffeDue.find? (·.1 == lane)) with
    | some (_, msg) =>
      let r : BitVec 128 := BitVec.ofNat 128 (Sys2Proof.fld msg 8 4 + Sys2Proof.fld msg 16 5 * 2 ^ 4)
      askRebuild (modTx lane (fun x => { x with act := r, shd := r })
        (modTlr (fun t => { t with ffeDue := t.ffeDue.filter (·.1 != lane) }) s))
    | none => s

/-- FFE_DONE (R110, R119): the station has applied a step of a pass, or has not. (DEDUCED: log entry 26) -/
def execFfeDone (msg : BitVec 96) (s : State) : Host.Outcome State Fault Refusal :=
  whenMsg s fun s =>
    let n : LaneNo := bits msg 0 7
    match (if n.toNat < 72 then s.passOn n else none) with
    | some p =>
      if !p.ffeWait then s
      else
        let s := modPass n (fun p => { p with ffeWait := false, since := s.mark }) s
        match p.step with
        | .attempt i up best steps => if Sys2Proof.fld msg 64 8 = 0 then s else notKept p i best steps up false s
        | _ => s
    | none => s

/-- A receive record is in range with its reserved bits zero (R104, R127). -/
def rxOk (r : BitVec 128) : Bool :=
  bits r 120 8 == 0 && bits r 107 5 == 0 && bits r 49 7 == 0 && bits r 22 2 == 0 && bits r 12 4 == 0 && bits r 6 2 == 0
    && Sys2Proof.fld r 102 5 ≤ 23

/-- A transmit record is in range with its reserved bits zero (R104, R127). -/
def txOk (w : Word) : Bool := bits w 9 23 == 0 && Sys2Proof.fld w 4 5 ≤ 23

/-! ## TLR_CTRL (R114, R124, R133) -/

/-- The lane that the window selects. -/
def State.laneSel (s : State) : LaneNo := BitVec.ofNat 7 (s.fld F.TLR_CTRL.LANE_SEL)

/-- COMMIT acts with MANUAL at 1 and no freeze (R114, R129); values outside their ranges are never applied (R104). The station is asked
for the FFE values that a receive lane's commit changes (R119). A COMMIT_EYE in the shadow record is committed as it stands.
(DESIGN CHOICE: log entry 74) -/
def manualCommit (s : State) : State :=
  let n := s.laneSel
  if !s.flag F.TLR_CTRL.MANUAL || s.tlr.frozenHost || s.tlr.frozenBrown || 71 < n.toNat then s
  else if s.flag F.TLR_CTRL.DIR then
    if ((s.tlr.tx[n.toNat]?).map fun r => txOk (bits r.shd 0 32)).getD false then
      askRebuild (modTx n (fun r => { r with
        act := r.shd, commits := if r.commits = 0xFF then 0xFF else r.commits + 1, time := BitVec.ofNat 64 s.now }) s)
    else s
  else
    let r := s.rx n
    if rxOk r.shd then
      let s := commitLane n none s
      if ffeOf r.shd != ffeOf r.act then sendFfe n (ffeOf r.shd) s else s
    else s

/-- MEASURE on the selected receive lane (R124); it is ignored with DIR 1, with LANE_SEL above 71, and while another measurement runs.
(DESIGN CHOICE: log entry 74) -/
def startMeasure (s : State) : State :=
  let n := s.laneSel
  if 71 < n.toNat || s.flag F.TLR_CTRL.DIR || s.tlr.measuring.isSome then s
  else (modTlr (fun t => { t with measuring := some n, measureFrom := s.mark }) s).setFld F.TLR_CTRL.MEASURE 1

/-- A write of TLR_CTRL. Automatic passes stop where it sets MANUAL (R114). (DEDUCED: log entry 26) -/
def tlrCtrlWrite (data : Word) (s : State) : State :=
  let s := s.setReg R.TLR_CTRL ((s.reg R.TLR_CTRL &&& 0x00000200) ||| (data &&& 0x017F000F))
  let s := if data.getLsbD 3 then haltPasses s else s
  let s := if data.getLsbD 8 then manualCommit s else s
  if data.getLsbD 9 then startMeasure s else s

/-- TLR_CTRL_MEASURE: a write of TLR_CTRL with MEASURE at 1. -/
def execTlrCtrlMeasure (data : Word) (s : State) : Host.Outcome State Fault Refusal :=
  whenFunctional s fun s => portWrite R.TLR_CTRL (data.getLsbD 9) (tlrCtrlWrite data) s

/-- TLR_CTRL_COMMIT: a write of TLR_CTRL with COMMIT at 1. -/
def execTlrCtrlCommit (data : Word) (s : State) : Host.Outcome State Fault Refusal :=
  whenFunctional s fun s => portWrite R.TLR_CTRL (data.getLsbD 8) (tlrCtrlWrite data) s

/-! ## The snapshot (R126 to R132) -/

/-- A reading of the seam's temperature, shown in TLR_TEMP (R133). -/
def senseTemp (s : State) : BitVec 16 × State :=
  let t := Config.seamTemp s.free
  (t, modTlr (fun x => { x with temp := t }) s.draw)

/-- A word of REPAIR: SPARE_STATE 0b10 is recorded as 0b00 (R126), and SPARE_LANE then as 0. (DESIGN CHOICE: log entry 74) -/
def State.repairWord (s : State) (d : Dir) (k : SleeveNo) : Word :=
  let w := s.slvWord d k
  if (s.slv d k).spareState = 2 then w &&& 0xFFC0FFFF else w

/-- The sleeves in order. -/
def allSleeves : List SleeveNo := sleevesOf 0xFF

/-- The image without its last two fields, GENERATION_END and CRC (R126, R127). -/
def imageBody (gen : BitVec 32) (cause : BitVec 2) (temp : BitVec 16) (s : State) : List Byte :=
  leBytes 4 0x504E5351 ++ leBytes 2 0x0300 ++ leBytes 2 1576 ++ leBytes 4 gen.toNat ++ leBytes 2 temp.toNat
    ++ leBytes 2 s.own.toNat ++ leBytes 8 s.now ++ [0x41, 0x30] ++ [cause.setWidth 8, s.seam.retired] ++ List.replicate 36 0
    ++ (allSleeves.flatMap fun k => bvBytes (s.repairWord .up k) ++ bvBytes (s.repairWord .down k))
    ++ (s.tlr.rx.toList.flatMap fun r => bvBytes r.act) ++ (s.tlr.tx.toList.flatMap fun r => (bvBytes r.act).take 4)

/-- The snapshot image (R126). -/
def imageOf (gen : BitVec 32) (cause : BitVec 2) (temp : BitVec 16) (s : State) : List Byte :=
  let b := imageBody gen cause temp s ++ leBytes 4 gen.toNat
  b ++ leBytes 4 (crc32 b).toNat

/-- Bytes put into the snapshot window. -/
def putWindow (b : List Byte) (s : State) : State :=
  (List.range 394).foldl (fun s i => s.setReg (R.TLR_SNAP_WIN + 4 * i) (leWord 32 b (4 * i) 4)) s

/-- The bytes of the snapshot window. -/
def State.window1576 (s : State) : List Byte := (List.range 394).flatMap fun i => bvBytes (s.reg (R.TLR_SNAP_WIN + 4 * i))

/-- The window is frozen by the host or by a brownout (R129, R130). -/
def State.freezing (s : State) : Bool := s.tlr.frozenHost || s.tlr.frozenBrown

/-- A rebuild of the window (R128); the final one of a freeze sets FROZEN (R129). -/
def rebuildNow (cause : BitVec 2) (s : State) : State :=
  let g : BitVec 32 := if s.tlr.gen = 0xFFFFFFFF then 1 else s.tlr.gen + 1
  let (t, s) := senseTemp s
  let s := putWindow (imageOf g cause t s) s
  let s := modTlr (fun x => { x with gen := g, imageCause := cause, rebuild := none }) s
  if s.freezing then
    let s := raise C.TLR.SNAP_FROZEN 0 (modTlr (fun x => { x with frozen := true }) s)
    wake .freeze 0 (bvBytes g) s
  else s

/-- SNAPSHOT_REBUILD (R128 to R130). -/
def execSnapshotRebuild (s : State) : Host.Outcome State Fault Refusal :=
  whenFunctional s fun s =>
    match s.tlr.rebuild with
    | some c => rebuildNow c s
    | none => s

/-- The commits of this AO cycle withheld, and their shadow values discarded: a freeze in the same cycle wins (R121). -/
def withholdCommits (s : State) : State :=
  if s.tlr.recentAt = s.aoCycles then
    let s := s.tlr.recent.foldr (fun x s => modRx x.1 (fun r => { r with act := x.2.act, commits := x.2.commits, time := x.2.time }) s) s
    s.tlr.recent.foldl (fun s x => discardShadow x.1 s) (modTlr (fun t => { t with recent := [] }) s)
  else s

/-- A freeze begins (R121, R129, R130); one in force stays as it is. -/
def freeze (brown : Bool) (s : State) : State :=
  let first := !s.freezing
  let s := if first then haltPasses (withholdCommits s) else s
  modTlr (fun t => { t with
    frozenHost := t.frozenHost || !brown, frozenBrown := t.frozenBrown || brown,
    rebuild := if brown then some 2 else if first then some 1 else t.rebuild }) s

/-- The commits of a training that ended under a freeze are made at its release (R129, R419). (DESIGN CHOICE: log entry 74) -/
def commitWaiting (s : State) : State :=
  let due := s.tlr.passes.filterMap fun x => match x.2.step with | .waiting e => some (x.2.lane, e) | _ => none
  due.foldl (fun s x => commitLane x.1 (some x.2) s)
    (modTlr (fun t => { t with passes := t.passes.filter fun x => !due.any (·.1 == x.2.lane) }) s)

/-- A freeze is released, unless the other holds it; the next rebuild follows (R129, R130). -/
def unfreeze (brown : Bool) (s : State) : State :=
  let was := s.freezing
  let s := modTlr (fun t => { t with
    frozenHost := t.frozenHost && brown, frozenBrown := t.frozenBrown && !brown }) s
  if was && !s.freezing then modTlr (fun t => { t with frozen := false, rebuild := some 0 }) (commitWaiting s) else s

/-- A restored image can still be loaded: training has not begun since the cold reset (R131, R330). -/
def State.loadable (s : State) : Bool := s.boot.reached < 7 && s.boot.step != 0

/-- A word of REPAIR is in range with its reserved bits zero (R103, R126). -/
def repairOk (w : Word) : Bool :=
  bits w 22 8 == 0 && bits w 9 7 == 0 && Sys2Proof.fld w 20 2 != 2 && Sys2Proof.fld w 16 4 < 8

/-- The checks of R131 on an image, in their order: the first that fails, 0 for none. -/
def imageReject (b : List Byte) (temp : BitVec 16) (s : State) : BitVec 4 :=
  let gen := leAt b 8 4
  let d := temp.toInt - (leWord 16 b 12 2 : BitVec 16).toInt
  if leAt b 0 4 != 0x504E5351 || leAt b 6 2 != 1576 || leAt b 5 1 != 3 then 1
  else if gen = 0 || gen != leAt b 1568 4 then 2
  else if leAt b 1572 4 != (crc32 (b.take 1572)).toNat then 3
  else if 120 < d.natAbs then 4
  else if leAt b 14 2 % 2 ^ 14 != s.own.toNat || leAt b 24 2 != 0x3041 then 5
  else if 2 ^ 14 ≤ leAt b 14 2 || 2 < leAt b 26 1 || !zeroAt b 28 36
      || !(List.range 16).all (fun i => repairOk (leWord 32 b (64 + 4 * i) 4))
      || !(List.range 72).all (fun i => rxOk (leWord 128 b (128 + 16 * i) 16))
      || !(List.range 72).all (fun i => txOk (leWord 32 b (1280 + 4 * i) 4)) then 6
  else 0

/-- A sleeve's record from a word of REPAIR. -/
def slvOfWord (w : Word) : Slv :=
  { clkFail := bit w 30, spareState := bits w 20 2, spareLane := bits w 16 4, failed := bits w 0 9 }

/-- The records and the repair map of an image loaded (R90, R132). -/
def loadImage (b : List Byte) (s : State) : State :=
  let s := modTlr (fun t => { t with
    rx := Vector.ofFn fun i => { t.rx[i] with act := leWord 128 b (128 + 16 * i.val) 16, shd := leWord 128 b (128 + 16 * i.val) 16 }
    tx := Vector.ofFn fun i => { t.tx[i] with act := leWord 128 b (1280 + 4 * i.val) 4, shd := leWord 128 b (1280 + 4 * i.val) 4 } }) s
  modSeam (fun m => { m with
    up := Vector.ofFn fun k => slvOfWord (leWord 32 b (64 + 8 * k.val) 4)
    dn := Vector.ofFn fun k => slvOfWord (leWord 32 b (68 + 8 * k.val) 4)
    retired := leWord 8 b 27 1 }) s

/-- The check of the window's image, and its loading or its rejection (R131, R132). (DEDUCED: log entry 26) -/
def restoreNow (s : State) : State :=
  let b := s.window1576
  let (t, s) := senseTemp (modTlr (fun x => { x with restoreDue := false }) s)
  let r := imageReject b t s
  if r = 0 then
    let s := loadImage b s
    let s := modTlr (fun x => { x with
      gen := leWord 32 b 8 4, imageCause := leWord 2 b 26 1, restored := true, reject := 0, committed := true }) s
    let s := { s with boot := { s.boot with restore := true } }
    (List.range 72).foldl (fun s i => sendFfe (BitVec.ofNat 7 i) (ffeOf (s.rx (BitVec.ofNat 7 i)).act) s) s
  else
    let s := raise C.TLR.RESTORE_REJECTED 0 (modTlr (fun x => { x with reject := r }) s)
    wake .restore 0x0262 [r.setWidth 8] s

/-- RESTORE set (R131): the check runs once the station's physical endpoint ID is known. (DEDUCED: log entry 26) -/
def askRestore (s : State) : State :=
  if !s.loadable then s
  else if s.boot.physValid then restoreNow s else modTlr (fun t => { t with restoreDue := true }) s

/-- The active box's firmware heeds TLR_SNAP_CTRL.FREEZE: a freeze, or its release (R129, R339). (DEDUCED: log entry 49) -/
def heedFreeze (s : State) : State :=
  if !s.sbx.ready then s
  else if s.flag F.TLR_SNAP_CTRL.FREEZE then (if s.tlr.frozenHost then s else freeze false s)
  else if s.tlr.frozenHost then unfreeze false s
  else s

/-- A write of TLR_SNAP_CTRL (R129 to R131). -/
def snapCtrlWrite (data : Word) (s : State) : State :=
  let s := heedFreeze (s.setReg R.TLR_SNAP_CTRL (data &&& 0x3))
  if data.getLsbD 2 then askRestore s else s

/-- SNAP_FREEZE: a write of TLR_SNAP_CTRL with FREEZE at 1. -/
def execSnapFreeze (data : Word) (s : State) : Host.Outcome State Fault Refusal :=
  whenFunctional s fun s => portWrite R.TLR_SNAP_CTRL (data.getLsbD 0) (snapCtrlWrite data) s

/-- SNAP_RELEASE: a write of TLR_SNAP_CTRL with FREEZE at 0. -/
def execSnapRelease (data : Word) (s : State) : Host.Outcome State Fault Refusal :=
  whenFunctional s fun s => portWrite R.TLR_SNAP_CTRL (!data.getLsbD 0) (snapCtrlWrite data) s

/-- SNAP_RESTORE: a write of TLR_SNAP_CTRL with RESTORE at 1. -/
def execSnapRestore (data : Word) (s : State) : Host.Outcome State Fault Refusal :=
  whenFunctional s fun s => portWrite R.TLR_SNAP_CTRL (data.getLsbD 2) (snapCtrlWrite data) s

/-! ## Training, verification (R76, R122, R123, R132, R413) -/

/-- The reports of lanes that exist, of sleeves in a mask. -/
def reportsOf (m : Byte) (ls : List LaneReport) : List LaneReport :=
  ls.filter fun r => r.lane.toNat < 72 && m.getLsbD (slvOf r.lane).toNat

/-- The earliest arrival among reports. -/
def earliest (ls : List LaneReport) : Nat := (ls.map (·.arrival.toNat)).min?.getD 0

/-- The reports of one sleeve. -/
def inSleeve (k : SleeveNo) (ls : List LaneReport) : List LaneReport := ls.filter fun r => slvOf r.lane == k

/-- Skew measured (R76, R103). -/
def noteSkew (ls : List LaneReport) (s : State) : State :=
  allSleeves.foldl (fun s k =>
    let own := inSleeve k ls
    if own = [] then s
    else
      let lo := earliest own
      let hi := (own.map (·.arrival.toNat)).max?.getD 0
      let w : Word := BitVec.ofNat 32 (((lo - earliest ls) % 256) * 2 ^ 16 + (hi - lo) % 256)
      modSeam (fun m => { m with skew := vmod m.skew k.toNat (fun _ => w) }) s) s

/-- A lane is not fit for service: its histogram fails R107, its eye is too small, or the lane limit of R76. -/
def State.unfit (s : State) (ls : List LaneReport) (r : LaneReport) : Bool :=
  !s.fits r.hist || s.eyeLow (s.histEye r.hist) || earliest (inSleeve (slvOf r.lane) ls) + 8 < r.arrival.toNat

/-- The lanes of sleeves in a mask that have not failed. -/
def State.soundLanes (s : State) (m : Byte) : List LaneNo :=
  (sleevesOf m).flatMap fun k => ((List.range 9).filter fun j => !(s.slv .down k).failed.getLsbD j).map (laneOf k)

/-- The sound lanes of a mask that do not pass a verification: their report is unfit, or there is none.
(DESIGN CHOICE: log entry 74) -/
def State.unverified (s : State) (m : Byte) (ls : List LaneReport) : List LaneNo :=
  (s.soundLanes m).filter fun n => !ls.any fun r => r.lane == n && !s.unfit ls r

/-- The reports of the sound lanes of sleeves in a mask. -/
def State.soundReports (s : State) (m : Byte) (ls : List LaneReport) : List LaneReport :=
  (reportsOf m ls).filter fun r => !(s.slv .down (slvOf r.lane)).failed.getLsbD (placeOf r.lane)

/-- TLR_LANE_QUAL of a lane from its report (R125). -/
def State.reportQual (s : State) (source : Nat) (r : LaneReport) : Word :=
  qualWord source (s.histWorst r.hist) (s.phaseCentre r.hist).1 (eyePct (s.histEye r.hist))

/-- Start-up training begins on the sound lanes of a mask, all in parallel (R122): the offsets are nulled, and the search starts from
CTLE code 0 and zero DFE taps. -/
def startTraining (m : Byte) (s : State) : State :=
  (s.soundLanes m).foldl (fun s n =>
    let p := s.newPass n (.ctle 0 0 0) true true
    let zero (a : BitVec 128) : BitVec 128 := a &&& ~~~((0xF#128 <<< 8) ||| (0x3F#128 <<< 16) ||| (0x1FFFFFF#128 <<< 24))
    nullLane p (modRx n (fun r => { r with shd := zero r.act })
      (modTlr (fun t => { t with passes := t.passes.filter (·.2.lane != n) ++ [(slvOf n, p)] }) s))) s

/-- The training of a lane has come to its end with every step made. -/
def State.trained (s : State) (n : LaneNo) : Bool :=
  match s.passOn n with
  | some p => p.step == .done true
  | none => false

/-- Sleeves that break the sleeve limit of R76. -/
def lateSleeves (ls : List LaneReport) : List SleeveNo :=
  allSleeves.filter fun k => inSleeve k ls != [] && earliest ls + 32 < earliest (inSleeve k ls)

/-- The end of a lane's training: the shadow values that its pass has found are committed, with the eye of the verification, and the
quality record is written (R122, R125). While frozen the commit waits, and the lane runs on (R129, R419).
(DESIGN CHOICE: log entry 74) -/
def trainLane (r : LaneReport) (s : State) : State :=
  let s := modRx r.lane (fun x => { x with qual := s.reportQual 1 r }) s
  if (s.passOn r.lane).isNone then s
  else if s.freezing then modPass r.lane (fun p => { p with step := .waiting (s.histEye r.hist) }) s
  else commitLane r.lane (some (s.histEye r.hist)) s

/-- The commit of a pass waits for the release of a freeze. -/
def Pass.waits (p : Pass) : Bool :=
  match p.step with
  | .waiting _ => true
  | _ => false

/-- The training passes of the sleeves in a mask are over, but for those whose commit waits. -/
def endTraining (m : Byte) (s : State) : State :=
  modTlr (fun t => { t with passes := t.passes.filter fun x => !(x.2.train && m.getLsbD x.1.toNat) || x.2.waits }) s

/-- A retrain's share on a lane: the committed values are reloaded, thresholds and sampling phase centred (R123), but for a freeze, which
stops commits (R129). -/
def centreLane (r : LaneReport) (s : State) : State :=
  let put (a : BitVec 128) : BitVec 128 := if s.freezing then a else s.centrePhase r.hist (s.putThresholds r.hist a)
  modRx r.lane (fun x => { x with act := put x.act, shd := put x.act, qual := s.reportQual 2 r }) s

/-- Sleeves that do not pass training: those of the sleeve limit, and those with two lanes that one spare cannot carry.
(DEDUCED: log entry 52) -/
def State.lostSleeves (s : State) (m : Byte) (late : List SleeveNo) : Byte :=
  allSleeves.foldl (fun acc k =>
    let v := s.slv .down k
    let lanes := v.bare.length
    let bad := late.contains k || v.clkFail || 1 < lanes || (lanes = 1 && v.spareState != 0 && v.spareState != 2)
      || (v.spareState == 1 && v.failed.getLsbD 8)
    if m.getLsbD k.toNat && bad then acc ||| slvBit k else acc) 0

/-- Both ends' TRAIN_DONE are known (R413): the first width state is the widest over the sleeves that both mark usable; with
none, start-up holds. (DEDUCED: log entry 52) -/
def bothTrained (s : State) : State :=
  match s.boot.ownUsable, s.boot.peerUsable with
  | some a, some b =>
    let m := a &&& b &&& s.permitted
    if m = 0 then holdStart 7 0x01 s
    else
      let n := (([8, 6, 4, 2] : List Nat).find? (· ≤ popcount8 m)).getD 1
      let u := lowest m n
      modSeam (fun x => { x with usable := u, powered := u ||| (x.powered &&& s.testMask) }) s
  | _, _ => s

/-- TRAIN_DONE goes to the station (R413). -/
def sendDone (usable : Byte) (s : State) : State := sendSlp 0x21 [usable.setWidth 32] { s with boot := { s.boot with sentAt := s.mark } }

/-- The block's TRAIN_DONE, which may complete the exchange (R413). -/
def sendTrainDone (usable : Byte) (s : State) : State :=
  bothTrained (sendDone usable { s with boot := { s.boot with ownUsable := some usable, trainSends := 1 } })

/-- The sleeves that this training is of (R413): the union of both masks, below the cap and not retired. -/
def State.trainMask (s : State) : Byte := (s.boot.ownMask ||| s.boot.peerMask.getD 0) &&& s.permitted

/-- Sleeves trained alone are added under R94, once a width change in progress has ended (R92, R132). -/
def addTrained (s : State) : State :=
  if s.pcm.st != .awake || s.lnk.st != .up then s
  else if s.seam.width.isNone then beginWidth 8 true true s
  else if s.seam.queued.isNone then queueWidth 8 true s
  else s

/-- TRAINING_DONE (R76, R84, R122, R125, R132, R413): the lanes' values are committed, and the block's TRAIN_DONE goes, or
sleeves left out of a restore join. A lane whose training has not come to its end, or whose verification fails, has failed training. -/
def execTrainingDone (lanes : List LaneReport) (s : State) : Host.Outcome State Fault Refusal :=
  whenFunctional s fun s =>
    let alone := s.tlr.mode != .training
    let waking := s.pcm.st == .waking
    let m := if alone then s.tlr.leftOut else if waking then s.pcm.wakeTarget else s.trainMask
    if (if alone then s.tlr.leftOut == 0 else !waking && s.boot.peerMask.isNone) then s
    else
      let ls := s.soundReports m lanes
      let late := lateSleeves ls
      let bad := (s.soundLanes m).filter fun n => (s.unverified m ls).contains n || !s.trained n
      let s := (ls.filter fun r => !bad.contains r.lane).foldl (fun s r => trainLane r s) s
      let s := endTraining m (modTlr (fun t => { t with committed := true }) (noteSkew ls s))
      let s := bad.foldl (fun s n => failLane n s) s
      let s := late.foldl (fun s k => wantRetire k s) s
      let s := askRebuild (raise C.TLR.TRAIN_DONE 0 s)
      let lost := s.lostSleeves m late
      if alone then addTrained (modTlr (fun t => { t with leftOut := lost }) s)
      else if waking then modTlr (fun t => { t with mode := .service }) s
      else sendTrainDone (m &&& ~~~lost) s

/-- A lane that fails the verification of a restore in a sleeve whose spare is idle (R132): its traffic goes onto the spare once
the link is up, and a pass begins from zero DFE taps. -/
def reviseLane (n : LaneNo) (s : State) : State :=
  let k := slvOf n
  let zero (a : BitVec 128) : BitVec 128 := a &&& ~~~((0x3F#128 <<< 16) ||| (0x1FFFFFF#128 <<< 24))
  let p := s.newPass n .opening true false
  let s := modTlr (fun t => { t with passes := t.passes.filter (·.1 != k) ++ [(k, p)] }) s
  wantEx (.subst k (BitVec.ofNat 4 (placeOf n)) 1) (modRx n (fun x => { x with shd := zero x.act }) s)

/-- A lane fails the verification of a restore (R132): it is tailored on from there, or its sleeve is left out and trained alone. A
pass begins neither under MANUAL nor under a freeze (R114, R129). (DESIGN CHOICE: log entry 74) -/
def failRestored (n : LaneNo) (s : State) : State :=
  let k := slvOf n
  let s := raiseLane C.TLR.VERIFY_FAIL .down k (placeOf n) s
  if (s.slv .down k).spareState = 0 && (s.passIn k).isNone && placeOf n != 8 && !s.flag F.TLR_CTRL.MANUAL && !s.freezing then reviseLane n s
  else modTlr (fun t => { t with leftOut := t.leftOut ||| slvBit k }) s

/-- RESTORE_VERIFY_DONE (R132): the restored values are verified, and the block's TRAIN_DONE goes. The skew limits of R76 hold here too, and
a failing spare, or a second failing lane, leaves its sleeve out. (DESIGN CHOICE: log entry 74) -/
def execRestoreVerifyDone (lanes : List LaneReport) (s : State) : Host.Outcome State Fault Refusal :=
  whenFunctional s fun s =>
    if s.tlr.mode != .restoring || s.boot.peerMask.isNone then s
    else
      let m := s.trainMask
      let ls := s.soundReports m lanes
      let s := (s.unverified m ls).foldl (fun s n => failRestored n s) (noteSkew ls s)
      let s := startTraining s.tlr.leftOut s
      let s := wake .restore 0 [0] (raise C.TLR.RESTORE_DONE 0 s)
      let late := lateSleeves ls
      let s := late.foldl (fun s k => wantRetire k s) s
      sendTrainDone (m &&& ~~~s.tlr.leftOut &&& ~~~(s.lostSleeves m late)) s

/-- RETRAIN_TAILORING_DONE (R76, R88, R123, R125, R157): the lanes are centred and verified, and LINK_READY goes. A lane beyond the skew
limit of R76 raises VERIFY_FAIL too. (DESIGN CHOICE: log entry 74) -/
def execRetrainTailoringDone (lanes : List LaneReport) (s : State) : Host.Outcome State Fault Refusal :=
  whenFunctional s fun s =>
    match s.lnk.retraining with
    | none => s
    | some r =>
      if r.tailored then s
      else
        let ls := s.soundReports s.seam.usable lanes
        let late := lateSleeves ls
        let bad := s.unverified s.seam.usable ls
        let s := noteSkew ls (ls.foldl (fun s r => centreLane r s) s)
        let s := bad.foldl (fun s n => failLane n (raiseLane C.TLR.VERIFY_FAIL .down (slvOf n) (placeOf n) s)) s
        let s := late.foldl (fun s k => wantRetire k s) s
        let s := askRebuild (raise C.TLR.TRAIN_DONE 0 s)
        sendSlp 0x29 [0, 0] (modLnk (fun l => { l with retraining := some { r with tailored := true } }) s)

/-! ## Tailoring commands (R330) -/

/-- TLR_MEASURE (R124, R330). -/
def execTlrMeasure (ref : CmdRef) (s : State) : Host.Outcome State Fault Refusal :=
  whenFunctional s fun s => withCmd ref 0x0201 s fun p s =>
    if 71 < leAt p 0 1 then finish ref 0x0104 s
    else if s.tlr.mode != .service || s.flag F.TLR_CTRL.MANUAL || s.freezing || s.tlr.measuring.isSome then finish ref 0x0260 s
    else addWait ref .measure false (modTlr (fun t => { t with measuring := some (leWord 7 p 0 1), measureFrom := s.mark }) s)

/-- TLR_FREEZE (R129, R130, R330): it acts as TLR_SNAP_CTRL.FREEZE; a freeze completes when FROZEN is set. -/
def execTlrFreeze (ref : CmdRef) (s : State) : Host.Outcome State Fault Refusal :=
  whenFunctional s fun s => withCmd ref 0x0202 s fun p s =>
    let gen := bvBytes s.tlr.gen
    if 1 < leAt p 0 1 then finish ref 0x0104 s
    else if leAt p 0 1 = 1 then
      let s := if s.tlr.frozenHost then s else (freeze false s).setFld F.TLR_SNAP_CTRL.FREEZE 1
      if s.tlr.frozen then complete ref 0 gen s else addWait ref .freeze false s
    else if s.tlr.frozenBrown then finish ref 0x0261 s
    else complete ref 0 gen ((unfreeze false s).setFld F.TLR_SNAP_CTRL.FREEZE 0)

/-- TLR_SNAP_READ (R330). -/
def execTlrSnapRead (ref : CmdRef) (s : State) : Host.Outcome State Fault Refusal :=
  whenFunctional s fun s => withCmd ref 0x0203 s fun p s =>
    let o := leAt p 0 2
    let n := leAt p 2 2
    if o % 4 != 0 || n % 4 != 0 || n < 4 || 1000 < n || 1576 < o + n then finish ref 0x0104 s
    else if !s.tlr.frozen then finish ref 0x0260 s
    else complete ref 0 (slice s.window1576 o n) s

/-- TLR_RESTORE (R131, R330): the image read from host memory goes into the window and is restored. (DESIGN CHOICE: log entry 12) -/
def execTlrRestore (ref : CmdRef) (fetched : Bool) (image : List Byte) (s : State) : Host.Outcome State Fault Refusal :=
  whenFunctional s fun s => withCmd ref 0x0204 s fun p s =>
    if 7 < leAt p 8 1 then finish ref 0x0104 s
    else if !s.loadable then finish ref 0x0260 s
    else if !fetched || !s.hasPort (leWord 3 p 8 1) then finish ref 0x0307 s
    else askRestore (addWait ref .restore false (putWindow (slice image 0 1576) s))

/-! ## Register views (R133) -/

/-- TLR_STATUS. -/
def State.tlrStatus (s : State) : Word :=
  let m := match s.tlr.mode with | .idle => 0 | .training => 1 | .restoring => 2 | .service => 3 | .retrain => 4
  let rolling := s.tlr.passes.foldl (fun acc x => if x.2.train then acc else acc ||| slvBit x.1) 0#8
  BitVec.ofNat 32 (s.tlr.starvedMask.toNat * 2 ^ 24 + rolling.toNat * 2 ^ 16 + (if s.tlr.frozen then 5 else m))

/-- TLR_SNAP_STATUS. -/
def State.snapStatus (s : State) : Word :=
  BitVec.ofNat 32 (s.tlr.reject.toNat * 2 ^ 4 + s.tlr.imageCause.toNat * 2 ^ 2 + 2 * b2n s.tlr.restored + b2n s.tlr.frozen)

/-- The record that the lane window selects; an empty one beyond lane 71. -/
def State.laneWin (s : State) : TlrLane :=
  ((if s.flag F.TLR_CTRL.DIR then s.tlr.tx else s.tlr.rx)[s.fld F.TLR_CTRL.LANE_SEL]?).getD TlrLane.reset

/-- A write of a shadow word of the lane window: with MANUAL at 1 only (R114). The bits of a transmit record stand in word 0. -/
def shadowWrite (i : Nat) (data : Word) (s : State) : State :=
  let n := s.laneSel
  if !s.flag F.TLR_CTRL.MANUAL || 71 < n.toNat then s
  else if s.flag F.TLR_CTRL.DIR then
    if i = 0 then modTx n (fun r => { r with shd := (data &&& 0x1FF).setWidth 128 }) s else s
  else modRx n (fun r => { r with shd := putField r.shd (32 * i) 32 data.toNat &&& 0x00FF07FFFFFFFFFFFF01FFFFFF3F0F3F }) s

end Sys2Proof.Machine
end

