-- ==== Sys2Proof/Machine/Boot.lean ====
section
/-!
DEFINITION. Start-up from the agreement to the end of calibration: NEG_AGREE and NEG_CONFIRM, the training messages and their
resends, and messages discarded (R407 to R417, R419).
-/
namespace Sys2Proof.Machine

/-! ## Calibration (R122, R132, R373, R413) -/

/-- The committed values of the retained snapshot loaded into the lanes (R373). -/
def loadRecords (b : List Byte) (s : State) : State :=
  let s' := loadImage b s
  modTlr (fun t => { t with rx := s'.tlr.rx, tx := s'.tlr.tx }) s

/-- TRAIN_START leaves, with the sleeves the block means to train, and RESTORE (R413). -/
def sendTrainStart (s : State) : State :=
  sendSlp 0x20 [BitVec.ofNat 32 (s.boot.ownMask.toNat + 256 * b2n s.boot.restore)] { s with boot := { s.boot with sentAt := s.mark } }

/-- Training or a verification starts from the beginning: nothing of it is known yet (R413, R419). -/
def trainFresh (s : State) : State :=
  let mode := if s.boot.restore then TlrMode.restoring else TlrMode.training
  let s := modTlr (fun t => { t with mode := mode, passes := [] }) s
  let s := modSeam (fun m => { m with usable := 0, powered := s.boot.ownMask ||| (m.powered &&& s.testMask), switchFrom := s.mark }) s
  sendTrainStart { s with boot := { s.boot with peerMask := none, ownUsable := none, peerUsable := none } }

/-- CALIBRATING begins (R412 to R414): a restart takes the retained snapshot where its image passes the checks. -/
def calibrate (s : State) : State :=
  let s := modTlr (fun t => { t with leftOut := 0 }) s
  let s := { toStep 7 s with boot := { (toStep 7 s).boot with ownMask := s.permitted, trainSends := 1 } }
  if s.boot.again then
    let b := s.window1576
    let (t, s) := senseTemp s
    let ok := s.tlr.committed && imageReject b t s == 0
    let s := if ok then loadRecords b s else s
    trainFresh { s with boot := { s.boot with restore := ok } }
  else trainFresh s

/-- Training messages have gone unanswered once more: they are sent again, and after the tenth start-up holds (R416).
(DEDUCED: log entries 25, 51) -/
def countTrain (s : State) (send : State → State) : State :=
  if 10 ≤ s.boot.trainSends then holdStart 6 0x03 s
  else send { s with boot := { s.boot with trainSends := s.boot.trainSends + 1 } }

/-- LINK_RETRAIN or LINK_DOWN in CALIBRATING is taken as silence: training restarts (R419). -/
def trainAgain (s : State) : State := countTrain s trainFresh

/-! ## The agreement (R410, R411, R417) -/

/-- The tracks of a generation, T0 in bit 0 (R163). -/
def genTracksOf (gen : BitVec 2) : Byte := if gen = 1 then 0x47 else if gen = 2 then 0x5F else 0x7F

/-- TKT_Tn of ticket kind `i`, in the order T0, T1, T3, T4, T5 (R410). -/
def agreeTickets (msg : BitVec 128) (i : Nat) : Nat := Sys2Proof.fld msg (64 + 8 * i) 8

/-- The ticket kinds of a generation's tracks. -/
def genKinds (gen : BitVec 2) : List Nat := if gen = 1 then [0, 1] else if gen = 2 then [0, 1, 2, 3] else [0, 1, 2, 3, 4]

/-- The fail code of an agreement by the checks of R410 in their order; 0 when all pass. -/
def agreeCode (msg : BitVec 128) (s : State) : Nat :=
  let gen : BitVec 2 := Sys2Proof.bits msg 0 2
  if gen = 0 then 4
  else if Sys2Proof.fld msg 12 4 != 3 || 95 < Sys2Proof.fld msg 16 7 || (Sys2Proof.bit msg 2 && !s.boot.offerSelective) then 4
  else if Sys2Proof.bits msg 32 20 != s.boot.offerGrace then 4
  else if (genKinds gen).any (fun i => agreeTickets msg i < 16) then 5
  else if Sys2Proof.fld msg 120 8 != 56 then 9
  else 0

/-- NEG_CONFIRM (R411). -/
def sendConfirm (gen : BitVec 2) (code : Nat) (s : State) : State :=
  sendSlp 0x03 [BitVec.ofNat 32 (gen.toNat + 4 * b2n (code == 0) + 16 * code)] s

/-- What an accepted agreement puts in force (R411): generation, replay mode, tickets, physical ID. A RESTORE that waited for the ID
is checked now (R131). -/
def putAgreement (msg : BitVec 128) (s : State) : State :=
  let gen : BitVec 2 := Sys2Proof.bits msg 0 2
  let shared := Sys2Proof.fld msg 104 11
  let tickets : Vector Nat 6 := Vector.ofFn fun i =>
    if i.val = 5 then shared else if (genKinds gen).contains i.val then agreeTickets msg i.val else 0
  let s := modLnk (fun l => { l with
    gen := gen, trackMask := genTracksOf gen, selective := Sys2Proof.bit msg 2, held := tickets, peerPool := tickets }) s
  let s := { s with boot := { s.boot with phys := Sys2Proof.bits msg 16 14, physValid := true, gen := gen } }
  if s.tlr.restoreDue then restoreNow s else s

/-- NEG_AGREE (R398, R410 to R413): checked and answered. The station must be the one whose certificate was accepted.
(DEDUCED: log entries 51, 64) -/
def execNegAgree (msg : BitVec 128) (s : State) : Host.Outcome State Fault Refusal :=
  whenMsg s fun s =>
    if s.boot.step != 6 then s
    else
      let gen : BitVec 2 := Sys2Proof.bits msg 0 2
      let code := agreeCode msg s
      if code != 0 then holdStart code 0x03 (sendConfirm gen code s)
      else if hex4 s.idn.serial != some (Sys2Proof.fld msg 16 14) then authFailed s
      else calibrate (putAgreement msg (sendConfirm gen 0 s))

/-- NEG_OFFER_TIMEOUT (R411): 100 µs after a send the offer is sent again, and after the tenth start-up holds. -/
def execNegOfferTimeout (s : State) : Host.Outcome State Fault Refusal :=
  whenFunctional s fun s =>
    if s.boot.step != 6 then s
    else
      let s := s.lapse s.boot.sentAt 100000
      if 10 ≤ s.boot.offers then holdStart 6 0x03 s else sendOffer s

/-- TRAIN_START (R122, R132, R413): the station's mask; without RESTORE at both ends the lanes of the union are trained. -/
def execTrainStart (msg : BitVec 32) (s : State) : Host.Outcome State Fault Refusal :=
  whenMsg s fun s =>
    if s.boot.step != 7 || s.boot.peerMask.isSome then s
    else
      let s := { s with boot := { s.boot with peerMask := some (Sys2Proof.bits msg 0 8), trainSends := 1 } }
      let s := modSeam (fun m => { m with powered := s.trainMask ||| (m.powered &&& s.testMask), switchFrom := s.mark }) s
      if s.boot.restore && !Sys2Proof.bit msg 8 then
        let s := modTlr (fun t => { t with mode := .training }) { s with boot := { s.boot with restore := false } }
        startTraining s.trainMask (wake .restore 0x0260 [] s)
      else if s.tlr.mode == .training then startTraining s.trainMask s
      else s

/-- TRAIN_DONE (R413): the sleeves that passed at the station's receivers. -/
def execTrainDone (msg : BitVec 32) (s : State) : Host.Outcome State Fault Refusal :=
  whenMsg s fun s =>
    if s.boot.step != 7 || s.boot.peerUsable.isSome then s
    else bothTrained { s with boot := { s.boot with peerUsable := some (Sys2Proof.bits msg 0 8), trainSends := 1 } }

/-- TRAIN_MSG_TIMEOUT (R416): every 100 µs, TRAIN_START until the station's has come, then TRAIN_DONE once it has gone.
(DEDUCED: log entry 51) -/
def execTrainMsgTimeout (s : State) : Host.Outcome State Fault Refusal :=
  whenFunctional s fun s =>
    if s.boot.step != 7 then s
    else if s.boot.peerMask.isNone then countTrain (s.lapse s.boot.sentAt 100000) sendTrainStart
    else
      match s.boot.ownUsable, s.boot.peerUsable with
      | some u, none => countTrain (s.lapse s.boot.sentAt 100000) (sendDone u)
      | _, _ => s

/-- SLEEPER_MESSAGE_DISCARD (R98, R103, R407, R417): a message that fails its CRC, its length, its TYPE or its generation has no effect
but by the sync headers of its blocks and of those since the last such message. (DEDUCED: log entries 16, 21) -/
def execSleeperMessageDiscard (blocks : List (BitVec 34)) (s : State) : Host.Outcome State Fault Refusal :=
  whenMsg s fun s => takeHeads (blocks.map badHeader) s

/-! ## Register views (R439) -/

/-- GBL_LINK. -/
def State.gblLink (s : State) : Word :=
  BitVec.ofNat 32 (b2n s.boot.physValid * 2 ^ 31 + s.boot.phys.toNat * 2 ^ 16 + s.boot.gen.toNat)

/-- GBL_START. -/
def State.gblStart (s : State) : Word := BitVec.ofNat 32 (s.boot.fail.toNat * 16 + s.boot.step.toNat)

end Sys2Proof.Machine
end

