-- ==== Sys2Proof/Machine/Msh.lean ====
section
/-!
DEFINITION. The marshalling unit's events and commands: beacons and load reports, heat windows, the migration packets, rings, and
the Vetex commands of group 6 (R284 to R307, R334).
-/
namespace Sys2Proof.Machine

/-- The marshalling unit changed. -/
def modMsh (f : Msh → Msh) (s : State) : State := { s with msh := f s.msh }

/-! ## Beacons and load (R295) -/

/-- A beacon value taken. -/
def putBeacon (b : Beacon) (s : State) : State :=
  modMsh (fun m => { m with beacons := m.beacons.filter (fun x => !(x.tile == b.tile && x.num == b.num)) ++ [b] }) s

/-- Item `i` of a LOAD_BEACON, from bit 32 of the payload: bit 15 tile, bits 14:8 the number, bits 7:0 L (R407). -/
def beaconItem (words : List Word) (now i : Nat) : Beacon :=
  let it : BitVec 16 := leWord 16 (wordsBytes words) (4 + 2 * i) 2
  { tile := bit it 15, num := bits it 8 7, load := bits it 0 8, time := now, stale := false }

/-- LOAD_BEACON (R295): COUNT items, as many as the message holds. -/
def execLoadBeacon (words : List Word) (s : State) : Host.Outcome State Fault Refusal :=
  whenMsg s fun s =>
    let count := min (fld (words.headD 0) 0 8) (2 * (words.length - 1))
    if s.platLive then (List.range count).foldl (fun s i => putBeacon (beaconItem words s.now i) s) s else s

/-- WORK_LOAD (R295): the largest occupancy of a pool ring in 255ths; 0 without a ring. -/
def State.workLoad (s : State) : Byte :=
  BitVec.ofNat 8 ((s.msh.rings.toList.filterMap id).foldl (fun acc r => max acc (255 * (r.prod - r.cons).toNat / 2 ^ r.slotsLog)) 0)

/-- LOAD_REPORT_TIMER (R295): REPORT_US have passed since the last report. -/
def execLoadReportTimer (s : State) : Host.Outcome State Fault Refusal :=
  whenPlat s fun s =>
    let s := s.lapse s.msh.reportAt (1000 * atLeastOne (s.fld F.MSH_BEACON_CFG.REPORT_US))
    let l := s.workLoad
    sendSlp 0x49 [BitVec.setWidth 32 l] (modMsh (fun m => { m with workLoad := l, reportAt := s.mark }) s)

/-- BEACON_STALE (R295): a value older than STALE_US is taken as 255, and reported once. -/
def execBeaconStale (tile : Bool) (num : BitVec 7) (s : State) : Host.Outcome State Fault Refusal :=
  whenPlat s fun s =>
    match s.msh.beacons.find? (fun b => b.tile == tile && b.num == num) with
    | some b =>
      if b.stale then s
      else
        let s := s.reach (b.time + 1000 * atLeastOne (s.fld F.MSH_BEACON_CFG.STALE_US) + 1)
        raise C.MSH.BEACON_STALE 0 (putBeacon { b with stale := true } s)
    | none => s

/-! ## Heat (R297) -/

/-- A migration of this block is in progress. -/
def State.migrating (s : State) : Bool := s.msh.mig.st == .copying || s.msh.mig.st == .cutover || s.msh.mig.st == .final

/-- The candidate with the greatest count, the first of equals in the order of the holders: its place, and its count.
(DEDUCED: log entry 65) -/
def State.topCandidate (s : State) (r : DirRec) (h : Heat) : Option (Nat × Nat) :=
  let count (i : Nat) : Option (Nat × Nat) := ((r.holders[i]?).bind s.physOf).map fun p =>
    (i, ((h.per.find? (·.1 == p)).map (·.2)).getD 0)
  (((List.range r.holders.length).drop 1).filterMap count).foldl (fun acc x => match acc with
    | none => some x
    | some b => if b.2 < x.2 then some x else acc) none

/-- A record at the end of a heat window: hot where its count and one candidate's share reach their bounds; its migration
starts where it may (R297). (DEDUCED: log entries 41, 65) -/
def heatRecord (s : State) (r : DirRec) : State :=
  let h : Heat := (s.msh.heat.find? (·.slot == r.slot)).getD { slot := r.slot, total := 0, per := [] }
  let need := if r.hotCount = 0 then s.fld F.MSH_HEAT_CFG2.HOT_COUNT else r.hotCount.toNat
  match s.topCandidate r h with
  | none => s
  | some (i, n) =>
    if need ≤ h.total && min 100 (s.fld F.MSH_HEAT_CFG.DOM_PCT) * h.total ≤ 100 * n then
      let s := raise C.MSH.HOT 0 s
      let rested := r.movedAt = 0 || r.movedAt.toNat + 1000000 * s.fld F.MSH_HEAT_CFG2.DWELL_MS ≤ s.now
      if s.flag F.MSH_CTRL.MIG_EN && !s.migrating && rested then startMig r.slot i s else s
    else s

/-- HEAT_WINDOW_END (R297): WINDOW_US have passed; the records counted are judged in directory order while counting is enabled, and the
counts begin anew. (DEDUCED: log entry 65) -/
def execHeatWindowEnd (s : State) : Host.Outcome State Fault Refusal :=
  whenPlat s fun s =>
    let s := s.lapse s.msh.heatAt (1000 * atLeastOne (s.fld F.MSH_HEAT_CFG.WINDOW_US))
    let s := if s.flag F.MSH_CTRL.HEAT_EN then s.counted.foldl heatRecord s else s
    modMsh (fun m => { m with heat := [], heatAt := s.mark }) s

/-! ## Migration packets (R298, R300) -/

/-- The place of a new record: the lowest free slot (R291). -/
def freeSlot (dir : List DirRec) : Nat :=
  (dir.foldl (fun n r => if r.slot = n then n + 1 else n) 0)

/-- A record put into its slot, slots ascending. -/
def putRec (r : DirRec) : List DirRec → List DirRec
  | [] => [r]
  | x :: xs => if r.slot < x.slot then r :: x :: xs else if x.slot = r.slot then r :: xs else x :: putRec r xs

/-- A record installed: over the record with its BASE, else in a free slot (R292). (DEDUCED: log entry 41) -/
def installRec (r : DirRec) (dir : List DirRec) : List DirRec :=
  match dir.find? (·.base == r.base) with
  | some o => putRec { r with slot := o.slot } dir
  | none => putRec { r with slot := freeSlot dir } dir

/-- Records of which no forwarded request is remembered any more. -/
def dropSeen (slot : Nat) (s : State) : State := modMsh (fun m => { m with cutSeen := m.cutSeen.filter (· != slot) }) s

/-- MIG_BEGIN (R298): the target sets MIGRATING and MIG_TARGET in its own record. (DEDUCED: log entry 41) -/
def execMigBegin (hdr : BitVec 128) (data : List Byte) (flits : Nat) (s : State) : Host.Outcome State Fault Refusal :=
  whenPlat s fun s => takeT0 0x62 hdr data flits (fun _ s =>
    let r := recOf data
    if data.length = 64 && recFormOk data then
      match s.recAt r.base with
      | some o => dropSeen o.slot (modRec o.slot (fun x => { x with flags := setFlag x.flags 3 true, migTarget := r.migTarget }) s)
      | none => s
    else s) s

/-- MIG_DONE (R298, R300): the record is taken from the message; with FAULT the new owner holds it SUSPECT and raises MIG_FAULT.
(DEDUCED: log entry 41) -/
def execMigDone (hdr : BitVec 128) (data : List Byte) (flits : Nat) (s : State) : Host.Outcome State Fault Refusal :=
  whenPlat s fun s => takeT0 0x63 hdr data flits (fun _ s =>
    let b := data.take 64
    if data.length = 68 && recFormOk b then
      let r := recOf b
      let fault := bit (data.getD 64 0) 0
      let mine := s.owns r
      let r := if fault && mine then { r with flags := setFlag r.flags 4 true } else r
      let s := match s.recAt r.base with
        | some o => dropSeen o.slot s
        | none => s
      if (s.recAt r.base).isNone && 65536 ≤ s.msh.dir.length then s
      else
        let s := modMsh (fun m => { m with dir := installRec r m.dir }) s
        let slot := ((s.recAt r.base).map (·.slot)).getD 0
        if fault && mine then raise C.MSH.MIG_FAULT (BitVec.ofNat 80 slot) s else s
    else s) s

/-- MIG_ABORT (R300): the target clears MIGRATING. (DEDUCED: log entry 41) -/
def execMigAbort (hdr : BitVec 128) (data : List Byte) (flits : Nat) (s : State) : Host.Outcome State Fault Refusal :=
  whenPlat s fun s => takeT0 0x64 hdr data flits (fun _ s =>
    if data.length = 8 then
      match s.recAt (leWord 64 data 0 8) with
      | some o => dropSeen o.slot (modRec o.slot (fun x => { x with flags := setFlag x.flags 3 false, migTarget := 0 }) s)
      | none => s
    else s) s

/-! ## Rings (R303) -/

/-- A write of MSH_RING_CONS_n: ignored where PROD − CONS would exceed the slot count (R303, R307). -/
def ringConsWrite (n : BitVec 6) (data : Word) (s : State) : State :=
  match s.msh.rings[n.toNat]! with
  | some r =>
    if (r.prod - data).toNat ≤ 2 ^ r.slotsLog then
      modMsh (fun m => { m with rings := vmod m.rings n.toNat fun _ => some { r with cons := data } }) s
    else s
  | none => s

/-- RING_CONS_WRITE (R303). -/
def execRingConsWrite (n : BitVec 6) (data : Word) (s : State) : Host.Outcome State Fault Refusal :=
  whenFunctional s fun s => portWrite (R.MSH_RING_CONS + 4 * n.toNat) true (ringConsWrite n data) s

/-! ## Commands (R305, R334) -/

/-- A marshalling command that needs the unit enabled: MSH_STATE while MSH_CTRL.EN is 0 (R305). -/
def withMsh (ref : CmdRef) (op : Nat) (s : State) (k : List Byte → State → State) : State :=
  withCmd ref op s fun ps s => if s.flag F.MSH_CTRL.EN then k ps s else finish ref 0x0241 s

/-- Two records' ranges share a byte. -/
def overlaps (a b : DirRec) : Bool :=
  decide (a.base.toNat < b.base.toNat + b.bytes) && decide (b.base.toNat < a.base.toNat + a.bytes)

/-- The second row of R292: REPLICATED with MIGRATE_EN; MIGRATE_EN with too many pages or a candidate on another tile. -/
def State.migrateOk (s : State) (r : DirRec) : Bool :=
  let owner := (r.holders.head?).bind s.physOf
  let tileOk (l : BitVec 16) : Bool :=
    match owner, s.physOf l with
    | some o, some p => tileOf o == tileOf p
    | _, _ => true
  !r.migrateEn || (!r.replicated && r.pages ≤ 65536 && r.holders.tail.all tileOk)

/-- The checks of MSH_DIR_SET in their order (R292); 0 where all pass. (DEDUCED: log entry 41) -/
def State.dirSetStatus (s : State) (bs : List (List Byte)) : BitVec 16 :=
  let rs := bs.map recOf
  let before (i : Nat) : List DirRec := s.msh.dir ++ rs.take i
  let idx := List.range rs.length
  let at? (i : Nat) (f : DirRec → Bool) : Bool := (rs[i]?.map f).getD false
  if !bs.all recFormOk then 0x0140
  else if !rs.all s.migrateOk then 0x0140
  else if idx.any (fun i => at? i fun r => (before i).any fun o => o.base != r.base && overlaps o r) then 0x0141
  else if idx.any (fun i => at? i fun r => (before i).any fun o => o.base == r.base && r.version.toNat ≤ o.version.toNat) then 0x0240
  else if rs.any (fun r => s.msh.dir.any fun o => o.base == r.base && o.migrating) then 0x0241
  else
    let fresh := (rs.map (·.base)).eraseDups.filter fun b => !s.msh.dir.any (·.base == b)
    if 65536 < s.msh.dir.length + fresh.length then 0x0330 else 0

/-- MSH_DIR_SET (R292, R305, R334): all records, or none. -/
def execMshDirSet (ref : CmdRef) (s : State) : Host.Outcome State Fault Refusal :=
  whenFunctional s fun s => withMsh ref 0x0601 s fun ps s =>
    let count := leAt ps 0 1
    let bs := (List.range count).map fun i => slice ps (8 + 64 * i) 64
    let st := if 1 ≤ count && count ≤ 16 then s.dirSetStatus bs else 0x0140
    if st = 0 then
      finish ref 0 (modMsh (fun m => { m with dir := (bs.map recOf).foldl (fun d r => installRec r d) m.dir }) s)
    else finish ref st (if st = 0x0330 then raise C.MSH.DIR_FULL 0 s else s)

/-- MSH_DIR_DELETE (R292, R305): a record that is not MIGRATING is freed. (DEDUCED: log entry 42) -/
def execMshDirDelete (ref : CmdRef) (s : State) : Host.Outcome State Fault Refusal :=
  whenFunctional s fun s => withMsh ref 0x0602 s fun ps s =>
    match s.recAt (leWord 64 ps 0 8) with
    | none => finish ref 0x0140 s
    | some r =>
      if r.migrating then finish ref 0x0241 s
      else finish ref 0 (modMsh (fun m => { m with dir := m.dir.filter (·.slot != r.slot),
                                                   heat := m.heat.filter (·.slot != r.slot) }) s)

/-- MSH_DIR_GET (R305): runs while EN is 0 too. (DEDUCED: log entry 42) -/
def execMshDirGet (ref : CmdRef) (s : State) : Host.Outcome State Fault Refusal :=
  whenFunctional s fun s => withCmd ref 0x0603 s fun ps s =>
    match s.recAt (leWord 64 ps 0 8) with
    | none => finish ref 0x0140 s
    | some r => complete ref 0 (recBytes r) s

/-- MSH_POOL_SET (R301, R334): COUNT 0 deletes the pool. -/
def execMshPoolSet (ref : CmdRef) (s : State) : Host.Outcome State Fault Refusal :=
  whenFunctional s fun s => withMsh ref 0x0610 s fun ps s =>
    let num := leAt ps 0 2
    let count := leAt ps 2 1
    let rest := s.msh.pools.filter (fun p => p.num.toNat != num)
    if 4095 < num || 16 < count then finish ref 0x0140 s
    else if 16384 < (rest.map (·.members.length)).foldl (· + ·) 0 + count then finish ref 0x0331 s
    else
      let p : Pool := { num := BitVec.ofNat 12 num, maxLen := leAt ps 4 4, lastChosen := count - 1,
                        members := (List.range count).map fun i => leWord 16 ps (8 + 2 * i) 2 }
      finish ref 0 (modMsh (fun m => { m with pools := if count = 0 then rest else rest ++ [p] }) s)

/-- MSH_RING_SET (R303, R334): a membership set or cleared, with both counters zero. -/
def execMshRingSet (ref : CmdRef) (s : State) : Host.Outcome State Fault Refusal :=
  whenFunctional s fun s => withMsh ref 0x0611 s fun ps s =>
    let n := leAt ps 0 1
    let en := leAt ps 1 1
    let pool := leAt ps 2 2
    let sl := leAt ps 4 1
    let sls := leAt ps 5 1
    let addr : BitVec 64 := leWord 64 ps 8 8
    let ok := en = 0 || (pool ≤ 4095 && 12 ≤ sl && sl ≤ 24 && 1 ≤ sls && sls ≤ 16 && addr.toNat % 4096 = 0)
    if 63 < n || 1 < en || !ok then finish ref 0x0140 s
    else
      let used := match s.msh.rings[n]! with
        | some r => r.prod != r.cons || r.taken != 0
        | none => false
      if used then finish ref 0x0241 s
      else
        let r : Ring := { pool := BitVec.ofNat 12 pool, slotLog := sl, slotsLog := sls, addr := addr, prod := 0, cons := 0, taken := 0 }
        finish ref 0 (modMsh (fun m => { m with rings := vmod m.rings n fun _ => if en = 1 then some r else none }) s)

/-! ## Commands sent to other dies (R288, R327) -/

/-- The times after the first send at which a command without a reply is sent again: three (R327). -/
def fwdSends : Nat := 4

/-- A forwarded command's send: without a T0 ticket it waits for the next of its times (R327). -/
def sendFwd (f : Fwd) (s : State) : State :=
  let put (m : Bool) (s : State) : State :=
    { s with vtx := { s.vtx with fwds := mapIf (·.rtag == f.rtag) (fun x => { x with sends := f.sends + 1, missed := m }) s.vtx.fwds } }
  match sendT0 f.dest f.rtag 0x60 f.cmd s with
  | some s' => put false s'
  | none => put true s

/-- A command sent to a die with a new RTAG, for the first time (R288, R327). -/
def newFwd (dest : BitVec 14) (cmd : List Byte) (relay : Bool) (s : State) : BitVec 16 × State :=
  let t := s.vtx.nextRtag
  let f : Fwd := { rtag := t, dest := dest, cmd := cmd, sends := 0, relay := relay, missed := false, since := s.mark }
  (t, sendFwd f { s with vtx := { s.vtx with nextRtag := t + 1, fwds := s.vtx.fwds ++ [f] } })

/-- Every other site of the block's own tile in its table (R288). -/
def State.relayDies (s : State) : List (BitVec 14) :=
  ((s.msh.bind.flatMap fun x =>
      if bState x.2 == 2 then [bPhys x.2, bStandby x.2] else if bState x.2 == 0 then [] else [bPhys x.2]).eraseDups).filter
    fun p => p != s.own && tileOf p == tileOf s.own

/-- A command's bytes with RELAY at 0 (R288). -/
def noRelay (c : List Byte) : List Byte := c.set 2 (putField (cmdFlags c) 2 1 0)

/-! ## Binding commands (R284 to R286, R288, R334) -/

/-- An item of MSH_BIND_STAGE may be staged (R284). (DEDUCED: log entry 42) -/
def stageOk (ps : List Byte) (i : Nat) : Bool :=
  let e : BitVec 64 := leWord 64 ps (12 + 12 * i) 8
  bState e < 4 && (bState e == 2 || (bStandby e == 0 && !bMirror e))

/-- MSH_BIND_STAGE (R284, R288): every entry, with GEN of the staged generation; then the relay copies. -/
def execMshBindStage (ref : CmdRef) (s : State) : Host.Outcome State Fault Refusal :=
  whenFunctional s fun s => withMsh ref 0x0620 s fun ps s =>
    let count := leAt ps 0 2
    if !(1 ≤ count && count ≤ 256 && (List.range count).all (stageOk ps)) then finish ref 0x0140 s
    else if s.msh.release.isSome then finish ref 0x0241 s
    else
      let gen := s.stagedGen
      let one (m : Msh) (i : Nat) : Msh :=
        stageEntry { lid := leWord 16 ps (8 + 12 * i) 2,
                     entry := putField (leWord 64 ps (12 + 12 * i) 8) 48 16 gen.toNat, byCommand := true } m
      let s := modMsh (fun m => (List.range count).foldl one m) s
      let cmd := (s.running ref).getD []
      let s := if bit (cmdFlags cmd) 2 && s.flag F.MSH_CTRL.RELAY_EN then
          s.relayDies.foldl (fun s d => (newFwd d (noRelay cmd) true s).2) s
        else s
      finish ref 0 s

/-- The release point as a railway time, zero where none is set (R285, R334). (DEDUCED: log entry 31) -/
def State.releasePoint (s : State) : Nat := (s.msh.release.map s.releaseTime).getD 0

/-- MSH_BIND_COMMIT (R285, R334). -/
def execMshBindCommit (ref : CmdRef) (s : State) : Host.Outcome State Fault Refusal :=
  whenFunctional s fun s => withMsh ref 0x0621 s fun ps s =>
    let form := leAt ps 0 1
    let e : BitVec 16 := leWord 16 ps 2 2
    let t := leAt ps 8 8
    if 1 < form then finish ref 0x0104 s
    else if !s.msh.hasStage || s.msh.release.isSome then finish ref 0x0241 s
    else if form = 0 && !(s.running? && serialLt s.ttb.epoch e) then finish ref 0x0241 s
    else
      let s := modMsh (fun m => { m with release := some (if form = 0 then .epoch e else .time t) }) s
      let point := leBytes 8 s.releasePoint
      complete ref 0 point (releaseIfDue s)

/-- MSH_BIND_CANCEL (R305). -/
def execMshBindCancel (ref : CmdRef) (s : State) : Host.Outcome State Fault Refusal :=
  whenFunctional s fun s => withMsh ref 0x0622 s fun _ s =>
    if s.msh.hasStage then finish ref 0 (modMsh (fun m => { m with staged := [], hasStage := false, release := none, fences := [] }) s)
    else finish ref 0x0241 s

/-- MSH_BIND_GET (R334): runs while EN is 0 too. -/
def execMshBindGet (ref : CmdRef) (s : State) : Host.Outcome State Fault Refusal :=
  whenFunctional s fun s => withCmd ref 0x0623 s fun ps s =>
    let first := leAt ps 0 2
    let count := leAt ps 2 1
    let view := leAt ps 3 1
    if 120 < count || 1 < view || 0x10000 < first + count then finish ref 0x0140 s
    else
      let entry (i : Nat) : BitVec 64 :=
        let l := BitVec.ofNat 16 (first + i)
        if view = 0 then s.bindOf l else ((s.msh.staged.find? (·.lid == l)).map (·.entry)).getD 0
      let flags := 2 * b2n s.msh.hasStage + b2n s.msh.release.isSome
      complete ref 0 (leBytes 2 s.msh.current.toNat ++ leBytes 2 s.stagedGen.toNat ++ [BitVec.ofNat 8 flags] ++ leBytes 3 0
        ++ leBytes 8 s.releasePoint ++ (List.range count).flatMap (fun i => leBytes 8 (entry i).toNat)) s

/-- MSH_MIGRATE (R298, R305): to a named candidate of a record that the block owns. (DEDUCED: log entry 41) -/
def execMshMigrate (ref : CmdRef) (s : State) : Host.Outcome State Fault Refusal :=
  whenFunctional s fun s => withMsh ref 0x0630 s fun ps s =>
    let i := leAt ps 8 1
    match s.recAt (leWord 64 ps 0 8) with
    | none => finish ref 0x0140 s
    | some r =>
      if i = 0 || r.holders.length ≤ i then finish ref 0x0140 s
      else if s.migrating || !s.owns r || r.migrating then finish ref 0x0241 s
      else finish ref 0 (startMig r.slot i s)

end Sys2Proof.Machine
end

