-- ==== Sys2Proof/Machine/Sbx.lean ====
section
/-!
DEFINITION. The signal boxes: the token, the journal, health, fail-over and hand-over, token faults, the firmware loader, and the
Vetex commands on the boxes (R8, R339 to R362, R337).
-/
namespace Sys2Proof.Machine

/-! ## Boxes -/

/-- The signal boxes changed. -/
def modSbx (f : Sbx → Sbx) (s : State) : State := { s with sbx := f s.sbx }

/-- The other box. -/
def mate : Box → Box
  | .a => .b
  | .b => .a

/-- A box. -/
def State.box (s : State) (b : Box) : BoxRec := match b with | .a => s.sbx.a | .b => s.sbx.b

/-- A box changed. -/
def modBox (b : Box) (f : BoxRec → BoxRec) (s : State) : State :=
  modSbx (fun x => match b with | .a => { x with a := f x.a } | .b => { x with b := f x.b }) s

/-- A box enters a state. The hold-off of R356 runs while box A stands by and box B is active. -/
def toBox (b : Box) (st : BoxSt) (s : State) : State :=
  let s := modBox b (fun x => { x with st := st }) s
  modSbx (fun x => { x with
    holdFrom := if x.a.st == .standby && x.b.st == .active then (if x.holdFrom.isNone then some s.now else x.holdFrom) else none }) s

/-- A cause of the boxes, with the detail of class 0x09 (R425). -/
def raiseBox (c : Cause) (s : State) : State := raise c (detBox s) s

/-- The token logic resets a box (R382, R387): its high latches and write holders are empty (R436, R437). (DEDUCED: log entry 49) -/
def noteBoxReset (b : Box) (s : State) : State :=
  { s.setFld (match b with | .a => F.PCM_RST_CAUSE.BOX_A | .b => F.PCM_RST_CAUSE.BOX_B) 1 with
    latches := s.latches.filter (·.1 != .box b), holders := s.holders.filter (·.1 != .box b) }

/-- A box fails: the token logic resets it (R341, R349, R350). -/
def failBox (b : Box) (s : State) : State := noteBoxReset b (toBox b .failed s)

/-- A failed box whose loader begins at once (R341, R349, R356). (DEDUCED: log entry 49) -/
def reloadBox (b : Box) (s : State) : State := toBox b .loading (failBox b s)

/-- An orderly hand-over is no longer wanted; SBX_FAILOVER ends with a status (R349, R357). -/
def endHand (status : BitVec 16) (s : State) : State :=
  let s := modSbx (fun x => { x with wantHand := false, quiesce := false }) (s.setFld F.SBX_CTRL.FAILOVER 0)
  wake .handover status [] s

/-- The box without the token is lost to a hand-over under way. -/
def loseStandby (s : State) : State := if s.sbx.wantHand then endHand 0x0601 s else s

/-- The box without the token fails (R349). (DEDUCED: log entry 49) -/
def standbyFail (s : State) : State :=
  loseStandby (reloadBox (mate s.sbx.holder) (raiseBox C.SBX.STANDBY_FAIL s))

/-- A box comes into standby (R353, R360): STANDBY_READY, and an SBX_FW_STAGE that waits for it completes. (DEDUCED: log entry 49) -/
def toStandby (b : Box) (s : State) : State :=
  let s := raiseBox C.SBX.STANDBY_READY (toBox b .standby s)
  let v := (s.box b).ver
  wake .image 0 [Sys2Proof.bits v 16 8, Sys2Proof.bits v 8 8, Sys2Proof.bits v 0 8, 0] s

/-! ## Fail-over (R321, R346, R347, R350 to R352) -/

/-- The interpreter's state as the new active box finds it (R321, R346): slots, contexts and completion FIFO of the last committed
generation; PROD, CONS and MBX_GO, which stand outside the boxes; the relays and the path programming of a load. -/
def State.failVtx (s : State) : Vtx :=
  let j := s.sbx.journal
  { s.vtx with slots := j.slots, ctxs := j.ctxs, cpl := j.cpl, waits := [], fwds := s.vtx.fwds.filter (·.relay),
               progs := s.vtx.progs.filter (·.what == .load) }

/-- A configuration write repeated: its RW fields take the recorded value (R347). -/
def repeatWrite (w : CfgWrite) (s : State) : State :=
  match regRow w.addr.toNat with
  | some r => s.setReg w.addr.toNat ((s.reg w.addr.toNat &&& ~~~r.rw) ||| (w.data &&& r.rw))
  | none => s

/-- A fail-over begins (R350, R352, R354): the token moves to a box that can take it, or stays; a box that is not in standby makes a
lone start. The station's choice moves the token whatever the state of the box named. (DEDUCED: log entry 49) -/
def beginFail (cause : BitVec 4) (s : State) : State :=
  let b := s.sbx.holder
  let o := mate b
  let st := (s.box o).st
  let able := (cause = 6 || s.flag F.SBX_CTRL.AUTO_FAILOVER) && (st == .standby || st == .isolated || st == .resync)
  let lone := !(able && st == .standby)
  let s := { s with vtx := s.failVtx, idn := { s.idn with signing := s.idn.signing.filter (·.ref.isNone) } }
  let s := modSbx (fun x => { x with
    ready := false, sending := false, wantHand := false, quiesce := false, foTime := BitVec.ofNat 64 s.now, foAt := s.aoCycles,
    takeover := some (cause, b, lone), holder := if able || cause = 6 then o else b }) (s.setFld F.SBX_CTRL.FAILOVER 0)
  if able then toBox o .active (failBox b s) else reloadBox b s

/-- Both boxes fail in one AO cycle (R361): the token stays with the box that held it, both reload, and it makes a lone start.
(DEDUCED: log entry 49) -/
def bothFail (cause : BitVec 4) (b : Box) (s : State) : State :=
  let s := modSbx (fun x => { x with holder := b, takeover := some (cause, b, true) }) s
  reloadBox b (reloadBox (mate b) s)

/-- The box that has just taken the token over fails in the AO cycle in which the other failed (R361). (DEDUCED: log entry 49) -/
def State.failedWith (s : State) : Option (BitVec 4 × Box) :=
  match s.sbx.takeover with
  | some (c, b, _) => if s.sbx.foAt = s.aoCycles && s.sbx.holder != b && (s.box b).st == .failed then some (c, b) else none
  | none => none

/-- The active box fails (R350, R361): served at once, or after the tie-break that is in progress (R354). (DEDUCED: log entry 49) -/
def activeFault (cause : BitVec 4) (s : State) : State :=
  if (s.box s.sbx.holder).st != .active then s
  else if s.sbx.tie then modSbx (fun x => { x with deferred := some (x.deferred.getD cause) }) s
  else
    match s.failedWith with
    | some (c, b) => bothFail c b s
    | none => beginFail cause s

/-- A command taken and not complete, at a fail-over (R321). (DEDUCED: log entry 49) -/
def afterFail (r : CmdRef) (c : List Byte) (s : State) : State :=
  if cmdOpcode c = 0x0902 then completeNow r 0 [] s
  else if (cmdFlags c).getLsbD 0 then
    match r with
    | .tag t => { s with vtx := { s.vtx with slots := mapIf (·.tag == t) (fun x => { x with rerun := true, waits := false }) s.vtx.slots } }
    | .context n => { s with vtx := { s.vtx with ctxs := mapIf (·.num == n) (fun x => { x with rerun := true, waits := false }) s.vtx.ctxs } }
  else completeNow r 0x0600 [] s

/-- Commands running, local ones first, each in order of taking. -/
def State.runningCmds (s : State) : List (CmdRef × List Byte) :=
  ((s.vtx.slots.filter (·.st == .running)).map fun x => (CmdRef.tag x.tag, x.cmd))
    ++ ((s.vtx.ctxs.filter fun x => x.running && !s.vtx.remoteReady.contains x.num).map fun x => (CmdRef.context x.num, x.cmd))

/-- BOX_TIE leaves (R354, R408). -/
def sendTie (s : State) : State :=
  let h := match s.sbx.holder with | .a => 0 | .b => 1
  sendSlp 0x58 [BitVec.ofNat 32 (boxCode s.sbx.a.st + 16 * boxCode s.sbx.b.st + 256 * h)]
    (modSbx (fun x => { x with tieSent := s.mark }) s)

/-- A tie-break begins: the token's movement is frozen (R354). -/
def startTie (s : State) : State := sendTie (modSbx (fun x => { x with tie := true, tieAt := s.now }) s)

/-- GENERATION_COMMIT (R345): the generation in transfer is committed. (DEDUCED: log entry 48) -/
def execGenerationCommit (s : State) : Host.Outcome State Fault Refusal :=
  whenFunctional s fun s => if s.sbx.sending && s.sbx.ready then commitNow { s with sbx := { s.sbx with sending := false } } else s

/-- HEARTBEAT_TIMEOUT (R350): not counted while CTL is in retention (R386). -/
def execHeartbeatTimeout (s : State) : Host.Outcome State Fault Refusal :=
  whenFunctional s fun s => if s.sbx.held && s.ctlOn then activeFault 1 s else s

/-- ACTIVE_BOX_FAULT (R350), with the cause of its table. -/
def execActiveBoxFault (cause : BitVec 4) (s : State) : Host.Outcome State Fault Refusal :=
  whenFunctional s fun s => if s.sbx.held && 2 ≤ cause.toNat && cause.toNat ≤ 5 then activeFault cause s else s

/-- The firmware of the active box runs, and heeds what has waited for it: a freeze asked for, and a round of copies that has ended
(R339). (DEDUCED: log entry 49) -/
def firmwareBack (s : State) : State := pumpMig (heedFreeze s)

/-- TAKEOVER_DONE (R350, R352, R356): INTERP_READY, with what the new active box makes of the commands it finds; then the box that
failed loads again. (DEDUCED: log entry 49) -/
def execTakeoverDone (s : State) : Host.Outcome State Fault Refusal :=
  whenFunctional s fun s =>
    match s.sbx.takeover with
    | some (cause, b, lone) =>
      if (s.box s.sbx.holder).st == .active then
        let dur := min 0xFFFF ((s.aoCycles - s.sbx.foAt) / 100)
        let n := cause.toNat * 2 ^ 28 + (match b with | .a => 0 | .b => 1) * 2 ^ 27 + b2n lone * 2 ^ 26 + dur
        let s := s.sbx.writes.foldl (fun s w => if w.rw then repeatWrite w s else s) s
        let s := if lone then { s with vtx := { s.vtx with slots := [], ctxs := [], cpl := [], remoteReady := [] } }
          else s.runningCmds.foldl (fun s x => afterFail x.1 x.2 s) s
        let s := commitNow (modSbx (fun x => { x with ready := true, takeover := none, lone := lone, foInfo := BitVec.ofNat 32 n }) s)
        let s := raiseBox C.SBX.FAILOVER (firmwareBack s)
        let s := if lone then raiseBox C.SBX.STATE_LOST s else s
        let s := if (s.box b).st == .failed then toBox b .loading s else s
        if s.sbx.tokenOk then s else startTie s
      else s
    | none => s

/-! ## Health (R348, R349, R386) -/

/-- The box without the token is healthy and reports. -/
def State.reports (s : State) : Bool :=
  let st := (s.box (mate s.sbx.holder)).st
  s.sbx.held && (st == .standby || st == .isolated || st == .resync)

/-- HEALTH_REPORT (R348, R349, R356): a report, or none in its millisecond, 1 ms of railway time after the one before. -/
def execHealthReport (report : Option HealthRpt) (s : State) : Host.Outcome State Fault Refusal :=
  whenFunctional s fun s =>
    if !s.ctlOn || !s.reports then s
    else
      let s := s.reach (s.sbx.reportAt + 1000000)
      let s := modSbx (fun x => { x with reportAt := s.now }) s
      match report with
      | some r =>
        let worse := s.sbx.healthErr < r.errors
        let s := modSbx (fun x => { x with
          healthSt := BitVec.ofNat 4 (boxCode (s.box (mate x.holder)).st), healthErr := r.errors, healthPasses := r.passes,
          healthTime := BitVec.ofNat 64 s.now, missed := 0 }) s
        if worse then standbyFail s else s
      | none =>
        let s := modSbx (fun x => { x with missed := x.missed + 1, holdFrom := x.holdFrom.map fun _ => s.now }) s
        if 3 ≤ s.sbx.missed then standbyFail (modSbx (fun x => { x with missed := 0 }) s) else s

/-- SELF_TEST_PASS (R348, R349): a pass ends, well or badly. -/
def execSelfTestPass (ok : Bool) (s : State) : Host.Outcome State Fault Refusal :=
  whenFunctional s fun s =>
    if !s.ctlOn || !s.reports then s
    else if ok then modSbx (fun x => { x with passes := if x.passes = 0xFFFF then x.passes else x.passes + 1 }) s
    else standbyFail s

/-! ## The box link and the token (R353, R354) -/

/-- BOX_LINK_LOSS (R353, R361): the standby is isolated; a generation in transfer is committed locally. -/
def execBoxLinkLoss (s : State) : Host.Outcome State Fault Refusal :=
  whenFunctional s fun s =>
    let o := mate s.sbx.holder
    let st := (s.box o).st
    if s.sbx.held && (st == .standby || st == .resync) then
      let s := if s.sbx.sending then commitNow { s with sbx := { s.sbx with sending := false } } else s
      loseStandby (raiseBox C.SBX.BOX_LINK_LOST (modSbx (fun x => { x with linkTried := s.mark }) (toBox o .isolated s)))
    else s

/-- BOX_LINK_RETRY (R353): 1 ms after the last try, or the loss. -/
def execBoxLinkRetry (works : Bool) (s : State) : Host.Outcome State Fault Refusal :=
  whenFunctional s fun s =>
    let o := mate s.sbx.holder
    if s.sbx.held && (s.box o).st == .isolated then
      let s := s.lapse s.sbx.linkTried 1000000
      let s := modSbx (fun x => { x with linkTried := s.mark }) s
      if works then toBox o .resync s else s
    else s

/-- RESYNC_DONE (R353). -/
def execResyncDone (s : State) : Host.Outcome State Fault Refusal :=
  whenFunctional s fun s =>
    let o := mate s.sbx.holder
    if s.sbx.ready && (s.box o).st == .resync then toStandby o s else s

/-- TOKEN_FAULT (R354, R361): during a fail-over the tie-break follows it. -/
def execTokenFault (s : State) : Host.Outcome State Fault Refusal :=
  whenFunctional s fun s =>
    if s.sbx.held && s.sbx.tokenOk then
      let s := raiseBox C.SBX.TOKEN_FAULT (modSbx (fun x => { x with tokenOk := false }) s)
      if s.sbx.takeover.isSome then s else startTie s
    else s

/-- A tie ends (R354): both registers name a box; another than the holder takes over under CAUSE 0x6; a failure kept back is
served. (DEDUCED: log entry 49) -/
def endTie (named : Box) (s : State) : State :=
  let d := s.sbx.deferred
  let s := raiseBox C.SBX.TIE_RESOLVED (modSbx (fun x => { x with tie := false, tokenOk := true, deferred := none }) s)
  if named != s.sbx.holder then beginFail 6 s
  else
    match d with
    | some c => activeFault c s
    | none => s

/-- BOX_TIE_RESP (R354): late ones are discarded. -/
def execBoxTieResp (msg : BitVec 32) (s : State) : Host.Outcome State Fault Refusal :=
  whenMsg s fun s => if s.sbx.tie then endTie (if Sys2Proof.bit msg 0 then .b else .a) s else s

/-- BOX_TIE_RESEND (R354): 100 µs after the last send. -/
def execBoxTieResend (s : State) : Host.Outcome State Fault Refusal :=
  whenFunctional s fun s => if s.sbx.tie && s.slp.lock then sendTie (s.lapse s.sbx.tieSent 100000) else s

/-- TIE_SETTLEMENT (R354). -/
def execTieSettlement (s : State) : Host.Outcome State Fault Refusal :=
  whenFunctional s fun s => if s.sbx.tie then endTie s.sbx.holder (s.reach (s.sbx.tieAt + 10000000)) else s

/-! ## Take-back and hand-over (R356, R357, R361) -/

/-- A hand-over is wanted: the active box takes no new command (R357). -/
def startHand (s : State) : State :=
  if s.sbx.wantHand then s else modSbx (fun x => { x with wantHand := true, quiesce := true, handFrom := s.now }) s

/-- The box without the token stands by. -/
def State.standsBy (s : State) : Bool := s.sbx.ready && (s.box (mate s.sbx.holder)).st == .standby

/-- TAKEBACK_HOLDOFF (R356). (DEDUCED: log entry 49) -/
def execTakebackHoldoff (s : State) : Host.Outcome State Fault Refusal :=
  whenFunctional s fun s =>
    match s.sbx.holdFrom with
    | some t =>
      if s.flag F.SBX_CTRL.TAKEBACK_EN && s.standsBy then
        startHand (s.reach (t + 1000000 * atLeastOne (s.fld F.SBX_TIMING.HOLDOFF_MS)))
      else s
    | none => s

/-- Nothing is under way in the interpreter (R357): an SBX_FAILOVER that asked for the hand-over is disregarded. -/
def State.quiescent (s : State) : Bool :=
  s.vtx.slots.all (fun x => x.st != .running || x.waits || cmdOpcode x.cmd == 0x0902) 
    && s.vtx.ctxs.all (fun x => !x.running || s.vtx.remoteReady.contains x.num) && !s.sbx.sending && s.sbx.writes.isEmpty

/-- QUIESCENT_POINT (R357): the hand-over generation is committed, and the token moves. -/
def execQuiescentPoint (s : State) : Host.Outcome State Fault Refusal :=
  whenFunctional s fun s =>
    if s.sbx.wantHand && s.sbx.quiesce && s.standsBy && s.quiescent && !s.sbx.tie then
      let b := s.sbx.holder
      let s := commitNow s
      let s := modSbx (fun x => { x with holder := mate b, holdFrom := none, missed := 0 }) s
      let s := toBox b .standby (toBox (mate b) .active s)
      endHand 0 (raiseBox C.SBX.HANDOVER s)
    else s

/-- TAKEBACK_WAIT_TIMEOUT (R357): taking is resumed. -/
def execTakebackWaitTimeout (s : State) : Host.Outcome State Fault Refusal :=
  whenFunctional s fun s =>
    if s.sbx.wantHand && s.sbx.quiesce then
      let s := s.reach (s.sbx.handFrom + 1000 * atLeastOne (s.fld F.SBX_TIMING.TAKEBACK_WAIT_US))
      modSbx (fun x => { x with quiesce := false, handFrom := s.now }) s
    else s

/-- TAKEBACK_RETRY (R357): 10 ms later. -/
def execTakebackRetry (s : State) : Host.Outcome State Fault Refusal :=
  whenFunctional s fun s =>
    if s.sbx.wantHand && !s.sbx.quiesce then
      let s := s.reach (s.sbx.handFrom + 10000000)
      modSbx (fun x => { x with quiesce := true, handFrom := s.now }) s
    else s

/-- A write of SBX_CTRL (R362). -/
def sbxCtrlWrite (data : Word) (s : State) : State :=
  let s := (s.setFld F.SBX_CTRL.AUTO_FAILOVER (b2n (Sys2Proof.bit data 1))).setFld F.SBX_CTRL.TAKEBACK_EN (b2n (Sys2Proof.bit data 0))
  if Sys2Proof.bit data 2 && s.standsBy then startHand (s.setFld F.SBX_CTRL.FAILOVER 1) else s

/-- SBX_CTRL_FAILOVER (R357). -/
def execSbxCtrlFailover (data : Word) (s : State) : Host.Outcome State Fault Refusal :=
  whenFunctional s fun s => portWrite R.SBX_CTRL (Sys2Proof.bit data 2) (sbxCtrlWrite data) s

/-! ## Firmware images (R8, R358 to R360, R412) -/

/-- Checks 1 to 4 of R359 on the header: the code of the first that fails, 0 when all pass. (DEDUCED: log entry 50) -/
def headerReject (d : List Byte) : BitVec 4 :=
  let body := leAt d 12 4
  if leAt d 0 4 != 0x53425846 || leAt d 4 2 != 0x0300 || leAt d 6 2 != 512 || leAt d 11 1 != 0 || body % 4096 != 0 || body < 4096
      || 262144 < body || body ≤ leAt d 16 4 || leAt d 20 2 != 3 || !zeroAt d 22 10 || !zeroAt d 226 6 || !zeroAt d 424 88 then 1
  else if leAt d 8 1 != 3 then 2
  else if sha384 (slice d 32 97) != Config.rootKeyHash then 3
  else if !ecdsaOk (slice d 32 97) (sha384 (slice d 8 4 ++ slice d 129 97)) (slice d 232 96) then 4
  else 0

/-- The header and body of an image by its BODY_LEN. (DEDUCED: log entry 50) -/
def imageWhole (d : List Byte) : List Byte := slice d 0 (512 + leAt d 12 4)

/-- The checks of R359: `fetched` tells whether every block read succeeded. (DEDUCED: log entry 50) -/
def firmwareReject (fetched : Bool) (d : List Byte) : BitVec 4 :=
  if !fetched && d.length < 512 then 6
  else
    let r := headerReject d
    if r != 0 then r
    else if !fetched then 6
    else if !ecdsaOk (slice d 129 97) (sha384 (slice d 0 328 ++ (imageWhole d).drop 512)) (slice d 328 96) then 5
    else 0

/-- The Vetex status of a rejection (R359). (DEDUCED: log entry 50) -/
def rejectStatus (c : BitVec 4) : BitVec 16 := if c = 2 then 0x0520 else if c = 6 then 0x0307 else 0x0420

/-- A box takes the token at start-up, and its interpreter is ready (R342, R412). A box that waited for it comes into step.
(DEDUCED: log entry 49) -/
def firstToken (b : Box) (s : State) : State :=
  let s := toBox b .active (modSbx (fun x => { x with holder := b, held := true, ready := true }) s)
  let s := firmwareBack s
  let s := if (s.box (mate b)).st == .isolated then toStandby (mate b) s else s
  advance s

/-- No box holds the token yet: box A takes it at the end of its self-test, box B where A is rejected or failed (R342). With both
rejected, start-up holds (R416). (DEDUCED: log entry 49) -/
def settleToken (s : State) : State :=
  if s.sbx.held then s
  else if s.sbx.b.st == .isolated && (s.sbx.a.st == .rejected || s.sbx.a.st == .failed) then firstToken .b s
  else if s.sbx.a.st == .rejected && s.sbx.b.st == .rejected && s.starting then holdStart 1 0x0A s
  else s

/-- IMAGE_LOAD_DONE (R8, R359, R360). (DESIGN CHOICE: log entry 12; DEDUCED: log entry 50) -/
def execImageLoadDone (box : Box) (fetched : Bool) (image : List Byte) (s : State) : Host.Outcome State Fault Refusal :=
  whenFunctional s fun s =>
    let st := (s.box box).st
    if st == .loading || (st == .failed && (s.sbx.takeover.isNone || box == s.sbx.holder)) then
      let port := s.hasPort (BitVec.ofNat 3 (s.fld F.SBX_FW_CFG.PORT))
      let r := firmwareReject (fetched && port) (if port then image else [])
      if r = 0 then
        let v : BitVec 24 := leWord 8 image 8 1 ++ leWord 8 image 9 1 ++ leWord 8 image 10 1
        let h := sha384 (imageWhole image)
        toBox box .selfTest (modBox box (fun x => { x with ver := v, code := 0, imageHash := h }) s)
      else
        let s := toBox box .rejected (modBox box (fun x => { x with ver := 0, code := r }) s)
        settleToken (wake .image (rejectStatus r) [] (raiseBox C.SBX.IMAGE_REJECTED s))
    else s

/-- STARTUP_SELF_TEST_DONE (R342, R352, R353, R356). (DEDUCED: log entries 49, 50) -/
def execStartupSelfTestDone (box : Box) (ok : Bool) (s : State) : Host.Outcome State Fault Refusal :=
  whenFunctional s fun s =>
    if (s.box box).st != .selfTest then s
    else if !ok then
      settleToken (wake .image 0x0601 [] (if s.sbx.held then reloadBox box s else failBox box s))
    else if !s.sbx.held then
      if box == .a then firstToken .a s else settleToken (toBox .b .isolated s)
    else if s.sbx.holder == box then toBox box .active s
    else toBox box .resync s

/-- A write of SBX_FW_ADDR_HI: the first after AO_UP begins FW_LOAD, and so does one in the hold of R416 code 0x1 (R412). -/
def fwBegin (s : State) : State :=
  let first := s.boot.step = 1 && s.boot.reached != 0
  let again := s.boot.step = 0xF && s.boot.fail = 1
  if (first || again) && s.pins.platRstN then
    let s := toBox .a .loading (toBox .b .loading (toStep 2 s))
    let s := modSbx (fun x => { x with loadBegun := true }) s
    if s.idn.key == .failed then holdStart 2 0x0C s else s
  else s

/-- A write of a pair's _HI register (R437): both halves take effect together, and the holder empties. `a` is the offset of _LO. -/
def putPair (who : Requester) (a : Nat) (data : Word) (s : State) : State :=
  let put (a : Nat) (v : Word) (s : State) : State :=
    match regRow a with
    | some r => s.setReg a ((s.reg a &&& ~~~r.rw) ||| (v &&& r.rw))
    | none => s
  let s' := match s.holders.find? (fun x => x.1 == who && x.2.1 == a) with
    | some x => put a x.2.2 s
    | none => s
  let s' := put (a + 4) data s'
  { s' with holders := s'.holders.filter fun x => !(x.1 == who && x.2.1 == a) }

/-- FW_ADDR_HI_WRITE (R412, R437). -/
def execFwAddrHiWrite (data : Word) (s : State) : Host.Outcome State Fault Refusal :=
  whenFunctional s fun s =>
    portWrite R.SBX_FW_ADDR_HI true (fun s => fwBegin (putPair .port R.SBX_FW_ADDR_LO data s)) s

/-! ## Vetex commands (R337) -/

/-- SBX_STATUS_GET. -/
def execSbxStatusGet (ref : CmdRef) (s : State) : Host.Outcome State Fault Refusal :=
  whenFunctional s fun s => withCmd ref 0x0901 s fun _ s =>
    let h := match s.sbx.holder with | .a => 0 | .b => 1
    complete ref 0 (leBytes 1 h ++ leBytes 1 (boxCode s.otherBox.st) ++ [0, 0] ++ leBytes 4 s.sbx.gen.toNat
      ++ leBytes 8 s.sbx.healthTime.toNat) s

/-- SBX_FAILOVER (R349, R357). -/
def execSbxFailover (ref : CmdRef) (s : State) : Host.Outcome State Fault Refusal :=
  whenFunctional s fun s => withCmd ref 0x0902 s fun _ s =>
    if s.standsBy then startHand (addWait ref .handover false s) else finish ref 0x0601 s

/-- SBX_FW_STAGE (R360): the other box is reset into its loader; the reply comes when it stands by or is rejected.
(DEDUCED: log entry 50) -/
def execSbxFwStage (ref : CmdRef) (s : State) : Host.Outcome State Fault Refusal :=
  whenFunctional s fun s => withCmd ref 0x0903 s fun p s =>
    let a := leWord 64 p 0 8
    if a.toNat % 4096 != 0 || 7 < leAt p 8 1 then finish ref 0x0104 s
    else
      let s := (s.setReg R.SBX_FW_ADDR_LO (Sys2Proof.bits a 0 32)).setReg R.SBX_FW_ADDR_HI (Sys2Proof.bits a 32 32)
      let s := s.setFld F.SBX_FW_CFG.PORT (leAt p 8 1)
      let b := mate s.sbx.holder
      loseStandby (addWait ref .image false (noteBoxReset b (toBox b .loading s)))

/-! ## Register views (R362) -/

/-- SBX_STATUS. -/
def State.sbxStatus (s : State) : Word :=
  let x := s.sbx
  let left := match x.holdFrom with
    | some t =>
      if s.flag F.SBX_CTRL.TAKEBACK_EN then (t + 1000000 * atLeastOne (s.fld F.SBX_TIMING.HOLDOFF_MS) - s.now + 999999) / 1000000 else 0
    | none => 0
  BitVec.ofNat 32 ((match x.holder with | .a => 0 | .b => 1) * 2 ^ 31 + b2n x.tokenOk * 2 ^ 30 + b2n x.tie * 2 ^ 29
    + boxCode x.a.st * 2 ^ 20 + boxCode x.b.st * 2 ^ 16 + min 0xFFFF left)

/-- SBX_HEALTH. -/
def State.sbxHealth (s : State) : Word :=
  s.sbx.healthSt ++ 0#4 ++ s.sbx.healthErr ++ s.sbx.healthPasses

/-- SBX_FW_VER_A and SBX_FW_VER_B. -/
def fwVer (b : BoxRec) : Word := b.ver ++ 0#4 ++ b.code

/-- GBL_FW_VER (R439): the box that holds the token, with an accepted image. -/
def State.gblFwVer (s : State) : Word := if s.activeBox.st == .active then s.activeBox.ver ++ 1#8 else 0

end Sys2Proof.Machine
end

