-- ==== Sys2Proof/Machine/Vetex.lean ====
section
/-!
DEFINITION. The Vetex interpreter: the opcode table and the checks of a command, the mailbox, the ring and the take, reply slots and
the completion FIFO, remote commands and forwarding, and the interpreter's and test mode's own commands (R308 to R328, R337, R338).
-/
namespace Sys2Proof.Machine

/-! ## The opcodes (R305, R314, R321, R325, R329 to R338) -/

/-- How long an opcode's parameters are, without an authorisation block: fixed; `base` and `per` for each of the items counted in
`n` bytes at `off` and `adj` more; any length of a range; and the descriptor of R333. -/
inductive LenForm where
  | fixed (n : Nat)
  | counted (base per off n adj : Nat)
  | range (lo hi : Nat)
  | asp
deriving DecidableEq, Repr

/-- One opcode: its length, whether it is signed, permits IDEMPOTENT and lies in the remote read-only set, its fields as byte offset
and bits, and the bits in use of each item behind them. -/
structure Opc where
  code : Nat
  len : LenForm
  signed : Bool
  idem : Bool
  remote : Bool
  fields : List (Nat × Nat)
  item : Nat
deriving DecidableEq, Repr

/-- Opcodes of groups 1 to 5. -/
def opcs0 : List Opc := [
  ⟨0x0101, .fixed 0, false, true, true, [], 0x0⟩,
  ⟨0x0102, .fixed 8, false, true, false, [(0, 8), (1, 1)], 0x0⟩,
  ⟨0x0103, .fixed 0, false, true, false, [], 0x0⟩,
  ⟨0x0104, .fixed 0, false, false, false, [], 0x0⟩,
  ⟨0x0105, .fixed 0, false, false, false, [], 0x0⟩,
  ⟨0x0106, .fixed 8, false, false, false, [(0, 8)], 0x0⟩,
  ⟨0x0201, .fixed 8, false, true, false, [(0, 8)], 0x0⟩,
  ⟨0x0202, .fixed 8, false, false, false, [(0, 8)], 0x0⟩,
  ⟨0x0203, .fixed 8, false, true, true, [(0, 32)], 0x0⟩,
  ⟨0x0204, .fixed 16, false, false, false, [(0, 72)], 0x0⟩,
  ⟨0x0301, .fixed 16, false, false, false, [(0, 73)], 0x0⟩,
  ⟨0x0302, .fixed 16, false, false, false, [(0, 72)], 0x0⟩,
  ⟨0x0303, .fixed 8, false, false, false, [(0, 16)], 0x0⟩,
  ⟨0x0304, .fixed 0, false, true, false, [], 0x0⟩,
  ⟨0x0305, .fixed 8, false, true, false, [(0, 8)], 0x0⟩,
  ⟨0x0306, .fixed 0, false, true, true, [], 0x0⟩,
  ⟨0x0401, .counted 56 2 34 2 0, false, false, false, [(0, 12), (2, 8), (3, 5), (4, 18), (8, 17), (12, 96), (24, 200), (50, 32)], 0xffff⟩,
  ⟨0x0402, .fixed 8, false, true, false, [(0, 12)], 0x0⟩,
  ⟨0x0403, .fixed 8, false, false, false, [(0, 12)], 0x0⟩,
  ⟨0x0404, .fixed 8, false, false, false, [(0, 12)], 0x0⟩,
  ⟨0x0410, .fixed 8, false, false, false, [(0, 12)], 0x0⟩,
  ⟨0x0420, .counted 8 2 4 1 1, false, false, false, [(0, 40)], 0xffff⟩,
  ⟨0x0501, .asp, false, false, false, [(0, 12), (2, 80), (12, 20), (16, 136), (33, 2), (34, 16), (36, 12), (38, 16)], 0xffff⟩,
  ⟨0x0502, .fixed 8, false, false, false, [(0, 12)], 0x0⟩,
  ⟨0x0503, .fixed 8, false, false, false, [(0, 12)], 0x0⟩,
  ⟨0x0504, .fixed 8, false, false, false, [(0, 12)], 0x0⟩,
  ⟨0x0505, .fixed 8, false, true, false, [(0, 12)], 0x0⟩]

/-- Opcodes of groups 6 to 10. -/
def opcs1 : List Opc := [
  ⟨0x0601, .counted 8 64 0 1 0, true, false, false, [(0, 8)], 2 ^ 512 - 1⟩,
  ⟨0x0602, .fixed 8, true, false, false, [(0, 64)], 0x0⟩,
  ⟨0x0603, .fixed 8, false, true, true, [(0, 64)], 0x0⟩,
  ⟨0x0610, .counted 8 2 2 1 0, true, false, false, [(0, 24), (4, 32)], 0xffff⟩,
  ⟨0x0611, .fixed 16, false, false, false, [(0, 48), (8, 64)], 0x0⟩,
  ⟨0x0620, .counted 8 12 0 2 0, true, true, false, [(0, 16)], 0xfffff3ffffffc0000000ffff⟩,
  ⟨0x0621, .fixed 16, true, false, false, [(0, 8), (2, 16), (8, 64)], 0x0⟩,
  ⟨0x0622, .fixed 0, true, false, false, [], 0x0⟩,
  ⟨0x0623, .fixed 8, false, true, true, [(0, 32)], 0x0⟩,
  ⟨0x0630, .fixed 16, true, false, false, [(0, 72)], 0x0⟩,
  ⟨0x0701, .fixed 0, false, true, true, [], 0x0⟩,
  ⟨0x0702, .fixed 8, false, true, false, [(0, 8)], 0x0⟩,
  ⟨0x0703, .fixed 0, false, true, false, [], 0x0⟩,
  ⟨0x0704, .fixed 0, false, false, false, [], 0x0⟩,
  ⟨0x0801, .range 4 1000, false, true, true, [(0, 8000)], 0x0⟩,
  ⟨0x0802, .fixed 0, false, true, true, [], 0x0⟩,
  ⟨0x0803, .fixed 16, false, false, false, [(0, 72), (10, 16)], 0x0⟩,
  ⟨0x0901, .fixed 0, false, true, true, [], 0x0⟩,
  ⟨0x0902, .fixed 0, false, false, false, [], 0x0⟩,
  ⟨0x0903, .fixed 16, false, false, false, [(0, 72), (12, 32)], 0x0⟩,
  ⟨0x0904, .fixed 0, false, true, true, [], 0x0⟩,
  ⟨0x0905, .range 24 4080, false, false, false, [(0, 14), (8, 32576)], 0x0⟩,
  ⟨0x0A01, .fixed 8, false, false, false, [(0, 24), (4, 9)], 0x0⟩,
  ⟨0x0A02, .fixed 0, false, true, true, [], 0x0⟩,
  ⟨0x0A03, .fixed 0, false, false, false, [], 0x0⟩,
  ⟨0x0A04, .fixed 8, false, true, true, [(0, 24)], 0x0⟩,
  ⟨0x0A05, .counted 4 4 0 1 0, false, true, true, [(0, 8)], 0xffffffff⟩]

/-- The opcode table. -/
def opcOf (code : Nat) : Option Opc := (opcs0 ++ opcs1).find? (·.code == code)

/-- The parameter length that an opcode's form gives to parameters (R314, R329 to R338). (DEDUCED: log entry 44) -/
def lenOk (f : LenForm) (n : Nat) (ps : List Byte) : Bool :=
  match f with
  | .fixed k => n == k
  | .counted base per off k adj => n == base + per * (leAt ps off k + adj)
  | .range lo hi => lo ≤ n && n ≤ hi
  | .asp => if leAt ps 2 1 = 0 then n == 40 + 2 * leAt ps 3 1 else n == 40

/-- Where the items of an opcode's parameters begin, and their size. -/
def itemsOf (f : LenForm) : Nat × Nat :=
  match f with
  | .counted base per _ _ _ => (base, per)
  | .asp => (40, 2)
  | _ => (0, 0)

/-- The bits in use of `n` parameter bytes. (DEDUCED: log entry 44) -/
def usedBits (o : Opc) (n : Nat) : Nat :=
  let (base, per) := itemsOf o.len
  let items := if per = 0 then 0 else (n - base) / per
  let m := o.fields.foldl (fun m x => m ||| ((2 ^ x.2 - 1) <<< (8 * x.1))) 0
  (List.range items).foldl (fun m i => m ||| (o.item <<< (8 * (base + per * i)))) m

/-- Every reserved parameter byte and bit is zero (R314). (DEDUCED: log entries 42, 44) -/
def reservedZero (o : Opc) (ps : List Byte) : Bool :=
  let v := leNat ps
  v &&& usedBits o ps.length == v

/-- Checks 1 to 9 of R314: the status of the first that fails, 0 where all pass, and the state after the test of the
authorisation. `remote` tells a remote command. (DEDUCED: log entry 44) -/
def vtxChecks (remote : Bool) (c : List Byte) (s : State) : BitVec 16 × State :=
  let n := cmdLength c
  let f := cmdFlags c
  if cmdVersion c != 0x30 then (0x0500, s)
  else if 4080 < n then (0x0101, s)
  else
    match opcOf (cmdOpcode c) with
    | none => (0x0100, s)
    | some o =>
      let ps := cmdParams c
      -- a signed command whose parameters end where its authorisation would begin lacks it (R305)
      let whole := 128 ≤ n && lenOk o.len (n - 128) (ps.take (n - 128))
      let bare := o.signed && !whole && lenOk o.len n ps
      let body := if o.signed && !bare then ps.take (n - 128) else ps
      if ps.length != n || (if o.signed then !(whole || bare) else !lenOk o.len n ps) then (0x0101, s)
      else if 8 ≤ f.toNat || !zeroAt c 8 8 then (0x0102, s)
      else if (bit f 1 && !o.signed) || (bit f 2 && o.code != 0x0620) || (bit f 0 && !o.idem) then (0x0103, s)
      else if remote && !((s.flag F.SBX_VTX_CTRL.REMOTE_READ_EN && o.remote) || (s.flag F.SBX_VTX_CTRL.REMOTE_SIGNED_EN && o.signed)) then
        (0x0404, s)
      else
        let (st, s) := if bare then (0x0401, s) else if o.signed then authCheck c s else (0, s)
        if st != 0 then (st, s) else if reservedZero o body then (0, s) else (0x0102, s)

/-! ## The ring (R309, R312) -/

/-- The interpreter changed. -/
def modVtx (f : Vtx → Vtx) (s : State) : State := { s with vtx := f s.vtx }

/-- Slots of the ring. -/
def State.ringSlots (s : State) : Nat := 2 ^ min 10 (s.fld F.SBX_RING_CFG.SLOTS_LOG2)

/-- The address of the slot of count `c`. -/
def State.ringSlot (s : State) (c : BitVec 16) : BitVec 64 :=
  ((s.reg R.SBX_RING_BASE_HI ++ (s.reg R.SBX_RING_BASE_LO &&& 0xFFFFF000)) : BitVec 64) + BitVec.ofNat 64 (4096 * (c.toNat % s.ringSlots))

/-- The platform port of the ring. -/
def State.ringPort (s : State) : PortId := BitVec.ofNat 3 (s.fld F.SBX_RING_CFG.PORT)

/-- A block read of the ring has failed (R309). (DEDUCED: log entry 47) -/
def ringFail (s : State) : State :=
  raise C.SBX_VTX.RING_ERROR (detBox s)
    (modVtx (fun v => { v with fetched := none, fetchBusy := false }) (s.setFld F.SBX_VTX_CTRL.RING_EN 0))

/-- The next ring command is read: its header first (R309). -/
def pumpRing (s : State) : State :=
  if s.flag F.SBX_VTX_CTRL.RING_EN && s.vtx.cons != s.vtx.prod && s.vtx.fetched.isNone && !s.vtx.fetchBusy then
    if s.hasPort s.ringPort then
      addBreq s.ringPort { write := false, addr := s.ringSlot s.vtx.cons, len := 16, data := [], poison := false,
                           purpose := .vtxHdr s.vtx.cons } (modVtx (fun v => { v with fetchBusy := true }) s)
    else ringFail s
  else s

/-- The header of the ring command of count `c` has come: its parameters are read, or there are none to read (R309).
(DEDUCED: log entry 47) -/
def ringHeader (c : BitVec 16) (data : List Byte) (s : State) : State :=
  let n := cmdLength data
  if !s.vtx.fetchBusy || c != s.vtx.cons then s
  else if n = 0 || 4080 < n then modVtx (fun v => { v with fetched := some data, fetchBusy := false }) s
  else
    addBreq s.ringPort { write := false, addr := s.ringSlot c + 16, len := n, data := [], poison := false, purpose := .vtxPar c }
      (modVtx (fun v => { v with fetched := some data }) s)

/-- The parameters have come. (DEDUCED: log entry 47) -/
def ringParams (c : BitVec 16) (data : List Byte) (s : State) : State :=
  if s.vtx.fetchBusy && c = s.vtx.cons then
    modVtx (fun v => { v with fetched := v.fetched.map (· ++ data), fetchBusy := false }) s
  else s

/-- A ring read under way no longer serves the ring: RING_EN has been cleared or the base written. (DEDUCED: log entry 47) -/
def dropRing (s : State) : State :=
  let drop (b : Breq) : Breq :=
    match b.purpose with
    | .vtxHdr _ | .vtxPar _ => { b with purpose := .posted }
    | _ => b
  let s := { s with ports := s.ports.map fun p => { p with
    breqs := p.breqs.map drop, outs := p.outs.map fun o => { o with req := drop o.req } } }
  modVtx (fun v => { v with fetched := none, fetchBusy := false, ringStalled := false }) s

/-- A write of SBX_VTX_CTRL (R309, R310, R312). (DEDUCED: log entry 47) -/
def vtxCtrlWrite (data : Word) (s : State) : State :=
  let was := s.flag F.SBX_VTX_CTRL.RING_EN
  let s := s.setReg R.SBX_VTX_CTRL (data &&& 0x7)
  let s := if bit data 8 then modVtx (fun v => { v with mbxGo := true }) s else s
  if bit data 0 then pumpRing s else if was then dropRing s else s

/-- MBX_GO (R310). -/
def execMbxGo (data : Word) (s : State) : Host.Outcome State Fault Refusal :=
  whenFunctional s fun s => portWrite R.SBX_VTX_CTRL (bit data 8) (vtxCtrlWrite data) s

/-- A write of SBX_RING_PROD (R309). -/
def ringProdWrite (data : Word) (s : State) : State :=
  let p : BitVec 16 := bits data 0 16
  if s.ringSlots < (p - s.vtx.cons).toNat then raise C.SBX_VTX.MALFORMED (detBox s) s
  else pumpRing (modVtx (fun v => { v with prod := p }) s)

/-- RING_PROD_WRITE (R309). -/
def execRingProdWrite (data : Word) (s : State) : Host.Outcome State Fault Refusal :=
  whenFunctional s fun s => portWrite R.SBX_RING_PROD true (ringProdWrite data) s

/-- A write of a pair's _LO register is held (R437). -/
def holdPair (who : Requester) (a : Nat) (data : Word) (s : State) : State :=
  { s with holders := s.holders.filter (fun x => !(x.1 == who && x.2.1 == a)) ++ [(who, a, data)] }

/-- A write of SBX_RING_BASE_LO: held for the write of the high half, and both counters are zero from this write (R309, R437). -/
def ringBaseLoWrite (who : Requester) (data : Word) (s : State) : State :=
  holdPair who R.SBX_RING_BASE_LO data (modVtx (fun v => { v with prod := 0, cons := 0 }) (dropRing s))

/-- RING_BASE_LO_WRITE (R309). (DEDUCED: log entry 47) -/
def execRingBaseLoWrite (data : Word) (s : State) : Host.Outcome State Fault Refusal :=
  whenFunctional s fun s => portWrite R.SBX_RING_BASE_LO true (ringBaseLoWrite .port data) s

/-! ## Taking a command (R308, R310, R311, R317, R318) -/

/-- The command in the mailbox window: its header and the parameters that LENGTH gives (R310). -/
def State.mailbox (s : State) : List Byte :=
  let words (lo n : Nat) : List Byte := (List.range n).flatMap fun i => bvBytes (s.reg (R.SBX_MBX_WIN + 4 * (lo + i)))
  let h := words 0 4
  let n := cmdLength h
  if 4080 < n then h else h ++ (words 4 ((n + 3) / 4)).take n

/-- A local command cannot be taken: every slot is occupied and none holds its tag (R318). (DEDUCED: log entry 45) -/
def State.stalls (s : State) (c : List Byte) : Bool := (s.slot (cmdTag c)).isNone && 128 ≤ s.vtx.slots.length

/-- A taken command that fails a check of R314 completes with its status; otherwise it runs. -/
def checkTaken (r : CmdRef) (c : List Byte) (s : State) : State :=
  let (st, s) := vtxChecks (match r with | .tag _ => false | .context _ => true) c s
  if st = 0 then s else finish r st s

/-- A local command is taken (R311, R317): into a slot of its tag, or discarded where that tag runs. -/
def takeLocal (c : List Byte) (s : State) : State :=
  let t := cmdTag c
  if ((s.slot t).map (·.st)) == some .running then commitNow (raise C.SBX_VTX.TAG_CLASH (detBox s) s)
  else
    let x : Slot := { tag := t, st := .running, cmd := c, status := 0, data := [], rerun := false, waits := false, order := s.vtx.nextOrder }
    checkTaken (.tag t) c
      (commitNow (modVtx (fun v => { v with slots := v.slots.filter (·.tag != t) ++ [x], nextOrder := v.nextOrder + 1 }) s))

/-- The oldest remote command is taken (R308, R326). (DEDUCED: log entry 45) -/
def takeRemote (n : BitVec 5) (s : State) : State :=
  let s := modVtx (fun v => { v with
    remoteReady := v.remoteReady.filter (· != n), nextOrder := v.nextOrder + 1
    ctxs := mapIf (·.num == n) (fun x => { x with order := v.nextOrder }) v.ctxs }) s
  match s.ctx n with
  | some x => checkTaken (.context n) x.cmd (commitNow s)
  | none => s

/-- SLOTS_FULL, once for each stall of the mailbox and of the ring (R318). (DEDUCED: log entry 46) -/
def noteSlotsFull (ring : Bool) (s : State) : State :=
  if (if ring then s.vtx.ringStalled else s.vtx.mbxStalled) then s
  else raise C.SBX_VTX.SLOTS_FULL (detBox s)
    (modVtx (fun v => if ring then { v with ringStalled := true } else { v with mbxStalled := true }) s)

/-- COMMAND_TAKE (R308, R311, R318): the mailbox command first, then the oldest remote one, then the next of the ring.
(DEDUCED: log entry 45) -/
def execCommandTake (s : State) : Host.Outcome State Fault Refusal :=
  whenFunctional s fun s =>
    if !s.sbx.ready || s.sbx.quiesce || !s.ctlOn then s
    else
      let mbx := s.mailbox
      let stuck := s.vtx.mbxGo && s.stalls mbx
      if s.vtx.mbxGo && !stuck then takeLocal mbx (modVtx (fun v => { v with mbxGo := false, mbxStalled := false }) s)
      else
        let s := if stuck then noteSlotsFull false s else s
        match s.vtx.remoteReady with
        | n :: _ => takeRemote n s
        | [] =>
          match s.vtx.fetched with
          | some c =>
            if s.vtx.fetchBusy then s
            else if s.stalls c then noteSlotsFull true s
            else
              pumpRing (takeLocal c (modVtx (fun v => { v with cons := v.cons + 1, fetched := none, ringStalled := false }) s))
          | none => s

/-! ## Reply slots (R312, R317, R319) -/

/-- The slot that SBX_RPL_TAG selects. -/
def State.rplSlot (s : State) : Option Slot := s.slot (BitVec.ofNat 16 (s.fld F.SBX_RPL_TAG.TAG))

/-- SBX_RPL_HDR: BUSY during a fail-over (R317, R319). -/
def State.rplHdr (s : State) : Word :=
  if s.sbx.takeover.isSome then 0x00010001
  else
    match s.rplSlot with
    | none => 0x02010000
    | some x =>
      match x.st with
      | .running => 0x00010001
      | .unread => BitVec.setWidth 32 x.status
      | .read => 0x00020000 ||| BitVec.setWidth 32 x.status

/-- What a read of SBX_RPL_HDR does: a reply done and unread becomes read, in a generation of the journal (R317, R346).
(DEDUCED: log entry 48) -/
def rplRead (s : State) : State :=
  match s.rplSlot with
  | some x =>
    if x.st = .unread && s.sbx.takeover.isNone then
      beginGen (modVtx (fun v => { v with slots := mapIf (·.tag == x.tag) (fun y => { y with st := .read }) v.slots }) s)
    else s
  | none => s

/-- RPL_HDR_READ (R317). -/
def execRplHdrRead (s : State) : Host.Outcome State Fault Refusal :=
  whenFunctional s fun s => if s.regOn R.SBX_RPL_HDR then (rplRead s).answerRead s.rplHdr false else s.answerRead 0 true

/-- SBX_RPL_INFO (R312). -/
def State.rplInfo (s : State) : Word :=
  match s.rplSlot with
  | some x =>
    let done := x.st != .running
    x.tag ++ (BitVec.ofBool x.rerun ++ BitVec.ofBool (x.st == .read) ++ BitVec.ofBool done ++ 0#2
      ++ BitVec.ofNat 11 (if done then x.data.length else 0))
  | none => 0

/-- A word of the reply data window (R312). -/
def State.rplData (s : State) (i : Nat) : Word :=
  match s.rplSlot with
  | some x => if x.st = .running then 0 else leWord 32 x.data (4 * i) 4
  | none => 0

/-- A write of SBX_RPL_ACK: a reply that is done is freed (R317). -/
def rplAckWrite (data : Word) (s : State) : State :=
  let t : BitVec 16 := bits data 0 16
  match s.slot t with
  | some x =>
    if x.st = .running then s
    else commitNow (modVtx (fun v => { v with slots := v.slots.filter (·.tag != t) }) s)
  | none => s

/-- RPL_ACK_WRITE (R317). -/
def execRplAckWrite (data : Word) (s : State) : Host.Outcome State Fault Refusal :=
  whenFunctional s fun s => portWrite R.SBX_RPL_ACK true (rplAckWrite data) s

/-- SBX_CPL_FIFO (R319). -/
def State.cplWord (s : State) : Word :=
  match s.vtx.cpl with
  | t :: _ => 0x80000000 ||| BitVec.setWidth 32 t
  | [] => 0

/-- What a read of SBX_CPL_FIFO does: the oldest entry leaves, in a generation of the journal (R319, R346). (DEDUCED: log entry 48) -/
def cplPop (s : State) : State :=
  match s.vtx.cpl with
  | _ :: ts => beginGen (modVtx (fun v => { v with cpl := ts }) s)
  | [] => s

/-- CPL_FIFO_READ (R319). -/
def execCplFifoRead (s : State) : Host.Outcome State Fault Refusal :=
  whenFunctional s fun s => if s.regOn R.SBX_CPL_FIFO then (cplPop s).answerRead s.cplWord false else s.answerRead 0 true

/-- SBX_VTX_CTRL as it reads. -/
def State.vtxCtrl (s : State) : Word := s.reg R.SBX_VTX_CTRL ||| (if s.vtx.mbxGo then 0x100 else 0)

/-- SBX_VTX_STATUS (R312). -/
def State.vtxStatus (s : State) : Word :=
  BitVec.ofNat 32 (b2n s.sbx.ready * 2 ^ 31 + (s.vtx.slots.filter (·.st == .running)).length * 2 ^ 16 + s.vtx.slots.length * 2 ^ 8
    + s.vtx.ctxs.length)

/-! ## Remote Vetex (R324 to R327) -/

/-- The context that a new remote command takes: a free number, else that of the oldest reply (R326). (DEDUCED: log entry 45) -/
def State.freeCtx (s : State) : Option (BitVec 5) :=
  match (List.range 32).find? (fun n => (s.ctx (BitVec.ofNat 5 n)).isNone) with
  | some n => some (BitVec.ofNat 5 n)
  | none =>
    ((s.vtx.ctxs.filter (!·.running)).foldl (fun (acc : Option Ctx) x => match acc with
      | none => some x
      | some b => if b.age < x.age then some x else acc) none).map (·.num)

/-- A command that finds every context running (R326). (DEDUCED: log entry 45) -/
def refuseRemote (h : MHdr) (c : List Byte) (s : State) : State :=
  match sendT0 h.src h.rtag 0x61 (replyBytes (cmdTag c) 0x0300 [] (rflags true false false) (cmdVersion c)) s with
  | some s' => s'
  | none => raise C.SBX_VTX.REMOTE_DROP (detBox s) s

/-- A VTX_CMD that has arrived (R326): ignored, answered again, made ready, or refused. (DEDUCED: log entry 45) -/
def remoteArrives (h : MHdr) (c : List Byte) (s : State) : State :=
  match s.vtx.ctxs.find? (fun x => x.src == h.src && x.rtag == h.rtag) with
  | some x => if x.running then s else sendReply x s
  | none =>
    match s.freeCtx with
    | none => refuseRemote h c s
    | some n =>
      let x : Ctx := { num := n, src := h.src, rtag := h.rtag, running := true, cmd := c, status := 0, data := [], age := 0,
                       waits := false, order := 0, rerun := false }
      commitNow (modVtx (fun v => { v with ctxs := v.ctxs.filter (·.num != n) ++ [x], remoteReady := v.remoteReady ++ [n] }) s)

/-- VTX_CMD (R326): while no firmware interprets commands, or without a whole command header, it goes unanswered.
(DEDUCED: log entry 45) -/
def execVtxCmd (hdr : BitVec 128) (data : List Byte) (flits : Nat) (s : State) : Host.Outcome State Fault Refusal :=
  whenPlat s fun s => takeT0 0x60 hdr data flits (fun h s =>
    if s.sbx.ready && 16 ≤ data.length then remoteArrives h data s else s) s

/-- VTX_REPLY (R327): the first with the RTAG and the right SRC is accepted, any other discarded. -/
def execVtxReply (hdr : BitVec 128) (data : List Byte) (flits : Nat) (s : State) : Host.Outcome State Fault Refusal :=
  whenPlat s fun s => takeT0 0x61 hdr data flits (fun h s =>
    if s.vtx.fwds.any (fun f => f.rtag == h.rtag && f.dest == h.src) then
      wake (.forward h.rtag) 0 (data.take 1008) (modVtx (fun v => { v with fwds := v.fwds.filter (·.rtag != h.rtag) }) s)
    else s) s

/-- MANAGEMENT_PACKET_DISCARD (R324): a malformed T0 packet is discarded, its tickets going back. -/
def execManagementPacketDiscard (hdr : BitVec 128) (data : List Byte) (flits : Nat) (s : State) : Host.Outcome State Fault Refusal :=
  whenPlat s fun s =>
    if s.mgmtBad (MHdr.ofBits hdr) data.length flits then raise C.SBX_VTX.MALFORMED (detBox s) (freePacket 0 s) else s

/-- FORWARD_RESEND (R327): at each of the three times, 400 µs apart, after the first send. (DEDUCED: log entry 8) -/
def execForwardResend (rtag : BitVec 16) (s : State) : Host.Outcome State Fault Refusal :=
  whenFunctional s fun s =>
    match s.vtx.fwds.find? (·.rtag == rtag) with
    | some f => if f.sends < fwdSends then sendFwd f (s.lapse f.since (400000 * f.sends)) else s
    | none => s

/-- FORWARD_TIMEOUT (R327): 10 ms after the first send. -/
def execForwardTimeout (rtag : BitVec 16) (s : State) : Host.Outcome State Fault Refusal :=
  whenFunctional s fun s =>
    match s.vtx.fwds.find? (·.rtag == rtag) with
    | some f =>
      wake (.forward rtag) 0x0202 [] (modVtx (fun v => { v with fwds := v.fwds.filter (·.rtag != rtag) }) (s.lapse f.since 10000000))
    | none => s

/-! ## Interpreter and diagnostic commands (R337, R338) -/

/-- VTX_INFO (R322, R337): release 3.0, 128 slots, 32 contexts, minor 0 of every group. -/
def execVtxInfo (ref : CmdRef) (s : State) : Host.Outcome State Fault Refusal :=
  whenFunctional s fun s => withCmd ref 0x0904 s fun _ s => complete ref 0 ([0, 128, 32, 0] ++ leBytes 12 0) s

/-- VTX_FORWARD (R327, R337). -/
def execVtxForward (ref : CmdRef) (s : State) : Host.Outcome State Fault Refusal :=
  whenFunctional s fun s => withCmd ref 0x0905 s fun ps s =>
    let dest : BitVec 14 := leWord 14 ps 0 2
    if s.reachable dest then
      let (t, s) := newFwd dest (ps.drop 8) false s
      addWait ref (.forward t) true s
    else finish ref 0x0104 s

/-- DIAG_TEST_START (R100, R101, R338). (DEDUCED: log entry 20) -/
def execDiagTestStart (ref : CmdRef) (s : State) : Host.Outcome State Fault Refusal :=
  whenFunctional s fun s => withCmd ref 0x0A01 s fun ps s =>
    let k := leAt ps 0 1
    let mode := leAt ps 1 1
    let dir := leAt ps 2 1
    if 7 < k || mode = 0 || 5 < mode || 3 < dir then finish ref 0x0104 s
    else if s.testing then finish ref 0x0291 s
    else if s.seam.usable.getLsbD k then finish ref 0x0290 s
    else
      let w : Nat := 2 ^ 31 + dir * 2 ^ 20 + mode * 2 ^ 16 + leAt ps 4 2 % 2 ^ 9 * 2 ^ 4 + k
      startTest (addWait ref .test false (s.setReg R.SEAM_TEST_CTRL (BitVec.ofNat 32 w)))

/-- DIAG_TEST_READ (R338): the counters, which it does not clear. -/
def execDiagTestRead (ref : CmdRef) (s : State) : Host.Outcome State Fault Refusal :=
  whenFunctional s fun s => withCmd ref 0x0A02 s fun _ s =>
    if s.seam.test.everRun then
      complete ref 0 (leBytes 2 s.seam.test.locked.toNat ++ leBytes 2 0 ++ leBytes 8 s.prbsCompared.toNat
        ++ (List.range 9).flatMap fun i => bvBytes (s.reg (R.SEAM_PRBS_ERR + 4 * i))) s
    else finish ref 0x0291 s

/-- DIAG_TEST_STOP (R101, R338). -/
def execDiagTestStop (ref : CmdRef) (s : State) : Host.Outcome State Fault Refusal :=
  whenFunctional s fun s => withCmd ref 0x0A03 s fun _ s =>
    if s.testing then finish ref 0 (stopTest s) else finish ref 0x0291 s

end Sys2Proof.Machine
end

