-- ==== Sys2Proof/Machine/Breq.lean ====
section
/-!
DEFINITION. The responses to block requests: each goes to the unit that asked, with the timeouts of R43 (R41 to R43, R180).
-/
namespace Sys2Proof.Machine

/-- How a block request ended. -/
inductive BreqEnd where
  /-- STATUS 0, with the data of a read and its poison. -/
  | ok (data : List Byte) (poison : Bool)
  /-- A non-zero STATUS. -/
  | error
  | timeout
deriving DecidableEq, Repr

/-- STATUS of the reply that a failed block request gives (R180). -/
def endStatus : BreqEnd → Byte
  | .ok _ _ => 0
  | .error => 0x0C
  | .timeout => 0x02

/-- The data that came, with its poison. -/
def endData : BreqEnd → Option (List Byte × Bool)
  | .ok d p => some (d, p)
  | _ => none

/-- A block request has ended: what its purpose makes of that. -/
def breqDone (port : PortId) (b : Breq) (e : BreqEnd) (s : State) : State :=
  match b.purpose, endData e with
  | .served tag off, some (d, p) => servedPiece tag off 0 d p s
  | .served tag off, none => servedPiece tag off (endStatus e) [] false s
  | .ringHdr tag n, _ => ticketDone tag n (endStatus e) s
  | .vtxHdr c, some (d, _) => ringHeader c d s
  | .vtxHdr _, none => ringFail s
  | .vtxPar c, some (d, _) => ringParams c d s
  | .vtxPar _, none => ringFail s
  | .segment bank i, some (d, _) => segmentDone bank i true d s
  | .segment bank i, none => segmentDone bank i false [] s
  | .sendData bank i g off, some (d, _) => stagePiece bank i g off d s
  | .sendData _ _ _ _, none => s
  | .jctLocal g off, some (d, p) => readOperands (localPiece g off d p s)
  | .jctLocal g off, none => readOperands (localFail g off b.len s)
  | .jctSend g m off, some (d, p) => sendPiece g m off d p s
  | .jctSend g _ _, none => finishGroup g 4 s
  | .page n _, some (d, _) => pageRead port n d s
  | .page n _, none => copyFail n s
  | .posted, _ => s
  | .t6Data, _ => s

/-- What the end of a block request lets go on. -/
def breqAfter (s : State) : State := pumpMig (pumpMnf s)

/-- A block request outstanding under a BTAG on a port. -/
def State.breqOut (s : State) (port : PortId) (btag : BitVec 12) : Option BreqOut := (s.port port).outs.find? (·.btag == btag)

/-- A BTAG freed. -/
def freeBreq (port : PortId) (btag : BitVec 12) (s : State) : State :=
  s.modPort port fun q => { q with outs := q.outs.filter (·.btag != btag) }

/-- The data of a read response: the beats from the byte lane of ADDR on; none where there are too few beats (R36, R42).
(DEDUCED: log entry 72) -/
def respData (b : Breq) (beats : List (BitVec 512)) : Option (List Byte) :=
  let bytes := beats.flatMap fun x => bvBytes x
  let off := b.addr.toNat % 64
  if b.write then some [] else if off + b.len ≤ bytes.length then some ((bytes.drop off).take b.len) else none

/-- BLOCK_RESPONSE (R42, R43). (DESIGN CHOICE: log entry 12; DEDUCED: log entry 72) -/
def execBlockResponse (port : PortId) (info : BitVec 24) (beats : List (BitVec 512)) (poison : Bool) (s : State) :
    Host.Outcome State Fault Refusal :=
  whenPlat s fun s =>
    let btag : BitVec 12 := bits info 0 12
    let status : Byte := bits info 16 8
    if !s.hasPort port then s
    else
      match s.breqOut port btag with
      | none => raise C.MNF.BREQ_UNKNOWN (detTxn btag.toNat port.toNat true 0 status.toNat 0 0) s
      | some o =>
        let s := freeBreq port btag s
        if o.dead then s
        else
          let e : BreqEnd := if status = 0 then
              match respData o.req beats with
              | some d => .ok d poison
              | none => .error
            else .error
          breqAfter (breqDone port o.req e s)

/-- MNF_BREQ_TIMEOUT.US in ns, 0 taken as 1 (R43, R195). -/
def State.breqNs (s : State) : Nat := 1000 * atLeastOne (s.fld F.MNF_BREQ_TIMEOUT.US)

/-- BREQ_TIMEOUT (R43): the block-to-host timeout has passed since the issue. (DEDUCED: log entry 72) -/
def execBreqTimeout (port : PortId) (btag : BitVec 12) (s : State) : Host.Outcome State Fault Refusal :=
  whenPlat s fun s =>
    match s.breqOut port btag with
    | some o =>
      if o.dead then s
      else
        let s := s.lapse o.since s.breqNs
        let s := s.modPort port fun q => { q with outs := mapIf (·.btag == btag) (fun x => { x with dead := true }) q.outs }
        let s := raise C.MNF.BREQ_TIMEOUT (detTxn btag.toNat port.toNat true 0 0x02 0 0) s
        breqAfter (breqDone port o.req .timeout s)
    | none => s

/-- BTAG_RELEASE (R43): a second timeout period has passed from the end of the first. (DEDUCED: log entry 72) -/
def execBtagRelease (port : PortId) (btag : BitVec 12) (s : State) : Host.Outcome State Fault Refusal :=
  whenPlat s fun s =>
    match s.breqOut port btag with
    | some o => if o.dead then freeBreq port btag (s.lapse o.since (2 * s.breqNs)) else s
    | none => s

end Sys2Proof.Machine
end

