-- ==== Sys2Proof/Machine/Flt.lean ====
section
/-!
DEFINITION. The fault log: intake, ring, merging, the read index, and DIAG_FAULT_READ (R421 to R431, R338).
-/
namespace Sys2Proof.Machine

/-- FLT_WR.WR_IDX: the index of the next entry (R423). -/
def State.wrIdx (s : State) : Nat := s.flt.seq.toNat % 1024

/-- FLT_RD.RD_IDX: the index of the oldest unread entry (R423). -/
def State.rdIdx (s : State) : Nat := (s.flt.seq.toNat + 1024 - s.flt.unread) % 1024

/-- The bytes of an entry (R424). -/
def fltBytes (e : FltEntry) : List Byte :=
  let o := e.occ
  let flags := b2n o.unlocked + 2 * b2n o.multi + 4 * o.line.toNat + 16 * b2n o.enabled
  leBytes 8 o.time.toNat ++ leBytes 4 e.seq.toNat ++ [o.cls, o.detect, o.cost, BitVec.ofNat 8 flags]
    ++ leBytes 2 o.evtOff.toNat ++ [o.bitNo, 0] ++ leBytes 2 o.repeats ++ leBytes 10 o.detail.toNat

/-- The bytes at an index of the ring, zero where no entry has been written (R423, R431). -/
def State.fltEntry (s : State) (i : Nat) : List Byte :=
  match s.flt.ring.find? (fun e => e.seq.toNat % 1024 == i % 1024) with
  | some e => fltBytes e
  | none => List.replicate 32 0

/-- A word of FLT_WIN (R431). -/
def State.fltWord (s : State) (n : Nat) : Word := leWord 32 (s.fltEntry (n / 8)) (4 * (n % 8)) 4

/-- FLT_SUM_FAULT, FLT_SUM_CMPL and FLT_SUM_INFO (R428). -/
def State.fltSum (s : State) (l : Line) : Word :=
  BitVec.ofNat 32 (((List.range 14).filter fun n => causes.any fun c =>
    region c.evt == n && c.line == l && (s.reg c.evt).getLsbD c.bitNo && (s.reg c.en).getLsbD c.bitNo).foldl
      (fun acc n => acc + 2 ^ n) 0)

/-- The fault log changed. -/
def modFlt (f : Flt → Flt) (s : State) : State := { s with flt := f s.flt }

/-- FLT_CTRL.HIGH_WATER, 0 taken as 1 (R431). -/
def State.highWater (s : State) : Nat := atLeastOne (s.fld F.FLT_CTRL.HIGH_WATER)

/-- An occurrence becomes the next entry of the ring: over the oldest unread entry when 1,024 are unread (R423, R424). -/
def fltAppend (o : Occ) (s : State) : State :=
  let f := s.flt
  let e : FltEntry := { seq := f.seq, occ := o }
  let ring := (if f.ring.length < 1024 then f.ring else f.ring.drop 1) ++ [e]
  if f.unread ≥ 1024 then
    raise C.FLT.OVERWRITTEN (at80 0 (f.seq - 1024).toNat ||| at80 64 f.unread)
      (modFlt (fun f => { f with ring := ring, seq := f.seq + 1 }) s)
  else
    let n := f.unread + 1
    let s := modFlt (fun f => { f with ring := ring, seq := f.seq + 1, unread := n }) s
    if n = s.highWater then raise C.FLT.HIGH_WATER (at80 64 n) s else s

/-- Two occurrences of one cause, with stamps of one kind (R427). -/
def sameCause (a b : Occ) : Bool :=
  a.detect == b.detect && a.evtOff == b.evtOff && a.bitNo == b.bitNo && a.unlocked == b.unlocked

/-- The nanoseconds from one stamp to a later one: an AO count is in units of 10 ns (R424). -/
def stampGap (a b : Occ) : Nat := (b.time.toNat - a.time.toNat) * (if a.unlocked then 10 else 1)

/-- The ring with the latest entry of the occurrence's cause counting it, where the merge rule takes it (R427).
(DEDUCED: log entry 61) -/
def State.merged (s : State) (o : Occ) : Option (List FltEntry) :=
  if o.cls = 0x04 || o.cls = 0x0D then
    match (s.flt.ring.filter fun e => sameCause e.occ o).getLast? with
    | some e =>
      if stampGap e.occ o < 1000 * s.fld F.FLT_CTRL.MERGE_US then
        mapLast (fun x : FltEntry => sameCause x.occ o) (fun x => { x with occ := bump x.occ }) s.flt.ring
      else none
    | none => none
  else none

/-- The pending class 0x0F entry (R425, R426). (DEDUCED: log entry 61) -/
def lostEntry (l : LostInfo) (s : State) : Occ :=
  { time := l.time, unlocked := l.unlocked, cycle := s.aoCycles, cls := 0x0F, detect := 0x0D, cost := 0x0D, multi := false,
    line := 0b01#2, enabled := l.enabled, evtOff := 0x0030, bitNo := 2, repeats := min 0xFFFF l.count,
    detail := at80 0 l.seqBefore.toNat ||| at80 32 (l.time.toNat % 2 ^ 32) ||| at80 64 s.flt.unread }

/-- Up to `n` entries written in intake order: occurrences that merge write none (R426, R427). (DEDUCED: log entry 61) -/
def fltWrite : Nat → List Occ → State → List Occ × State
  | _, [], s => ([], s)
  | n, o :: os, s =>
    match s.merged o with
    | some ring => fltWrite n os (modFlt (fun f => { f with ring := ring }) s)
    | none =>
      match n with
      | 0 => (o :: os, s)
      | n + 1 => fltWrite n os (fltAppend o s)

/-- An occurrence placed among those of its AO cycle in order of DETECT, after its equals (R426). -/
def occInsert (o : Occ) : List Occ → List Occ
  | [] => [o]
  | x :: xs => if o.cycle = x.cycle && o.detect.toNat < x.detect.toNat then o :: x :: xs else x :: occInsert o xs

/-- The order in which pending occurrences are taken: oldest first, within one AO cycle by DETECT and then by arrival (R426). -/
def occOrder (os : List Occ) : List Occ := os.foldl (fun acc o => occInsert o acc) []

/-- An occurrence that finds the intake full: INTAKE_LOST, which itself takes no place in the intake (R426). (DEDUCED: log entry 61) -/
def intakeLost (o : Occ) (s : State) : State :=
  let l := match s.flt.lost with
    | some l => { l with count := l.count + 1 }
    | none => { count := 1, seqBefore := s.flt.seq - 1, time := o.time, unlocked := o.unlocked,
                enabled := (s.reg C.FLT.INTAKE_LOST.en).getLsbD C.FLT.INTAKE_LOST.bitNo }
  modFlt (fun f => { f with lost := some l }) (setCause C.FLT.INTAKE_LOST s)

/-- The intake takes an occurrence, or loses it when it holds 64 (R426). (DEDUCED: log entry 61) -/
def intakeTake (s : State) (o : Occ) : State :=
  if s.flt.intake.length < 64 then modFlt (fun f => { f with intake := f.intake ++ [o] }) s else intakeLost o s

/-- One AO cycle of the log: at most 8 occurrences taken, at most 2 entries written, the entry of INTAKE_LOST ahead of the
intake's next as soon as the intake holds fewer than 32 (R426). (DEDUCED: log entry 61) -/
def fltCycle (s : State) : State :=
  let os := occOrder s.flt.pend
  let s := (os.take 8).foldl intakeTake (modFlt (fun f => { f with pend := os.drop 8 }) s)
  let (n, s) := match s.flt.lost with
    | some l => if s.flt.intake.length < 32 then (1, fltAppend (lostEntry l s) (modFlt (fun f => { f with lost := none }) s)) else (2, s)
    | none => (2, s)
  let (rest, s) := fltWrite n s.flt.intake s
  modFlt (fun f => { f with intake := rest }) s

/-- FAULT_LOG_INTAKE (R426). -/
def execFaultLogIntake (s : State) : Host.Outcome State Fault Refusal := whenUp s fltCycle

/-- A write of FLT_RD: the read index moves on, or the write is ignored where it would raise UNREAD (R423). -/
def fltRdWrite (data : Word) (s : State) : State :=
  let d := (fld data 0 10 + 1024 - s.rdIdx) % 1024
  if d ≤ s.flt.unread then modFlt (fun f => { f with unread := f.unread - d }) s else s

/-- FLT_RD_WRITE (R423). -/
def execFltRdWrite (data : Word) (s : State) : Host.Outcome State Fault Refusal :=
  whenFunctional s fun s => portWrite R.FLT_RD true (fltRdWrite data) s

/-- DIAG_FAULT_READ (R338): COUNT entries from FIRST, wrapping. -/
def execDiagFaultRead (ref : CmdRef) (s : State) : Host.Outcome State Fault Refusal :=
  whenFunctional s fun s => withCmd ref 0x0A04 s fun ps s =>
    let first := leAt ps 0 2
    let count := leAt ps 2 1
    if first ≤ 1023 && 1 ≤ count && count ≤ 31 then
      complete ref 0 ((List.range count).flatMap fun i => s.fltEntry (first + i)) s
    else finish ref 0x0104 s

end Sys2Proof.Machine
end

