-- ==== Sys2Proof/Machine/Lnk.lean ====
section
/-!
DEFINITION. The meanings of the link layer's commands: the filling of flit slots, flits received, the siding with its replay
and tickets, link control, retrain, link down, grace hold and flush, and the Vetex commands on the link (R134 to R164, R329).
-/
namespace Sys2Proof.Machine

/-! ## The siding and tickets (R139 to R151) -/

/-- Sequence numbers that the siding spans. -/
def State.span (s : State) : Nat := ((s.lnk.siding.head?).map fun f => (s.lnk.nextSeq - f.seq).toNat).getD 0

/-- The span at which new flits stop (R140). -/
def State.spanLimit (s : State) : Nat := if s.lnk.selective then 256 else 512

/-- The stall follows the siding; SIDING_STALL is raised once per stall (R140). -/
def noteStall (s : State) : State :=
  let full := s.spanLimit ≤ s.span
  let s' := modLnk (fun l => { l with stalled := full }) s
  if full && !s.lnk.stalled then raise C.LNK.SIDING_STALL (detLink 0 s') s' else s'

/-- An ACK received (R139, R140): flits up to it leave the siding. One that names no flit sent has no effect.
(DEDUCED: log entry 22) -/
def onAck (a : BitVec 12) (s : State) : State :=
  let n := (a - s.lnk.acked).toNat
  if (s.lnk.nextSeq - 1 - s.lnk.acked).toNat < n then s
  else
    noteStall (modLnk (fun l => { l with replayFrom := if n = 0 then l.replayFrom else s.mark, acked := a, siding := l.siding.filter fun f => n < (f.seq - l.acked).toNat }) s)

/-- A cumulative count of returned tickets received (R149). -/
def onCount (i : Fin 6) (c : BitVec 12) (s : State) : State :=
  let l := s.lnk
  let n := l.held[i] + (c - l.lastCount[i]).toNat
  let most := l.peerPool[i]
  let s := modLnk (fun l => { l with lastCount := l.lastCount.set i c, held := l.held.set i (min n most) }) s
  if most < n then raise C.LNK.PROTOCOL (detProto 0 0x3FFF 3) s else s

/-- A NAK received (R142, R143): go-back resends every flit that follows the ACK, selective those that the bitmap marks.
(DEDUCED: log entry 22) -/
def onNak (missing : BitVec 256) (s : State) : State :=
  if s.lnk.selective then
    resend (fun f =>
      let i := (f.seq - s.lnk.acked - 1).toNat
      i < 256 && missing.getLsbD i) s
  else resend (fun _ => true) s

/-- The ticket that the next new flit of a track would spend: none in hand, or its place, and whether it is a shared one
(R147, R150). -/
def State.ticketFor (s : State) (t : BitVec 3) : Option (Option (Fin 6) × Bool) :=
  match kindOfTrack t with
  | none => some (none, false)
  | some i => if s.lnk.held[i] ≠ 0 then some (some i, false) else if s.lnk.held[5] ≠ 0 then some (some 5, true) else none

/-- A track has a flit and a ticket for it. -/
def State.sendable (s : State) (t : Nat) : Bool :=
  !(s.lnk.outq.toList.getD t []).isEmpty && (s.ticketFor (BitVec.ofNat 3 t)).isSome

/-- The rotation of R151. -/
def wrrTrack (i : Fin 4) : Nat := [4, 3, 5, 1].getD i.val 4

/-- The weight of the track in place `i` of the rotation: LNK_ARB, where 0 is taken as 1 (R151, R164). -/
def State.weight (s : State) (i : Fin 4) : Nat :=
  atLeastOne (s.fld ([F.LNK_ARB.W_T4, F.LNK_ARB.W_T3, F.LNK_ARB.W_T5, F.LNK_ARB.W_T1].getD i.val F.LNK_ARB.W_T4))

/-- A turn of the round robin that has begun ends when its track has nothing more to send or no ticket for its next flit, and carries
nothing over (R151). -/
def passTurn (s : State) : State :=
  if s.lnk.left ≠ 0 && !s.sendable (wrrTrack s.lnk.turn) then modLnk (fun l => { l with turn := l.turn + 1, left := 0 }) s else s

/-- The track of the next new flit, with the turn after it: T0, then T2, then the round robin (R151). -/
def State.nextTrack (s : State) : Option (Nat × Fin 4 × Nat) :=
  if s.sendable 0 then some (0, s.lnk.turn, s.lnk.left)
  else if s.sendable 2 then some (2, s.lnk.turn, s.lnk.left)
  else
    (([0, 1, 2, 3] : List (Fin 4)).find? fun o => s.sendable (wrrTrack (s.lnk.turn + o))).map fun o =>
      let i := s.lnk.turn + o
      let w := if o = 0 && s.lnk.left ≠ 0 then s.lnk.left else s.weight i
      if w = 1 then (wrrTrack i, i + 1, 0) else (wrrTrack i, i, w - 1)

/-! ## Flits sent (R135 to R138, R145) -/

/-- The flits missing between the last accepted and the last held (R143). -/
def State.missing (s : State) : List (BitVec 12) :=
  let top := (s.lnk.reorder.map fun f => (f.seq - s.lnk.lastAcc).toNat).foldl max 0
  ((List.range top).map fun i => s.lnk.lastAcc + 1 + BitVec.ofNat 12 i).filter fun q => !s.lnk.reorder.any (·.seq == q)

/-- A data flit as it leaves: the newest ACK and one ticket count in its header (R136). -/
def dataFlit (l : Lnk) (f : SideFlit) : BitVec 2048 :=
  let h : DHdr := { kind := 1, track := f.flit.track, shared := BitVec.ofBool f.shared, sop := BitVec.ofBool f.flit.sop,
                    eop := BitVec.ofBool f.flit.eop, len := BitVec.ofNat 8 (f.flit.data.length - 1), seq := f.seq, ack := l.lastAcc,
                    nak := 0, sel := selOf l.tktSel.val, count := l.returned[l.tktSel], rsv := 0 }
  sealFlit h.toBits (payloadBits f.flit.data)

/-- A link control flit as it leaves (R145). -/
def State.linkFlit (s : State) : BitVec 2048 :=
  let l := s.lnk
  let h : DHdr := { kind := 3, track := 0, shared := 0, sop := 0, eop := 0, len := 0, seq := 0, ack := l.lastAcc,
                    nak := BitVec.ofBool l.nakDue, sel := selOf l.tktSel.val, count := l.returned[l.tktSel], rsv := 0 }
  let map : Nat := if l.nakDue && l.selective then
      (s.missing.map fun q => 2 ^ ((q - l.lastAcc - 1).toNat % 256)).foldl (· ||| ·) 0 else 0
  sealFlit h.toBits (LinkCtl.toBits { missing := BitVec.ofNat 256 map, counts := l.returned, retrain := l.retrainDue })

/-- One more dynamic flit in the newest slot measured. (DEDUCED: log entry 56) -/
def useSlot (up : Bool) : List SlotUse → List SlotUse
  | [] => []
  | u :: us => (if up then { u with up := u.up + 1 } else { u with dn := u.dn + 1 }) :: us

/-- What a data flit's sending leaves: TKT_SEL rotates, and the ACK has gone out (R145). -/
def dataSent (s : State) : State :=
  { modLnk (fun l => { l with tktSel := l.tktSel + 1, ackDirty := false }) s with
    pcm := { s.pcm with useUp := s.pcm.useUp + 1, lastDyn := s.now, recent := useSlot true s.pcm.recent } }

/-- A new flit of a track takes its number and its ticket and enters the siding (R139, R140, R147). -/
def numberFlit (t : Nat) (turn : Fin 4) (left : Nat) (s : State) : Option (SideFlit × State) :=
  match s.lnk.outq.toList.getD t [], s.ticketFor (BitVec.ofNat 3 t) with
  | f :: rest, some (i, shared) =>
    let x : SideFlit := { seq := s.lnk.nextSeq, shared := shared, flit := f, replays := 0, again := false }
    let held := match i with
      | some i => s.lnk.held.set i (s.lnk.held[i] - 1)
      | none => s.lnk.held
    some (x, modLnk (fun l => { l with
      replayFrom := if l.siding = [] then s.mark else l.replayFrom
      outq := vmod l.outq t (fun _ => rest), heldFrom := vmod l.heldFrom t (fun _ => s.mark), siding := l.siding ++ [x], nextSeq := l.nextSeq + 1, held := held, turn := turn,
      left := left }) s)
  | _, _ => none

/-- A link control flit is due and may leave: in a retrain or a hold only with RETRAIN (R138, R145, R157, R160). -/
def State.ctlReady (s : State) : Bool :=
  s.lnk.retrainDue || ((s.lnk.st == .up || (s.lnk.st == .notUp && s.boot.step == 8)) && (s.lnk.ctlDue || s.lnk.nakDue))

/-- The flit of the next free sleeve, by precedence (R138): link control, resends in order, new flits. -/
def nextFlit (s : State) : Option (BitVec 2048) × State :=
  if s.ctlReady then
    (some s.linkFlit, modLnk (fun l => { l with
      ctlDue := false, nakDue := false, retrainDue := false, ackDirty := false, ctlFrom := s.mark }) s)
  else if s.lnk.st != .up then (none, s)
  else
    match s.lnk.siding.find? (·.again) with
    | some f => (some (dataFlit s.lnk f), resent f (dataSent s))
    | none =>
      let s := passTurn s
      if s.spanLimit ≤ s.span then (none, s)
      else
        match s.nextTrack with
        | none => (none, s)
        | some (t, turn, left) =>
          match numberFlit t turn left s with
          | some (f, s') => (some (dataFlit s.lnk f), noteStall (dataSent (passTurn s')))
          | none => (none, s)

/-- Free sleeves filled in ascending order. -/
def fillSleeves : List SleeveNo → State → List (SleeveNo × BitVec 2048) × State
  | [], s => ([], s)
  | k :: ks, s =>
    match nextFlit s with
    | (some f, s) =>
      let (fs, s) := fillSleeves ks s
      ((k, f) :: fs, s)
    | (none, s) => fillSleeves ks s

/-- A seam control flit that leaves in this slot: on every free sleeve with no failed lane awaiting repair, or else on every
free one (R80). Several that wait leave one a slot, oldest first. (DESIGN CHOICE: log entry 76) -/
def sendSeamCtl (ks : List SleeveNo) (slot : BitVec 32) (s : State) : List (SleeveNo × BitVec 2048) × State :=
  match s.seam.ctlOut with
  | p :: ps =>
    if ks = [] || s.lnk.st != .up then ([], s)
    else
      let sound := ks.filter fun k => (s.slv .up k).bare = []
      let on := if sound = [] then ks else sound
      (on.map fun k => (k, sealFlit (0b100#3 ++ 0#61) p), ctlSent p slot (modSeam (fun m => { m with ctlOut := ps }) s))
  | [] => ([], s)

/-- The free capacity of a slot counts in the measurement of R369. (DEDUCED: log entry 56) -/
def noteSlot (s : State) : State :=
  let u := popcount8 (s.seam.usable &&& ~~~s.ttb.upMask)
  let d := popcount8 (s.seam.usable &&& ~~~s.ttb.dnMask)
  { s with pcm := { s.pcm with
    capUp := s.pcm.capUp + u, capDn := s.pcm.capDn + d, recent := (⟨0, u, 0, d⟩ :: s.pcm.recent).take 500 } }

/-- The slot ends: the counters advance, and 2 ns pass, but never past a path boundary that the sequencer has still to make
(R72, R74, R213). (DESIGN CHOICE: log entry 6) -/
def endSlot (s : State) : State :=
  let s := modSeam (fun m => { m with upSlot := m.upSlot + 1, dnSlot := m.dnSlot + 1 }) s
  s.elapse (if s.ttb.st == .running || s.ttb.st == .startArmed then min 2 (s.rwt.hold + (64 * s.nextPath - 1 - s.now)) else 2)

/-- What the upstream lanes carry in slot `n`: on each powered sleeve its flit or filler, and on the lanes of a running test that generates
upstream, PRBS31 (R72, R73, R75, R93, R94, R100, R102). (DEDUCED: log entry 20; PRESUMED: log entry 55) -/
def State.lineOf (s : State) (n : BitVec 32) (flits : List (SleeveNo × BitVec 2048)) : List (SleeveNo × BitVec 2304) :=
  let m := s.fld F.SEAM_TEST_CTRL.MODE
  (sleevesOf s.seam.powered).map fun k =>
    let v := s.slv .up k
    let flit := ((flits.find? (·.1 == k)).map (·.2)).getD 0
    let line := sendLine v.spareState v.spareLane.toNat k.toNat n.toNat flit
    if s.seam.test.running && s.testMask.getLsbD k.toNat && (s.fld F.SEAM_TEST_CTRL.DIR).testBit 0 && 1 ≤ m && m ≤ 5 then
      (k, prbsLine s.seam.test.gens (s.fld F.SEAM_TEST_CTRL.LANE_MASK) (m == 2) line)
    else (k, line)

/-- The lines of a slot put onto the lanes; the generators of a running test move on by the slot's 256 bits (R75, R102). -/
def driveLines (n : BitVec 32) (flits : List (SleeveNo × BitVec 2048)) (s : State) : State :=
  modSeam (fun m => { m with
    line := s.lineOf n flits
    test := if m.test.running then { m.test with gens := m.test.gens.map (seqDrop 256) } else m.test }) s

/-- One upstream flit slot (R24, R80, R138): seam control, the T6 flits of the slot on their sleeves, and the rest by precedence. -/
def flitSlot (s : State) : State :=
  let n := s.seam.upSlot
  let s := noteSlot s
  let free := sleevesOf (s.seam.usable &&& ~~~s.ttb.upMask &&& ~~~s.grantedMask)
  let (t6, s) := if s.ttb.st == .running && s.now / 64 == s.ttb.path then t6Slot (s.now % 64 / 2) s else ([], s)
  let (ctl, s) := sendSeamCtl free n s
  let (fs, s) := fillSleeves (free.filter fun k => !ctl.any (·.1 == k)) s
  let s := endSlot ((driveLines n (ctl ++ fs ++ t6) s).emit (.slot n (ctl ++ fs ++ t6)))
  readOperands <| pumpMnf (if s.sbx.ready then pumpProgs (s.vtx.progs.map (·.rest.length)).sum s else s)

/-- FLIT_SLOT_SEND: slots run from the end of training (R74). Under the wrapper only the generators of a test send (R63, R100). -/
def execFlitSlotSend (s : State) : Host.Outcome State Fault Refusal :=
  if s.wrapped then whenUp s fun s => if s.seam.test.running then driveLines s.seam.upSlot [] s else s
  else whenPlat s fun s => if s.seam.counting then flitSlot s else s

/-! ## Flits received (R135, R137, R142, R143, R145 to R150) -/

/-- A gap opens (R142, R156): in go-back mode the first discard sends NAK. (DEDUCED: log entry 22) -/
def noteGap (s : State) : State :=
  if s.lnk.gap then s
  else modLnk (fun l => { l with gap := true, rxCount := 0, gapFrom := s.mark, nakDue := l.nakDue || !l.selective }) s

/-- The buffer kind of an accepted or held flit. -/
def RxFlit.kind (f : RxFlit) : Option (Fin 6) := if f.shared then some 5 else kindOfTrack f.flit.track

/-- Buffers of the block's receive pool by kind (R146). -/
def State.poolSize (s : State) (i : Fin 6) : Nat := if i = 5 then (if s.lnk.selective then 688 else 944) else 16

/-- Buffers of a kind that hold a flit (R148). -/
def State.poolUsed (s : State) (i : Fin 6) : Nat :=
  let packets := (s.mnf.waiting ++ s.mnf.fwd).flatMap (·.held)
  ((s.lnk.pool ++ s.lnk.reorder ++ packets).filter fun f => f.kind == some i).length

/-- A received data flit's record. (DEDUCED: log entry 21) -/
def rxFlitOf (h : DHdr) (flit : BitVec 2048) : RxFlit :=
  { seq := h.seq, shared := h.shared == 1,
    flit := { track := h.track, sop := h.sop == 1, eop := h.eop == 1, data := (bvBytes (payloadOf flit)).take (h.len.toNat + 1) } }

/-- A flit accepted (R142, R148). -/
def acceptFlit (f : RxFlit) (s : State) : State :=
  ackChanged (modLnk (fun l => { l with lastAcc := f.seq, pool := l.pool ++ [f], gap := false, rxCount := 0 }) s)

/-- Held flits whose turn has come are accepted in order (R143); `n` bounds their number. -/
def drainReorder : Nat → State → State
  | 0, s => s
  | n + 1, s =>
    match s.lnk.reorder.find? (fun f => f.seq == s.lnk.lastAcc + 1) with
    | some f => drainReorder n (acceptFlit f (modLnk (fun l => { l with reorder := l.reorder.filter (·.seq != f.seq) }) s))
    | none => s

/-- A change in the set of missing flits sends a link control flit with NAK (R143); when the set becomes empty no gap exists (R136), and none
is sent. (DEDUCED: log entry 22) -/
def noteMissing (before : List (BitVec 12)) (s : State) : State :=
  let now := s.missing
  let s := if now = [] then s else modLnk (fun l => { l with gap := true, gapFrom := if l.gap then l.gapFrom else s.mark }) s
  if now ≠ [] && now ≠ before then modLnk (fun l => { l with nakDue := true }) s else s

/-- A good data flit by its place in the sequence (R139, R142, R143). -/
def placeFlit (h : DHdr) (flit : BitVec 2048) (s : State) : State :=
  let f := rxFlitOf h flit
  let d := (h.seq - s.lnk.lastAcc).toNat
  let noRoom := match f.kind with
    | some i => decide (s.poolSize i ≤ s.poolUsed i)
    | none => false
  if (s.lnk.lastAcc - h.seq).toNat < 2048 then s
  else if d = 1 then
    if noRoom then noteGap (linkProtocol (bits flit 0 64) s)
    else
      let before := s.missing
      noteMissing before (drainReorder 256 (acceptFlit f s))
  else if s.lnk.selective && d ≤ 256 then
    if s.lnk.reorder.any (·.seq == h.seq) then s
    else if noRoom then noteGap (linkProtocol (bits flit 0 64) s)
    else
      let before := s.missing
      noteMissing before (modLnk (fun l => { l with reorder := l.reorder ++ [f] }) (noteGap s))
  else noteGap s

/-- ACK and one ticket count of a header (R136, R145). (DEDUCED: log entry 22) -/
def onHeader (h : DHdr) (s : State) : State :=
  let s := onAck h.ack s
  match kindOfSel h.sel with
  | some i => onCount i h.count s
  | none => s

/-- A good data flit received while the link is up. (DEDUCED: log entry 22) -/
def takeData (flit : BitVec 2048) (s : State) : State :=
  let h := DHdr.ofBits (bits flit 0 64)
  if s.lnk.st != .up then s
  else
    let s := { s with pcm := { s.pcm with useDn := s.pcm.useDn + 1, lastDyn := s.now, recent := useSlot false s.pcm.recent } }
    let s := onHeader h s
    let s := if h.nak = 1 && !s.lnk.selective then onNak 0 s else s
    if s.lnk.st != .up then s
    else if 6 ≤ h.track.toNat || !s.lnk.trackMask.getLsbD h.track.toNat then noteGap (linkProtocol (bits flit 0 64) s)
    else placeFlit h flit s

/-- DATA_FLIT_RECEIVE (R135, R137, R139, R142, R143, R148 to R150, R163): a flit received while the link is up.
(DEDUCED: log entry 22) -/
def execDataFlitReceive (slv : SleeveNo) (line : BitVec 2304) (s : State) : Host.Outcome State Fault Refusal :=
  whenPlat s fun s => onFlit 1 slv line (fun s => if s.lnk.st == .up then noteGap s else s) takeData s

/-- Bits 28:19 of LNK_STATUS in two bytes (R329). -/
def State.genTracks (s : State) : List Byte := leBytes 2 (s.lnk.trackMask.toNat + 256 * s.lnk.gen.toNat)

/-- Link control flits have been exchanged after start-up: the link is up (R163, R412). (DEDUCED: log entry 24) -/
def linkUp (s : State) : State :=
  let s := modTlr (fun t => { t with mode := .service }) (modLnk (fun l => { l with st := .up, ctlFrom := s.mark }) s)
  let s := raise C.LNK.LINK_UP 0 { s with pcm := { s.pcm with
    st := .awake, lastDyn := s.now, windowAt := s.now, useUp := 0, capUp := 0, useDn := 0, capDn := 0 } }
  let s := { s with boot := { s.boot with reached := if s.boot.reached < 9 then 9 else s.boot.reached } }
  nextEx (repairAgain (noteReady (wake .linkUp 0 s.genTracks s)))

/-- What a good link control flit brings (R145, R149, R157). -/
def linkCtl (flit : BitVec 2048) (s : State) : State :=
  let h := DHdr.ofBits (bits flit 0 64)
  let c := LinkCtl.ofBits (payloadOf flit)
  let s := onHeader h s
  let s := ([0, 1, 2, 3, 4, 5] : List (Fin 6)).foldl (fun s i => onCount i c.counts[i] s) s
  let s := if h.nak = 1 then onNak c.missing s else s
  if c.retrain then startRetrain false s else s

/-- LINK_CONTROL_RECEIVE: in start-up's last step the first one brings the link up; while the link is up it is acted on; in a
grace hold only its RETRAIN is (R157, R160, R412). (DEDUCED: log entry 24) -/
def execLinkControlReceive (slv : SleeveNo) (line : BitVec 2304) (s : State) : Host.Outcome State Fault Refusal :=
  whenPlat s fun s => onFlit 3 slv line id (fun flit s =>
    if s.lnk.st == .up || (s.lnk.st == .notUp && s.boot.step == 8) then
      linkCtl flit (if s.lnk.st == .notUp then linkUp s else s)
    else if s.lnk.st == .grace && (LinkCtl.ofBits (payloadOf flit)).retrain && s.lnk.retraining.isNone then beginRetrain false s
    else s) s

/-- One more in a saturating 32-bit counter. -/
def countReg (a : Nat) (s : State) : State := s.setReg a (if s.reg a = 0xFFFFFFFF#32 then 0xFFFFFFFF#32 else s.reg a + 1)

/-- T6_FLIT_RECEIVE (R73, R154, R162): the lanes of a sleeve in slot `place` of a path bring a T6 flit or filler. A flit is decoded,
counted, and handed to the timetable's check; one that cannot be decoded goes by its slot and sleeve. What comes on a sleeve in the slot
in which it is retired is uncorrectable. (DEDUCED: log entry 35) -/
def execT6FlitReceive (slv : SleeveNo) (got : SlotLine) (s : State) : Host.Outcome State Fault Refusal :=
  whenPlat s fun s =>
    let flit := s.slotOf slv got.line
    let cut := s.seam.lastRetired = some (slv, s.seam.dnSlot)
    if s.lnk.st != .up || bits flit 0 64 == 0 || !(cut || s.seam.usable.getLsbD slv.toNat) then s
    else
      match (if cut then none else t6Decode flit) with
      | some (h, p, n) =>
        let s := if n = 0 then s else countReg R.LNK_FEC_CORR s
        let h := T6Hdr.ofBits h
        t6Arrive h ((bvBytes p).take (h.len.toNat + 1)) s
      | none => t6Lost slv got.place.toNat flit (countReg R.LNK_FEC_UNCORR s)

/-! ## Timers (R141, R145, R156) -/

/-- LNK_TIMER_CFG.REPLAY_NS in ns, where 0 is taken as 1 (R164). -/
def State.replayNs (s : State) : Nat := 4 * atLeastOne (s.fld F.LNK_TIMER_CFG.REPLAY_NS)

/-- LNK_TIMER_CFG.ACK_MAX_NS, where values outside 4 to 64 are taken as the nearer of the two (R164). -/
def State.ackMaxNs (s : State) : Nat := max 4 (min 64 (s.fld F.LNK_TIMER_CFG.ACK_MAX_NS))

/-- LNK_TIMER_CFG.KEEPALIVE in ns, where 0 is taken as 1 (R164). -/
def State.keepaliveNs (s : State) : Nat := 16 * atLeastOne (s.fld F.LNK_TIMER_CFG.KEEPALIVE)

/-- REPLAY_TIMER (R141 to R143): the timer starts again, and go-back resends the siding, selective its oldest flit.
(DEDUCED: log entry 23) -/
def execReplayTimer (s : State) : Host.Outcome State Fault Refusal :=
  whenPlat s fun s =>
    if s.lnk.st != .up then s
    else
      match s.lnk.siding with
      | [] => s
      | f :: _ =>
        let s := s.lapse s.lnk.replayFrom s.replayNs
        let s := modLnk (fun l => { l with replayFrom := s.mark }) s
        if s.lnk.selective then resend (fun x => x.seq == f.seq) s else resend (fun _ => true) s

/-- ACK_TIMER (R145): a change in ACK or tickets has waited its time. -/
def execAckTimer (s : State) : Host.Outcome State Fault Refusal :=
  whenPlat s fun s =>
    if s.lnk.st == .up && s.lnk.ackDirty then modLnk (fun l => { l with ctlDue := true }) (s.lapse s.lnk.dirtyFrom s.ackMaxNs) else s

/-- KEEPALIVE_TIMER (R145). -/
def execKeepaliveTimer (s : State) : Host.Outcome State Fault Refusal :=
  whenPlat s fun s =>
    if s.lnk.st == .up then modLnk (fun l => { l with ctlDue := true }) (s.lapse s.lnk.ctlFrom s.keepaliveNs) else s

/-- RECEIVER_REPLAY_PERIOD (R156): the awaited flit has not been accepted for one period more. -/
def execReceiverReplayPeriod (s : State) : Host.Outcome State Fault Refusal :=
  whenPlat s fun s =>
    if s.lnk.st == .up && s.lnk.gap then
      let n := s.lnk.rxCount + 1
      let s := s.lapse s.lnk.gapFrom s.replayNs
      replayLimits [n] (modLnk (fun l => { l with rxCount := n, gapFrom := s.mark }) s)
    else s

/-! ## LNK_CTRL and the link messages (R156 to R161, R416) -/

/-- RESTART acts: after a flush, and from the holds of start-up that end with it (R161, R416). (DEDUCED: log entry 25) -/
def State.canRestart (s : State) : Bool :=
  s.lnk.st == .flushed || (s.boot.step == 0xF && 4 ≤ s.boot.fail.toNat && s.boot.fail.toNat ≤ 7)
    || (s.boot.step == 0xF && s.boot.fail == 8 && s.pins.platClkOk)

/-- A write of LNK_CTRL (R164). (DEDUCED: log entry 25) -/
def lnkCtrlWrite (data : Word) (s : State) : State :=
  let s := s.setFld F.LNK_CTRL.REPLAY_MODE (b2n (bit data 0))
  let s := if bit data 1 && s.lnk.st == .grace then flush s else s
  let s := if bit data 2 then startRetrain true s else s
  if bit data 3 && s.canRestart then (if s.lnk.st == .flushed then negotiate true s else resumeStart s) else s

/-- LNK_CTRL_RETRAIN. -/
def execLnkCtrlRetrain (data : Word) (s : State) : Host.Outcome State Fault Refusal :=
  whenFunctional s fun s => portWrite R.LNK_CTRL (bit data 2) (lnkCtrlWrite data) s

/-- FLUSH_NOW. -/
def execFlushNow (data : Word) (s : State) : Host.Outcome State Fault Refusal :=
  whenFunctional s fun s => portWrite R.LNK_CTRL (bit data 1) (lnkCtrlWrite data) s

/-- LNK_CTRL_RESTART. -/
def execLnkCtrlRestart (data : Word) (s : State) : Host.Outcome State Fault Refusal :=
  whenFunctional s fun s => portWrite R.LNK_CTRL (bit data 3) (lnkCtrlWrite data) s

/-- SLEEPER_LINK_RETRAIN (R157, R160): the station asks for a retrain, while the link is up or in a grace hold; in CALIBRATING it is
taken as silence (R419). -/
def execSleeperLinkRetrain (s : State) : Host.Outcome State Fault Refusal :=
  whenMsg s fun s =>
    if s.boot.step = 7 then trainAgain s
    else if s.lnk.st == .grace && s.lnk.retraining.isNone then beginRetrain false s else startRetrain false s

/-- LINK_READY (R74, R157, R412, R413): the end of calibration, where the slot named is slot 0, or the slots at which a retrain
resumes. -/
def execLinkReady (msg : BitVec 64) (s : State) : Host.Outcome State Fault Refusal :=
  whenMsg s fun s =>
    if s.boot.step == 7 && s.boot.ownUsable.isSome && s.boot.peerUsable.isSome && s.seam.usable != 0 then
      let s := modSeam (fun m => { m with upSlot := 0, dnSlot := 0, counting := true }) (toStep 8 s)
      modLnk (fun l => { l with ctlDue := true }) s
    else
      modLnk (fun l => { l with retraining := l.retraining.map fun r => { r with resume := some (bits msg 0 32, bits msg 32 32) } }) s

/-- LINK_RESUME (R157): at the slot that the station named, once the tailoring share has ended. -/
def execLinkResume (s : State) : Host.Outcome State Fault Refusal :=
  whenPlat s fun s =>
    match s.lnk.retraining with
    | none => s
    | some r =>
      match r.resume with
      | some (u, d) => if r.tailored then resumeLink (modSeam (fun m => { m with upSlot := u, dnSlot := d }) s) else s
      | none => s

/-- RETRAIN_TIMEOUT (R158): 100 µs have passed since the retrain began. (DEDUCED: log entry 8) -/
def execRetrainTimeout (s : State) : Host.Outcome State Fault Refusal :=
  whenPlat s fun s =>
    match s.lnk.retraining with
    | none => s
    | some r => failRetrain (s.reach (r.startedAt + 100000))

/-- SLEEPER_LINK_DOWN (R159): the station declares the link down, with its cause; in CALIBRATING it is taken as silence (R419). -/
def execSleeperLinkDown (msg : BitVec 32) (s : State) : Host.Outcome State Fault Refusal :=
  whenMsg s fun s => if s.boot.step = 7 then trainAgain s else declareDown (bits msg 0 8) false s

/-- GRACE_RETRAIN_TIMER (R99, R160): a retrain every 1 ms of a hold; in Sleeper mode, while the Sleeper lane is in lock.
(DEDUCED: log entry 25) -/
def execGraceRetrainTimer (s : State) : Host.Outcome State Fault Refusal :=
  whenPlat s fun s =>
    if s.lnk.st == .grace then
      let s := s.lapse s.lnk.graceFrom 1000000
      let s := modLnk (fun l => { l with graceFrom := s.mark }) s
      if s.lnk.retraining.isNone && (s.slp.lock || !s.asleep) then beginRetrain true s else s
    else s

/-- A retrain can succeed now: its tailoring share has ended, and the upstream slot that the station named has come (R157). -/
def State.canResume (s : State) : Bool :=
  match s.lnk.retraining with
  | some r => r.tailored && (r.resume.map fun x => !serialLt s.seam.upSlot x.1).getD false && s.seam.usable != 0
  | none => false

/-- GRACE_EXPIRY (R161, R162): a flush, unless a retrain succeeds in the same tick. (DEDUCED: log entries 8, 25) -/
def execGraceExpiry (s : State) : Host.Outcome State Fault Refusal :=
  whenPlat s fun s =>
    if s.lnk.st == .grace then
      let s := s.reach (s.lnk.downAt + 1000 * s.graceUs)
      if s.canResume then resumeLink s else flush s
    else s

/-! ## Register views (R164) -/

/-- LNK_STATUS. -/
def State.lnkStatus (s : State) : Word :=
  let l := s.lnk
  BitVec.ofNat 32 (linkCode l.st * 2 ^ 29 + l.gen.toNat * 2 ^ 27 + l.trackMask.toNat * 2 ^ 19 + b2n l.stalled * 2 ^ 18
    + b2n l.selective * 2 ^ 17 + l.siding.length)

/-- LNK_TX_SEQ. -/
def State.lnkTxSeq (s : State) : Word := BitVec.ofNat 32 (s.lnk.acked.toNat * 2 ^ 16 + s.lnk.nextSeq.toNat)

/-- LNK_RX_SEQ. -/
def State.lnkRxSeq (s : State) : Word := BitVec.ofNat 32 (s.lnk.lastAcc.toNat * 2 ^ 16 + s.lnk.reorder.length)

/-- LNK_POOL_RX; before link-up it reads zero. -/
def State.lnkPoolRx (s : State) : Word :=
  if s.lnk.gen = 0 then 0 else BitVec.ofNat 32 ((s.poolSize 5 - s.poolUsed 5) * 2 ^ 16 + s.poolSize 5)

/-! ## Vetex commands (R329) -/

/-- LINK_STATUS_GET. -/
def execLinkStatusGet (ref : CmdRef) (s : State) : Host.Outcome State Fault Refusal :=
  whenFunctional s fun s => withCmd ref 0x0101 s fun _ s =>
    let slvs := allSleeves.flatMap fun k => bvBytes (s.slvWord .up k) ++ bvBytes (s.slvWord .down k)
    complete ref 0 (bvBytes s.lnkStatus ++ bvBytes s.seamStatus ++ slvs) s

/-- WIDTH_SET: as GO, and the reply comes when RESULT is final. -/
def execWidthSet (ref : CmdRef) (s : State) : Host.Outcome State Fault Refusal :=
  whenFunctional s fun s => withCmd ref 0x0102 s fun p s =>
    let target := leAt p 0 1
    let force := (leAt p 1 1).testBit 0
    if s.seam.width.isSome then
      if target < 16 then addWait ref .widthQueued false (queueWidth (BitVec.ofNat 4 target) force s)
      else finish ref 0x0150 s
    else
      let r := s.widthRefusal target force
      -- a command that fails a check has no reply data (R316)
      if r != 0 then finish ref (widthStatus r) (beginWidth target force false s)
      else beginWidth target force false (addWait ref .width false s)

/-- LINK_RETRAIN: the reply comes when the retrain ends. -/
def execLinkRetrain (ref : CmdRef) (s : State) : Host.Outcome State Fault Refusal :=
  whenFunctional s fun s => withCmd ref 0x0103 s fun _ s =>
    if s.lnk.st == .up then startRetrain true (addWait ref .retrain false s) else finish ref 0x0258 s

/-- LINK_FLUSH: the reply comes when the flush is done. -/
def execLinkFlush (ref : CmdRef) (s : State) : Host.Outcome State Fault Refusal :=
  whenFunctional s fun s => withCmd ref 0x0104 s fun _ s =>
    if s.lnk.st == .grace then flush (addWait ref .flush false s) else finish ref 0x0258 s

/-- LINK_RESTART: the reply comes at LINK_UP. -/
def execLinkRestart (ref : CmdRef) (s : State) : Host.Outcome State Fault Refusal :=
  whenFunctional s fun s => withCmd ref 0x0105 s fun _ s =>
    if s.lnk.st == .flushed then negotiate true (addWait ref .linkUp false s) else finish ref 0x0258 s

/-- LINK_MODE_SET: REPLAY_MODE for the next link-up. -/
def execLinkModeSet (ref : CmdRef) (s : State) : Host.Outcome State Fault Refusal :=
  whenFunctional s fun s => withCmd ref 0x0106 s fun p s =>
    let m := leAt p 0 1
    if 1 < m then finish ref 0x0104 s else finish ref 0 (s.setFld F.LNK_CTRL.REPLAY_MODE m)

end Sys2Proof.Machine
end

