-- ==== Sys2Proof/Machine/Pcm.lean ====
section
/-!
DEFINITION. The meanings of the power manager's commands: the Sleeper lane's lock, narrowing and widening, sleep and wake,
brownouts, the platform clock, the platform reset, and the Vetex commands on power (R25, R47, R54, R57, R98, R99, R335, R363 to
R387).
-/
namespace Sys2Proof.Machine

/-- The power manager changed. -/
def modPcm (f : Pcm → Pcm) (s : State) : State := { s with pcm := f s.pcm }

/-! ## Policy (R335, R369, R370) -/

/-- The effective policy: 0 block policy, 1 hold awake, 2 Sleeper preferred (R335). (DEDUCED: log entry 56) -/
def State.effPolicy (s : State) : Nat :=
  let c := s.fld F.PCM_CTRL.POLICY
  if s.pins.hostReq = 1 || c = 1 then 1 else if s.pins.hostReq = 2 || c = 2 then 2 else 0

/-- Sleeves that count as reserved in the next 64 paths: by the banks in force, and by an armed standby from 64 paths before its
boundary (R25, R370). -/
def State.reservedSoon (s : State) : Byte :=
  let base := if s.ttb.st == .startArmed then s.ttb.g0 else s.ttb.cycleG
  let from0 : BitVec 16 := if s.ttb.st == .startArmed then BitVec.ofNat 16 (s.fld F.RWT_EPOCH.START) else s.ttb.epoch
  let at0 := match s.ttb.n1 with
    | some n => n.atG
    | none => base + (s.ttb.armEpoch - from0).toNat * s.cyclePaths
  let due := decide (at0 ≤ s.ttb.path + 64)
  let armed := if s.ttb.standby == .armed && due then ((s.bankAt (!s.ttb.active)).map (·.mask)).getD 0 else 0
  s.reserved64 ||| armed

/-- The block is awake and the manager may change its width: no change is in progress (R92). -/
def State.awakeFree (s : State) : Bool := s.pcm.st == .awake && s.lnk.st == .up && s.seam.width.isNone

/-- The manager takes the block to width 0 (R370). -/
def beginSleep (s : State) : State :=
  beginWidth 0 true true (modPcm (fun p => { p with st := .sleeping, sleepAt := s.aoCycles }) s)

/-- A sleep decided in this AO cycle, its request not yet sent, does not begin (R386). (DEDUCED: log entry 56) -/
def undoSleep (s : State) : State :=
  let isSleep (k : ExKind) : Bool := k == .width 0
  let unsent := s.seam.want.any isSleep || s.seam.mine.any fun x => isSleep x.kind && s.seam.ctlOut.contains (reqFlit x.kind x.xid)
  if s.pcm.st == .sleeping && s.pcm.sleepAt = s.aoCycles && unsent then
    let out := s.seam.mine.toList.map fun x => reqFlit x.kind x.xid
    let s := modSeam (fun m => { m with
      width := none
      want := m.want.filter fun k => !isSleep k
      mine := m.mine.filter fun x => !isSleep x.kind
      ctlOut := if m.mine.any fun x => isSleep x.kind then m.ctlOut.filter (fun p => !out.contains p) else m.ctlOut }) s
    nextEx (modPcm (fun p => { p with st := .awake }) (s.setFld F.SEAM_WIDTH_CTRL.RESULT 0))
  else s

/-- A decision of the policy for width 0, which the active box's firmware takes (R339): it begins only where R25, R98 and R385 let it.
(DEDUCED: log entries 49, 56) -/
def policySleep (s : State) : State :=
  if s.sbx.ready && s.awakeFree && !s.pcm.brown && s.slp.lock && s.reservedSoon &&& s.seam.usable == 0 && s.pins.hostReq != 1 then beginSleep s else s

/-! ## Wake (R372 to R374) -/

/-- A wake begins to the widest width (R373, R374): domains and sleeves are powered, WAKE_REQ goes, and the retained snapshot is
checked and loaded, or training begins. (DEDUCED: log entry 57) -/
def startWake (s : State) : State :=
  let t := s.permitted
  let b := s.window1576
  let (temp, s) := senseTemp s
  let slow := imageReject b temp s != 0
  let s := modPcm (fun p => { p with st := .waking, wakeHeld := false, wakeSlow := slow, wakeTarget := t, wakeAcked := false, wakeSlot := none }) s
  let s := sendSlp 0x30 [t.setWidth 32] (modSeam (fun m => { m with powered := t, switchFrom := s.mark }) s)
  if slow then raise C.PCM.WAKE_SLOW (detPcm s) (startTraining t (modTlr (fun x => { x with mode := .training, passes := [] }) s))
  else loadRecords b (modTlr (fun x => { x with mode := .idle, passes := [] }) s)

/-- A wake held can begin: the Sleeper lane is in lock (R99), and no brownout forbids it (R385). -/
def State.canWake (s : State) : Bool := s.slp.lock && (!s.pcm.brown || s.pcm.wakeCause == 1)

/-- A wake trigger (R371, R372): in Sleeper mode the wake begins or is held, during a sleep it is held for the end of the step.
Triggers that coincide start one wake, under the lowest code. (DEDUCED: log entry 56) -/
def wakeTrigger (cause : BitVec 4) (s : State) : State :=
  let low (p : Pcm) : BitVec 4 := if p.wakeHeld && p.wakeCause < cause then p.wakeCause else cause
  let hold (p : Pcm) : Pcm := { p with wakeHeld := true, wakeCause := low p, wakeFrom := if p.wakeHeld then p.wakeFrom else s.aoCycles }
  match s.pcm.st with
  | .held | .retained =>
    let s := modPcm hold s
    if s.canWake then startWake s else s
  | .sleeping => modPcm hold s
  | .waking =>
    if s.pcm.wakeFrom = s.aoCycles && cause < s.pcm.wakeCause then modPcm (fun p => { p with wakeCause := cause }) s else s
  | _ => s

/-- The narrowest width whose mask covers some sleeves (R91). (DEDUCED: log entry 56) -/
def State.widthOver (s : State) (m : Byte) : Nat := (([1, 2, 4, 6] : List Nat).find? fun n => m &&& ~~~(s.maskFor n) == 0).getD 8

/-- A reservation that enters the 64-path window wakes the sleeves it needs (R25, R370, R372). (DEDUCED: log entry 56) -/
def reserveWake (s : State) : State :=
  let need := s.reservedSoon &&& s.permitted &&& ~~~s.seam.usable
  if need = 0 then s
  else if s.awakeFree then beginWidth (s.widthOver (need ||| s.seam.usable)) true true s
  else wakeTrigger 5 s

/-- PATH_BOUNDARY (R213, R25). -/
def execPathBoundary (s : State) : Host.Outcome State Fault Refusal := whenPlat s fun s => reserveWake (pathBoundary s)

/-- HOST_REQUEST_WAKE (R47): the request waits, and its wake begins. (DEDUCED: log entry 66) -/
def execHostRequestWake (port : PortId) (s : State) : Host.Outcome State Fault Refusal :=
  whenFunctional s fun s =>
    if s.hasPort port then wakeTrigger 1 (s.modPort port fun q => { q with waiting := true }) else s

/-- PCM_HOST_REQ_CHANGE (R57): the pins take their new value, and a change to 0b01 wakes the block. -/
def execPcmHostReqChange (v : BitVec 2) (s : State) : Host.Outcome State Fault Refusal :=
  let t := { s with pins := { s.pins with hostReq := v } }
  .next (if t.functional then settle (if v = 1 && s.pins.hostReq != 1 then wakeTrigger 2 t else t) else settle t)

/-- STATION_WAKE (R372). -/
def execStationWake (s : State) : Host.Outcome State Fault Refusal := whenMsg s (wakeTrigger 4)

/-- WAKE_AT (R372). (DEDUCED: log entry 57) -/
def execWakeAt (s : State) : Host.Outcome State Fault Refusal :=
  whenFunctional s fun s =>
    if s.flag F.PCM_CTRL.WAKE_AT_EN then wakeTrigger 6 (s.reach (s.pair R.PCM_WAKE_AT_LO).toNat) else s

/-- WAKE_ACK (R373). -/
def execWakeAck (s : State) : Host.Outcome State Fault Refusal :=
  whenMsg s fun s => if s.pcm.st == .waking then modPcm (fun p => { p with wakeAcked := true }) s else s

/-- WAKE_READY (R96, R373): the slots, upstream and downstream, at which the first sleeve is admitted. (DEDUCED: log entry 57) -/
def execWakeReady (msg : BitVec 64) (s : State) : Host.Outcome State Fault Refusal :=
  whenMsg s fun s =>
    if s.pcm.st == .waking then modPcm (fun p => { p with wakeSlot := some (bits msg 0 32, bits msg 32 32) }) s else s

/-- The sleeves that a wake admits: those of its target still permitted and, where it trained, fit. -/
def State.wakeMask (s : State) : Byte :=
  let t := s.pcm.wakeTarget &&& s.permitted
  if s.pcm.wakeSlow then t &&& ~~~(s.lostSleeves t []) else t

/-- WAKE_DONE (R96, R373, R374): the lowest sleeve is admitted at the slots named and the link runs. The others are added under R94, and
then, or with no other at once, the wake is complete. It waits for the station's messages, for a training and for a correct platform clock (R386).
(DEDUCED: log entry 57) -/
def execWakeDone (s : State) : Host.Outcome State Fault Refusal :=
  whenFunctional s fun s =>
    match s.pcm.wakeSlot with
    | none => s
    | some (u, d) =>
      let m := s.wakeMask
      if s.pcm.st != .waking || !s.pcm.wakeAcked || !s.pins.platClkOk || m = 0 || (s.pcm.wakeSlow && s.tlr.mode == .training) then s
      else
        let first := lowest m 1
        let s := modSeam (fun x => { x with usable := first, powered := m, upSlot := u, dnSlot := d, counting := true }) s
        let s := modPcm (fun p => { p with wakeSlot := none, joining := m != first }) s
        let s := modLnk (fun l => { l with ctlDue := true }) (modTlr (fun t => { t with mode := .service }) s)
        if m = first then finishWake s else startWidth m true s

/-! ## Sleep by command (R335, R370, R387) -/

/-- The refusal of a sleep that a command asks for; 0 where there is none. (DEDUCED: log entry 56) -/
def State.sleepRefusal (s : State) : BitVec 16 :=
  if s.pins.hostReq = 1 then 0x0270
  else if !s.slp.lock then 0x0271
  else if s.reservedSoon &&& s.seam.usable != 0 then 0x0272 else 0

/-- A sleep asked for begins where it can; a brownout, a wake or a width change in progress comes first (R385).
(DEDUCED: log entry 56) -/
def trySleep (s : State) : State :=
  if s.pcm.sleepCmd && s.awakeFree && !s.pcm.brown then
    if s.sleepRefusal != 0 then sleepEnds s.sleepRefusal (raise C.PCM.SLEEP_REFUSED (detPcm s) s) else beginSleep s
  else s

/-- A sleep by PCM_SLEEP or PCM_CTRL.SLEEP: refused, already in effect, or begun. (DEDUCED: log entry 56) -/
def askSleep (s : State) : State :=
  if s.asleep then sleepEnds 0 s
  else if s.sleepRefusal != 0 then sleepEnds s.sleepRefusal (raise C.PCM.SLEEP_REFUSED (detPcm s) s)
  else trySleep (modPcm (fun p => { p with sleepCmd := true }) (s.setFld F.PCM_CTRL.SLEEP 1))

/-- The widest width asked for by PCM_WAKE or PCM_CTRL.WAKE. (DEDUCED: log entry 56) -/
def askWake (s : State) : State :=
  let s := s.setFld F.PCM_CTRL.WAKE 1
  if s.pcm.st == .awake then
    if s.seam.usable = s.permitted then wakeWidened 0 s
    else if s.awakeFree then beginWidth 8 true true s else s
  else wakeTrigger 3 s

/-- What the manager does next: a wake held, a widening for a reservation that came while a sleeve went to sleep (R25), a sleep put off, or
a widening put off. (DEDUCED: log entry 56) -/
def pcmNext (s : State) : State :=
  if s.asleep then (if s.pcm.wakeHeld && s.canWake then startWake s else s)
  else if s.pcm.st == .awake then
    let s := reserveWake (modPcm (fun p => { p with wakeHeld := false }) s)
    if s.pcm.sleepCmd then trySleep s
    else if (s.flag F.PCM_CTRL.WAKE || s.waited .wake) && s.seam.width.isNone then askWake s else s
  else s

/-- SLEEP_STEP_DONE (R371, R386): a step of a sleep has ended; a held wake begins, or the next step does. -/
def execSleepStepDone (s : State) : Host.Outcome State Fault Refusal := whenFunctional s pcmNext

/-- A write of PCM_CTRL (R387). -/
def pcmCtrlWrite (data : Word) (s : State) : State :=
  let s := ((s.setFld F.PCM_CTRL.WAKE_AT_EN (fld data 9 1)).setFld F.PCM_CTRL.RETAIN_EN (fld data 8 1)).setFld F.PCM_CTRL.POLICY (fld data 0 2)
  let s := if bit data 5 then askSleep s else s
  if bit data 4 then askWake s else s

/-- PCM_CTRL_SLEEP. -/
def execPcmCtrlSleep (data : Word) (s : State) : Host.Outcome State Fault Refusal :=
  whenFunctional s fun s => portWrite R.PCM_CTRL (bit data 5) (pcmCtrlWrite data) s

/-- PCM_CTRL_WAKE. -/
def execPcmCtrlWake (data : Word) (s : State) : Host.Outcome State Fault Refusal :=
  whenFunctional s fun s => portWrite R.PCM_CTRL (bit data 4) (pcmCtrlWrite data) s

/-! ## The width policy (R369) -/

/-- MIN_WIDTH: 1, 2, 4, 6 or 8, other values taken as 1. -/
def State.minWidth (s : State) : Nat :=
  let n := s.fld F.PCM_POLICY_CFG.MIN_WIDTH
  if n = 2 || n = 4 || n = 6 || n = 8 then n else 1

/-- The next narrower state of a number of sleeves. -/
def narrower (n : Nat) : Option Nat := ([6, 4, 2, 1] : List Nat).find? (· < n)

/-- Use in both directions stayed at or below LOW_PCT of the capacity. -/
def State.useLow (s : State) : Bool :=
  let p := s.fld F.PCM_POLICY_CFG.LOW_PCT
  100 * s.pcm.useUp ≤ p * s.pcm.capUp && 100 * s.pcm.useDn ≤ p * s.pcm.capDn

/-- A narrowing by one state, where R25 and R385 let it. The firmware of the active box chooses it (R339). (DEDUCED: log entry 49) -/
def policyNarrow (s : State) : State :=
  match narrower (popcount8 s.seam.usable) with
  | none => s
  | some n =>
    if s.sbx.ready && s.awakeFree && !s.pcm.brown && s.effPolicy = 0 && s.useLow && s.minWidth ≤ n
        && s.reservedSoon &&& (s.seam.usable &&& ~~~(s.maskFor n)) == 0 then beginWidth n true true s else s

/-- POLICY_WINDOW_END (R369, R370): the window is judged, and the next begins. -/
def execPolicyWindowEnd (s : State) : Host.Outcome State Fault Refusal :=
  whenPlat s fun s =>
    let s := s.reach (s.pcm.windowAt + 1000 * atLeastOne (s.fld F.PCM_POLICY_CFG.WINDOW_US))
    modPcm (fun p => { p with useUp := 0, capUp := 0, useDn := 0, capDn := 0, windowAt := s.now }) (policyNarrow s)

/-- Use in a direction was above HIGH_PCT of the unreserved capacity in the last 1 µs, the last 500 slots (R72, R369).
(DEDUCED: log entry 56) -/
def State.useAbove (s : State) : Bool :=
  let p := s.fld F.PCM_POLICY_CFG.HIGH_PCT
  let total (f : SlotUse → Nat) : Nat := (s.pcm.recent.map f).sum
  s.pcm.recent.length = 500 && (p * total (·.capUp) < 100 * total (·.up) || p * total (·.capDn) < 100 * total (·.dn))

/-- Since when some track's send queue has held flits of which none has left, the earliest of them (R369). (DEDUCED: log entry 56) -/
def State.heldSince (s : State) : Option Mark :=
  ((s.lnk.outq.toList.zip s.lnk.heldFrom.toList).filter fun x => !x.1.isEmpty).foldl
    (fun m x =>
      match m with
      | none => some x.2
      | some y => some (if x.2.ticks < y.ticks then x.2 else y)) none

/-- The load rule of R369, at the moment at which it holds: use above HIGH_PCT in 1 µs, or a flit held for 1 µs.
(DEDUCED: log entry 56) -/
def State.loadHigh (s : State) : Option State :=
  if s.useAbove then some s else s.heldSince.map fun m => s.lapse m 1000

/-- USE_HIGH (R369, R372): the manager widens to the widest width, or wakes, where the active box's firmware runs (R339).
(DEDUCED: log entries 49, 56) -/
def execUseHigh (s : State) : Host.Outcome State Fault Refusal :=
  whenPlat s fun s =>
    if s.effPolicy = 1 || !s.sbx.ready then s
    else
      match s.loadHigh with
      | none => s
      | some s =>
        if s.awakeFree then (if s.seam.usable = s.permitted then s else beginWidth 8 true true s)
        else wakeTrigger 7 s

/-- SLEEPER_IDLE_TIMEOUT (R369, R370): SLEEPER_IDLE_US without a dynamic flit. -/
def execSleeperIdleTimeout (s : State) : Host.Outcome State Fault Refusal :=
  whenPlat s fun s =>
    if s.effPolicy = 0 && s.pcm.st == .awake then
      policySleep (s.reach (s.pcm.lastDyn + 1000 * atLeastOne (s.fld F.PCM_IDLE_CFG.SLEEPER_IDLE_US)))
    else s

/-- SLEEPER_PREFERRED_IDLE (R57, R369, R370): no dynamic flit queued, and the siding empty. -/
def execSleeperPreferredIdle (s : State) : Host.Outcome State Fault Refusal :=
  whenPlat s fun s =>
    if s.effPolicy = 2 && s.lnk.siding.isEmpty && s.lnk.outq.toList.all (·.isEmpty) then policySleep s else s

/-! ## Retention (R364, R366) -/

/-- What a register of the PLAT domain holds after that domain has lost its power or its logic was reset: TRK retains its RW fields, and
every other field returns to its reset value (R366, R382, R452). (DEDUCED: log entry 57) -/
def State.keptBits (s : State) (a : Nat) : Word :=
  let rw := ((regRow a).map (·.rw)).getD 0
  (s.reg a &&& rw) ||| (regReset s.par a &&& ~~~rw)

/-- One stored register, with what TRK retains of it where it lies in the PLAT domain. -/
def keepReg (s : State) (c : Nat × Word) : State := if regDom c.1 == .plat then s.setReg c.1 (s.keptBits c.1) else s

/-- The registers of the PLAT domain come back with what TRK retains (R366, R382, R452): those that show state which R366 retains show it
still. (DEDUCED: log entry 57) -/
def losePlat (s : State) : State :=
  let s := s.regs.foldl keepReg s
  let fresh (l : TlrLane) : TlrLane := { l with qual := 0, passes := 0, commits := 0, starved := 0, time := 0 }
  let s := modSeam (fun m => { m with skew := Vector.replicate 8 0, test := { m.test with compared := Vector.replicate 9 0 } }) s
  let s := modTlr (fun t => { t with rx := t.rx.map fresh, tx := t.tx.map fresh, starvedMask := 0 }) s
  { s with
    ttb := { s.ttb with dlLast := 0 }
    jct := { s.jct with last := 0, elems := 0 }
    msh := { s.msh with workLoad := 0 } }

/-- The conditions of R364. -/
def State.canRetain (s : State) : Bool :=
  s.flag F.PCM_CTRL.RETAIN_EN && (s.ttb.st == .idle || s.ttb.st == .stopped) && s.ttb.standby != .armed
    && s.jct.groups.isEmpty && s.asp.dests.isEmpty && s.asp.mems.isEmpty
    && s.mnf.entries.isEmpty && s.mnf.waiting.isEmpty && s.mnf.fwd.isEmpty && s.ports.toList.all (·.reqs.isEmpty)
    && s.lnk.siding.isEmpty && s.lnk.pool.isEmpty && s.lnk.reorder.isEmpty
    && s.vtx.slots.all (·.st != .running) && s.vtx.ctxs.all (!·.running) && !s.vtx.mbxGo
    && (s.vtx.prod == s.vtx.cons || !s.flag F.SBX_VTX_CTRL.RING_EN)
    && s.msh.release.isNone && s.msh.mig.st != .copying && s.msh.mig.st != .cutover && s.msh.mig.st != .final
    && !s.pcm.brown && s.sbx.a.st != .resync && s.sbx.b.st != .resync

/-- RETAIN_ENTRY (R364, R366, R386): a rebuild of the snapshot that is due comes first, and a wake held prevails.
(DEDUCED: log entry 57) -/
def execRetainEntry (s : State) : Host.Outcome State Fault Refusal :=
  whenFunctional s fun s =>
    if s.pcm.st == .held && s.canRetain && s.tlr.rebuild.isNone && !s.pcm.wakeHeld then
      losePlat (modPcm (fun p => { p with st := .retained }) s)
    else s

/-! ## The Sleeper lane (R98, R99) -/

/-- SLEEPER_LOCK (R98, R99, R412): the receiver locks; AO_UP is passed; a held wake begins, and so does the retrain of a hold
that began out of lock. (DEDUCED: log entry 25) -/
def execSleeperLock (s : State) : Host.Outcome State Fault Refusal :=
  whenFunctional s fun s =>
    if s.slp.lock then s
    else
      let s := { s with slp := { s.slp with lock := true, heads := [] } }
      let s := if s.boot.step = 1 && s.boot.reached = 0 then { s with boot := { s.boot with reached := 1 } } else s
      let s := if s.lnk.st == .grace && s.lnk.retraining.isNone && s.lnk.downCause = 5 then beginRetrain true s else s
      if s.pcm.wakeHeld then pcmNext s else s

/-- SLEEPER_LOSS (R98, R103): the invalid headers that were still missing for it have come, each counted in SYNC_ERR, and the receiver
loses lock. (DEDUCED: log entry 16) -/
def execSleeperLoss (s : State) : Host.Outcome State Fault Refusal :=
  whenFunctional s fun s => if s.slp.lock then takeHeads (List.replicate (toSlip s.slp.heads) true) s else s

/-- SLEEPER_LOSS_TIMEOUT (R99, R159): 10 ms out of lock at width 0. The link layer must run for the hold, so the block leaves
retention. (DEDUCED: log entry 57) -/
def execSleeperLossTimeout (s : State) : Host.Outcome State Fault Refusal :=
  whenFunctional s fun s =>
    if s.slp.lock || !s.asleep || s.lnk.st != .up then s
    else declareDown 0x05 true (modPcm (fun p => { p with st := .held }) (s.reach (s.slp.lostAt + 10000000)))

/-! ## Platform clock, power faults, brownouts (R54, R384 to R387) -/

/-- A platform-clock fault (R54, R377, R416): CLK_FAULT; start-up holds, a timetable stops at the next path boundary.
(DEDUCED: log entry 58) -/
def clkFault (s : State) : State :=
  let s := raise C.PCM.CLK_FAULT (detPcm s) s
  if s.lnk.st != .notUp then stopAtPath 6 s
  else if s.boot.step != 0 && s.boot.step != 0xF then holdStart 8 0x0B s else s

/-- PLAT_CLOCK_CHECK (R54): the platform cycles of the last 1,024 AO cycles. The clock may stop while plat_rst_n_i is 0 (R376).
(DEDUCED: log entry 58) -/
def execPlatClockCheck (count : BitVec 16) (s : State) : Host.Outcome State Fault Refusal :=
  whenFunctional s fun s =>
    let s := s.reach (s.now + 10 * (1024 - s.aoCycles % 1024) - s.rwt.sub - s.rwt.hold)
    let ok := count.toNat == 1024 * s.par.ratio || !s.pins.platRstN
    let s := modPcm (fun p => { p with platCount := count }) { s with pins := { s.pins with platClkOk := ok } }
    if ok then s else clkFault s

/-- POWER_GOOD_TIMEOUT (R368, R387): a switched domain, 1 PLAT to 5 CTL, or a sleeve of SEAM, has no power-good 1 µs after the last of its
8 switch stages, which are 50 ns apart. (DEDUCED: log entry 8) -/
def execPowerGoodTimeout (domain : BitVec 3) (s : State) : Host.Outcome State Fault Refusal :=
  whenFunctional s fun s =>
    if 1 ≤ domain.toNat && domain.toNat ≤ 5 then
      let s := s.lapse s.seam.switchFrom 1350
      raise C.PCM.DOMAIN_FAULT (detPcm s) (modPcm (fun p => { p with domFault := p.domFault ||| (1#8 <<< domain.toNat) }) s)
    else s

/-- The snapshot under a brownout (R130, R385): in retained Sleeper mode it is complete already. -/
def brownFreeze (s : State) : State :=
  if s.pcm.st == .retained then
    let first := !s.tlr.frozen
    let s := modTlr (fun t => { t with frozenBrown := true, frozen := true }) s
    if first then raise C.TLR.SNAP_FROZEN 0 s else s
  else freeze true s

/-- BROWNOUT_WARN (R59, R384 to R386). -/
def execBrownoutWarn (msg : BitVec 96) (s : State) : Host.Outcome State Fault Refusal :=
  whenMsg s fun s =>
    let s := if s.pcm.brown then s else brownFreeze s
    let s := undoSleep s
    let s := modPcm (fun p => { p with brown := true, holdup := bits msg 0 16, brownTime := bits msg 16 64 }) s
    raise C.PCM.BROWNOUT (detPcm s) s

/-- BROWNOUT_END (R385): the freeze is released, and what it put off begins. -/
def execBrownoutEnd (msg : BitVec 64) (s : State) : Host.Outcome State Fault Refusal :=
  whenMsg s fun s =>
    let _ := msg
    let s := modPcm (fun p => { p with brown := false }) (unfreeze true s)
    pcmNext (raise C.PCM.BROWNOUT_END (detPcm s) s)

/-! ## The platform reset (R383) -/

/-- What a platform reset ends of the seam and the link. (DEDUCED: log entry 59) -/
def dropSeam (s : State) : State :=
  let s := endWidth 5 (retrainLost (modPcm (fun p => { p with joining := false }) s))
  let s := modSeam (fun m => { m with
    usable := 0, powered := m.powered &&& s.testMask, counting := false, mine := none, want := [], answered := none, ctlOut := [],
    subst := [], retireAt := [] }) s
  { modTlr (fun t => { t with mode := .idle, passes := [] }) s with lnk := Lnk.reset }

/-- What a platform reset ends of the ports, the manifest, the junction and the analog sum path, a read of the ring among it; commands that
wait for them end. (DEDUCED: log entries 33, 59) -/
def dropPlat (s : State) : State :=
  let s := s.jct.groups.foldl (fun s g => wake (.group g.num) (groupStatus 5) (groupReply { g with result := 5 }) s) s
  let s := (s.asp.dests.map (·.num) ++ s.asp.mems.map (·.num)).foldl (fun s n => wake (.aspGroup n) 0x0230 [] s) s
  let s := if (s.ttb.load.map (·.bank.isNone)).getD false then endLoad 0x35 none s else s
  let s := losePlat (dropRing (loseMig s))
  { s with
    ports := Vector.replicate 8 Port.reset
    mnf := { Mnf.reset with nextTag := s.mnf.nextTag, sweeps := s.mnf.sweeps }
    jct := { s.jct with groups := [], intake := [], reads := [], readies := [] }
    asp := Asp.reset
    msh := { s.msh with rings := s.msh.rings.map fun r => r.map fun r => { r with taken := 0 } } }

/-- A platform reset in service (R383, R422): LINK_DOWN without a hold, width 0, the timetable stopped, one log entry.
(DEDUCED: log entry 59) -/
def platDown (s : State) : State :=
  let declared := s.lnk.st == .up || s.lnk.st == .retrain
  let runs := s.ttb.st == .running || s.ttb.st == .startArmed
  let s := if declared then sendSlp 0x2A [0x04] s else s
  let s := if runs then stopNow { atG := 0, reason := 8, die := 0, fence := 0 } s.now s else s
  let s := dropPlat (dropSeam s)
  let others := (if declared then [C.LNK.LINK_DOWN] else []) ++ (if runs then [C.TTB.STOPPED] else [])
  let s := if others = [] then raiseAs C.PCM.PLAT_RESET 0x0B 0x03 (detPcm s) s
    else raiseMulti C.PCM.PLAT_RESET others 0x0B 0x03 (detPcm s) s
  let s := wake .wake 0x0251 s.usableByte (s.setFld F.PCM_CTRL.WAKE 0)
  sleepEnds 0x0253 (modPcm (fun p => { p with st := .start, wakeHeld := false, wakeSlot := none }) s)

/-- PLAT_RESET (R382, R383): plat_rst_n_i falls. (DEDUCED: log entry 59) -/
def execPlatReset (s : State) : Host.Outcome State Fault Refusal :=
  let t := { s with pins := { s.pins with platRstN := false } }
  .next (if t.functional && s.pins.platRstN then
    let t := t.setFld F.PCM_RST_CAUSE.PLAT 1
    settle (if t.lnk.st != .notUp then platDown t else dropPlat t)
  else settle t)

/-- PLAT_RESET_RELEASE (R309, R383): start-up runs again from negotiation, where it had come that far, and the ring's command is read again.
(DEDUCED: log entry 59) -/
def execPlatResetRelease (s : State) : Host.Outcome State Fault Refusal :=
  let t := { s with pins := { s.pins with platRstN := true } }
  .next (if t.functional && !s.pins.platRstN then
    let t := pumpRing t
    settle (if 6 ≤ t.boot.step.toNat && t.boot.step.toNat ≤ 9 then negotiate true t else t)
  else settle t)

/-! ## Register views (R387) -/

/-- PCM_STATUS. -/
def State.pcmStatus (s : State) : Word :=
  BitVec.ofNat 32 (s.pcmStateO.toNat * 2 ^ 29 + s.depth * 2 ^ 26 + s.effPolicy * 2 ^ 24 + s.seam.powered.toNat * 2 ^ 16 + s.domains)

/-- PCM_WAKE_INFO. -/
def State.pcmWakeInfo (s : State) : Word :=
  BitVec.ofNat 32 (s.pcm.wakeCause.toNat * 2 ^ 28 + b2n s.pcm.wakeSlow * 2 ^ 27 + s.pcm.duration.toNat)

/-- PCM_CLK. (DEDUCED: log entry 58) -/
def State.pcmClk (s : State) : Word := BitVec.ofNat 32 (s.par.ratio * 2 ^ 24 + s.pcm.platCount.toNat)

/-- PCM_BROWN. -/
def State.pcmBrown (s : State) : Word := BitVec.ofNat 32 (b2n s.pcm.brown * 2 ^ 31 + s.pcm.holdup.toNat)

/-! ## Vetex commands (R335) -/

/-- PCM_STATE_GET. -/
def execPcmStateGet (ref : CmdRef) (s : State) : Host.Outcome State Fault Refusal :=
  whenFunctional s fun s => withCmd ref 0x0701 s fun _ s =>
    complete ref 0 ([s.pcmStateO.setWidth 8, s.seam.powered, s.seam.usable, BitVec.ofNat 8 s.effPolicy] ++ List.replicate 4 0) s

/-- PCM_POLICY_SET. -/
def execPcmPolicySet (ref : CmdRef) (s : State) : Host.Outcome State Fault Refusal :=
  whenFunctional s fun s => withCmd ref 0x0702 s fun p s =>
    let v := leAt p 0 1
    if 2 < v then finish ref 0x0104 s else finish ref 0 (s.setFld F.PCM_CTRL.POLICY v)

/-- PCM_WAKE: the reply comes at the widest width. -/
def execPcmWake (ref : CmdRef) (s : State) : Host.Outcome State Fault Refusal :=
  whenFunctional s fun s => withCmd ref 0x0703 s fun _ s => askWake (addWait ref .wake false s)

/-- PCM_SLEEP: the reply comes when width 0 takes effect, or at the refusal. -/
def execPcmSleep (ref : CmdRef) (s : State) : Host.Outcome State Fault Refusal :=
  whenFunctional s fun s => withCmd ref 0x0704 s fun _ s => askSleep (addWait ref .sleep false s)

end Sys2Proof.Machine
end

