-- ==== Sys2Proof/Machine/Pins.lean ====
section
/-!
DEFINITION. The resets and the test access: ao_rst_n_i and the station's AO clock, reg_rst_n_i, the IEEE 1149.1 TAP and the IEEE
1500 wrapper (R18, R52, R62, R63, R320, R381, R382, R412, R437).
-/
namespace Sys2Proof.Machine

/-- The block in AO reset with ao_rst_n_i and the AO clock at the levels given (R382): nothing is kept but the parameters it was
built with, what stands at its pins, what it has sent, the commands that wait and the model's count of draws.
(DESIGN CHOICE: log entry 2; DEDUCED: log entry 60) -/
def aoReset (rstN clk : Bool) (s : State) : State :=
  let p : Pins := { aoRstN := rstN, aoClk := clk, platRstN := s.pins.platRstN, hostReq := s.pins.hostReq, platClkOk := true }
  settle { State.cold s.par p with pending := s.pending, out := s.out, free := s.free }

/-- The block leaves AO reset (R412): AO_UP begins, and the Sleeper transmitter runs. (DEDUCED: log entry 60) -/
def aoStart (s : State) : State :=
  settle { s with boot := { s.boot with step := 1 }, slp := { s.slp with txActive := true } }

/-- COLD_RESET (R320, R382): ao_rst_n_i falls. (DEDUCED: log entry 60) -/
def execColdReset (s : State) : Host.Outcome State Fault Refusal := .next (aoReset false s.pins.aoClk s)

/-- COLD_RESET_RELEASE (R412): ao_rst_n_i rises; with the AO clock absent the block stays in reset (R52). (DEDUCED: log entry 60) -/
def execColdResetRelease (s : State) : Host.Outcome State Fault Refusal :=
  .next (if s.pins.aoRstN then s
    else
      let t := settle { s with pins := { s.pins with aoRstN := true } }
      if s.pins.aoClk then aoStart t else t)

/-- AO_CLOCK_LOSS (R52, R382): the block is held in AO reset. (DEDUCED: log entry 60) -/
def execAoClockLoss (s : State) : Host.Outcome State Fault Refusal :=
  .next (if s.pins.aoClk then aoReset s.pins.aoRstN false s else s)

/-- AO_CLOCK_RETURN (R52, R382, R387): a cold start, which followed a loss of the AO clock; with ao_rst_n_i at 0 the block stays
in reset. (DEDUCED: log entry 60) -/
def execAoClockReturn (s : State) : Host.Outcome State Fault Refusal :=
  .next (if s.pins.aoClk then s
    else
      let t := settle { s with pins := { s.pins with aoClk := true } }
      if s.pins.aoRstN then aoStart ((t.setFld F.PCM_RST_CAUSE.COLD 0).setFld F.PCM_RST_CAUSE.AO_CLK_LOSS 1) else t)

/-- REG_RESET (R381, R382, R387, R437): the register port alone, its answer withdrawn and its holders and latches empty.
(DESIGN CHOICE: log entry 7) -/
def execRegReset (s : State) : Host.Outcome State Fault Refusal :=
  whenUp s fun s =>
    { s.setFld F.PCM_RST_CAUSE.REG 1 with
      latches := s.latches.filter (·.1 != .port)
      holders := s.holders.filter (·.1 != .port)
      outs := { s.outs with regAck := false, regRdata := 0, regErr := false } }

/-- TAP_RESET (R382): the test-logic reset state, in which IDCODE is in force. (PRESUMED: log entry 9) -/
def execTapReset (s : State) : Host.Outcome State Fault Refusal := .next { s with tap := .idcode }

/-! ## Test access (R18, R62, R63) -/

/-- A scan: what a register of cells shifts out for the bits shifted in, first bit first, and what it then holds.
(PRESUMED: log entry 9) -/
def scan (cells tdi : List Bool) : List Bool × List Bool := ((cells ++ tdi).take tdi.length, (cells ++ tdi).drop tdi.length)

/-- The bits of a register, least significant first. -/
def bitList {w : Nat} (x : BitVec w) : List Bool := (List.range w).map x.getLsbD

/-- A scan of the wrapper's data register: WBY under WS_BYPASS, else WBR, which captures the boundary's cells (R18, R62).
(PRESUMED: log entry 9) -/
def wrapperScan (wsi : List Bool) (s : State) : State :=
  let a := s.access
  if a.wir == .wsBypass then
    let (out, next) := scan [a.wby] wsi
    { s with access := { a with wby := next.headD false, tdo := out } }
  else
    let (out, next) := scan (Config.boundaryCells s.free) wsi
    { s.draw with access := { a with wbr := next, tdo := out } }

/-- A scan of the data register that the TAP's instruction selects: the bypass bit, which captures 0; GBL_IDCODE; the boundary, of
which SAMPLE changes nothing; or the wrapper's register by its serial port (R18, R62). (PRESUMED: log entry 9) -/
def tapScan (tdi : List Bool) (s : State) : State :=
  let put (b : List Bool) (out : List Bool) (s : State) : State := { s with access := { s.access with boundary := b, tdo := out } }
  let cells := Config.boundaryCells s.free
  match s.tap with
  | .bypass => put s.access.boundary (scan [false] tdi).1 s
  | .idcode => put s.access.boundary (scan (bitList (regReset s.par R.GBL_IDCODE)) tdi).1 s
  | .sample => put s.access.boundary (scan cells tdi).1 s.draw
  | .preload | .extest => put (scan cells tdi).2 (scan cells tdi).1 s.draw
  | .wspSelect => wrapperScan tdi s

/-- TAP_INSTRUCTION (R18, R62): an instruction is loaded, and a scan of the data register that it selects follows. With the wrapper's
port on pins, WSP_SELECT acts as BYPASS. (PRESUMED: log entry 9) -/
def execTapInstruction (load : TapLoad) (s : State) : Host.Outcome State Fault Refusal :=
  .next (tapScan load.tdi { s with tap := if load.ir == .wspSelect && s.par.wsp == .pins then .bypass else load.ir })

/-- The wrapper's serial port is reached that way: by its own pins, or through the TAP while WSP_SELECT is in force, as
QLA_WSP_SOURCE has it (R62, R69). (DEDUCED: log entry 10) -/
def State.wspVia (s : State) (via : WspSource) : Bool :=
  via == s.par.wsp && (via == .pins || s.tap == .wspSelect)

/-- WRAPPER_INSTRUCTION (R18, R62, R63): an instruction is loaded into WIR by the wrapper's serial port, and a scan of the data register
that it selects follows. Any but WS_BYPASS takes the block out of functional operation until a cold reset. (DEDUCED: log entry 10) -/
def execWrapperInstruction (load : WrapLoad) (s : State) : Host.Outcome State Fault Refusal :=
  whenUp s fun s =>
    if s.wspVia load.via then
      wrapperScan load.wsi { s with access := { s.access with wir := load.wir }, wrapped := s.wrapped || load.wir != .wsBypass }
    else s

end Sys2Proof.Machine
end

