-- ==== Sys2Proof/Machine/Ports.lean ====
section
/-!
DEFINITION. The meanings of the platform ports' commands: host requests and responses, the reply window, the reply-sink
obligation and block requests (R34 to R46, R169 to R178).
-/
namespace Sys2Proof.Machine

/-- The bytes of a packet's beats. -/
def beatBytes (bs : List (BitVec 512)) : List Byte := bs.flatMap fun b => bvBytes b

/-- The beats of a packet that carries data: ⌈((ADDR mod 64) + length) / 64⌉ (R36). -/
def beatCount (addr len : Nat) : Nat := (addr % 64 + len + 63) / 64

/-- The bytes of a range within the beats that carry it (R36). -/
def beatData (addr len : Nat) (bs : List (BitVec 512)) : List Byte := slice (beatBytes bs) (addr % 64) len

/-- A host request as its command decodes (R37). -/
structure HostCmd where
  addr : BitVec 64
  dest : BitVec 16
  len : Nat
  htag : BitVec 16
  op : Byte
deriving DecidableEq, Repr

/-- The command of a request packet (R37). -/
def HostCmd.ofBits (c : BitVec 128) : HostCmd :=
  { addr := bits c 64 64, dest := bits c 48 16, len := fld c 24 24 + 1, htag := bits c 8 16, op := bits c 0 8 }

/-- A request packet is refused under R38. -/
def HostCmd.malformed (c : HostCmd) (beats : Nat) : Bool :=
  !(c.op == 1 || c.op == 2 || c.op == 3 || c.op == 4) || (c.op == 3 && c.dest != 0xFFFF)
    || (c.op == 4 && (c.addr != 0 || bits c.dest 12 4 != 0))
    || beats != (if opReads c.op then 1 else beatCount c.addr.toNat c.len)

/-- The segments of a read: split at every multiple of the segment size (R170); `n` bounds their number. -/
def segments (seg : Nat) : Nat → Nat → Nat → List (Nat × Nat)
  | 0, _, _ => []
  | n + 1, addr, len =>
    if len = 0 then [] else
      let k := min len (seg - addr % seg)
      (addr, k) :: segments seg n (addr + k) (len - k)

/-- The segment size of MNF_CTRL.SEG (R195). -/
def segSize (code : Nat) : Nat :=
  if code = 0 then 256 else if code = 1 then 512 else if code = 3 then 2048 else if code = 4 then 4096 else 1024

/-- A request enters the port request table, and its transactions the port's issue queue (R169, R170). -/
def enterRequest (p : PortId) (c : HostCmd) (data : List Byte) (s : State) : State :=
  let serial := (s.port p).nextSerial
  let size := segSize (s.fld F.MNF_CTRL.SEG)
  let parts := if opReads c.op then segments size (c.len / size + 2) c.addr.toNat c.len else [(c.addr.toNat, c.len)]
  let segs := parts.map fun x =>
    ({ addr := BitVec.ofNat 64 x.1, len := x.2, st := .waiting, data := [], poison := false, admitted := false,
       withdrawn := false } : Seg)
  let r : HostReq := { serial := serial, htag := c.htag, op := c.op, addr := c.addr, len := c.len, dest := c.dest, segs := segs,
                       avoid := none, opened := false, sent := 0, finished := false }
  let txns := parts.mapIdx fun i x =>
    ({ owner := .host p serial i, op := c.op, dest := none, len := x.2, data := if opReads c.op then [] else data, attempt := 0,
       tag := none, admitted := false, avoid := none } : Txn)
  s.modPort p fun q => { q with reqs := q.reqs ++ [r], nextSerial := serial + 1, issue := q.issue ++ txns, waiting := false }

/-- HOST_REQUEST_PACKET (R37, R38, R161, R169, R170, R283): a request is taken whole while the port takes requests and its
table has room; it is refused, ended by the state of the link, or resolved and queued. (DEDUCED: log entry 66) -/
def execHostRequestPacket (port : PortId) (cmd : BitVec 128) (beats : List Beat) (s : State) :
    Host.Outcome State Fault Refusal :=
  whenPlat s fun s =>
    if !s.hasPort port || !s.portsReady || 256 ≤ (s.port port).reqs.length then s
    else
      let c := HostCmd.ofBits cmd
      let serial := (s.port port).nextSerial
      let s := enterRequest port c (beatData c.addr.toNat c.len (beats.map (·.data))) s
      if c.malformed beats.length then failReq port serial 0x01 s
      else if !s.linkOpen then failReq port serial 0x03 s
      else if s.flag F.MSH_CTRL.EN then resolveReq port serial s else s

/-- TRANSACTION_ISSUE (R173): the head of the port's issue queue obtains an entry and is sent, when it can. -/
def execTransactionIssue (port : PortId) (s : State) : Host.Outcome State Fault Refusal :=
  whenPlat s fun s => pumpMig (issueHead port s)

/-- The oldest unadmitted read segment of a port: its request and its place (R176). -/
def Port.unadmitted (p : Port) : Option (Nat × Nat × Nat) :=
  (p.reqs.filter (fun r => opReads r.op && !r.finished)).findSome? fun r =>
    (r.segs.findIdx? (fun g => !g.admitted && !g.withdrawn)).bind fun i => (r.segs[i]?).map fun g => (r.serial, i, g.len)

/-- SEGMENT_ADMIT (R45, R176): the oldest unadmitted read segment is admitted when the window and the pace have room.
(DEDUCED: log entry 27) -/
def execSegmentAdmit (port : PortId) (s : State) : Host.Outcome State Fault Refusal :=
  whenPlat s fun s =>
    match (s.port port).unadmitted with
    | none => s
    | some (n, i, len) =>
      if (s.port port).undelivered + len ≤ s.window port && s.paced port + len ≤ 61440 then
        let s' := modReq port n (fun r => { r with segs := r.segs.modify i fun g => { g with admitted := true } }) s
        s'.modPort port fun q => { q with
          pace := q.pace.filter (fun x => s.platCycle < x.1 + 1024) ++ [(s.platCycle, len)] }
      else s

/-- A read that may open its packet (R177): its first segment's data is in the buffer, and every segment of it has been
admitted or every older read of the port has been delivered. -/
def HostReq.qualifies (r : HostReq) (older : List HostReq) : Bool :=
  opReads r.op && !r.finished && ((r.segs.head?).map fun g => g.st == .ready).getD false
    && (r.segs.all (·.admitted) || older.all fun x => !opReads x.op || x.finished)

/-- The oldest read that qualifies, its serial; `older` gathers the requests before. (DEDUCED: log entry 71) -/
def firstOpen : List HostReq → List HostReq → Option Nat
  | [], _ => none
  | r :: rs, older => if r.qualifies older then some r.serial else firstOpen rs (older ++ [r])

/-- RESPONSE_PACKET_OPEN (R34, R177): with no packet open and no single beat on offer, the oldest read that qualifies opens its packet.
(DEDUCED: log entry 71) -/
def execResponsePacketOpen (port : PortId) (s : State) : Host.Outcome State Fault Refusal :=
  whenPlat s fun s =>
    if (s.port port).reqs.any (fun r => r.opened && !r.finished) || (s.portsDrive && (s.port port).beats != []) then s
    else
      match firstOpen (s.port port).reqs [] with
      | some n => modReq port n (fun r => { r with opened := true }) s
      | none => s

/-- The bytes of a read from offset `lo` on, `n` of them, with poison, when every segment they touch has its data.
(DEDUCED: log entry 71) -/
def readBytes (r : HostReq) (lo n : Nat) : Option (List Byte × Bool) :=
  let touched := r.segs.filter fun g =>
    let o := g.addr.toNat - r.addr.toNat
    o < lo + n && lo < o + g.len
  if touched.all (fun g => g.st.final) then
    let base := ((touched.head?).map fun g => g.addr.toNat - r.addr.toNat).getD 0
    some (slice (touched.flatMap (·.data)) (lo - base) n, touched.any (·.poison))
  else none

/-- The info word of a response (R39). -/
def rspInfo (status : Byte) (htag : BitVec 16) : Word := 0#8 ++ status ++ htag

/-- RESPONSE_BEAT_TRANSFER (R34 to R36, R39, R177, R178): the next beat of the open packet, once its data is there, or the
oldest single beat. A request leaves the table with its last beat. (DEDUCED: log entry 71) -/
def execResponseBeatTransfer (port : PortId) (s : State) : Host.Outcome State Fault Refusal :=
  whenPlat s fun s =>
    if !s.portsDrive then s else
    match (s.port port).reqs.find? (fun r => r.opened && !r.finished) with
    | some r =>
      let pad := r.addr.toNat % 64
      let lo := 64 * r.sent - pad
      let front := if r.sent = 0 then pad else 0
      let n := min (64 - front) (r.len - lo)
      match readBytes r lo n with
      | none => s
      | some (bs, poison) =>
        let last := lo + n == r.len
        let data : BitVec 512 := BitVec.ofNat 512 (leNat (List.replicate front 0 ++ bs))
        let s := s.emit (.rspBeat port (rspInfo 0 r.htag) data (r.sent == 0) last poison)
        if last then s.modPort port fun q => { q with reqs := q.reqs.filter (·.serial != r.serial) }
        else modReq port r.serial (fun r => { r with sent := r.sent + 1 }) s
    | none =>
      match (s.port port).beats with
      | [] => s
      | (htag, st) :: rest =>
        let s := s.emit (.rspBeat port (rspInfo st htag) 0 true true false)
        let gone := ((s.port port).reqs.find? (fun r => r.finished && r.htag == htag)).map (·.serial)
        s.modPort port fun q => { q with
          beats := rest
          reqs := q.reqs.filter fun r => some r.serial != gone }

/-- REPLY_SINK_VIOLATION (R46): the port enters the violation state, logged and counted once. -/
def execReplySinkViolation (port : PortId) (s : State) : Host.Outcome State Fault Refusal :=
  whenPlat s fun s =>
    if (s.port port).violation then s
    else
      raise C.MNF.REPLY_SINK (at80 0 port.toNat ||| at80 3 (s.port port).buffered)
        (s.modPort port fun q => { q with violation := true })

/-- REPLY_SINK_RECOVER (R46): the port leaves the violation state. -/
def execReplySinkRecover (port : PortId) (s : State) : Host.Outcome State Fault Refusal :=
  whenPlat s fun s => s.modPort port fun q => { q with violation := false }

/-- The first free BTAG from `t` on. (DESIGN CHOICE: log entry 5) -/
def freeBtag (outs : List BreqOut) (t : BitVec 12) : Nat → BitVec 12
  | 0 => t
  | n + 1 => if outs.any (fun o => o.btag == t) then freeBtag outs (t + 1) n else t

/-- A block request must wait: for an earlier write of the same source to its 4 KiB block that has had no block response (R187), or, of
a request served with FWD at 1, for one before it on another port (R299). (DEDUCED: log entry 28) -/
def State.mustWait (s : State) (q : Port) (b : Breq) : Bool :=
  (b.src.isSome && q.outs.any fun o => o.req.write && o.req.addr.toNat / 4096 == b.addr.toNat / 4096 && o.req.src == b.src)
    || b.order.any fun n => s.ports.toList.any fun p => p.breqs.any fun x => x.order.any (· < n)

/-- The beats of a block request's packet (R35, R36): one without data for a read, and for a write its data in aligned beats, the bytes
of its range enabled. -/
def breqBeats (port : PortId) (cmd : BitVec 96) (b : Breq) : List Emit :=
  if b.write then
    let off := b.addr.toNat % 64
    let n := beatCount b.addr.toNat b.len
    (List.range n).map fun k =>
      let lo := off - 64 * k
      let hi := min 64 (off + b.len - 64 * k)
      let skip := 64 * k - off
      let data : BitVec 512 := BitVec.ofNat 512 (leNat (List.replicate lo 0 ++ slice b.data skip (hi - lo)))
      .breqBeat port cmd data (BitVec.ofNat 64 (2 ^ hi - 2 ^ lo)) (k == 0) (k + 1 == n)
  else [.breqBeat port cmd 0 0 true true]

/-- BLOCK_REQUEST_ISSUE (R35, R36, R41, R47, R187, R299): the oldest block request of the port leaves under a free BTAG, its beats one
after the other. (DEDUCED: log entry 66) -/
def execBlockRequestIssue (port : PortId) (s : State) : Host.Outcome State Fault Refusal :=
  whenPlat s fun s =>
    let q := s.port port
    match q.breqs with
    | [] => s
    | b :: rest =>
      if 4096 ≤ q.outs.length || s.mustWait q b || !s.hasPort port || !s.portsDrive then s
      else
        let t := freeBtag q.outs q.nextBtag q.outs.length
        let cmd : BitVec 96 := b.addr ++ BitVec.ofNat 12 (b.len - 1) ++ t ++ (if b.write then 0x02#8 else 0x01#8)
        let s := { s with out := (breqBeats port cmd b).reverse ++ s.out }
        s.modPort port fun q => { q with
          breqs := rest, outs := q.outs ++ [{ btag := t, req := b, dead := false, since := s.mark }], nextBtag := t + 1 }

end Sys2Proof.Machine
end

