-- ==== Sys2Proof/Machine/RegPort.lean ====
section
/-!
DEFINITION. The register map as software sees it: what every register reads as, what a write does, the 64-bit pairs, the register
port, the writes of the signal boxes, and DIAG_REG_READ (R13 to R16, R48, R49, R338, R340, R347, R432 to R452).
-/
namespace Sys2Proof.Machine

/-! ## What registers read as (R103, R133, R164, R195, R224, R225, R258, R280, R307, R312, R362, R387, R404, R431, R439) -/

/-- Word `i` of a value. -/
def wordAt {w : Nat} (v : BitVec w) (i : Nat) : Word := bits v (32 * i) 32

/-- A is the register of an array of `n` in steps of `step` from `lo`. -/
def inArray (a lo n step : Nat) : Bool := lo ≤ a && a < lo + n * step && (a - lo) % step == 0

/-- GBL. -/
def State.viewGbl (s : State) (a : Nat) : Word :=
  if a = R.GBL_FW_VER then s.gblFwVer
  else if a = R.GBL_LINK then s.gblLink
  else if a = R.GBL_START then s.gblStart
  else s.reg a

/-- SEAM: GO reads 1 until its change begins (R103). -/
def State.viewSeam (s : State) (a : Nat) : Word :=
  if a = R.SEAM_STATUS then s.seamStatus
  else if a = R.SEAM_WIDTH_CTRL then s.reg a ||| (if s.seam.queued.isSome then 0x100 else 0)
  else if a = R.SEAM_SLP_STATUS then s.slpStatus
  else if inArray a R.SEAM_SLV_TX 8 8 then s.slvWord .up (BitVec.ofNat 3 ((a - R.SEAM_SLV_TX) / 8))
  else if inArray a R.SEAM_SLV_RX 8 8 then s.slvWord .down (BitVec.ofNat 3 ((a - R.SEAM_SLV_RX) / 8))
  else if inArray a R.SEAM_SKEW 8 4 then (s.seam.skew[(a - R.SEAM_SKEW) / 4]?).getD 0
  else if a = R.SEAM_TEST_LOCK then BitVec.setWidth 32 s.seam.test.locked
  else if a = R.SEAM_PRBS_BITS_LO then wordAt s.prbsCompared 0
  else if a = R.SEAM_PRBS_BITS_HI then wordAt s.prbsCompared 1
  else s.reg a

/-- TLR. -/
def State.viewTlr (s : State) (a : Nat) : Word :=
  if a = R.TLR_STATUS then s.tlrStatus
  else if a = R.TLR_TEMP then BitVec.setWidth 32 (senseTemp s).1
  else if inArray a R.TLR_LANE_ACT 4 4 then wordAt s.laneWin.act ((a - R.TLR_LANE_ACT) / 4)
  else if inArray a R.TLR_LANE_SHD 4 4 then wordAt s.laneWin.shd ((a - R.TLR_LANE_SHD) / 4)
  else if a = R.TLR_LANE_QUAL then s.laneWin.qual
  else if a = R.TLR_LANE_STAT then s.laneWin.starved ++ s.laneWin.commits ++ s.laneWin.passes
  else if a = R.TLR_LANE_TIME_LO then wordAt s.laneWin.time 0
  else if a = R.TLR_LANE_TIME_HI then wordAt s.laneWin.time 1
  else if a = R.TLR_SNAP_CTRL then s.reg a ||| (if s.tlr.restoreDue then 0x4 else 0)
  else if a = R.TLR_SNAP_STATUS then s.snapStatus
  else if a = R.TLR_SNAP_GEN then s.tlr.gen
  else s.reg a

/-- LNK. (DESIGN CHOICE: log entry 67) -/
def State.viewLnk (s : State) (a : Nat) : Word :=
  if a = R.LNK_STATUS then s.lnkStatus
  else if a = R.LNK_TX_SEQ then s.lnkTxSeq
  else if a = R.LNK_RX_SEQ then s.lnkRxSeq
  else if a = R.LNK_REPLAY then lnkReplayWord s.lnk
  else if inArray a R.LNK_TKT_TX 6 4 then BitVec.ofNat 32 ((s.lnk.held[(a - R.LNK_TKT_TX) / 4]?).getD 0)
  else if a = R.LNK_POOL_RX then s.lnkPoolRx
  else s.reg a

/-- The originated entries that host requests of a port hold, quarantined ones included (R195). -/
def State.portEntries (s : State) (p : PortId) : Nat :=
  (s.mnf.entries.filter fun x =>
    match x.2 with
    | .orig o => (match o.owner with | .host q _ _ => q == p | .copy _ => false)
    | .served _ => false).length

/-- MNF. -/
def State.viewMnf (s : State) (a : Nat) : Word :=
  if a = R.MNF_STATUS then BitVec.ofNat 32 (b2n s.mnf.full * 2 ^ 31 + s.mnf.entries.length)
  else if inArray a R.MNF_PORT_STAT 8 4 then
    let p : PortId := BitVec.ofNat 3 ((a - R.MNF_PORT_STAT) / 4)
    BitVec.ofNat 32 ((s.port p).reqs.length * 2 ^ 23 + s.portEntries p)
  else if inArray a R.MNF_PORT_WIN 8 4 then
    BitVec.ofNat 32 (s.port (BitVec.ofNat 3 ((a - R.MNF_PORT_WIN) / 4))).undelivered
  else s.reg a

/-- A bank as its three registers show it. -/
def bankWord (b : Option Bank) (i : Nat) : Word :=
  match b with
  | none => 0
  | some b =>
    if i = 0 then BitVec.ofNat 32 (2 ^ 31 + b2n b.streamed * 2 ^ 30 + b2n b.variantOf.isSome * 2 ^ 29 + b.entries.length)
    else if i = 1 then BitVec.ofNat 32 b.cycle
    else 0#2 ++ b.variantOf.getD 0 ++ b.bindGen.getD 0

/-- TTB and RWT: bits of W1S fields read 1 until what they ask for is done (R224). -/
def State.viewTtb (s : State) (a : Nat) : Word :=
  if a = R.TTB_CTRL then
    s.reg a ||| (if s.ttb.st == .startArmed then (if s.ttb.resume then 0x10 else 0x1) else 0)
      ||| (if s.ttb.stops.any (·.reason == 1) then 0x2 else 0)
  else if a = R.TTB_STATUS then s.ttbStatus
  else if a = R.TTB_LOAD_CTRL then s.reg a ||| (if s.ttb.load.isSome then 1 else 0)
  else if inArray a R.TTB_BANK_INFO 2 16 then bankWord (s.bankAt (a != R.TTB_BANK_INFO)) 0
  else if inArray a R.TTB_BANK_CYCLE 2 16 then bankWord (s.bankAt (a != R.TTB_BANK_CYCLE)) 1
  else if inArray a R.TTB_BANK_ID 2 16 then bankWord (s.bankAt (a != R.TTB_BANK_ID)) 2
  else if a = R.TTB_DL_LAST then s.ttb.dlLast
  else if a = R.RWT_TIME_LO then wordAt (BitVec.ofNat 64 s.now) 0
  else if a = R.RWT_TIME_HI then wordAt (BitVec.ofNat 64 s.now) 1
  else if a = R.RWT_PATH_LO then wordAt (BitVec.ofNat 64 (s.now / 64)) 0
  else if a = R.RWT_PATH_HI then wordAt (BitVec.ofNat 64 (s.now / 64)) 1
  else if a = R.RWT_EPOCH then s.rwtEpoch
  else if a = R.RWT_CYCLE_POS then BitVec.ofNat 32 (if s.running? then (s.ttb.path - s.ttb.cycleG) % 2 ^ 20 else 0)
  else if a = R.RWT_STATUS then s.rwtStatus
  else if a = R.RWT_DELAY then BitVec.setWidth 32 s.rwt.delay
  else s.reg a

/-- The states of a junction group as codes (R258). -/
def grpCode : GrpSt → Nat
  | .opened => 1
  | .accumulating => 2
  | .complete => 3
  | .ended => 4

/-- DONE of JCT_GRP_STATE: the members that are complete, or were when the group ended (R258). (DEDUCED: log entry 37) -/
def JGroup.done (g : JGroup) : Nat := if g.live then g.doneNow else g.doneAt

/-- JCT. -/
def State.viewJct (s : State) (a : Nat) : Word :=
  let g := s.group (BitVec.ofNat 12 (s.fld F.JCT_GRP_SEL.GROUP))
  let show? (f : JGroup → Word) : Word := (g.map f).getD 0
  if a = R.JCT_STATUS then BitVec.ofNat 32 (s.freeChunks * 2 ^ 24 + s.jct.groups.length)
  else if a = R.JCT_MEMBERS then BitVec.ofNat 32 (32768 - s.membersUsed)
  else if a = R.JCT_GRP_STATE then
    show? fun g => BitVec.ofNat 32 (grpCode g.st * 2 ^ 28 + g.result.toNat * 2 ^ 24 + g.members.length * 2 ^ 13
      + g.done * 2 ^ 4)
  else if a = R.JCT_GRP_ACC then show? fun g => BitVec.ofNat 32 (b2n g.t6 * 2 ^ 31 + g.elems)
  else if a = R.JCT_GRP_LEAVES then show? fun g => BitVec.ofNat 32 g.leafCount
  else if inArray a R.JCT_GRP_MAP 8 4 then show? fun g => wordAt g.map ((a - R.JCT_GRP_MAP) / 4)
  else if a = R.JCT_LAST then s.jct.last
  else if a = R.JCT_ELEMS_LO then wordAt s.jct.elems 0
  else if a = R.JCT_ELEMS_HI then wordAt s.jct.elems 1
  else s.reg a

/-- The states of an analog group as codes (R280). -/
def aspStCode : AspSt → Nat
  | .recal => 1
  | .analog => 2
  | .pending => 3
  | .fallback => 4
  | .ended => 5

/-- A value in units of 1 / `k`, to the nearest, as an integer. (DEDUCED: log entry 39; DESIGN CHOICE: log entry 67) -/
def inUnits (v : Rat) (k : Nat) : Int := (v * k + 1 / 2).floor

/-- An unsigned 16-bit field of such a value, at its bounds beyond them. -/
def unsigned16 (v : Rat) (k : Nat) : Nat := min 0xFFFF (inUnits v k).toNat

/-- ASP. -/
def State.viewAsp (s : State) (a : Nat) : Word :=
  let d := s.asp.dests.find? (·.num == BitVec.ofNat 12 (s.fld F.ASP_GRP_SEL.GROUP))
  let show? (f : AspDest → Word) : Word := (d.map f).getD 0
  if a = R.ASP_STATUS then
    BitVec.ofNat 32 ((s.asp.dests.filter (·.st != .ended)).length * 2 ^ 16 + (s.asp.mems.filter (fun m => !m.ended)).length)
  else if a = R.ASP_GRP_STATE then
    show? fun d => BitVec.ofNat 32 (aspStCode d.st * 2 ^ 28 + d.result.toNat * 2 ^ 24 + d.cons.length * 2 ^ 16 + d.lastResidual.toNat)
  else if a = R.ASP_GRP_REF then show? fun d => BitVec.ofNat 32 (unsigned16 d.gRef 4096 * 2 ^ 16 + unsigned16 d.total 8)
  else if inArray a R.ASP_GRP_CON 32 4 then
    show? fun d =>
      match d.cons[(a - R.ASP_GRP_CON) / 4]? with
      | some c => c.state ++ 0#2 ++ BitVec.ofInt 12 (max (-2048) (min 2047 (inUnits c.offset 8))) ++ c.trim
      | none => 0
  else s.reg a

/-- The states of a migration as codes (R307). -/
def migCode : MigSt → Nat
  | .idle => 0
  | .copying => 1
  | .cutover => 2
  | .final => 3
  | .done => 4
  | .abandoned => 5
  | .fault => 6

/-- A ring membership's counts. -/
def State.ringCounts (s : State) (n : Nat) : Word × Word :=
  match s.msh.rings[n]! with
  | some r => (r.prod, r.cons)
  | none => (0, 0)

/-- MSH. (DESIGN CHOICE: log entry 67) -/
def State.viewMsh (s : State) (a : Nat) : Word :=
  let m := s.msh
  if a = R.MSH_STATUS then
    BitVec.ofNat 32 (b2n m.hasStage * 2 ^ 31 + b2n m.release.isSome * 2 ^ 30 + b2n s.migrating * 2 ^ 29 + m.dir.length)
  else if a = R.MSH_GEN then s.stagedGen ++ m.current
  else if a = R.MSH_MIG_STATUS then BitVec.ofNat 32 (migCode m.mig.st * 2 ^ 29 + min 7 m.mig.round * 2 ^ 26 + m.mig.dirty.length)
  else if a = R.MSH_MIG_REC then BitVec.ofNat 32 m.mig.slot
  else if a = R.MSH_LOAD then BitVec.setWidth 32 m.workLoad
  else if a = R.MSH_BIND_LO then wordAt (s.bindOf (BitVec.ofNat 16 (s.fld F.MSH_BIND_SEL.LID))) 0
  else if a = R.MSH_BIND_HI then wordAt (s.bindOf (BitVec.ofNat 16 (s.fld F.MSH_BIND_SEL.LID))) 1
  else if inArray a R.MSH_RING_PROD 64 4 then (s.ringCounts ((a - R.MSH_RING_PROD) / 4)).1
  else if inArray a R.MSH_RING_CONS 64 4 then (s.ringCounts ((a - R.MSH_RING_CONS) / 4)).2
  else s.reg a

/-- SBX. -/
def State.viewSbx (s : State) (a : Nat) : Word :=
  if a = R.SBX_STATUS then s.sbxStatus
  else if a = R.SBX_JRNL then s.sbx.gen
  else if a = R.SBX_HEALTH then s.sbxHealth
  else if a = R.SBX_HEALTH_TIME_LO then wordAt s.sbx.healthTime 0
  else if a = R.SBX_HEALTH_TIME_HI then wordAt s.sbx.healthTime 1
  else if a = R.SBX_FW_VER_A then fwVer s.sbx.a
  else if a = R.SBX_FW_VER_B then fwVer s.sbx.b
  else if a = R.SBX_FO_INFO then s.sbx.foInfo
  else if a = R.SBX_FO_TIME_LO then wordAt s.sbx.foTime 0
  else if a = R.SBX_FO_TIME_HI then wordAt s.sbx.foTime 1
  else if a = R.SBX_VTX_CTRL then s.vtxCtrl
  else if a = R.SBX_VTX_STATUS then s.vtxStatus
  else if a = R.SBX_RING_PROD then BitVec.setWidth 32 s.vtx.prod
  else if a = R.SBX_RING_CONS then BitVec.setWidth 32 s.vtx.cons
  else if a = R.SBX_RPL_HDR then s.rplHdr
  else if a = R.SBX_RPL_INFO then s.rplInfo
  else if a = R.SBX_RPL_ACK then 0
  else if a = R.SBX_CPL_FIFO then s.cplWord
  else if inArray a R.SBX_RPL_DATA 252 4 then s.rplData ((a - R.SBX_RPL_DATA) / 4)
  else s.reg a

/-- PCM and IDN. -/
def State.viewPcm (s : State) (a : Nat) : Word :=
  if a = R.PCM_STATUS then s.pcmStatus
  else if a = R.PCM_WAKE_INFO then s.pcmWakeInfo
  else if a = R.PCM_CLK then s.pcmClk
  else if a = R.PCM_BROWN then s.pcmBrown
  else if a = R.PCM_BROWN_TIME_LO then wordAt s.pcm.brownTime 0
  else if a = R.PCM_BROWN_TIME_HI then wordAt s.pcm.brownTime 1
  else if a = R.IDN_CTRL then s.idnCtrl
  else if a = R.IDN_STATUS then s.idnStatus
  else if a = R.IDN_AUTH_CTR0_LO then wordAt s.idn.ctr0 0
  else if a = R.IDN_AUTH_CTR0_HI then wordAt s.idn.ctr0 1
  else if a = R.IDN_AUTH_CTR1_LO then wordAt s.idn.ctr1 0
  else if a = R.IDN_AUTH_CTR1_HI then wordAt s.idn.ctr1 1
  else if inArray a R.IDN_PUBKEY_WIN 25 4 then s.pubkeyWord ((a - R.IDN_PUBKEY_WIN) / 4)
  else s.reg a

/-- FLT. -/
def State.viewFlt (s : State) (a : Nat) : Word :=
  if a = R.FLT_WR then BitVec.ofNat 32 s.wrIdx
  else if a = R.FLT_RD then BitVec.ofNat 32 s.rdIdx
  else if a = R.FLT_STATUS then BitVec.ofNat 32 (b2n (s.flt.unread == 1024) * 2 ^ 31 + s.flt.unread)
  else if a = R.FLT_SEQ then s.flt.seq
  else if a = R.FLT_SUM_FAULT then s.fltSum .fault
  else if a = R.FLT_SUM_CMPL then s.fltSum .cmpl
  else if a = R.FLT_SUM_INFO then s.fltSum .info
  else if inArray a R.FLT_WIN 8192 4 then s.fltWord ((a - R.FLT_WIN) / 4)
  else s.reg a

/-- What a register reads as. (DEDUCED: log entry 63) -/
def State.view (s : State) (a : Nat) : Word :=
  match a / 0x10000 with
  | 0x00 => s.viewGbl a
  | 0x01 => s.viewSeam a
  | 0x02 => s.viewTlr a
  | 0x03 => s.viewLnk a
  | 0x04 => s.viewMnf a
  | 0x05 => s.viewTtb a
  | 0x06 => s.viewTtb a
  | 0x07 => s.viewJct a
  | 0x08 => s.viewAsp a
  | 0x09 => s.viewMsh a
  | 0x0A => s.viewSbx a
  | 0x0B => s.viewPcm a
  | 0x0C => s.viewPcm a
  | 0x0D => s.viewFlt a
  | _ => 0

/-! ## The 64-bit pairs (R436, R437) -/

/-- A register is the _LO register of a pair. -/
def isPairLo (a : Nat) : Bool := pairLos.contains a

/-- A register is the _HI register of a pair. -/
def isPairHi (a : Nat) : Bool := pairLos.any (· + 4 == a)

/-- A requester's high latch of the pair whose _LO register is at `lo`: the high half of the reset value before the first load. -/
def State.latch (s : State) (who : Requester) (lo : Nat) : Word :=
  ((s.latches.find? fun x => x.1 == who && x.2.1 == lo).map (·.2.2)).getD (regReset s.par (lo + 4))

/-- A requester's high latch loaded. -/
def loadLatch (who : Requester) (lo : Nat) (v : Word) (s : State) : State :=
  { s with latches := s.latches.filter (fun x => !(x.1 == who && x.2.1 == lo)) ++ [(who, lo, v)] }

/-! ## Reads (R14, R434) -/

/-- The bits of a register that a read clears. -/
def rcBits (a : Nat) : Word := ((regRow a).map (·.rc)).getD 0

/-- The value of a read by a requester, of a register that can be reached. (DEDUCED: log entry 63) -/
def State.readValue (s : State) (who : Requester) (a : Nat) : Word := if isPairHi a then s.latch who (a - 4) else s.view a

/-- What a read does: RC fields are cleared, a first read of a reply is noted, a completion is removed, a _LO read loads the high
latch (R14, R317, R319, R434, R436). -/
def readEffect (who : Requester) (a : Nat) (s : State) : State :=
  if a = R.SBX_RPL_HDR then rplRead s
  else if a = R.SBX_CPL_FIFO then cplPop s
  else if a = R.TLR_TEMP then s.draw
  else if isPairLo a then loadLatch who a (s.view (a + 4)) s
  else if rcBits a = 0 then s
  else s.setReg a (s.reg a &&& ~~~(rcBits a))

/-- A read on the register port (R48, R49, R433): misaligned or in an off domain it ends with reg_err_o at 1 and zero; a reserved
address reads zero. -/
def portRead (a : Nat) (s : State) : State :=
  if a % 4 != 0 then s.answerRead 0 true
  else if (regRow a).isNone then s.answerRead 0 false
  else if !s.regOn a then s.answerRead 0 true
  else (readEffect .port a s).answerRead (s.readValue .port a) false

/-! ## Writes (R14, R340, R437) -/

/-- The plain effect of a write: RW fields take the data, W1C flags written with 1 clear (R14). (DEDUCED: log entry 63) -/
def plainWrite (a : Nat) (data : Word) (s : State) : State :=
  match regRow a with
  | some r =>
    let old := s.reg a
    s.setReg a ((old &&& ~~~r.rw &&& ~~~(r.w1c &&& data)) ||| (data &&& r.rw))
  | none => s

/-- The entries guaranteed when port `p`'s register holds `v` (R172); `k` is SERVED_MIN_K. (DEDUCED: log entry 29) -/
def State.guaranteesAt (s : State) (p : Nat) (v : Word) (k : Nat) : Nat :=
  1024 * k + ((List.range s.par.ports).map fun i => if i = p then Sys2Proof.fld v 0 16 else s.fldN F.MNF_PORT_CFG.MIN_ENTRIES (4 * i)).sum

/-- The reply windows of the present ports when port `p`'s register holds `v`, in bytes (R176). (DEDUCED: log entry 29) -/
def State.windowsAt (s : State) (p : Nat) (v : Word) : Nat :=
  256 * ((List.range s.par.ports).map fun i => if i = p then Sys2Proof.fld v 16 8 else s.fldN F.MNF_PORT_CFG.RSP_WIN (4 * i)).sum

/-- A write of MNF_PORT_CFG_n (R172, R176): absent ports read zero; one that breaks a bound is ignored, with CFG_REJECT.
(DEDUCED: log entry 29) -/
def portCfgWrite (n : Nat) (data : Word) (s : State) : State :=
  let w := fld data 16 8
  if s.par.ports ≤ n then s
  else if w < 16 || 240 < w || 61440 < s.windowsAt n data || 262144 < s.guaranteesAt n data (s.fld F.MNF_SVC_CFG.SERVED_MIN_K) then
    raise C.MNF.CFG_REJECT (at80 18 n) s
  else noteFull (plainWrite (R.MNF_PORT_CFG + 4 * n) data s)

/-- A write of MNF_SVC_CFG (R172, R173). (DEDUCED: log entry 29) -/
def svcCfgWrite (data : Word) (s : State) : State :=
  if 262144 < s.guaranteesAt 8 0 (fld data 0 8) then raise C.MNF.CFG_REJECT 0 s
  else noteFull (plainWrite R.MNF_SVC_CFG data s)

/-- Opens that wait for the marshalling unit run again (R283). -/
def resumeOpens (s : State) : State :=
  (s.vtx.waits.filter (·.2 == .resolve)).foldl (fun s x =>
    match s.running x.1 with
    | none => s
    | some c =>
      let s := dropWait x.1 s
      let ps := cmdParams c
      if cmdOpcode c = 0x0401 then groupOpen x.1 ps s
      else if cmdOpcode c = 0x0501 then aspOpen x.1 ps s
      else branchSet x.1 ps s) s

/-- A write of MSH_CTRL (R283, R307). -/
def mshCtrlWrite (data : Word) (s : State) : State :=
  let s := plainWrite R.MSH_CTRL data s
  if s.flag F.MSH_CTRL.EN then resumeOpens s else s

/-- A write in the regions SEAM to TTB with an effect of its own; none where the write is plain. -/
def writeLow (a : Nat) (data : Word) (s : State) : Option State :=
  if a = R.SEAM_WIDTH_CTRL then some (widthCtrlWrite data s)
  else if a = R.SEAM_TEST_CTRL then some (testCtrlWrite data s)
  else if a = R.TLR_CTRL then some (tlrCtrlWrite data s)
  else if inArray a R.TLR_LANE_SHD 4 4 then some (shadowWrite ((a - R.TLR_LANE_SHD) / 4) data s)
  else if a = R.TLR_SNAP_CTRL then some (snapCtrlWrite data s)
  else if inArray a R.TLR_SNAP_WIN 394 4 then
    some (if s.flag F.TLR_SNAP_CTRL.LOAD && s.loadable then plainWrite a data s else s)
  else if a = R.LNK_CTRL then some (lnkCtrlWrite data s)
  else if inArray a R.MNF_PORT_CFG 8 4 then some (portCfgWrite ((a - R.MNF_PORT_CFG) / 4) data s)
  else if a = R.MNF_SVC_CFG then some (svcCfgWrite data s)
  else if a = R.TTB_CTRL then some (ttbCtrlWrite data s)
  else if a = R.TTB_LOAD_CTRL then some (loadCtrlWrite data s)
  else if a = R.TTB_SWITCH then some (switchWrite data s)
  else none

/-- The same in the regions RWT to FLT. -/
def writeHigh (who : Requester) (a : Nat) (data : Word) (s : State) : Option State :=
  if a = R.RWT_CTRL then some (if bit data 0 then relock s else s)
  else if a = R.JCT_CTRL then some (jctCtrlWrite data s)
  else if a = R.MSH_CTRL then some (mshCtrlWrite data s)
  else if inArray a R.MSH_RING_CONS 64 4 then some (ringConsWrite (BitVec.ofNat 6 ((a - R.MSH_RING_CONS) / 4)) data s)
  else if a = R.SBX_VTX_CTRL then some (vtxCtrlWrite data s)
  else if a = R.SBX_RING_BASE_LO then some (ringBaseLoWrite who data s)
  else if a = R.SBX_RING_CFG then some (if s.flag F.SBX_VTX_CTRL.RING_EN then s else plainWrite a data s)
  else if a = R.SBX_RING_PROD then some (ringProdWrite data s)
  else if a = R.SBX_RPL_ACK then some (rplAckWrite data s)
  else if inArray a R.SBX_MBX_WIN 1024 4 then some (if s.vtx.mbxGo then s else plainWrite a data s)
  else if a = R.SBX_CTRL then some (sbxCtrlWrite data s)
  else if a = R.SBX_FW_ADDR_HI then some (fwBegin (putPair who R.SBX_FW_ADDR_LO data s))
  else if a = R.PCM_CTRL then some (pcmCtrlWrite data s)
  else if a = R.IDN_CTRL then some (idnCtrlWrite data s)
  else if inArray a R.IDN_AUTHKEY_WIN_0 25 4 then some (if s.idn.locked0 then s else plainWrite a data s)
  else if inArray a R.IDN_AUTHKEY_WIN_1 25 4 then some (if s.idn.locked1 then s else plainWrite a data s)
  else if R.IDN_HELPER_WIN ≤ a && a < R.IDN_HELPER_WIN + 0x1000 then some (if s.idn.key == .absent then plainWrite a data s else s)
  else if a = R.FLT_RD then some (fltRdWrite data s)
  else none

/-- A write by a requester, of a register that can be reached: the effect of its own that a register has, the halves of a pair with
RW fields together at the write of _HI, or the plain effect (R14, R437). (DEDUCED: log entry 63) -/
def writeReg (who : Requester) (a : Nat) (data : Word) (s : State) : State :=
  match writeLow a data s with
  | some s' => s'
  | none =>
    match writeHigh who a data s with
    | some s' => s'
    | none =>
      if isPairLo a then holdPair who a data s
      else if isPairHi a then putPair who (a - 4) data s
      else plainWrite a data s

/-- A write on the register port (R16, R48, R49, R433). -/
def portWriteReg (a : Nat) (data : Word) (s : State) : State :=
  if a % 4 != 0 then s.answer true
  else if (regRow a).isNone then s.answer false
  else if s.regOn a || (a == R.SEAM_TEST_CTRL && s.wrapped) then (writeReg .port a data s).answer false
  else s.answer true

/-- REGISTER_WRITE (R14, R48). -/
def execRegisterWrite (addr : BitVec 24) (data : Word) (s : State) : Host.Outcome State Fault Refusal :=
  whenUp s fun s => portWriteReg addr.toNat data s

/-- EVENT_CLEAR (R14): a write of ones to a W1C register. -/
def execEventClear (addr : BitVec 24) (data : Word) (s : State) : Host.Outcome State Fault Refusal :=
  whenUp s fun s => portWriteReg addr.toNat data s

/-- COUNTER_READ (R14): a read on the register port, which clears RC fields. (DEDUCED: log entry 63) -/
def execCounterRead (addr : BitVec 24) (s : State) : Host.Outcome State Fault Refusal :=
  whenUp s fun s => portRead addr.toNat s

/-- The box may write: it holds the token (R340). The register port is not gated. -/
def State.mayWrite (s : State) (who : Requester) : Bool :=
  match who with
  | .port => true
  | .box x => s.sbx.held && s.sbx.holder == x

/-- A write by a requester: a box without the token is gated (R340); one with it is recorded in the journal (R347).
(DEDUCED: log entry 48) -/
def gatedWrite (who : Requester) (a : Nat) (data : Word) (s : State) : State :=
  match who with
  | .port => portWriteReg a data s
  | .box _ =>
    if !s.mayWrite who then raiseBox C.SBX.GATE_DROP s
    else if a % 4 != 0 || (regRow a).isNone || !s.regOn a then s
    else
      let s := writeReg who a data (commitNow s)
      let w : CfgWrite := { addr := BitVec.ofNat 24 a, data := data, rw := ((regRow a).map (·.rw)).getD 0 != 0 }
      beginGen { s with sbx := { s.sbx with writes := s.sbx.writes ++ [w] } }

/-- PAIR_LO_READ (R436): the low half, with the high half latched. -/
def execPairLoRead (who : Requester) (addr : BitVec 24) (s : State) : Host.Outcome State Fault Refusal :=
  whenUp s fun s =>
    let a := addr.toNat
    if !isPairLo a then s
    else
      match who with
      | .port => portRead a s
      | .box _ => if s.regOn a then readEffect who a s else s

/-- PAIR_LO_WRITE (R437). -/
def execPairLoWrite (who : Requester) (addr : BitVec 24) (data : Word) (s : State) : Host.Outcome State Fault Refusal :=
  whenUp s fun s => if isPairLo addr.toNat then gatedWrite who addr.toNat data s else s

/-- PAIR_HI_WRITE (R437). -/
def execPairHiWrite (who : Requester) (addr : BitVec 24) (data : Word) (s : State) : Host.Outcome State Fault Refusal :=
  whenUp s fun s => if isPairHi addr.toNat then gatedWrite who addr.toNat data s else s

/-- BOX_REGISTER_WRITE (R340, R347). -/
def execBoxRegisterWrite (box : Box) (addr : BitVec 24) (data : Word) (s : State) : Host.Outcome State Fault Refusal :=
  whenFunctional s fun s => gatedWrite (.box box) addr.toNat data s

/-- The value that DIAG_REG_READ gives: zero where the register's domain is off or the address reserved, and none of a read's
effects (R338). (DEDUCED: log entry 63) -/
def State.diagValue (s : State) (a : Nat) : Word := if (regRow a).isSome && s.regOn a then s.view a else 0

/-- DIAG_REG_READ (R338). (DEDUCED: log entry 44) -/
def execDiagRegRead (ref : CmdRef) (s : State) : Host.Outcome State Fault Refusal :=
  whenFunctional s fun s => withCmd ref 0x0A05 s fun ps s =>
    let count := leAt ps 0 1
    let addrs := (List.range count).map fun i => leAt ps (4 + 4 * i) 4
    if 1 ≤ count && count ≤ 64 && addrs.all (fun a => a < 2 ^ 24 && a % 4 == 0) then
      complete ref 0 (addrs.flatMap fun a => bvBytes (s.diagValue a)) s
    else finish ref 0x0104 s

end Sys2Proof.Machine
end

