-- ==== Sys2Proof/Machine/Dispatch.lean ====
section
/-!
DEFINITION. One arm for every command: a direct call of its meaning.
-/
namespace Sys2Proof.Machine

/-- The effect of a command on everything but the queue. -/
def exec (i : Instr) (s : State) : Host.Outcome State Fault Refusal :=
  match i with
  | .hostRequestPacket port cmd beats => Sys2Proof.Machine.execHostRequestPacket port cmd beats s
  | .hostRequestWake port => Sys2Proof.Machine.execHostRequestWake port s
  | .transactionIssue port => Sys2Proof.Machine.execTransactionIssue port s
  | .segmentAdmit port => Sys2Proof.Machine.execSegmentAdmit port s
  | .responsePacketOpen port => Sys2Proof.Machine.execResponsePacketOpen port s
  | .responseBeatTransfer port => Sys2Proof.Machine.execResponseBeatTransfer port s
  | .replySinkViolation port => Sys2Proof.Machine.execReplySinkViolation port s
  | .replySinkRecover port => Sys2Proof.Machine.execReplySinkRecover port s
  | .blockRequestIssue port => Sys2Proof.Machine.execBlockRequestIssue port s
  | .blockResponse port info beats poison => Sys2Proof.Machine.execBlockResponse port info beats poison s
  | .breqTimeout port btag => Sys2Proof.Machine.execBreqTimeout port btag s
  | .btagRelease port btag => Sys2Proof.Machine.execBtagRelease port btag s
  | .registerWrite addr data => Sys2Proof.Machine.execRegisterWrite addr data s
  | .eventClear addr data => Sys2Proof.Machine.execEventClear addr data s
  | .counterRead addr => Sys2Proof.Machine.execCounterRead addr s
  | .pairLoRead who addr => Sys2Proof.Machine.execPairLoRead who addr s
  | .pairLoWrite who addr data => Sys2Proof.Machine.execPairLoWrite who addr data s
  | .pairHiWrite who addr data => Sys2Proof.Machine.execPairHiWrite who addr data s
  | .boxRegisterWrite box addr data => Sys2Proof.Machine.execBoxRegisterWrite box addr data s
  | .aoClockLoss => Sys2Proof.Machine.execAoClockLoss s
  | .coldReset => Sys2Proof.Machine.execColdReset s
  | .coldResetRelease => Sys2Proof.Machine.execColdResetRelease s
  | .platReset => Sys2Proof.Machine.execPlatReset s
  | .platResetRelease => Sys2Proof.Machine.execPlatResetRelease s
  | .regReset => Sys2Proof.Machine.execRegReset s
  | .tapReset => Sys2Proof.Machine.execTapReset s
  | .tapInstruction load => Sys2Proof.Machine.execTapInstruction load s
  | .wrapperInstruction load => Sys2Proof.Machine.execWrapperInstruction load s
  | .pcmHostReqChange v => Sys2Proof.Machine.execPcmHostReqChange v s
  | .platClockCheck count => Sys2Proof.Machine.execPlatClockCheck count s
  | .lossOfSignal lane => Sys2Proof.Machine.execLossOfSignal lane s
  | .phaseTrackerLimit lane => Sys2Proof.Machine.execPhaseTrackerLimit lane s
  | .stuckLevels lane => Sys2Proof.Machine.execStuckLevels lane s
  | .substReq got => Sys2Proof.Machine.execSubstReq got s
  | .substAck got => Sys2Proof.Machine.execSubstAck got s
  | .retireReq got => Sys2Proof.Machine.execRetireReq got s
  | .retireAck got => Sys2Proof.Machine.execRetireAck got s
  | .widthReq got => Sys2Proof.Machine.execWidthReq got s
  | .widthAck got => Sys2Proof.Machine.execWidthAck got s
  | .widthCfm got => Sys2Proof.Machine.execWidthCfm got s
  | .seamNak got => Sys2Proof.Machine.execSeamNak got s
  | .ctrlResendTimeout => Sys2Proof.Machine.execCtrlResendTimeout s
  | .substSwitch dir slv => Sys2Proof.Machine.execSubstSwitch dir slv s
  | .retireSwitch slv => Sys2Proof.Machine.execRetireSwitch slv s
  | .widthGo data => Sys2Proof.Machine.execWidthGo data s
  | .widthGoDequeue => Sys2Proof.Machine.execWidthGoDequeue s
  | .addedSleevesReady => Sys2Proof.Machine.execAddedSleevesReady s
  | .widthLockTimeout => Sys2Proof.Machine.execWidthLockTimeout s
  | .widthSwitch dir => Sys2Proof.Machine.execWidthSwitch dir s
  | .crcWindowEnd => Sys2Proof.Machine.execCrcWindowEnd s
  | .sleeperLock => Sys2Proof.Machine.execSleeperLock s
  | .sleeperLoss => Sys2Proof.Machine.execSleeperLoss s
  | .sleeperLossTimeout => Sys2Proof.Machine.execSleeperLossTimeout s
  | .testEnable data => Sys2Proof.Machine.execTestEnable data s
  | .testDisable data => Sys2Proof.Machine.execTestDisable data s
  | .testAck msg => Sys2Proof.Machine.execTestAck msg s
  | .testReqTimeout => Sys2Proof.Machine.execTestReqTimeout s
  | .prbsLock got => Sys2Proof.Machine.execPrbsLock got s
  | .prbsLoss lane first second => Sys2Proof.Machine.execPrbsLoss lane first second s
  | .phaseTrackerShift lane offset => Sys2Proof.Machine.execPhaseTrackerShift lane offset s
  | .rollingPassStart slv => Sys2Proof.Machine.execRollingPassStart slv s
  | .histogramDone lane h => Sys2Proof.Machine.execHistogramDone lane h s
  | .populationTimeout lane => Sys2Proof.Machine.execPopulationTimeout lane s
  | .starvedRetry slv => Sys2Proof.Machine.execStarvedRetry slv s
  | .passLimitTimeout lane => Sys2Proof.Machine.execPassLimitTimeout lane s
  | .ffeSet msg => Sys2Proof.Machine.execFfeSet msg s
  | .ffeDone msg => Sys2Proof.Machine.execFfeDone msg s
  | .ffeApply lane => Sys2Proof.Machine.execFfeApply lane s
  | .tlrCtrlMeasure data => Sys2Proof.Machine.execTlrCtrlMeasure data s
  | .tlrCtrlCommit data => Sys2Proof.Machine.execTlrCtrlCommit data s
  | .snapFreeze data => Sys2Proof.Machine.execSnapFreeze data s
  | .snapRelease data => Sys2Proof.Machine.execSnapRelease data s
  | .snapRestore data => Sys2Proof.Machine.execSnapRestore data s
  | .snapshotRebuild => Sys2Proof.Machine.execSnapshotRebuild s
  | .trainingDone lanes => Sys2Proof.Machine.execTrainingDone lanes s
  | .restoreVerifyDone lanes => Sys2Proof.Machine.execRestoreVerifyDone lanes s
  | .retrainTailoringDone lanes => Sys2Proof.Machine.execRetrainTailoringDone lanes s
  | .flitSlotSend => Sys2Proof.Machine.execFlitSlotSend s
  | .dataFlitReceive slv line => Sys2Proof.Machine.execDataFlitReceive slv line s
  | .linkControlReceive slv line => Sys2Proof.Machine.execLinkControlReceive slv line s
  | .t6FlitReceive slv got => Sys2Proof.Machine.execT6FlitReceive slv got s
  | .replayTimer => Sys2Proof.Machine.execReplayTimer s
  | .ackTimer => Sys2Proof.Machine.execAckTimer s
  | .keepaliveTimer => Sys2Proof.Machine.execKeepaliveTimer s
  | .receiverReplayPeriod => Sys2Proof.Machine.execReceiverReplayPeriod s
  | .lnkCtrlRetrain data => Sys2Proof.Machine.execLnkCtrlRetrain data s
  | .sleeperLinkRetrain => Sys2Proof.Machine.execSleeperLinkRetrain s
  | .linkReady msg => Sys2Proof.Machine.execLinkReady msg s
  | .linkResume => Sys2Proof.Machine.execLinkResume s
  | .retrainTimeout => Sys2Proof.Machine.execRetrainTimeout s
  | .sleeperLinkDown msg => Sys2Proof.Machine.execSleeperLinkDown msg s
  | .graceRetrainTimer => Sys2Proof.Machine.execGraceRetrainTimer s
  | .graceExpiry => Sys2Proof.Machine.execGraceExpiry s
  | .flushNow data => Sys2Proof.Machine.execFlushNow data s
  | .lnkCtrlRestart data => Sys2Proof.Machine.execLnkCtrlRestart data s
  | .requestPacketReceive track hdr data flits => Sys2Proof.Machine.execRequestPacketReceive track hdr data flits s
  | .valiantForward => Sys2Proof.Machine.execValiantForward s
  | .replyReceive hdr data flits => Sys2Proof.Machine.execReplyReceive hdr data flits s
  | .manifestSweep => Sys2Proof.Machine.execManifestSweep s
  | .quarantineEnd tag => Sys2Proof.Machine.execQuarantineEnd tag s
  | .pathBoundary => Sys2Proof.Machine.execPathBoundary s
  | .syncSetStart => Sys2Proof.Machine.execSyncSetStart s
  | .timeReqSend => Sys2Proof.Machine.execTimeReqSend s
  | .timeResp msg => Sys2Proof.Machine.execTimeResp msg s
  | .timeExchangeTimeout => Sys2Proof.Machine.execTimeExchangeTimeout s
  | .syncSetEnd => Sys2Proof.Machine.execSyncSetEnd s
  | .rwtRelock data => Sys2Proof.Machine.execRwtRelock data s
  | .ttbLoadGo data => Sys2Proof.Machine.execTtbLoadGo data s
  | .ttbLoadFetchDone fetched image => Sys2Proof.Machine.execTtbLoadFetchDone fetched image s
  | .stationAck hdr data flits => Sys2Proof.Machine.execStationAck hdr data flits s
  | .stationAckTimeout => Sys2Proof.Machine.execStationAckTimeout s
  | .ttbCtrlStart data => Sys2Proof.Machine.execTtbCtrlStart data s
  | .ttbCtrlResume data => Sys2Proof.Machine.execTtbCtrlResume data s
  | .ttbCtrlHalt data => Sys2Proof.Machine.execTtbCtrlHalt data s
  | .ttbSwitchArm data => Sys2Proof.Machine.execTtbSwitchArm data s
  | .ttbSwitchCancel data => Sys2Proof.Machine.execTtbSwitchCancel data s
  | .fenceNotice msg => Sys2Proof.Machine.execFenceNotice msg s
  | .contrib hdr data flits => Sys2Proof.Machine.execContrib hdr data flits s
  | .ready hdr data flits => Sys2Proof.Machine.execReady hdr data flits s
  | .result hdr data flits => Sys2Proof.Machine.execResult hdr data flits s
  | .a2aData hdr data flits => Sys2Proof.Machine.execA2aData hdr data flits s
  | .mcastData hdr data flits => Sys2Proof.Machine.execMcastData hdr data flits s
  | .mcastDone hdr data flits => Sys2Proof.Machine.execMcastDone hdr data flits s
  | .abort hdr data flits => Sys2Proof.Machine.execAbort hdr data flits s
  | .mcastTimeout group => Sys2Proof.Machine.execMcastTimeout group s
  | .groupTimeout group => Sys2Proof.Machine.execGroupTimeout group s
  | .abortAll data => Sys2Proof.Machine.execAbortAll data s
  | .aspCtl msg => Sys2Proof.Machine.execAspCtl msg s
  | .aspCtlAck msg => Sys2Proof.Machine.execAspCtlAck msg s
  | .aspCtlTimeout group contrib => Sys2Proof.Machine.execAspCtlTimeout group contrib s
  | .fallbackComplete group => Sys2Proof.Machine.execFallbackComplete group s
  | .fallbackHoldExpiry group => Sys2Proof.Machine.execFallbackHoldExpiry group s
  | .bindingRelease => Sys2Proof.Machine.execBindingRelease s
  | .loadBeacon words => Sys2Proof.Machine.execLoadBeacon words s
  | .loadReportTimer => Sys2Proof.Machine.execLoadReportTimer s
  | .beaconStale tile num => Sys2Proof.Machine.execBeaconStale tile num s
  | .heatWindowEnd => Sys2Proof.Machine.execHeatWindowEnd s
  | .migBegin hdr data flits => Sys2Proof.Machine.execMigBegin hdr data flits s
  | .migDone hdr data flits => Sys2Proof.Machine.execMigDone hdr data flits s
  | .migAbort hdr data flits => Sys2Proof.Machine.execMigAbort hdr data flits s
  | .ringConsWrite n data => Sys2Proof.Machine.execRingConsWrite n data s
  | .mbxGo data => Sys2Proof.Machine.execMbxGo data s
  | .ringProdWrite data => Sys2Proof.Machine.execRingProdWrite data s
  | .ringBaseLoWrite data => Sys2Proof.Machine.execRingBaseLoWrite data s
  | .commandTake => Sys2Proof.Machine.execCommandTake s
  | .rplHdrRead => Sys2Proof.Machine.execRplHdrRead s
  | .rplAckWrite data => Sys2Proof.Machine.execRplAckWrite data s
  | .cplFifoRead => Sys2Proof.Machine.execCplFifoRead s
  | .vtxCmd hdr data flits => Sys2Proof.Machine.execVtxCmd hdr data flits s
  | .vtxReply hdr data flits => Sys2Proof.Machine.execVtxReply hdr data flits s
  | .managementPacketDiscard hdr data flits => Sys2Proof.Machine.execManagementPacketDiscard hdr data flits s
  | .forwardResend rtag => Sys2Proof.Machine.execForwardResend rtag s
  | .forwardTimeout rtag => Sys2Proof.Machine.execForwardTimeout rtag s
  | .linkStatusGet ref => Sys2Proof.Machine.execLinkStatusGet ref s
  | .widthSet ref => Sys2Proof.Machine.execWidthSet ref s
  | .linkRetrain ref => Sys2Proof.Machine.execLinkRetrain ref s
  | .linkFlush ref => Sys2Proof.Machine.execLinkFlush ref s
  | .linkRestart ref => Sys2Proof.Machine.execLinkRestart ref s
  | .linkModeSet ref => Sys2Proof.Machine.execLinkModeSet ref s
  | .tlrMeasure ref => Sys2Proof.Machine.execTlrMeasure ref s
  | .tlrFreeze ref => Sys2Proof.Machine.execTlrFreeze ref s
  | .tlrSnapRead ref => Sys2Proof.Machine.execTlrSnapRead ref s
  | .tlrRestore ref fetched image => Sys2Proof.Machine.execTlrRestore ref fetched image s
  | .ttbLoad ref => Sys2Proof.Machine.execTtbLoad ref s
  | .ttbStart ref => Sys2Proof.Machine.execTtbStart ref s
  | .ttbArm ref => Sys2Proof.Machine.execTtbArm ref s
  | .ttbCancel ref => Sys2Proof.Machine.execTtbCancel ref s
  | .ttbHalt ref => Sys2Proof.Machine.execTtbHalt ref s
  | .ttbStatusGet ref => Sys2Proof.Machine.execTtbStatusGet ref s
  | .jctGroupOpen ref => Sys2Proof.Machine.execJctGroupOpen ref s
  | .jctGroupWait ref => Sys2Proof.Machine.execJctGroupWait ref s
  | .jctGroupClose ref => Sys2Proof.Machine.execJctGroupClose ref s
  | .jctGroupAbort ref => Sys2Proof.Machine.execJctGroupAbort ref s
  | .jctStart ref => Sys2Proof.Machine.execJctStart ref s
  | .jctBranchSet ref => Sys2Proof.Machine.execJctBranchSet ref s
  | .aspGroupOpen ref => Sys2Proof.Machine.execAspGroupOpen ref s
  | .aspGroupClose ref => Sys2Proof.Machine.execAspGroupClose ref s
  | .aspRecalibrate ref => Sys2Proof.Machine.execAspRecalibrate ref s
  | .aspFallback ref => Sys2Proof.Machine.execAspFallback ref s
  | .aspGroupWait ref => Sys2Proof.Machine.execAspGroupWait ref s
  | .mshDirSet ref => Sys2Proof.Machine.execMshDirSet ref s
  | .mshDirDelete ref => Sys2Proof.Machine.execMshDirDelete ref s
  | .mshDirGet ref => Sys2Proof.Machine.execMshDirGet ref s
  | .mshPoolSet ref => Sys2Proof.Machine.execMshPoolSet ref s
  | .mshRingSet ref => Sys2Proof.Machine.execMshRingSet ref s
  | .mshBindStage ref => Sys2Proof.Machine.execMshBindStage ref s
  | .mshBindCommit ref => Sys2Proof.Machine.execMshBindCommit ref s
  | .mshBindCancel ref => Sys2Proof.Machine.execMshBindCancel ref s
  | .mshBindGet ref => Sys2Proof.Machine.execMshBindGet ref s
  | .mshMigrate ref => Sys2Proof.Machine.execMshMigrate ref s
  | .pcmStateGet ref => Sys2Proof.Machine.execPcmStateGet ref s
  | .pcmPolicySet ref => Sys2Proof.Machine.execPcmPolicySet ref s
  | .pcmWake ref => Sys2Proof.Machine.execPcmWake ref s
  | .pcmSleep ref => Sys2Proof.Machine.execPcmSleep ref s
  | .spdmExchange ref => Sys2Proof.Machine.execSpdmExchange ref s
  | .idnKeyGet ref => Sys2Proof.Machine.execIdnKeyGet ref s
  | .idnChainSet ref fetched chain => Sys2Proof.Machine.execIdnChainSet ref fetched chain s
  | .sbxStatusGet ref => Sys2Proof.Machine.execSbxStatusGet ref s
  | .sbxFailover ref => Sys2Proof.Machine.execSbxFailover ref s
  | .sbxFwStage ref => Sys2Proof.Machine.execSbxFwStage ref s
  | .vtxInfo ref => Sys2Proof.Machine.execVtxInfo ref s
  | .vtxForward ref => Sys2Proof.Machine.execVtxForward ref s
  | .diagTestStart ref => Sys2Proof.Machine.execDiagTestStart ref s
  | .diagTestRead ref => Sys2Proof.Machine.execDiagTestRead ref s
  | .diagTestStop ref => Sys2Proof.Machine.execDiagTestStop ref s
  | .diagFaultRead ref => Sys2Proof.Machine.execDiagFaultRead ref s
  | .diagRegRead ref => Sys2Proof.Machine.execDiagRegRead ref s
  | .generationCommit => Sys2Proof.Machine.execGenerationCommit s
  | .heartbeatTimeout => Sys2Proof.Machine.execHeartbeatTimeout s
  | .activeBoxFault cause => Sys2Proof.Machine.execActiveBoxFault cause s
  | .takeoverDone => Sys2Proof.Machine.execTakeoverDone s
  | .healthReport report => Sys2Proof.Machine.execHealthReport report s
  | .selfTestPass ok => Sys2Proof.Machine.execSelfTestPass ok s
  | .boxLinkLoss => Sys2Proof.Machine.execBoxLinkLoss s
  | .boxLinkRetry works => Sys2Proof.Machine.execBoxLinkRetry works s
  | .resyncDone => Sys2Proof.Machine.execResyncDone s
  | .tokenFault => Sys2Proof.Machine.execTokenFault s
  | .boxTieResp msg => Sys2Proof.Machine.execBoxTieResp msg s
  | .boxTieResend => Sys2Proof.Machine.execBoxTieResend s
  | .tieSettlement => Sys2Proof.Machine.execTieSettlement s
  | .takebackHoldoff => Sys2Proof.Machine.execTakebackHoldoff s
  | .quiescentPoint => Sys2Proof.Machine.execQuiescentPoint s
  | .takebackWaitTimeout => Sys2Proof.Machine.execTakebackWaitTimeout s
  | .takebackRetry => Sys2Proof.Machine.execTakebackRetry s
  | .sbxCtrlFailover data => Sys2Proof.Machine.execSbxCtrlFailover data s
  | .imageLoadDone box fetched image => Sys2Proof.Machine.execImageLoadDone box fetched image s
  | .startupSelfTestDone box ok => Sys2Proof.Machine.execStartupSelfTestDone box ok s
  | .fwAddrHiWrite data => Sys2Proof.Machine.execFwAddrHiWrite data s
  | .policyWindowEnd => Sys2Proof.Machine.execPolicyWindowEnd s
  | .useHigh => Sys2Proof.Machine.execUseHigh s
  | .sleeperIdleTimeout => Sys2Proof.Machine.execSleeperIdleTimeout s
  | .sleeperPreferredIdle => Sys2Proof.Machine.execSleeperPreferredIdle s
  | .retainEntry => Sys2Proof.Machine.execRetainEntry s
  | .sleepStepDone => Sys2Proof.Machine.execSleepStepDone s
  | .pcmCtrlSleep data => Sys2Proof.Machine.execPcmCtrlSleep data s
  | .pcmCtrlWake data => Sys2Proof.Machine.execPcmCtrlWake data s
  | .stationWake => Sys2Proof.Machine.execStationWake s
  | .wakeAt => Sys2Proof.Machine.execWakeAt s
  | .wakeAck => Sys2Proof.Machine.execWakeAck s
  | .wakeReady msg => Sys2Proof.Machine.execWakeReady msg s
  | .wakeDone => Sys2Proof.Machine.execWakeDone s
  | .powerGoodTimeout domain => Sys2Proof.Machine.execPowerGoodTimeout domain s
  | .brownoutWarn msg => Sys2Proof.Machine.execBrownoutWarn msg s
  | .brownoutEnd msg => Sys2Proof.Machine.execBrownoutEnd msg s
  | .derive data => Sys2Proof.Machine.execDerive data s
  | .deriveDone => Sys2Proof.Machine.execDeriveDone s
  | .enroll data => Sys2Proof.Machine.execEnroll data s
  | .enrollDone => Sys2Proof.Machine.execEnrollDone s
  | .authkeyLock data => Sys2Proof.Machine.execAuthkeyLock data s
  | .spdmMessage words => Sys2Proof.Machine.execSpdmMessage words s
  | .spdmSignDone => Sys2Proof.Machine.execSpdmSignDone s
  | .negAgree msg => Sys2Proof.Machine.execNegAgree msg s
  | .negOfferTimeout => Sys2Proof.Machine.execNegOfferTimeout s
  | .trainStart msg => Sys2Proof.Machine.execTrainStart msg s
  | .trainDone msg => Sys2Proof.Machine.execTrainDone msg s
  | .trainMsgTimeout => Sys2Proof.Machine.execTrainMsgTimeout s
  | .sleeperMessageDiscard blocks => Sys2Proof.Machine.execSleeperMessageDiscard blocks s
  | .faultLogIntake => Sys2Proof.Machine.execFaultLogIntake s
  | .fltRdWrite data => Sys2Proof.Machine.execFltRdWrite data s
  | .aoClockReturn => Sys2Proof.Machine.execAoClockReturn s
  | .forwardedClockFail slv => Sys2Proof.Machine.execForwardedClockFail slv s

end Sys2Proof.Machine
end

