-- ==== Sys2Proof/Machine/Tick.lean ====
section
/-!
DEFINITION. What a tick of the 1 GHz railway clock does with no command waiting (R196, R201, R218, R249, R285, R419).
-/
namespace Sys2Proof.Machine

/-- One tick of the counts (R196): railway time advances unless a step of the lock rules holds it, and the AO clock has a cycle
every ten ticks. (DESIGN CHOICE: log entry 6) -/
def tickTime (s : State) : State :=
  let r := s.rwt
  { s with
    rwt := { r with now := if r.hold = 0 then r.now + 1 else r.now, hold := r.hold - 1, sub := (r.sub + 1) % 10 }
    aoCycles := s.aoCycles + (r.sub + 1) / 10 }

/-- A tick while no command waits: the counts run out of AO reset; deadlines that have passed are checked and a release point that
has come takes effect, in functional operation. (DESIGN CHOICE: log entry 6) -/
def tick (s : State) : State :=
  if !s.up then s
  else
    let s := tickTime s
    settle (if s.functional then releaseIfDue (if s.ttb.st == .running then closeDue s else s) else s)

end Sys2Proof.Machine
end

