-- ==== Sys2Proof/Safety.lean ====
section
/-!
DEFINITION. The words that claims use: what it is that a command runs to its effect, what a cause is that has been raised, what a
frame is, and the block in service.
-/
namespace Sys2Proof.Machine

/-- The command answers a next state, of which `P` holds. -/
def Runs (c : Instr) (s : State) (P : State → Prop) : Prop := ∃ t, exec c s = .next t ∧ P t

/-- The flag of a cause is set in its event register. -/
def Raised (c : Cause) (t : State) : Prop := (t.reg c.evt).getLsbD c.bitNo = true

/-- A safe run of one step: the block goes on, with neither a fault nor a refusal. -/
def Safe (s : State) : Prop := ∃ t, step s = .next t

/-- The parts of the state, for frames. -/
inductive Part where
  | par | pins | outs | out | aoCycles | free | tap | wrapped | access | regs | latches | holders | flt | slp | seam | tlr | lnk | ports
  | mnf | rwt | ttb | jct | asp | msh | vtx | sbx | pcm | idn | boot
deriving DecidableEq, Repr

/-- A part of one state is the same in another. -/
def Part.same (p : Part) (s t : State) : Prop :=
  match p with
  | .par => t.par = s.par
  | .pins => t.pins = s.pins
  | .outs => t.outs = s.outs
  | .out => t.out = s.out
  | .aoCycles => t.aoCycles = s.aoCycles
  | .free => t.free = s.free
  | .tap => t.tap = s.tap
  | .wrapped => t.wrapped = s.wrapped
  | .access => t.access = s.access
  | .regs => t.regs = s.regs
  | .latches => t.latches = s.latches
  | .holders => t.holders = s.holders
  | .flt => t.flt = s.flt
  | .slp => t.slp = s.slp
  | .seam => t.seam = s.seam
  | .tlr => t.tlr = s.tlr
  | .lnk => t.lnk = s.lnk
  | .ports => t.ports = s.ports
  | .mnf => t.mnf = s.mnf
  | .rwt => t.rwt = s.rwt
  | .ttb => t.ttb = s.ttb
  | .jct => t.jct = s.jct
  | .asp => t.asp = s.asp
  | .msh => t.msh = s.msh
  | .vtx => t.vtx = s.vtx
  | .sbx => t.sbx = s.sbx
  | .pcm => t.pcm = s.pcm
  | .idn => t.idn = s.idn
  | .boot => t.boot = s.boot

/-- Nothing but the parts listed changes. The parts that the end of every meaning writes (what the block sends and the outputs
that follow from the state) are listed like any other. -/
def OnlyChanges (ps : List Part) (s t : State) : Prop := ∀ p : Part, p ∉ ps → p.same s t

/-- No register but those listed changes. -/
def RegsBut (as : List Nat) (s t : State) : Prop := ∀ a, a ∉ as → t.reg a = s.reg a

/-- A write of the register at `a` has no effect of its own. -/
def PlainAddr (a : Nat) : Prop := ∀ who data s, writeLow a data s = none ∧ writeHigh who a data s = none

/-- What a requester's holder of a pair holds (R437). -/
def State.held (s : State) (who : Requester) (lo : Nat) : Option Word :=
  (s.holders.find? fun x => x.1 == who && x.2.1 == lo).map (·.2.2)

/-- The two registers of a cause: its event register and its counter. -/
def Cause.regs (c : Cause) : List Nat := [c.evt, c.cnt]

/-- The outputs are those that the state gives, and no message waits at the Sleeper transmitter (R33, R51, R406). -/
def Settled (s : State) : Prop := s.outs = outsOf s ∧ s.slp.queue = []

/-- The block is in Sleeper mode and a wake can begin now (R99, R371, R385). -/
def WakesNow (s : State) : Prop :=
  s.functional = true ∧ s.asleep = true ∧ s.slp.lock = true ∧ s.pcm.brown = false ∧ s.pcm.wakeHeld = false

/-- The wake that a trigger starts (R372, R373). -/
def Waking (cause : BitVec 4) (s t : State) : Prop :=
  t.pcm.st = .waking ∧ t.pcm.wakeCause = cause ∧ t.pcm.wakeHeld = false ∧ t.pcm.wakeTarget = s.permitted ∧
    t.seam.powered = s.permitted

/-- The power manager may take the block to width 0 now (R25, R92, R98, R370). -/
def SleepsNow (s : State) : Prop :=
  s.platLive = true ∧ s.awakeFree = true ∧ s.pcm.brown = false ∧ s.slp.lock = true ∧ s.pins.hostReq ≠ 1 ∧
    s.reservedSoon &&& s.seam.usable = 0 ∧ s.seam.usable ≠ 0

/-- The sleep that has begun: the manager takes the seam to width 0 (R370). -/
def Falling (t : State) : Prop := t.pcm.st = .sleeping ∧ (t.seam.width.map fun w => (w.mine, w.target)) = some (true, 0)

/-- Nothing waits in the manifest for room, and no migration runs: a command of the ports acts alone. -/
def Quiet (s : State) : Prop := s.mnf.ready = [] ∧ s.mnf.waiting = [] ∧ s.msh.mig.st = .idle

/-- A slot comes on a sleeve that the block takes flits of a KIND from, and brings a good one with a payload (R73, R87, R135, R137). -/
def Brings (kind : Nat) (slv : SleeveNo) (line : BitVec 2304) (p : BitVec 1920) (s : State) : Prop :=
  s.functional = true ∧ s.seam.usable.getLsbD slv.toNat = true ∧ s.granted slv = false ∧ bits (s.slotOf slv line) 0 64 ≠ 0#64 ∧
    kindOf (s.slotOf slv line) = kind ∧ crcOk (s.slotOf slv line) = true ∧ payloadOf (s.slotOf slv line) = p

/-- A slot `f` that is no filler comes on a sleeve that the block takes flits from (R73, R87, R135). -/
def Comes (slv : SleeveNo) (line : BitVec 2304) (f : BitVec 2048) (s : State) : Prop :=
  s.functional = true ∧ s.seam.usable.getLsbD slv.toNat = true ∧ s.granted slv = false ∧ s.slotOf slv line = f ∧ bits f 0 64 ≠ 0#64

/-- A seam control flit comes while the seam carries them, no copy of one of its slot, with the fields `c` of a payload `p`
(R79 to R82). -/
def Ctl (slv : SleeveNo) (line : BitVec 2304) (p : BitVec 1920) (c : SeamCtl) (s : State) : Prop :=
  Brings 4 slv line p s ∧ s.talks = true ∧ s.seam.ctlSeen ≠ some (s.seam.dnSlot, p) ∧ SeamCtl.ofBits p = c

/-- A NAK's payload (R81). -/
def nakFlit (xid reason : Byte) : BitVec 1920 := ctlFlit 0x08 xid 0 0 0 0 reason 0

/-- The seam, with a control flit of the current slot noted (R80). -/
def State.seenCtl (s : State) (p : BitVec 1920) : Seam := { s.seam with ctlSeen := some (s.seam.dnSlot, p) }

/-- The phase tracker's lane samples by these values: the shadow ones while a pass runs on it live (R105, R114). -/
def State.inUse (s : State) (n : LaneNo) : BitVec 128 :=
  if ((s.passOn n).map s.live).getD false then (s.rx n).shd else (s.rx n).act

/-- A T5 packet of an operation that no check of R167 and R244 discards. -/
def GoodT5 (op : Byte) (hdr : BitVec 256) (data : List Byte) (flits : Nat) (s : State) : Prop :=
  (JHdr.ofBits hdr).op = op ∧ t5Data (JHdr.ofBits hdr) = some data.length ∧ (JHdr.ofBits hdr).rsv = 0 ∧
    flits = flitsOf (32 + data.length) ∧ data.length ≤ 4096 ∧ ((JHdr.ofBits hdr).dest = s.own ∨ op = 0x44)

/-- A T0 packet of an operation that no check of R324 discards. -/
def GoodT0 (op : Byte) (hdr : BitVec 128) (data : List Byte) (flits : Nat) (s : State) : Prop :=
  (MHdr.ofBits hdr).op = op ∧ s.mgmtBad (MHdr.ofBits hdr) data.length flits = false

/-- A junction group is open and takes what its member `m`, at the packet's place, sends (R243). -/
def Takes (h : JHdr) (g : JGroup) (m : Member) (s : State) : Prop :=
  s.group h.group = some g ∧ g.live = true ∧ s.flag F.JCT_CTRL.EN = true ∧ g.members[h.member.toNat]? = some m ∧ m.phys = h.src

/-! ## Vetex commands -/

/-- A command has been taken, it does not wait, and nothing of its group is before it (R311, R315): `p` are its parameters without the
authorisation block (R400). -/
def Taken (ref : CmdRef) (op : Nat) (p : List Byte) (s : State) : Prop :=
  s.functional = true ∧ s.sbx.ready = true ∧ (∀ w ∈ s.vtx.waits, w.1 ≠ ref) ∧
    ∃ c n, s.running ref = some c ∧ s.orderOf ref = some n ∧ cmdOpcode c = op ∧ s.behind (op / 256) n = false ∧
      p = (if (cmdFlags c).getLsbD 1 then (cmdParams c).take ((cmdParams c).length - 128) else cmdParams c)

/-- A command has been taken and the step that its opcode needs has been passed (R415). -/
def Starts (ref : CmdRef) (op : Nat) (p : List Byte) (s : State) : Prop := Taken ref op p s ∧ s.stepPassed op = true

/-- The command has completed with a status and reply data, unread yet where it was a local one (R317, R326). -/
def Ended (ref : CmdRef) (status : BitVec 16) (data : List Byte) (t : State) : Prop :=
  match ref with
  | .tag g => ∃ x, t.slot g = some x ∧ x.st = .unread ∧ x.status = status ∧ x.data = data
  | .context n => ∃ x, t.ctx n = some x ∧ x.running = false ∧ x.status = status ∧ x.data = data

/-- The command goes on, waiting for an event (R315). -/
def Waits (ref : CmdRef) (w : Wait) (s t : State) : Prop := (ref, w) ∈ t.vtx.waits ∧ t.running ref = s.running ref

/-- What the completion of a command writes by itself: its slot or context and the journal, the causes that it raises, and the
outbound queue that takes a VTX_REPLY. -/
def replyParts : List Part := [.vtx, .sbx, .lnk, .regs, .flt, .outs, .slp]

/-- The registers that the completion of a command writes. -/
def replyRegs : List Nat :=
  C.SBX_VTX.CMD_DONE.regs ++ C.SBX_VTX.CPL_OVERFLOW.regs ++ C.SBX_VTX.REMOTE_DROP.regs ++ C.SBX_VTX.AUTH_FAIL.regs

/-- The command completes with a status and data, and nothing else changes but the parts and registers listed. -/
def Answers (ref : CmdRef) (status : BitVec 16) (data : List Byte) (ps : List Part) (as : List Nat) (s t : State) : Prop :=
  Ended ref status data t ∧ OnlyChanges (replyParts ++ ps) s t ∧ RegsBut (replyRegs ++ as) s t

/-- A local command can be taken into the slot of its tag (R317, R318). -/
def Fits (c : List Byte) (s : State) : Prop :=
  (s.slot (cmdTag c) = none ∧ s.vtx.slots.length < 128) ∨ ∃ x, s.slot (cmdTag c) = some x ∧ x.st ≠ .running

/-! ## Signal boxes -/

/-- A failure of the active box can be served by the box that stands by (R350). -/
def Backed (s : State) : Prop :=
  s.functional = true ∧ s.sbx.held = true ∧ s.sbx.tie = false ∧ (s.box s.sbx.holder).st = .active ∧
    (s.box (mate s.sbx.holder)).st = .standby ∧ s.flag F.SBX_CTRL.AUTO_FAILOVER = true

/-- The fail-over that has begun: the token has moved, and the new active box has the mirrored state of the last committed generation
(R346, R350). -/
def FailsOver (cause : BitVec 4) (s t : State) : Prop :=
  t.sbx.holder = mate s.sbx.holder ∧ (t.box (mate s.sbx.holder)).st = .active ∧ (t.box s.sbx.holder).st = .failed ∧
    t.sbx.ready = false ∧ t.sbx.takeover = some (cause, s.sbx.holder, false) ∧ t.vtx.slots = s.sbx.journal.slots ∧
    t.vtx.ctxs = s.sbx.journal.ctxs ∧ t.vtx.cpl = s.sbx.journal.cpl

/-- Start-up holds at a step with a fail code (R416). -/
def Holds (code : BitVec 4) (s t : State) : Prop := t.boot.step = 0xF ∧ t.boot.fail = code ∧ t.boot.heldAt = s.boot.step

end Sys2Proof.Machine
end

