-- ==== Sys2Proof/Certificates/Slice0/Obligations.lean ====
section
/-!
DEFINITION. The statements for the provers.
-/
open Sys2Proof Sys2Proof.Machine

/-! ## The machine as a whole -/

/-- A step with a command at the front of the queue is that command, run with the queue's rest. -/
def Obligations.StepRunsFrontCommand : Prop :=
  ∀ (s : State) (c : Instr) (rest : List Instr), s.pending = c :: rest → step s = exec c { s with pending := rest }

/-- A step on an empty queue is one tick of the railway clock, the model's own choice (log entry 6): out of AO reset the AO clock
has a cycle every ten ticks and railway time advances by one unless a step of the lock rules holds it (R196); in AO reset nothing
changes. -/
def Obligations.EmptyQueueTicks : Prop :=
  ∀ s : State, s.pending = [] →
    (s.up = false → step s = .next s) ∧
    (s.up = true → (tickTime s).aoCycles = s.aoCycles + (s.rwt.sub + 1) / 10 ∧ (tickTime s).rwt.sub = (s.rwt.sub + 1) % 10 ∧
      (tickTime s).rwt.now = (if s.rwt.hold = 0 then s.rwt.now + 1 else s.rwt.now) ∧
      OnlyChanges [.rwt, .aoCycles] s (tickTime s) ∧
      (s.wrapped = true → step s = .next (settle (tickTime s))) ∧
      (s.wrapped = false → s.ttb.st ≠ .running → s.msh.release = none → step s = .next (settle (tickTime s))))

/-- The outputs follow from the state, and no message waits at the Sleeper transmitter, after every step from a state of which
that holds: the three interrupt lines are the enabled causes of their classes, pcm_state_o and pcm_ports_ready_o are as the block
is (R51, R58, R406). -/
def Obligations.EveryStepSettles : Prop :=
  ∀ s t : State, Settled s → step s = .next t → Settled t

/-- The state at reset is settled. -/
def Obligations.ResetIsSettled : Prop := Settled State.reset ∧ State.reset.up = false

/-- In AO reset nothing has an effect but the release and the assertion of the resets, the AO clock's loss and return, the reset of
the platform and the TAP (R52, R382). -/
def Obligations.AoResetHoldsTheBlock : Prop :=
  ∀ (c : Instr) (s t : State), s.up = false → exec c s = .next t →
    t = s ∨ c = .coldReset ∨ c = .coldResetRelease ∨ c = .aoClockLoss ∨ c = .aoClockReturn ∨ c = .platReset ∨
      c = .platResetRelease ∨ c = .tapReset ∨ (∃ ir tdi, c = .tapInstruction ⟨ir, tdi⟩) ∨ (∃ v, c = .pcmHostReqChange v)

/-- Out of functional operation the block does not return to service: whatever comes but a cold reset or a loss of the AO clock,
it stays out, and pcm_state_o stays at 0b000 (R63). -/
def Obligations.WrapperHoldsTheBlock : Prop :=
  ∀ (c : Instr) (s t : State), s.wrapped = true → Settled s → exec c s = .next t → c ≠ .coldReset → c ≠ .aoClockLoss →
    t.wrapped = true ∧ t.outs.pcmState = 0#3

/-- No command is refused, and a fault names a lane that the block has not (R64, R102). -/
def Obligations.EveryCommandIsModelled : Prop :=
  ∀ (c : Instr) (s : State),
    (∃ t, exec c s = .next t) ∨ (c.wellFormed = false ∧
      ((∃ n, exec c s = .fault (.noSuchLane n) ∧ 72 ≤ n.toNat) ∨ (∃ n, exec c s = .fault (.noSuchTestLane n) ∧ 8 < n.toNat)))

/-! ## Resets, test access, power -/

/-- A cold reset frees every reply slot and every remote context, empties SBX_CPL_FIFO and sets both ring counters to zero
(R320). -/
def Obligations.ColdResetEmptiesVetex : Prop :=
  ∀ s : State, Runs .coldReset s fun t =>
    t.vtx.slots = [] ∧ t.vtx.ctxs = [] ∧ t.vtx.cpl = [] ∧ t.vtx.prod = 0 ∧ t.vtx.cons = 0 ∧
      t.view R.SBX_RING_PROD = 0 ∧ t.view R.SBX_RING_CONS = 0 ∧ t.view R.SBX_CPL_FIFO = 0

/-- COLD_RESET and AO_CLOCK_LOSS leave nothing but the parameters, the levels at the pins, what has been sent, the commands that
wait and the model's count of draws; every register reads its reset value (R52, R382). COLD_RESET_RELEASE with the AO clock present,
and AO_CLOCK_RETURN with ao_rst_n_i at 1, begin AO_UP with the Sleeper transmitter running (R412); PCM_RST_CAUSE tells the two apart
(R387). -/
def Obligations.ColdResetsAndStarts : Prop :=
  (∀ s : State, Runs .coldReset s fun t =>
    t.pins.aoRstN = false ∧ t.pins.aoClk = s.pins.aoClk ∧ t.par = s.par ∧ t.out = s.out ∧ t.pending = s.pending ∧
      t.free = s.free ∧ t.wrapped = false ∧ (∀ a, t.reg a = regReset s.par a) ∧ t.flt = Flt.reset ∧ t.seam = Seam.reset ∧
      t.tlr = Tlr.reset ∧ t.lnk = Lnk.reset ∧ t.mnf = Mnf.reset ∧ t.rwt = Rwt.reset ∧ t.ttb = Ttb.reset ∧ t.jct = Jct.reset ∧
      t.asp = Asp.reset ∧ t.msh = Msh.reset ∧ t.vtx = Vtx.reset ∧ t.sbx = Sbx.reset ∧ t.pcm = Pcm.reset ∧ t.idn = Idn.reset ∧
      t.boot = Boot.reset ∧ t.tap = .idcode ∧ t.outs.aoRefClk = s.pins.aoClk) ∧
  (∀ s : State, s.pins.aoClk = true → Runs .aoClockLoss s fun t =>
    t.pins.aoClk = false ∧ t.outs.aoClkOk = false ∧ t.outs.aoRefClk = false ∧ t.pins.aoRstN = s.pins.aoRstN ∧ (∀ a, t.reg a = regReset s.par a) ∧
      t.boot = Boot.reset ∧ t.idn = Idn.reset ∧ t.rwt = Rwt.reset) ∧
  (∀ s : State, s.pins.aoRstN = false → s.pins.aoClk = true → Settled s → Runs .coldResetRelease s fun t =>
    t.up = true ∧ t.boot.step = 1 ∧ t.slp.txActive = true ∧ OnlyChanges [.pins, .boot, .slp, .outs] s t) ∧
  (∀ s : State, s.pins.aoRstN = true → s.pins.aoClk = false → Settled s → Runs .aoClockReturn s fun t =>
    t.up = true ∧ t.outs.aoClkOk = true ∧ t.outs.aoRefClk = true ∧ t.boot.step = 1 ∧ t.slp.txActive = true ∧ t.flag F.PCM_RST_CAUSE.AO_CLK_LOSS = true ∧
      t.flag F.PCM_RST_CAUSE.COLD = false ∧ OnlyChanges [.pins, .regs, .boot, .slp, .outs] s t ∧ RegsBut [R.PCM_RST_CAUSE] s t)

/-- REG_RESET acts on the register port alone (R382): its answer is withdrawn (the levels of reg_rdata_o and reg_err_o are the model's
choice, log entry 7), its holders and latches are empty and those of the boxes stay (R437), PCM_RST_CAUSE.REG is set.
TAP_RESET and TAP_INSTRUCTION act on the test access alone; with the wrapper's port on pins WSP_SELECT acts as BYPASS (R62). A scan
under BYPASS comes out one bit late, and one under IDCODE begins with GBL_IDCODE, least significant bit first (the model's reading of
IEEE 1149.1, log entry 9). WRAPPER_INSTRUCTION comes by the serial port that QLA_WSP_SOURCE names (R62), and any instruction but
WS_BYPASS takes the block out of functional operation (R63). -/
def Obligations.PortAndTestResets : Prop :=
  (∀ s : State, s.up = true → Settled s → Runs .regReset s fun t =>
    t.outs.regAck = false ∧ t.latches = s.latches.filter (fun x => x.1 != .port) ∧
      t.holders = s.holders.filter (fun x => x.1 != .port) ∧ t.flag F.PCM_RST_CAUSE.REG = true ∧
      OnlyChanges [.regs, .latches, .holders, .outs, .slp] s t ∧ RegsBut [R.PCM_RST_CAUSE] s t) ∧
  (∀ s : State, Runs .tapReset s fun t => t.tap = .idcode ∧ OnlyChanges [.tap] s t) ∧
  (∀ (ir : TapInstr) (tdi : List Bool) (s : State), Runs (.tapInstruction ⟨ir, tdi⟩) s fun t =>
    t.tap = (if ir = .wspSelect ∧ s.par.wsp = .pins then .bypass else ir) ∧ t.access.tdo.length = tdi.length ∧
      (t.tap = .bypass → t.access.tdo = (false :: tdi).take tdi.length) ∧
      (t.tap = .idcode → t.access.tdo = (bitList (regReset s.par R.GBL_IDCODE) ++ tdi).take tdi.length) ∧
      (t.tap ≠ .wspSelect → t.access.wir = s.access.wir ∧ t.access.wby = s.access.wby ∧ t.access.wbr = s.access.wbr) ∧
      OnlyChanges [.tap, .access, .free] s t) ∧
  (∀ (via : WspSource) (wir : WrapInstr) (wsi : List Bool) (s : State), s.up = true → Settled s →
    Runs (.wrapperInstruction ⟨via, wir, wsi⟩) s fun t =>
      (s.wspVia via = false → t = s) ∧
      (s.wspVia via = true → t.access.wir = wir ∧ t.access.tdo.length = wsi.length ∧
        (wir = .wsBypass → t.wrapped = s.wrapped ∧ t.access.tdo = (s.access.wby :: wsi).take wsi.length) ∧
        (wir ≠ .wsBypass → t.functional = false ∧ t.outs.pcmState = 0#3)) ∧
      OnlyChanges [.wrapped, .access, .free, .outs, .slp] s t)

/-- PLAT_RESET in service declares the link down, ends the seam, the manifest and the timetable, and raises PLAT_RESET; the banks
stay loaded (R383). PLAT_RESET_RELEASE runs start-up again from negotiation (R383, R414). -/
def Obligations.PlatformReset : Prop :=
  (∀ s : State, s.functional = true → s.pins.platRstN = true → s.lnk.st = .up → Runs .platReset s fun t =>
    t.pins.platRstN = false ∧ t.seam.usable = 0 ∧ t.lnk.st = .notUp ∧ t.lnk.siding = [] ∧ t.lnk.pool = [] ∧ t.mnf.entries = [] ∧
      t.jct.groups = [] ∧ t.asp.dests = [] ∧ (s.ttb.load = none → t.ttb.banks = s.ttb.banks) ∧ Raised C.PCM.PLAT_RESET t ∧ Raised C.LNK.LINK_DOWN t ∧ t.outs.portsReady = false ∧
      (s.ttb.st = .running → t.ttb.st = .stopped ∧ t.ttb.haltReason = 8 ∧ Raised C.TTB.STOPPED t)) ∧
  (∀ s : State, s.functional = true → s.pins.platRstN = false → s.boot.step = 9 → Runs .platResetRelease s fun t =>
    t.pins.platRstN = true ∧ t.boot.step = 6 ∧ t.boot.again = true ∧ t.boot.offers = 1)

/-- Every trigger of R372 wakes the block from Sleeper mode, each under its own code: a host request, a change of pcm_host_req_i to
hold awake, PCM_CTRL.WAKE, the station's WAKE, a reservation that enters the window of 64 paths, WAKE_AT and a load. -/
def Obligations.WakeTriggers : Prop :=
  (∀ (port : PortId) (s : State), WakesNow s → s.hasPort port = true → Runs (.hostRequestWake port) s fun t =>
    Waking 1 s t ∧ (t.port port).waiting = true) ∧
  (∀ s : State, WakesNow s → s.pins.hostReq ≠ 1 → Runs (.pcmHostReqChange 1) s fun t => Waking 2 s t ∧ t.pins.hostReq = 1) ∧
  (∀ (data : Word) (s : State), WakesNow s → bit data 4 = true → bit data 5 = false → Runs (.pcmCtrlWake data) s fun t =>
    Waking 3 s t ∧ t.flag F.PCM_CTRL.WAKE = true ∧ t.outs.regAck = true ∧ t.outs.regErr = false) ∧
  (∀ s : State, WakesNow s → Runs .stationWake s fun t => Waking 4 s t) ∧
  (∀ s : State, s.platLive = true → WakesNow (pathBoundary s) →
    (pathBoundary s).reservedSoon &&& (pathBoundary s).permitted &&& ~~~(pathBoundary s).seam.usable ≠ 0 →
    Runs .pathBoundary s fun t => Waking 5 (pathBoundary s) t) ∧
  (∀ s : State, WakesNow s → s.flag F.PCM_CTRL.WAKE_AT_EN = true → Runs .wakeAt s fun t =>
    Waking 6 s t ∧ (s.pair R.PCM_WAKE_AT_LO).toNat ≤ t.now) ∧
  (∀ s u : State, s.platLive = true → s.sbx.ready = true → s.effPolicy ≠ 1 → s.loadHigh = some u → WakesNow u →
    Runs .useHigh s fun t => Waking 7 u t) ∧
  (∀ (v : BitVec 2) (s : State), s.functional = true → Settled s → v ≠ 1 → Runs (.pcmHostReqChange v) s fun t =>
    t.pins.hostReq = v ∧ OnlyChanges [.pins, .outs, .slp] s t)

/-- A wake goes on with the station's WAKE_ACK and WAKE_READY, and WAKE_DONE admits the lowest sleeve of the wake's mask at the slots
named: with no other sleeve the block is awake, with WOKE; the others are added by an exchange under R94, and its end completes the
wake (R96, R373, R374). -/
def Obligations.WakeCompletes : Prop :=
  (∀ s : State, s.functional = true → s.slp.lock = true → s.pcm.st = .waking → Settled s → Runs .wakeAck s fun t =>
    t.pcm = { s.pcm with wakeAcked := true } ∧ OnlyChanges [.pcm, .outs, .slp] s t) ∧
  (∀ (msg : BitVec 64) (s : State), s.functional = true → s.slp.lock = true → s.pcm.st = .waking → Settled s →
    Runs (.wakeReady msg) s fun t =>
      t.pcm = { s.pcm with wakeSlot := some (bits msg 0 32, bits msg 32 32) } ∧ OnlyChanges [.pcm, .outs, .slp] s t) ∧
  (∀ (s : State) (u d : BitVec 32), s.functional = true → s.pcm.st = .waking → s.pcm.wakeAcked = true →
    s.pcm.wakeSlot = some (u, d) → s.pins.platClkOk = true → s.wakeMask ≠ 0 → s.pcm.wakeSlow = false → Runs .wakeDone s fun t =>
      t.seam.usable = lowest s.wakeMask 1 ∧ t.seam.upSlot = u ∧ t.seam.dnSlot = d ∧ t.tlr.mode = .service ∧
        (s.wakeMask = lowest s.wakeMask 1 → t.pcm.st = .awake ∧ Raised C.PCM.WOKE t) ∧
        (s.wakeMask ≠ lowest s.wakeMask 1 → t.pcm.st = .waking ∧ t.pcm.joining = true ∧
          t.seam.width.map (fun w => (w.mine, w.target, w.added)) = some (true, s.wakeMask, s.wakeMask &&& ~~~lowest s.wakeMask 1)))

/-- The manager takes the block to width 0 on PCM_CTRL.SLEEP, after SLEEPER_IDLE_US without a dynamic flit under the block's own
policy, and with nothing queued under Sleeper preferred (R369, R370, R387); a sleep whose step has ended goes on to a wake that is
held (R371); held Sleeper mode turns into retention under R364. -/
def Obligations.SleepBegins : Prop :=
  (∀ (data : Word) (s : State), SleepsNow s → bit data 5 = true → bit data 4 = false → Runs (.pcmCtrlSleep data) s fun t =>
    Falling t ∧ t.pcm.sleepCmd = true ∧ t.outs.regAck = true ∧ t.outs.regErr = false) ∧
  (∀ s : State, SleepsNow s → s.sbx.ready = true → s.effPolicy = 0 → Runs .sleeperIdleTimeout s fun t => Falling t) ∧
  (∀ s : State, SleepsNow s → s.sbx.ready = true → s.effPolicy = 2 → s.lnk.siding = [] → (∀ q ∈ s.lnk.outq.toList, q = []) →
    Runs .sleeperPreferredIdle s fun t => Falling t) ∧
  (∀ s : State, s.functional = true → s.asleep = true → s.pcm.wakeHeld = true → s.slp.lock = true → s.pcm.brown = false →
    Runs .sleepStepDone s fun t => Waking s.pcm.wakeCause s t) ∧
  (∀ s : State, s.functional = true → s.pcm.st = .held → s.canRetain = true → s.tlr.rebuild = none → s.pcm.wakeHeld = false →
    Settled s → Runs .retainEntry s fun t =>
      t.pcm = { s.pcm with st := .retained } ∧ (∀ a, t.reg a = if regDom a = .plat then s.keptBits a else s.reg a) ∧
        OnlyChanges [.pcm, .regs, .seam, .tlr, .ttb, .jct, .msh, .outs, .slp] s t)

/-- At the end of a window the manager's measurement begins afresh (R369). BROWNOUT_WARN and BROWNOUT_END put the brownout in force
and end it, with their causes and the values of the warning (R385, R387). The Sleeper receiver's lock and loss (R98): invalid
sync headers are counted in SYNC_ERR, and with 16 in some 64 blocks the lock is lost and the loss raised (R103); ten milliseconds out of lock at width 0 declare the link down (R99).
The platform clock is checked against its ratio (R54): a correct count is recorded and nothing else of the block but the counts
of time changes; a wrong one raises CLK_FAULT. A domain without power-good raises DOMAIN_FAULT (R387). -/
def Obligations.PowerEvents : Prop :=
  (∀ s : State, s.platLive = true → Runs .policyWindowEnd s fun t =>
    t.pcm.useUp = 0 ∧ t.pcm.capUp = 0 ∧ t.pcm.useDn = 0 ∧ t.pcm.capDn = 0 ∧ t.pcm.windowAt = t.now ∧
      s.pcm.windowAt + 1000 * atLeastOne (s.fld F.PCM_POLICY_CFG.WINDOW_US) ≤ t.now) ∧
  (∀ (msg : BitVec 96) (s : State), s.functional = true → s.slp.lock = true → Runs (.brownoutWarn msg) s fun t =>
    t.pcm.brown = true ∧ t.pcm.holdup = bits msg 0 16 ∧ t.pcm.brownTime = bits msg 16 64 ∧ t.tlr.frozenBrown = (s.tlr.frozenBrown || !s.pcm.brown) ∧
      t.outs.brownout = true ∧ Raised C.PCM.BROWNOUT t) ∧
  (∀ (msg : BitVec 64) (s : State), s.functional = true → s.slp.lock = true → Runs (.brownoutEnd msg) s fun t =>
    t.pcm.brown = false ∧ t.tlr.frozenBrown = false ∧ t.outs.brownout = false ∧ Raised C.PCM.BROWNOUT_END t) ∧
  (∀ s : State, s.functional = true → s.slp.lock = false → s.lnk.st ≠ .grace → s.pcm.wakeHeld = false → Runs .sleeperLock s fun t =>
    t.slp.lock = true ∧ (s.boot.step = 1 → s.boot.reached = 0 → t.boot.reached = 1)) ∧
  (∀ s : State, s.functional = true → s.slp.lock = true → Settled s → Runs .sleeperLoss s fun t =>
    t.slp.lock = false ∧ t.slp.lostAt = s.now ∧ Raised C.SEAM.SLEEPER_LOSS t ∧
      (∃ n, n ≤ 16 ∧ (s.slp.heads = [] → n = 16) ∧
        t.fld F.SEAM_SLP_STATUS.SYNC_ERR = min 0xFFFF (s.fld F.SEAM_SLP_STATUS.SYNC_ERR + n)) ∧
      OnlyChanges [.slp, .regs, .flt, .outs] s t ∧ RegsBut (R.SEAM_SLP_STATUS :: C.SEAM.SLEEPER_LOSS.regs) s t) ∧
  (∀ (blocks : List (BitVec 34)) (i : Nat) (s : State), s.functional = true → s.slp.lock = true → Settled s →
    16 ≤ (((blocks.drop i).take 64).filter badHeader).length → Runs (.sleeperMessageDiscard blocks) s fun t =>
      t.slp.lock = false ∧ t.slp.lostAt = s.now ∧ Raised C.SEAM.SLEEPER_LOSS t ∧
        t.fld F.SEAM_SLP_STATUS.SYNC_ERR = min 0xFFFF (s.fld F.SEAM_SLP_STATUS.SYNC_ERR + (blocks.filter badHeader).length) ∧
        OnlyChanges [.slp, .regs, .flt, .outs] s t ∧ RegsBut (R.SEAM_SLP_STATUS :: C.SEAM.SLEEPER_LOSS.regs) s t) ∧
  (∀ (blocks : List (BitVec 34)) (s : State), s.functional = true → s.slp.lock = true → Settled s → s.slp.heads = [] →
    (blocks.filter badHeader).length < 16 → Runs (.sleeperMessageDiscard blocks) s fun t =>
      t.slp.lock = true ∧
        t.fld F.SEAM_SLP_STATUS.SYNC_ERR = min 0xFFFF (s.fld F.SEAM_SLP_STATUS.SYNC_ERR + (blocks.filter badHeader).length) ∧
        OnlyChanges [.slp, .regs, .outs] s t ∧ RegsBut [R.SEAM_SLP_STATUS] s t) ∧
  (∀ s : State, s.functional = true → s.slp.lock = false → s.asleep = true → s.lnk.st = .up → Runs .sleeperLossTimeout s fun t =>
    s.slp.lostAt + 10000000 ≤ t.now ∧ t.lnk.downCause = 5 ∧ t.lnk.st ≠ .up ∧ Raised C.LNK.LINK_DOWN t) ∧
  (∀ (count : BitVec 16) (s : State), s.functional = true → Settled s → count.toNat = 1024 * s.par.ratio →
    Runs (.platClockCheck count) s fun t =>
      t.pcm.platCount = count ∧ t.pins.platClkOk = true ∧ OnlyChanges [.pins, .pcm, .rwt, .aoCycles, .outs, .slp] s t) ∧
  (∀ (count : BitVec 16) (s : State), s.functional = true → s.pins.platRstN = true → s.lnk.st = .up →
    count.toNat ≠ 1024 * s.par.ratio → Runs (.platClockCheck count) s fun t =>
      t.pcm.platCount = count ∧ t.pins.platClkOk = false ∧ Raised C.PCM.CLK_FAULT t) ∧
  (∀ (domain : BitVec 3) (s : State), s.functional = true → Settled s → 1 ≤ domain.toNat → domain.toNat ≤ 5 →
    Runs (.powerGoodTimeout domain) s fun t =>
      t.pcm.domFault = s.pcm.domFault ||| (1#8 <<< domain.toNat) ∧ Raised C.PCM.DOMAIN_FAULT t ∧
        (s.byAo = false → s.seam.switchFrom.rail + 1350 ≤ t.now) ∧
        OnlyChanges [.pcm, .regs, .flt, .rwt, .aoCycles, .outs, .slp] s t ∧ RegsBut C.PCM.DOMAIN_FAULT.regs s t)

/-! ## The register port -/

/-- A write on the register port of a register that can be reached is answered without an error, and so is a read, which gives the
register's value (R48, R49). Where the register has no effect of its own, RW fields take the data, W1C flags written with 1 clear, and
every other bit and every other register stays (R14). -/
def Obligations.RegisterWriteIsPlain : Prop :=
  (∀ (addr : BitVec 24) (data : Word) (s : State) (r : RegRow), s.functional = true → Settled s → addr.toNat % 4 = 0 →
    regRow addr.toNat = some r → s.regOn addr.toNat = true → PlainAddr addr.toNat →
    isPairLo addr.toNat = false → isPairHi addr.toNat = false →
    Runs (.registerWrite addr data) s fun t =>
      t.reg addr.toNat = ((s.reg addr.toNat &&& ~~~r.rw &&& ~~~(r.w1c &&& data)) ||| (data &&& r.rw)) ∧
        t.outs.regAck = true ∧ t.outs.regErr = false ∧ OnlyChanges [.regs, .outs, .slp] s t ∧ RegsBut [addr.toNat] s t) ∧
  (∀ (addr : BitVec 24) (data : Word) (s : State), s.functional = true → addr.toNat % 4 = 0 →
    (regRow addr.toNat).isSome = true → s.regOn addr.toNat = true →
    (Runs (.registerWrite addr data) s fun t => t.outs.regAck = true ∧ t.outs.regErr = false) ∧
    (Runs (.counterRead addr) s fun t =>
      t.outs.regAck = true ∧ t.outs.regErr = false ∧ t.outs.regRdata = s.readValue .port addr.toNat))

/-- A write of ones to the event register of a cause that can be reached clears those flags and no others, and changes no other
register (R14); a read of the cause's counter returns its count and clears it (R14, R15). The fault log
takes a pending occurrence and writes it as its next entry in the same AO cycle, over the oldest unread one when 1,024 are unread, and
loses the occurrence, with INTAKE_LOST, when the intake is full (R423, R426); a write of FLT_RD moves the read index on, or is ignored
where it would raise UNREAD (R423). -/
def Obligations.EventsCountersAndFaultLog : Prop :=
  (∀ (c : Cause) (addr : BitVec 24) (data : Word) (s : State), c ∈ causes → addr.toNat = c.evt → s.functional = true → Settled s →
    s.regOn c.evt = true → Runs (.eventClear addr data) s fun t =>
      (∀ i, (t.reg c.evt).getLsbD i = ((s.reg c.evt).getLsbD i &&
        !(data.getLsbD i && (((regRow c.evt).map RegRow.w1c).getD 0).getLsbD i))) ∧
      t.outs.regAck = true ∧ t.outs.regErr = false ∧ OnlyChanges [.regs, .outs, .slp] s t ∧ RegsBut [c.evt] s t) ∧
  (∀ (c : Cause) (addr : BitVec 24) (s : State), c ∈ causes → addr.toNat = c.cnt → s.functional = true → Settled s →
    s.regOn c.cnt = true → Runs (.counterRead addr) s fun t =>
      t.outs.regRdata = s.reg c.cnt ∧ t.outs.regAck = true ∧ t.outs.regErr = false ∧ bits (t.reg c.cnt) 0 16 = 0 ∧
        OnlyChanges [.regs, .outs, .slp] s t ∧ RegsBut [c.cnt] s t) ∧
  (∀ (o : Occ) (s : State), s.up = true → Settled s → s.flt.pend = [o] → s.flt.intake = [] → s.flt.lost = none → s.merged o = none →
    Runs .faultLogIntake s fun t =>
      (∃ es, t.flt.ring = es ++ [⟨s.flt.seq, o⟩]) ∧ t.flt.intake = [] ∧
        (s.flt.ring.length ≤ 1024 → t.flt.ring.length = min 1024 (s.flt.ring.length + 1)) ∧
        t.flt.seq = s.flt.seq + 1 ∧ (s.flt.unread < 1024 → t.flt.unread = s.flt.unread + 1) ∧
        (1024 ≤ s.flt.unread → t.flt.unread = s.flt.unread ∧ Raised C.FLT.OVERWRITTEN t) ∧
        OnlyChanges [.flt, .regs, .outs, .slp] s t) ∧
  (∀ (o : Occ) (s : State), s.up = true → s.flt.pend = [o] → s.flt.intake.length = 64 → s.flt.lost = none →
    Runs .faultLogIntake s fun t => Raised C.FLT.INTAKE_LOST t ∧ t.flt.lost.map (·.count) = some 1) ∧
  (∀ (data : Word) (d : Nat) (s : State), s.functional = true → Settled s → s.regOn R.FLT_RD = true →
    d = (fld data 0 10 + 1024 - s.rdIdx) % 1024 → Runs (.fltRdWrite data) s fun t =>
      t.flt = { s.flt with unread := if d ≤ s.flt.unread then s.flt.unread - d else s.flt.unread } ∧
        (d ≤ s.flt.unread → s.flt.unread ≤ 1024 → t.rdIdx = fld data 0 10) ∧ t.outs.regAck = true ∧ t.outs.regErr = false ∧
        OnlyChanges [.flt, .outs, .slp] s t)

/-- Every W1C flag of the register map has a cause with a counter of its own, and the cause's counter counts every occurrence,
whether or not the flag was already set, and saturates at 0xFFFF (R15). -/
def Obligations.CausesCount : Prop :=
  (∀ r ∈ regRows, ∀ i < 32, r.w1c.getLsbD i = true → ∃ c ∈ causes, c.evt = r.lo ∧ c.bitNo = i) ∧
  (∀ c ∈ causes, ∀ d ∈ causes, c.cnt = d.cnt → c = d) ∧
  (∀ (c : Cause) (d : BitVec 80) (s : State), c ∈ causes →
    Raised c (raise c d s) ∧
      (raise c d s).reg c.cnt = (if s.reg c.cnt = 0xFFFF#32 then 0xFFFF#32 else s.reg c.cnt + 1) ∧ RegsBut c.regs s (raise c d s))

/-- An address that the register map does not list is reserved: an aligned access to it completes without an error whatever the
state of its region's domain, a read of it returns zero, and a write has no effect (R16, R433). A misaligned access ends with
reg_err_o at 1, a read with zero and a write without effect (R49, R433). -/
def Obligations.ReservedAddresses : Prop :=
  (∀ (addr : BitVec 24) (data : Word) (s : State), s.up = true → Settled s → addr.toNat % 4 = 0 → regRow addr.toNat = none →
    (Runs (.registerWrite addr data) s fun t => t.outs.regAck = true ∧ t.outs.regErr = false ∧ OnlyChanges [.outs, .slp] s t) ∧
    (Runs (.counterRead addr) s fun t =>
      t.outs.regAck = true ∧ t.outs.regErr = false ∧ t.outs.regRdata = 0 ∧ OnlyChanges [.outs, .slp] s t)) ∧
  (∀ (addr : BitVec 24) (data : Word) (s : State), s.up = true → Settled s → addr.toNat % 4 ≠ 0 →
    (Runs (.registerWrite addr data) s fun t => t.outs.regAck = true ∧ t.outs.regErr = true ∧ OnlyChanges [.outs, .slp] s t) ∧
    (Runs (.counterRead addr) s fun t =>
      t.outs.regAck = true ∧ t.outs.regErr = true ∧ t.outs.regRdata = 0 ∧ OnlyChanges [.outs, .slp] s t))

/-- An access to a register whose power domain is off completes with reg_err_o at 1, a read with zero, a write without effect, and
neither wakes the domain (R49). -/
def Obligations.OffDomainAccess : Prop :=
  ∀ (addr : BitVec 24) (data : Word) (s : State), s.functional = true → Settled s → addr.toNat % 4 = 0 →
    (regRow addr.toNat).isSome = true → s.regOn addr.toNat = false →
    (Runs (.registerWrite addr data) s fun t => t.outs.regAck = true ∧ t.outs.regErr = true ∧ OnlyChanges [.outs, .slp] s t) ∧
    (Runs (.counterRead addr) s fun t =>
      t.outs.regAck = true ∧ t.outs.regErr = true ∧ t.outs.regRdata = 0 ∧ OnlyChanges [.outs, .slp] s t)

/-- The 64-bit pairs: a read of _LO by a requester loads the high half into its own latch, and on the register port returns the low
half; a read of _HI returns the latch (R436). A write of _LO is held by the requester's holder; a write of _HI applies both halves
together, or the high half alone where none is held, and empties the holder (R437). A box that holds the token writes as the port does,
and its write is recorded; a write of a box without it is discarded, counted and raised (R340, R347). -/
def Obligations.PairsAndBoxWrites : Prop :=
  (∀ (who : Requester) (addr : BitVec 24) (s : State), s.functional = true → Settled s → addr.toNat ∈ pairLos →
    s.regOn addr.toNat = true → Runs (.pairLoRead who addr) s fun t =>
      t.latch who addr.toNat = s.view (addr.toNat + 4) ∧
        (∀ w lo, (w, lo) ≠ (who, addr.toNat) → t.latch w lo = s.latch w lo) ∧
        (who = .port → t.outs.regAck = true ∧ t.outs.regErr = false ∧ t.outs.regRdata = s.view addr.toNat) ∧
        (who ≠ .port → t.outs = s.outs) ∧ OnlyChanges [.latches, .outs, .slp] s t) ∧
  (∀ (addr : BitVec 24) (s : State), s.functional = true → Settled s → isPairHi addr.toNat = true → s.regOn addr.toNat = true →
    Runs (.counterRead addr) s fun t =>
      t.outs.regRdata = s.latch .port (addr.toNat - 4) ∧ t.outs.regAck = true ∧ t.outs.regErr = false ∧
        OnlyChanges [.outs, .slp] s t) ∧
  (∀ (who : Requester) (addr : BitVec 24) (data : Word) (s : State), s.functional = true → Settled s → s.mayWrite who = true →
    addr.toNat ∈ pairLos → PlainAddr addr.toNat → s.regOn addr.toNat = true → Runs (.pairLoWrite who addr data) s fun t =>
      t.held who addr.toNat = some data ∧ (∀ w lo, (w, lo) ≠ (who, addr.toNat) → t.held w lo = s.held w lo) ∧
        (who = .port → t.outs.regAck = true ∧ t.outs.regErr = false ∧ t.sbx = s.sbx) ∧
        OnlyChanges [.holders, .sbx, .outs, .slp] s t) ∧
  (∀ (who : Requester) (addr : BitVec 24) (data : Word) (s : State) (rl rh : RegRow), s.functional = true → Settled s →
    s.mayWrite who = true → isPairHi addr.toNat = true → PlainAddr addr.toNat → s.regOn addr.toNat = true →
    regRow (addr.toNat - 4) = some rl → regRow addr.toNat = some rh → Runs (.pairHiWrite who addr data) s fun t =>
      t.reg addr.toNat = ((s.reg addr.toNat &&& ~~~rh.rw) ||| (data &&& rh.rw)) ∧
        (∀ lo, s.held who (addr.toNat - 4) = some lo →
          t.reg (addr.toNat - 4) = ((s.reg (addr.toNat - 4) &&& ~~~rl.rw) ||| (lo &&& rl.rw))) ∧
        (s.held who (addr.toNat - 4) = none → t.reg (addr.toNat - 4) = s.reg (addr.toNat - 4)) ∧
        t.held who (addr.toNat - 4) = none ∧ (who = .port → t.outs.regAck = true ∧ t.outs.regErr = false ∧ t.sbx = s.sbx) ∧
        OnlyChanges [.regs, .holders, .sbx, .outs, .slp] s t ∧ RegsBut [addr.toNat, addr.toNat - 4] s t) ∧
  (∀ (c : Instr) (x : Box) (addr : BitVec 24) (data : Word) (s : State), s.functional = true → Settled s →
    (s.sbx.held = false ∨ s.sbx.holder ≠ x) →
    (c = .boxRegisterWrite x addr data ∨ (c = .pairLoWrite (.box x) addr data ∧ isPairLo addr.toNat = true) ∨
      (c = .pairHiWrite (.box x) addr data ∧ isPairHi addr.toNat = true)) → Runs c s fun t =>
      Raised C.SBX.GATE_DROP t ∧ OnlyChanges [.regs, .flt, .outs, .slp] s t ∧ RegsBut C.SBX.GATE_DROP.regs s t) ∧
  (∀ (x : Box) (addr : BitVec 24) (data : Word) (s : State) (r : RegRow), s.functional = true → Settled s → s.sbx.held = true →
    s.sbx.holder = x → addr.toNat % 4 = 0 → regRow addr.toNat = some r → s.regOn addr.toNat = true → PlainAddr addr.toNat →
    isPairLo addr.toNat = false → isPairHi addr.toNat = false → Runs (.boxRegisterWrite x addr data) s fun t =>
      t.reg addr.toNat = ((s.reg addr.toNat &&& ~~~r.rw &&& ~~~(r.w1c &&& data)) ||| (data &&& r.rw)) ∧
        OnlyChanges [.regs, .sbx, .outs, .slp] s t ∧ RegsBut [addr.toNat] s t ∧ t.sbx.holder = s.sbx.holder ∧ t.sbx.held = true ∧
        (s.hasStandby = true → t.sbx.writes = [⟨addr, data, r.rw != 0⟩] ∧ t.sbx.sending = true) ∧ t.sbx.gen ≠ s.sbx.gen)

/-! ## Platform ports and manifest -/

/-- HOST_REQUEST_PACKET: a request that is well formed enters the port's table whole, its transactions enter the issue queue, and
nothing else changes while the marshalling unit is off (R37, R169, R170, R283); a malformed one gets a single response beat with
MALFORMED (R38), and one that finds the link flushed gets LINK_DOWN (R161). The tag of that beat is the request's own wherever the table
holds no other request of its serial. A request that finds its port's table full, or the ports not ready, is not taken (R47, R169). -/
def Obligations.HostRequestsTaken : Prop :=
  (∀ (port : PortId) (cmd : BitVec 128) (beats : List Beat) (s : State), s.platLive = true → Settled s → s.hasPort port = true →
    s.portsReady = true → (s.port port).reqs.length < 256 → (HostCmd.ofBits cmd).malformed beats.length = false →
    s.linkOpen = true → s.flag F.MSH_CTRL.EN = false → Runs (.hostRequestPacket port cmd beats) s fun t =>
      (∃ r : HostReq, (t.port port).reqs = (s.port port).reqs ++ [r] ∧ r.addr = bits cmd 64 64 ∧ r.dest = bits cmd 48 16 ∧
        r.len = fld cmd 24 24 + 1 ∧ r.htag = bits cmd 8 16 ∧ r.op = bits cmd 0 8 ∧ r.finished = false ∧
        (t.port port).issue.length = (s.port port).issue.length + r.segs.length) ∧
      (t.port port).beats = (s.port port).beats ∧ OnlyChanges [.ports, .outs, .slp] s t) ∧
  (∀ (port : PortId) (cmd : BitVec 128) (beats : List Beat) (s : State), s.platLive = true → s.hasPort port = true →
    s.portsReady = true → (s.port port).reqs.length < 256 → Settled s → (HostCmd.ofBits cmd).malformed beats.length = true →
    Runs (.hostRequestPacket port cmd beats) s fun t =>
      (∃ tag, (t.port port).beats = (s.port port).beats ++ [(tag, 0x01)] ∧
        ((∀ r ∈ (s.port port).reqs, r.serial ≠ (s.port port).nextSerial) → tag = bits cmd 8 16)) ∧
      OnlyChanges [.ports, .mnf, .regs, .flt, .outs, .slp] s t) ∧
  (∀ (port : PortId) (cmd : BitVec 128) (beats : List Beat) (s : State), s.platLive = true → s.hasPort port = true →
    s.portsReady = true → (s.port port).reqs.length < 256 → Settled s → (HostCmd.ofBits cmd).malformed beats.length = false →
    s.linkOpen = false → Runs (.hostRequestPacket port cmd beats) s fun t =>
      (∃ tag, (t.port port).beats = (s.port port).beats ++ [(tag, 0x03)] ∧
        ((∀ r ∈ (s.port port).reqs, r.serial ≠ (s.port port).nextSerial) → tag = bits cmd 8 16)) ∧
      OnlyChanges [.ports, .mnf, .regs, .flt, .outs, .slp] s t) ∧
  (∀ (port : PortId) (cmd : BitVec 128) (beats : List Beat) (s : State), s.platLive = true → Settled s → s.hasPort port = true →
    (s.portsReady = false ∨ 256 ≤ (s.port port).reqs.length) → Runs (.hostRequestPacket port cmd beats) s fun t => t = s)

/-- SEGMENT_ADMIT admits the oldest unadmitted read segment when the reply window and the pace have room (R45, R176).
RESPONSE_PACKET_OPEN opens the packet of the oldest read that qualifies, unless a single beat is on offer (R34, R177).
RESPONSE_BEAT_TRANSFER sends the next beat of the open packet, its bytes aligned and zeros around them, and the request leaves with its
last beat; with no packet open it sends the oldest single beat; it sends nothing while the block drives no beats (R34 to R36, R39, R47).
The reply-sink violation and its end (R46). -/
def Obligations.ResponsesGo : Prop :=
  (∀ (port : PortId) (s : State) (n i len : Nat), s.platLive = true → Settled s → (s.port port).unadmitted = some (n, i, len) →
    (s.port port).undelivered + len ≤ s.window port → s.paced port + len ≤ 61440 → Runs (.segmentAdmit port) s fun t =>
      (∃ r ∈ (t.port port).reqs, r.serial = n ∧ (r.segs[i]?).map (·.admitted) = some true) ∧
        (s.platCycle, len) ∈ (t.port port).pace ∧ OnlyChanges [.ports, .outs, .slp] s t) ∧
  (∀ (port : PortId) (s : State) (n : Nat), s.platLive = true → Settled s →
    (∀ r ∈ (s.port port).reqs, r.opened = true → r.finished = true) → (s.port port).beats = [] ∨ s.portsDrive = false →
    firstOpen (s.port port).reqs [] = some n → Runs (.responsePacketOpen port) s fun t =>
      (∃ r ∈ (t.port port).reqs, r.serial = n ∧ r.opened = true) ∧ OnlyChanges [.ports, .outs, .slp] s t) ∧
  (∀ (port : PortId) (s : State) (tag : BitVec 16) (st : Byte) (rest : List (BitVec 16 × Byte)), s.platLive = true → Settled s →
    s.portsDrive = true → (∀ r ∈ (s.port port).reqs, r.opened = true → r.finished = true) →
    (s.port port).beats = (tag, st) :: rest → Runs (.responseBeatTransfer port) s fun t =>
      t.out = .rspBeat port (0#8 ++ st ++ tag) 0 true true false :: s.out ∧ (t.port port).beats = rest ∧
        OnlyChanges [.ports, .out, .outs, .slp] s t) ∧
  (∀ (port : PortId) (s : State) (r : HostReq) (bs : List Byte) (poison : Bool) (front lo n : Nat), s.platLive = true → Settled s →
    s.portsDrive = true → (s.port port).reqs.find? (fun r => r.opened && !r.finished) = some r →
    front = (if r.sent = 0 then r.addr.toNat % 64 else 0) → lo = 64 * r.sent - r.addr.toNat % 64 → n = min (64 - front) (r.len - lo) →
    readBytes r lo n = some (bs, poison) → Runs (.responseBeatTransfer port) s fun t =>
      t.out = .rspBeat port (0#8 ++ 0x00#8 ++ r.htag) (BitVec.ofNat 512 (leNat (List.replicate front 0 ++ bs))) (r.sent == 0)
          (lo + n == r.len) poison :: s.out ∧
        (lo + n = r.len → ∀ x ∈ (t.port port).reqs, x.serial ≠ r.serial) ∧
        (lo + n ≠ r.len → ∃ x ∈ (t.port port).reqs, x.serial = r.serial ∧ x.sent = r.sent + 1) ∧
        (t.port port).beats = (s.port port).beats ∧ OnlyChanges [.ports, .out, .outs, .slp] s t) ∧
  (∀ (port : PortId) (s : State), s.platLive = true → Settled s → s.portsDrive = false →
    Runs (.responseBeatTransfer port) s fun t => t = s) ∧
  (∀ (port : PortId) (s : State), s.platLive = true → Settled s → (s.port port).violation = false →
    Runs (.replySinkViolation port) s fun t =>
      (t.port port).violation = true ∧ Raised C.MNF.REPLY_SINK t ∧ OnlyChanges [.ports, .regs, .flt, .outs, .slp] s t ∧
        RegsBut C.MNF.REPLY_SINK.regs s t) ∧
  (∀ (port : PortId) (s : State), s.platLive = true → Settled s → Runs (.replySinkRecover port) s fun t =>
    (t.port port).violation = false ∧ OnlyChanges [.ports, .outs, .slp] s t)

/-- BLOCK_REQUEST_ISSUE sends the oldest block request of a port under a BTAG that no outstanding request has, a read as one beat and a
write as the aligned beats of its range, the first with sop and the last with eop (R35, R36, R41); with 4,096 outstanding, behind an
earlier write of its source to the same 4 KiB, or while the block drives no beats it waits (R41, R47, R187). BLOCK_RESPONSE frees the
BTAG that it answers and goes, with its data or as a failure, to the unit that asked, unless the request has timed out; one that answers
none raises BREQ_UNKNOWN (R42, R43). A block request that times out fails for the unit that asked and keeps its BTAG until
BTAG_RELEASE, a second period later (R43). -/
def Obligations.BlockRequests : Prop :=
  (∀ (port : PortId) (s : State) (b : Breq) (rest : List Breq), s.platLive = true → Settled s → s.hasPort port = true →
    (s.port port).breqs = b :: rest → (s.port port).outs.length < 4096 → s.mustWait (s.port port) b = false → s.portsDrive = true →
    Runs (.blockRequestIssue port) s fun t =>
      (∃ (btag : BitVec 12) (beats : List Emit), (∀ o ∈ (s.port port).outs, o.btag ≠ btag) ∧
        beats = breqBeats port (b.addr ++ BitVec.ofNat 12 (b.len - 1) ++ btag ++ (if b.write then 0x02#8 else 0x01#8)) b ∧
        beats.length = (if b.write then (b.addr.toNat % 64 + b.len + 63) / 64 else 1) ∧
        (∀ i x, beats[i]? = some x → ∃ p c d e, x = Emit.breqBeat p c d e (i == 0) (i + 1 == beats.length)) ∧
        t.out = beats.reverse ++ s.out ∧ (t.port port).outs = (s.port port).outs ++ [⟨btag, b, false, s.mark⟩]) ∧
        (t.port port).breqs = rest ∧ OnlyChanges [.ports, .out, .outs, .slp] s t) ∧
  (∀ (port : PortId) (s : State) (b : Breq) (rest : List Breq), s.platLive = true → Settled s → (s.port port).breqs = b :: rest →
    (4096 ≤ (s.port port).outs.length ∨ s.mustWait (s.port port) b = true ∨ s.portsDrive = false) →
    Runs (.blockRequestIssue port) s fun t => t = s) ∧
  (∀ (port : PortId) (info : BitVec 24) (beats : List (BitVec 512)) (p : Bool) (s : State) (o : BreqOut), s.platLive = true →
    s.hasPort port = true → s.breqOut port (bits info 0 12) = some o → o.dead = false →
    Runs (.blockResponse port info beats p) s fun t => ∃ e,
      t = settle (breqAfter (breqDone port o.req e (freeBreq port (bits info 0 12) s))) ∧
        (bits info 16 8 ≠ 0#8 → e = .error) ∧ (bits info 16 8 = 0#8 → o.req.write = true → e = .ok [] p) ∧
        (bits info 16 8 = 0#8 → o.req.write = false → o.req.addr.toNat % 64 + o.req.len ≤ 64 * beats.length →
          e = .ok (slice (beats.flatMap fun x => bvBytes x) (o.req.addr.toNat % 64) o.req.len) p)) ∧
  (∀ (port : PortId) (info : BitVec 24) (beats : List (BitVec 512)) (p : Bool) (s : State) (o : BreqOut), s.platLive = true →
    Settled s → Quiet s → s.hasPort port = true → s.breqOut port (bits info 0 12) = some o →
    (o.dead = true ∨ o.req.purpose = .posted ∨ o.req.purpose = .t6Data) → Runs (.blockResponse port info beats p) s fun t =>
      t.breqOut port (bits info 0 12) = none ∧ (∀ b, b ≠ bits info 0 12 → t.breqOut port b = s.breqOut port b) ∧
        OnlyChanges [.ports, .outs, .slp] s t) ∧
  (∀ (port : PortId) (info : BitVec 24) (beats : List (BitVec 512)) (p : Bool) (s : State), s.platLive = true → Settled s →
    s.hasPort port = true → s.breqOut port (bits info 0 12) = none → Runs (.blockResponse port info beats p) s fun t =>
      Raised C.MNF.BREQ_UNKNOWN t ∧ OnlyChanges [.regs, .flt, .outs, .slp] s t ∧ RegsBut C.MNF.BREQ_UNKNOWN.regs s t) ∧
  (∀ (port : PortId) (btag : BitVec 12) (s : State) (o : BreqOut), s.platLive = true → s.breqOut port btag = some o →
    o.dead = false → Runs (.breqTimeout port btag) s fun t => ∃ u,
      t = settle (breqAfter (breqDone port o.req .timeout u)) ∧ (u.breqOut port btag).map (·.dead) = some true ∧
        Raised C.MNF.BREQ_TIMEOUT u ∧ (s.byAo = false → o.since.rail + s.breqNs ≤ u.now) ∧
        OnlyChanges [.ports, .regs, .flt, .rwt, .aoCycles] s u ∧ RegsBut C.MNF.BREQ_TIMEOUT.regs s u) ∧
  (∀ (port : PortId) (btag : BitVec 12) (s : State) (o : BreqOut), s.platLive = true → Settled s → Quiet s →
    s.breqOut port btag = some o → o.dead = false → (o.req.purpose = .posted ∨ o.req.purpose = .t6Data) →
    Runs (.breqTimeout port btag) s fun t =>
      (t.breqOut port btag).map (·.dead) = some true ∧ Raised C.MNF.BREQ_TIMEOUT t ∧
        OnlyChanges [.ports, .regs, .flt, .rwt, .aoCycles, .outs, .slp] s t ∧ RegsBut C.MNF.BREQ_TIMEOUT.regs s t) ∧
  (∀ (port : PortId) (btag : BitVec 12) (s : State) (o : BreqOut), s.platLive = true → Settled s →
    s.breqOut port btag = some o → o.dead = true → Runs (.btagRelease port btag) s fun t =>
      t.breqOut port btag = none ∧ (∀ b, b ≠ btag → t.breqOut port b = s.breqOut port b) ∧
        (s.byAo = false → o.since.rail + 2 * s.breqNs ≤ t.now) ∧ OnlyChanges [.ports, .rwt, .aoCycles, .outs, .slp] s t)

/-- TRANSACTION_ISSUE gives the transaction at the head of a port's issue queue an entry, and its packet goes to the track of its route
under the entry's tag (R165, R166, R170, R173, R188). REQUEST_PACKET_RECEIVE discards a packet that breaks R165 or R167 with PROTOCOL,
keeps one for another die to be forwarded, answers one whose generation or binding does not fit with STALE_BINDING or UNBOUND (R182),
and puts one that it serves to the platform as block requests, one for each 4 KiB block (R173, R179); VALIANT_FORWARD sends a kept one
on T4 (R190). -/
def Obligations.TransactionsMove : Prop :=
  (∀ (port : PortId) (s : State) (x : Txn) (d : Dest) (rest : List Txn) (n i : Nat) (r : Route) (u : State), s.platLive = true →
    s.msh.mig.st = .idle → s.linkOpen = true → (s.port port).issue = x :: rest → x.owner = .host port n i → x.dest = some d →
    (opReads x.op = true → ((s.req port n).bind fun q => q.segs[i]?).map (·.admitted) = some true) → s.reachable d.phys = true →
    routeTo d.phys s = (r, u) → s.lnk.trackMask.getLsbD r.track = true → s.room r.track = true →
    (x.tag = none → s.canAlloc (.port port) = true) → Runs (.transactionIssue port) s fun t =>
      (t.port port).issue = rest ∧
        (∃ tag o, cellsGet tag t.mnf.entries = some (.orig o) ∧ (∀ g, x.tag = some g → tag = g) ∧ o.owner = x.owner ∧ o.op = x.op ∧
          o.dest = d ∧ o.len = x.len ∧ o.attempt = x.attempt ∧ o.quarantined = false ∧ o.valiant = r.valiant ∧
          t.lnk.outq.toList.getD r.track [] = s.lnk.outq.toList.getD r.track [] ++
            pktFlits r.track (bvBytes (reqHdr s.own tag x.op d x.len x.attempt r false).toBits ++ x.data))) ∧
  (∀ (track : BitVec 3) (hdr : BitVec 256) (data : List Byte) (flits : Nat) (s : State), s.functional = true → Settled s →
    badRequest s.own track (THdr.ofBits hdr) data flits = true → Runs (.requestPacketReceive track hdr data flits) s fun t =>
      Raised C.MNF.PROTOCOL t ∧ OnlyChanges [.lnk, .regs, .flt, .outs, .slp] s t ∧ RegsBut C.MNF.PROTOCOL.regs s t) ∧
  (∀ (track : BitVec 3) (hdr : BitVec 256) (data : List Byte) (flits : Nat) (s : State), s.functional = true → Settled s →
    badRequest s.own track (THdr.ofBits hdr) data flits = false → (THdr.ofBits hdr).dest ≠ s.own →
    Runs (.requestPacketReceive track hdr data flits) s fun t =>
      (∃ p : RxPacket, t.mnf.fwd = s.mnf.fwd ++ [p] ∧ p.hdr = hdr ∧ p.data = data) ∧ OnlyChanges [.lnk, .mnf, .outs, .slp] s t) ∧
  (∀ (track : BitVec 3) (hdr : BitVec 256) (data : List Byte) (flits : Nat) (s : State) (h : THdr) (st : Byte), s.functional = true →
    Quiet s → h = THdr.ofBits hdr → badRequest s.own track h data flits = false → h.dest = s.own → h.fwd = 0 →
    s.canAlloc .served = true → s.linkOpen = true → s.lnk.trackMask.getLsbD 2 = true → s.room 2 = true →
    ((h.gen ≠ bGen (s.bindOf h.ldest) ∧ st = 0x08) ∨ (h.gen = bGen (s.bindOf h.ldest) ∧ s.boundTo h.ldest = false ∧ st = 0x06)) →
    Runs (.requestPacketReceive track hdr data flits) s fun t =>
      t.lnk.outq[2] = s.lnk.outq[2] ++ pktFlits 2 (bvBytes { h with
        op := h.op + 0x80, status := st, poison := 0, via := 0, vsite := 0 : THdr }.toBits) ∧
      t.ports = s.ports ∧ t.mnf.waiting = [] ∧ t.mnf.ready = []) ∧
  (∀ (track : BitVec 3) (hdr : BitVec 256) (data : List Byte) (flits : Nat) (s : State) (h : THdr), s.functional = true → Quiet s →
    h = THdr.ofBits hdr → badRequest s.own track h data flits = false → h.dest = s.own → h.fwd = 0 → (h.op = 0x01 ∨ h.op = 0x02) →
    s.canAlloc .served = true → h.gen = bGen (s.bindOf h.ldest) → s.boundTo h.ldest = true →
    (∀ r ∈ s.localRecs h.addr (h.len.toNat + 1), s.candidate r = false) →
    (h.op = 0x01 → s.assembling + (h.len.toNat + 1) ≤ 65536) → Runs (.requestPacketReceive track hdr data flits) s fun t =>
      ∃ tag v, cellsGet tag t.mnf.entries = some (.served v) ∧ v.hdr = h.toBits ∧ v.status = 0 ∧
        v.left = (blocks4k h.addr.toNat (h.len.toNat + 1)).length ∧
        ∀ x ∈ blocks4k h.addr.toNat (h.len.toNat + 1), ∃ b ∈ (t.port (s.servePort (h.addr + BitVec.ofNat 64 x.1))).breqs,
          b.write = (h.op == 0x02) ∧ b.addr = h.addr + BitVec.ofNat 64 x.1 ∧ b.len = x.2 ∧ b.data = (data.drop x.1).take x.2 ∧
            b.purpose = .served tag x.1) ∧
  (∀ (s : State) (p : RxPacket) (ps : List RxPacket), s.functional = true → Settled s → s.linkOpen = true →
    s.lnk.trackMask.getLsbD 4 = true → s.mnf.fwd = p :: ps → s.room 4 = true → Runs .valiantForward s fun t =>
      t.mnf = { s.mnf with fwd := ps } ∧ t.lnk.outq[4] = s.lnk.outq[4] ++ pktFlits 4 (bvBytes p.hdr ++ p.data) ∧
        OnlyChanges [.lnk, .mnf, .outs, .slp] s t)

/-- REPLY_RECEIVE: a reply that no entry awaits raises STALE_REPLY (R186); one that a write's entry awaits frees the entry (R174).
MANIFEST_SWEEP counts, a quarter of the timeout after the sweep before; the fourth sweep after a send raises TIMEOUT, quarantines the
entry of a write, and has a read that may be tried again wait at the head of its queue with ATTEMPT one higher (R183 to R185).
QUARANTINE_END frees a quarantined entry after four further sweeps, and no earlier (R174, R183). -/
def Obligations.EntriesEnd : Prop :=
  (∀ (hdr : BitVec 256) (data : List Byte) (flits : Nat) (s : State), s.functional = true →
    (THdr.ofBits hdr).op = 0x82 → (THdr.ofBits hdr).rsv = 0 → data = [] → flits = 1 →
    cellsGet (THdr.ofBits hdr).tag.toNat s.mnf.entries = none → Settled s → Runs (.replyReceive hdr data flits) s fun t =>
      Raised C.MNF.STALE_REPLY t ∧ OnlyChanges [.lnk, .regs, .flt, .outs, .slp] s t ∧ RegsBut C.MNF.STALE_REPLY.regs s t) ∧
  (∀ (hdr : BitVec 256) (s : State) (o : Orig) (port : PortId) (n i : Nat), s.functional = true → Quiet s →
    (THdr.ofBits hdr).op = 0x82 → (THdr.ofBits hdr).rsv = 0 → (THdr.ofBits hdr).status = 0 → (THdr.ofBits hdr).src = s.own →
    cellsGet (THdr.ofBits hdr).tag.toNat s.mnf.entries = some (.orig o) → o.owner = .host port n i → o.op = 0x02 →
    o.quarantined = false → o.withdrawn = false → s.queuedAgain (THdr.ofBits hdr).tag.toNat = false →
    (THdr.ofBits hdr).dest = o.dest.phys → (THdr.ofBits hdr).attempt.toNat = o.attempt → Runs (.replyReceive hdr [] 1) s fun t =>
      cellsGet (THdr.ofBits hdr).tag.toNat t.mnf.entries = none) ∧
  (∀ (s : State) (tag : Nat) (o : Orig) (port : PortId) (n i : Nat), s.functional = true → Quiet s → s.mnf.entries = [(tag, .orig o)] →
    o.owner = .host port n i → o.op = 0x02 → o.quarantined = false → 3 ≤ o.sweeps → s.queuedAgain tag = false →
    Runs .manifestSweep s fun t =>
      t.mnf.sweeps = s.mnf.sweeps + 1 ∧ Raised C.MNF.TIMEOUT t ∧ (s.byAo = false → s.mnf.sweptAt.rail + s.sweepNs ≤ t.now) ∧
        ∃ o', cellsGet tag t.mnf.entries = some (.orig o') ∧ o'.quarantined = true ∧ o'.owner = o.owner) ∧
  (∀ (s : State) (tag : Nat) (o : Orig) (port : PortId) (n i : Nat), s.functional = true → Quiet s → s.mnf.entries = [(tag, .orig o)] →
    o.owner = .host port n i → o.quarantined = false → o.withdrawn = false → 3 ≤ o.sweeps → s.queuedAgain tag = false →
    s.retries o port 0x02 = true → s.flag F.MSH_CTRL.EN = false → Runs .manifestSweep s fun t =>
      Raised C.MNF.TIMEOUT t ∧ Raised C.MNF.RETRY t ∧
        (∃ o', cellsGet tag t.mnf.entries = some (.orig o') ∧ o'.quarantined = false ∧ o'.attempt = o.attempt + 1 ∧ o'.sweeps = 0) ∧
        ∃ x ∈ (t.port port).issue, x.tag = some tag ∧ x.attempt = o.attempt + 1 ∧ x.op = o.op ∧ x.dest = none) ∧
  (∀ (s : State) (tag : Nat) (o : Orig), s.functional = true → Quiet s → s.mnf.entries = [(tag, .orig o)] →
    (o.quarantined = true ∨ o.sweeps < 3) → s.queuedAgain tag = false → Runs .manifestSweep s fun t =>
      t.mnf.entries = [(tag, .orig { o with sweeps := o.sweeps + 1 })] ∧ t.mnf.sweeps = s.mnf.sweeps + 1) ∧
  (∀ (tag : BitVec 18) (s : State) (o : Orig), s.functional = true → Quiet s → cellsGet tag.toNat s.mnf.entries = some (.orig o) →
    o.quarantined = true → 4 ≤ o.sweeps → Runs (.quarantineEnd tag) s fun t => cellsGet tag.toNat t.mnf.entries = none) ∧
  (∀ (tag : BitVec 18) (s : State) (o : Orig), s.functional = true → Settled s → cellsGet tag.toNat s.mnf.entries = some (.orig o) →
    (o.quarantined = false ∨ o.sweeps < 4) → Runs (.quarantineEnd tag) s fun t => t = s)

/-! ## Seam -/

/-- LOSS_OF_SIGNAL, PHASE_TRACKER_LIMIT and STUCK_LEVELS on a lane that listens mark it failed, with LANE_FAILED for a data lane
(R84); a lane number above 71 stops the model, as there is no such lane (R64). A forwarded clock that fails takes every lane of its
sleeve (R70, R87). -/
def Obligations.LanesFail : Prop :=
  (∀ (lane : LaneNo) (s : State) (c : Instr), (c = .lossOfSignal lane ∨ c = .phaseTrackerLimit lane ∨ c = .stuckLevels lane) →
    lane.toNat < 72 → s.functional = true → s.listens (slvOf lane) = true →
    (s.slv .down (slvOf lane)).failed.getLsbD (placeOf lane) = false → s.seam.retired.getLsbD (slvOf lane).toNat = false →
    Runs c s fun t =>
      (t.slv .down (slvOf lane)).failed.getLsbD (placeOf lane) = true ∧ (placeOf lane ≠ 8 → Raised C.SEAM.LANE_FAILED t)) ∧
  (∀ (lane : LaneNo) (s : State), 72 ≤ lane.toNat →
    exec (.lossOfSignal lane) s = .fault (.noSuchLane lane) ∧ exec (.phaseTrackerLimit lane) s = .fault (.noSuchLane lane) ∧
      exec (.stuckLevels lane) s = .fault (.noSuchLane lane)) ∧
  (∀ (k : SleeveNo) (s : State), s.functional = true → s.listens k = true → (s.slv .down k).clkFail = false →
    s.seam.retired.getLsbD k.toNat = false → Runs (.forwardedClockFail k) s fun t =>
      (t.slv .down k).clkFail = true ∧ (t.slv .down k).failed = 0x1FF ∧ Raised C.SEAM.LANE_FAILED t)

/-- The station's requests on the seam, each answered in a flit with the block's SWITCH_AFTER (R81, R82): SUBST_REQ of a sleeve in use
or being added is acknowledged where its spare can take the lane, or holds it, and else answered with NAK 0x06, or 0x07 without DARN_EN
(R85, R115); RETIRE_REQ of a sleeve not retired is acknowledged with RETIRE_EN (R87); WIDTH_REQ that no check refuses begins the
station's change, acknowledged at once where it adds no sleeve (R93). A request received again is answered again and not acted on, a
further copy in its slot is ignored, and a malformed flit is answered with NAK 0x05 (R80 to R82). -/
def Obligations.StationRequestsAnswered : Prop :=
  (∀ (slv : SleeveNo) (line : BitVec 2304) (p ans : BitVec 1920) (c : SeamCtl) (v : Slv) (m : Bool) (s : State), Ctl slv line p c s →
    Settled s → c.malformed = false → c.type = 0x01 → (∀ q, s.seam.answered ≠ some (0x01, c.xid, q)) → v = s.slv .up c.sleeve →
    m = s.mendable.getLsbD c.sleeve.toNat →
    ((m = false ∧ ans = nakFlit c.xid 0x02) ∨
      (m = true ∧ c.reason = 0 ∧ s.flag F.SEAM_CTRL.DARN_EN = false ∧ ans = nakFlit c.xid 0x07) ∨
      (m = true ∧ (c.reason = 0 → s.flag F.SEAM_CTRL.DARN_EN = true) ∧
        ((c.reason = 0 ∧ (v.spareState = 0 ∨ v.spareState = 2)) ∨ (c.reason = 1 ∧ v.spareState = 0) ∨
          (c.reason = 2 ∧ v.spareState = 2 ∧ v.spareLane = c.lane)) ∧
        ans = ctlFlit 0x02 c.xid c.sleeve c.lane c.reason 0 0 s.switchAfter) ∨
      (m = true ∧ (c.reason = 0 → s.flag F.SEAM_CTRL.DARN_EN = true) ∧
        ¬((c.reason = 0 ∧ (v.spareState = 0 ∨ v.spareState = 2)) ∨ (c.reason = 1 ∧ v.spareState = 0) ∨
          (c.reason = 2 ∧ v.spareState = 2 ∧ v.spareLane = c.lane)) ∧ ans = nakFlit c.xid 0x06)) →
    Runs (.substReq ⟨slv, line⟩) s fun t =>
      t.seam.ctlOut = s.seam.ctlOut ++ [ans] ∧ t.seam.answered = some (0x01, c.xid, ans) ∧
        (m = true → c.reason = 0 → (t.slv .up c.sleeve).failed.getLsbD c.lane.toNat = true) ∧
        (c.reason ≠ 0 → OnlyChanges [.seam, .outs, .slp] s t) ∧ OnlyChanges [.seam, .tlr, .regs, .flt, .outs, .slp] s t) ∧
  (∀ (slv : SleeveNo) (line : BitVec 2304) (p ans : BitVec 1920) (c : SeamCtl) (s : State), Ctl slv line p c s → Settled s →
    c.malformed = false → c.type = 0x03 → (∀ q, s.seam.answered ≠ some (0x03, c.xid, q)) →
    ans = (if s.flag F.SEAM_CTRL.RETIRE_EN = false then nakFlit c.xid 0x07
      else if s.seam.retired.getLsbD c.sleeve.toNat then nakFlit c.xid 0x02
      else ctlFlit 0x04 c.xid c.sleeve 0 0 0 0 s.switchAfter) → Runs (.retireReq ⟨slv, line⟩) s fun t =>
      t.seam.ctlOut = s.seam.ctlOut ++ [ans] ∧ t.seam.answered = some (0x03, c.xid, ans) ∧ OnlyChanges [.seam, .outs, .slp] s t) ∧
  (∀ (slv : SleeveNo) (line : BitVec 2304) (p : BitVec 1920) (c : SeamCtl) (s : State), Ctl slv line p c s → Settled s →
    c.malformed = false → c.type = 0x05 → (∀ q, s.seam.answered ≠ some (0x05, c.xid, q)) → s.seam.width = none →
    Runs (.widthReq ⟨slv, line⟩) s fun t =>
      (s.widthNak c.target ≠ 0 → t.seam.ctlOut = s.seam.ctlOut ++ [nakFlit c.xid (s.widthNak c.target)] ∧ t.seam.width = none) ∧
      (s.widthNak c.target = 0 →
        (t.seam.width.map fun w => (w.mine, w.target, w.xid, w.added)) =
            some (false, c.target, c.xid, c.target &&& ~~~s.seam.usable) ∧
          t.seam.ctlOut = s.seam.ctlOut ++ (if c.target &&& ~~~s.seam.usable = 0 then
            [ctlFlit 0x06 c.xid 0 0 0 c.target 0 s.switchAfter] else [])) ∧ OnlyChanges [.seam, .outs, .slp] s t) ∧
  (∀ (slv : SleeveNo) (line : BitVec 2304) (p q : BitVec 1920) (c : SeamCtl) (i : Instr) (s : State), Ctl slv line p c s → Settled s →
    c.malformed = false →
    ((i = .substReq ⟨slv, line⟩ ∧ c.type = 0x01) ∨ (i = .retireReq ⟨slv, line⟩ ∧ c.type = 0x03) ∨
      (i = .widthReq ⟨slv, line⟩ ∧ c.type = 0x05)) →
    s.seam.answered = some (c.type, c.xid, q) → Runs i s fun t =>
      t.seam = { s.seenCtl p with ctlOut := s.seam.ctlOut ++ [q] } ∧ OnlyChanges [.seam, .outs, .slp] s t) ∧
  (∀ (slv : SleeveNo) (line : BitVec 2304) (p : BitVec 1920) (i : Instr) (s : State), Brings 4 slv line p s → Settled s →
    (i = .substReq ⟨slv, line⟩ ∨ i = .retireReq ⟨slv, line⟩ ∨ i = .widthReq ⟨slv, line⟩ ∨ i = .substAck ⟨slv, line⟩ ∨ i = .retireAck ⟨slv, line⟩ ∨
      i = .widthAck ⟨slv, line⟩ ∨ i = .widthCfm ⟨slv, line⟩ ∨ i = .seamNak ⟨slv, line⟩) →
    s.seam.ctlSeen = some (s.seam.dnSlot, p) → Runs i s fun t => t = s) ∧
  (∀ (slv : SleeveNo) (line : BitVec 2304) (p : BitVec 1920) (c : SeamCtl) (i : Instr) (s : State), Ctl slv line p c s → Settled s →
    (i = .substReq ⟨slv, line⟩ ∨ i = .retireReq ⟨slv, line⟩ ∨ i = .widthReq ⟨slv, line⟩ ∨ i = .substAck ⟨slv, line⟩ ∨ i = .retireAck ⟨slv, line⟩ ∨
      i = .widthAck ⟨slv, line⟩ ∨ i = .widthCfm ⟨slv, line⟩ ∨ i = .seamNak ⟨slv, line⟩) →
    c.malformed = true → Runs i s fun t =>
      t.seam = { s.seenCtl p with ctlOut := s.seam.ctlOut ++ [nakFlit c.xid 0x05] } ∧ Raised C.SEAM.UNATTRIBUTED t ∧
        OnlyChanges [.seam, .regs, .flt, .outs, .slp] s t ∧ RegsBut C.SEAM.UNATTRIBUTED.regs s t)

/-- The station's answers fix the downstream switch slot that they name, and the block's exchange is over: SUBST_ACK, RETIRE_ACK,
WIDTH_ACK with its WIDTH_CFM, and WIDTH_CFM for a change of the station's (R81, R82, R85, R87, R93). -/
def Obligations.StationAnswersFixSlots : Prop :=
  (∀ (slv : SleeveNo) (line : BitVec 2304) (p : BitVec 1920) (c : SeamCtl) (s : State) (x : Exch) (k : SleeveNo) (lane : BitVec 4)
    (reason : BitVec 2), Ctl slv line p c s → c.malformed = false → c.type = 0x02 → s.seam.mine = some x → x.xid = c.xid →
    x.kind = .subst k lane reason → Settled s → Runs (.substAck ⟨slv, line⟩) s fun t =>
      (s.seam.want = [] → t.seam.mine = none) ∧ (∃ y ∈ t.seam.subst, y.dir = .down ∧ y.slv = k ∧ y.lane = lane ∧ y.reason = reason ∧
        y.slot = s.seam.dnSlot + c.after.setWidth 32) ∧ OnlyChanges [.seam, .outs, .slp] s t) ∧
  (∀ (slv : SleeveNo) (line : BitVec 2304) (p : BitVec 1920) (c : SeamCtl) (s : State) (x : Exch) (k : SleeveNo), Ctl slv line p c s →
    c.malformed = false → c.type = 0x04 → s.seam.mine = some x → x.xid = c.xid → x.kind = .retire k → Settled s →
    Runs (.retireAck ⟨slv, line⟩) s fun t =>
      (s.seam.want = [] → t.seam.mine = none) ∧ (k, none, some (s.seam.dnSlot + c.after.setWidth 32)) ∈ t.seam.retireAt ∧
        OnlyChanges [.seam, .outs, .slp] s t) ∧
  (∀ (slv : SleeveNo) (line : BitVec 2304) (p : BitVec 1920) (c : SeamCtl) (s : State) (x : Exch) (m : Byte) (w : WidthChange),
    Ctl slv line p c s → c.malformed = false → c.type = 0x06 → s.seam.mine = some x → x.xid = c.xid → x.kind = .width m →
    s.seam.width = some w → w.mine = true → Settled s → Runs (.widthAck ⟨slv, line⟩) s fun t =>
      t.seam.width = some { w with acked := true, dnSlot := some (s.seam.dnSlot + c.after.setWidth 32) } ∧
        (∃ more, t.seam.ctlOut = s.seam.ctlOut ++ ctlFlit 0x07 x.xid 0 0 0 m 0 s.switchAfter :: more) ∧
        (s.seam.want = [] → t.seam.mine = none) ∧ OnlyChanges [.seam, .outs, .slp] s t) ∧
  (∀ (slv : SleeveNo) (line : BitVec 2304) (p : BitVec 1920) (c : SeamCtl) (s : State) (w : WidthChange), Ctl slv line p c s →
    c.malformed = false → c.type = 0x07 → s.seam.width = some w → w.mine = false → w.acked = true → w.xid = c.xid → Settled s →
    Runs (.widthCfm ⟨slv, line⟩) s fun t =>
      t.seam = { s.seenCtl p with width := some { w with dnSlot := some (s.seam.dnSlot + c.after.setWidth 32) } } ∧
        OnlyChanges [.seam, .outs, .slp] s t)

/-- An exchange of the block's own goes on: after a NAK it goes again with a new XID, after 1 µs without an answer as it was, each up to
three sends; an unanswered width change then ends with RESULT 5 (R82, R94). A NAK 0x07 ends a darning or a retirement for good, 0x06
turns a darning into a retirement, either ends a rolling exchange, and any ends a width change (R82, R85, R87, R94). At its switch slot
a lane goes onto its spare, as its repair or for its tailoring (R23, R85, R115), a sleeve is retired (R87), and at the later of its two
switch slots a width change takes effect with WIDTH_DONE (R93 to R96). -/
def Obligations.ExchangesTakeEffect : Prop :=
  (∀ (slv : SleeveNo) (line : BitVec 2304) (p : BitVec 1920) (c : SeamCtl) (s : State) (x : Exch) (k : SleeveNo), Ctl slv line p c s →
    Settled s → c.malformed = false → c.type = 0x08 → s.seam.mine = some x → x.xid = c.xid → x.renew = false → x.sends < 3 →
    x.kind = .retire k → c.nak ≠ 0x07 → Runs (.seamNak ⟨slv, line⟩) s fun t =>
      t.seam = { s.seenCtl p with mine := some { x with renew := true, since := s.mark } } ∧ OnlyChanges [.seam, .outs, .slp] s t) ∧
  (∀ (slv : SleeveNo) (line : BitVec 2304) (p : BitVec 1920) (c : SeamCtl) (s : State) (x : Exch) (k : SleeveNo) (lane : BitVec 4),
    Ctl slv line p c s → Settled s → c.malformed = false → c.type = 0x08 → s.seam.mine = some x → x.xid = c.xid → x.renew = false →
    (x.kind = .retire k ∨ x.kind = .subst k lane 0) → c.nak = 0x07 → Runs (.seamNak ⟨slv, line⟩) s fun t =>
      x.kind ∈ t.seam.refused ∧ (s.seam.want = [] → t.seam.mine = none) ∧ OnlyChanges [.seam, .outs, .slp] s t) ∧
  (∀ (slv : SleeveNo) (line : BitVec 2304) (p : BitVec 1920) (c : SeamCtl) (s : State) (x : Exch) (k : SleeveNo) (lane : BitVec 4),
    Ctl slv line p c s → Settled s → c.malformed = false → c.type = 0x08 → s.seam.mine = some x → x.xid = c.xid → x.renew = false →
    x.kind = .subst k lane 0 → c.nak = 0x06 → s.flag F.SEAM_CTRL.RETIRE_EN = true → s.seam.retired.getLsbD k.toNat = false →
    .retire k ∉ s.seam.refused → Runs (.seamNak ⟨slv, line⟩) s fun t =>
      (t.seam.mine.map (·.kind) = some (.retire k) ∨ .retire k ∈ t.seam.want) ∧ OnlyChanges [.seam, .outs, .slp] s t) ∧
  (∀ (slv : SleeveNo) (line : BitVec 2304) (p : BitVec 1920) (c : SeamCtl) (s : State) (x : Exch) (k : SleeveNo) (lane : BitVec 4)
    (reason : BitVec 2), Ctl slv line p c s → c.malformed = false → c.type = 0x08 → s.seam.mine = some x → x.xid = c.xid →
    x.renew = false → x.kind = .subst k lane reason → reason ≠ 0 → (c.nak = 0x06 ∨ c.nak = 0x07) → Runs (.seamNak ⟨slv, line⟩) s fun t =>
      t.passIn k = none ∧ (t.slv .down k).spareState ≠ 2) ∧
  (∀ (slv : SleeveNo) (line : BitVec 2304) (p : BitVec 1920) (c : SeamCtl) (s : State) (x : Exch) (m : Byte) (w : WidthChange),
    Ctl slv line p c s → c.malformed = false → c.type = 0x08 → s.seam.mine = some x → x.xid = c.xid → x.renew = false →
    x.kind = .width m → s.seam.width = some w → w.mine = true → Runs (.seamNak ⟨slv, line⟩) s fun t =>
      t.seam.width = none ∧ Raised C.SEAM.WIDTH_REFUSED t ∧ t.fld F.SEAM_WIDTH_CTRL.RESULT = (if c.nak = 0x03 then 6 else 4)) ∧
  (∀ (s : State) (x : Exch), s.functional = true → s.talks = true → Settled s → s.seam.mine = some x →
    s.seam.ctlOut.contains (reqFlit x.kind x.xid) = false → s.mayAsk x.kind = true → x.sends < 3 → Runs .ctrlResendTimeout s fun t =>
      (∃ xid m, t.seam.ctlOut = s.seam.ctlOut ++ [reqFlit x.kind xid] ∧
        t.seam.mine = some { x with xid := xid, sends := x.sends + 1, renew := false, since := m } ∧
        xid = (if x.renew then s.seam.nextXid else x.xid)) ∧ (s.byAo = false → x.since.rail + 1000 ≤ t.now) ∧
        OnlyChanges [.seam, .rwt, .aoCycles, .outs, .slp] s t) ∧
  (∀ (s : State) (x : Exch) (m : Byte) (w : WidthChange), s.functional = true → s.talks = true → s.seam.mine = some x →
    s.seam.ctlOut.contains (reqFlit x.kind x.xid) = false → 3 ≤ x.sends → x.kind = .width m → s.seam.width = some w → w.mine = true →
    Runs .ctrlResendTimeout s fun t =>
      t.seam.width = none ∧ Raised C.SEAM.CTRL_TIMEOUT t ∧ Raised C.SEAM.WIDTH_REFUSED t ∧
        t.fld F.SEAM_WIDTH_CTRL.RESULT = 5) ∧
  (∀ (s : State) (k : SleeveNo) (x : SubstSw) (d : Dir), s.functional = true →
    (s.seam.subst.find? fun y => y.dir == d && y.slv == k) = some x → x.reason = 0 →
    ((s.slv d k).spareState = 0 ∨ (s.slv d k).spareState = 2) → Runs (.substSwitch d k) s fun t =>
      (t.slv d k).spareState = 1 ∧ (t.slv d k).spareLane = x.lane ∧ Raised C.SEAM.LANE_DARNED t) ∧
  (∀ (s : State) (k : SleeveNo) (x : SubstSw) (d : Dir), s.functional = true → Settled s →
    (s.seam.subst.find? fun y => y.dir == d && y.slv == k) = some x → x.reason = 1 → (s.slv d k).spareState = 0 →
    Runs (.substSwitch d k) s fun t =>
      (t.slv d k).spareState = 2 ∧ (t.slv d k).spareLane = x.lane ∧ OnlyChanges [.seam, .tlr, .outs, .slp] s t) ∧
  (∀ (s : State) (k : SleeveNo), s.functional = true → (s.seam.retireAt.any fun y => y.1 == k) = true →
    s.seam.retired.getLsbD k.toNat = false → Runs (.retireSwitch k) s fun t =>
      t.seam.retired.getLsbD k.toNat = true ∧ t.seam.usable.getLsbD k.toNat = false ∧ Raised C.SEAM.SLEEVE_RETIRED t) ∧
  (∀ (s : State) (w : WidthChange) (d : Dir), s.functional = true → s.seam.width = some w →
    (d = .down → w.upDone = true ∧ w.dnDone = false ∧ w.dnSlot.isSome = true) →
    (d = .up → w.dnDone = true ∧ w.upDone = false ∧ w.upSlot.isSome = true) → Runs (.widthSwitch d) s fun t =>
      t.seam.usable = (w.target &&& s.permitted) ∧ t.seam.width = none ∧ Raised C.SEAM.WIDTH_DONE t ∧
        (w.target &&& s.permitted = 0 → t.pcm.st = .held ∧ Raised C.PCM.SLEPT t) ∧
        (w.target &&& s.permitted ≠ 0 → s.pcm.st = .waking → s.pcm.joining = true → t.pcm.st = .awake ∧ Raised C.PCM.WOKE t))

/-- WIDTH_GO begins a width change that R92 does not refuse, or queues it behind the one in progress; the queued one begins once none
is (R92). Filler on an added sleeve counts towards the confirmation of its lanes' scrambler phase, and anything else begins it again (R75);
ADDED_SLEEVES_READY lets the change's flit go once every lane of the added sleeves has confirmed it, and does nothing before (R94); WIDTH_LOCK_TIMEOUT ends an increase after 5 µs, the station's with NAK 0x03 and the
block's own with RESULT 6 (R94). CRC_WINDOW_END starts the counts again at a multiple of 1 ms (R89). -/
def Obligations.WidthChanges : Prop :=
  (∀ (data : Word) (s : State), s.functional = true → s.regOn R.SEAM_WIDTH_CTRL = true → data.getLsbD 8 = true →
    s.seam.width = none → s.widthRefusal (fld data 0 4) (data.getLsbD 4) = 0 → s.maskFor (fld data 0 4) ≠ s.seam.usable →
    Runs (.widthGo data) s fun t =>
      (t.seam.width.map fun w => (w.mine, w.byPcm, w.target)) = some (true, false, s.maskFor (fld data 0 4)) ∧
        t.fld F.SEAM_WIDTH_CTRL.RESULT = 1 ∧ t.outs.regAck = true ∧ t.outs.regErr = false) ∧
  (∀ (data : Word) (s : State) (w : WidthChange), s.functional = true → s.regOn R.SEAM_WIDTH_CTRL = true → data.getLsbD 8 = true →
    s.seam.width = some w → Runs (.widthGo data) s fun t =>
      t.seam.queued = some { target := bits data 0 4, force := data.getLsbD 4 } ∧ t.seam.width = some w) ∧
  (∀ (s : State) (q : QueuedGo), s.functional = true → s.seam.queued = some q → s.seam.width = none →
    s.widthRefusal q.target.toNat q.force = 0 → s.maskFor q.target.toNat ≠ s.seam.usable → Runs .widthGoDequeue s fun t =>
      t.seam.queued = none ∧ (t.seam.width.map fun w => (w.mine, w.target)) = some (true, s.maskFor q.target.toNat)) ∧
  (∀ (s : State) (w : WidthChange), s.functional = true → s.seam.width = some w → w.ready = false → Settled s →
    (∀ k ∈ sleevesOf w.added, s.phased w k = true) → Runs .addedSleevesReady s fun t =>
      t.seam.width = some { w with ready := true } ∧
        (w.mine = false → t.seam.ctlOut = s.seam.ctlOut ++ [ctlFlit 0x06 w.xid 0 0 0 w.target 0 s.switchAfter]) ∧
        (w.mine = true → s.talks = true → .width w.target ∉ s.seam.refused →
          t.seam.mine.map (·.kind) = some (.width w.target) ∨ .width w.target ∈ t.seam.want) ∧
        OnlyChanges [.seam, .outs, .slp] s t) ∧
  (∀ (s : State) (w : WidthChange) (k : SleeveNo) (j : Nat), s.functional = true → s.seam.width = some w → Settled s →
    k ∈ sleevesOf w.added → j < 8 → w.slots (laneOf k j) < 4 → Runs .addedSleevesReady s fun t => t = s) ∧
  (∀ (s : State) (w : WidthChange) (k : SleeveNo) (line : BitVec 2304) (j : Nat), s.platLive = true → s.seam.width = some w →
    w.ready = false → Settled s → w.added.getLsbD k.toNat = true → s.seam.usable.getLsbD k.toNat = false → j < 8 →
    Runs (.dataFlitReceive k line) s fun t =>
      (∃ x, t.seam.width = some x ∧ x = { w with phase := x.phase } ∧
        (s.fillerOn k j s.seam.dnSlot line = false → x.slots (laneOf k j) = 0) ∧
        (s.fillerOn k j s.seam.dnSlot line = true → (laneOf k j, s.seam.dnSlot) ∉ w.phase → w.slots (laneOf k j) < 4 →
          x.slots (laneOf k j) = w.slots (laneOf k j) + 1)) ∧ OnlyChanges [.seam, .outs, .slp] s t) ∧
  (∀ (s : State) (w : WidthChange), s.functional = true → s.seam.width = some w → w.ready = false → w.mine = false →
    s.pcm.joining = false → Settled s → Runs .widthLockTimeout s fun t =>
      t.seam.width = none ∧ t.seam.ctlOut = s.seam.ctlOut ++ [nakFlit w.xid 0x03] ∧ (s.byAo = false → w.since.rail + 5000 ≤ t.now) ∧
        OnlyChanges [.seam, .rwt, .aoCycles, .outs, .slp] s t) ∧
  (∀ (s : State) (w : WidthChange), s.functional = true → s.seam.width = some w → w.ready = false → w.mine = true →
    Runs .widthLockTimeout s fun t =>
      t.seam.width = none ∧ Raised C.SEAM.WIDTH_REFUSED t ∧ t.fld F.SEAM_WIDTH_CTRL.RESULT = 6) ∧
  (∀ s : State, s.functional = true → Settled s → Runs .crcWindowEnd s fun t =>
    t.seam = { s.seam with crcWin := Vector.replicate 8 0 } ∧ t.now % 1000000 = 0 ∧ s.now < t.now ∧
      OnlyChanges [.seam, .rwt, .aoCycles, .outs, .slp] s t)

/-- The test modes: under the wrapper TEST_ENABLE powers the sleeve and asks the station, or starts at once with the Sleeper lane out
of lock; TEST_DISABLE stops the test and gives the sleeve back; TEST_ACK starts the block's part or ends the test; a TEST_REQ unanswered
for 100 µs is sent again, up to three times (R100, R101). The PRBS31 sequence obeys x^31 + x^28 + 1; a checker seeds itself from 31 bits,
normal, inverted or those of the lane's own generator in near-end loopback, and locks when the 1,024 that follow fit; in lock it counts
each wrong bit and leaves lock with more than 256 of 1,024 wrong (R18, R100, R102). A lane above 8 stops the model. -/
def Obligations.TestModes : Prop :=
  (∀ (data : Word) (s : State), s.up = true → s.wrapped = true → s.testing = false → data.getLsbD 31 = true →
    Runs (.testEnable data) s fun t =>
      (s.slp.lock = true → t.seam.test.waiting = true ∧ t.seam.test.sends = 1) ∧
        (s.slp.lock = false → t.seam.test.running = true) ∧ t.seam.powered.getLsbD (fld data 0 3) = true ∧
        t.reg R.SEAM_TEST_CTRL = (data &&& 0x80371FF7) ∧ t.outs.regAck = true ∧ t.outs.regErr = false) ∧
  (∀ (data : Word) (s : State), s.up = true → s.wrapped = true → s.testing = true → data.getLsbD 31 = false →
    Runs (.testDisable data) s fun t =>
      t.seam.test.waiting = false ∧ t.seam.test.running = false ∧ t.flag F.SEAM_TEST_CTRL.ENABLE = false ∧
        t.outs.regAck = true ∧ t.outs.regErr = false) ∧
  (∀ (msg : BitVec 32) (s : State), s.up = true → s.slp.lock = true → s.seam.test.waiting = true →
    fld msg 0 3 = s.fld F.SEAM_TEST_CTRL.SLEEVE → Runs (.testAck msg) s fun t =>
      t.seam.test.waiting = false ∧ (msg.getLsbD 8 = false → t.seam.test.running = true ∧ t.seam.test.locked = 0) ∧
        (msg.getLsbD 8 = true → t.seam.test.running = false ∧ t.flag F.SEAM_TEST_CTRL.ENABLE = false)) ∧
  (∀ s : State, s.up = true → Settled s → s.seam.test.waiting = true → s.seam.test.sends < 3 → Runs .testReqTimeout s fun t =>
    t.seam.test.sends = s.seam.test.sends + 1 ∧ (∃ w, t.out = .sleeper 0x22 s.slp.mseq [w] :: s.out) ∧
      (s.byAo = false → s.seam.test.since.rail + 100000 ≤ t.now) ∧ OnlyChanges [.seam, .rwt, .aoCycles, .out, .outs, .slp] s t) ∧
  (∀ s : State, s.up = true → s.seam.test.waiting = true → 3 ≤ s.seam.test.sends → Runs .testReqTimeout s fun t =>
    t.seam.test.waiting = false ∧ t.seam.test.running = false ∧ t.flag F.SEAM_TEST_CTRL.ENABLE = false) ∧
  (∀ (w i : Nat) (y : BitVec 31), i + 31 < w →
    (seqTake w y).getLsbD (i + 31) = ((seqTake w y).getLsbD i ^^ (seqTake w y).getLsbD (i + 3))) ∧
  (∀ (lane : BitVec 4) (got b : BitVec 1055) (mode : Nat) (s : State), lane.toNat < 9 → s.up = true → Settled s →
    s.checks lane = true → s.seam.test.locked.getLsbD lane.toNat = false → mode = s.fld F.SEAM_TEST_CTRL.MODE →
    b = (if mode = 3 then seqTake 1055 (s.seam.test.gens.toList.getD lane.toNat 0) else if mode = 2 then ~~~got else got) →
    Runs (.prbsLock ⟨lane, got⟩) s fun t =>
      t.seam.test.locked = (if b = seqTake 1055 (bits b 0 31) then s.seam.test.locked ||| (1#9 <<< lane.toNat)
        else s.seam.test.locked) ∧ OnlyChanges [.seam, .outs, .slp] s t) ∧
  (∀ (lane : BitVec 4) (first second : BitVec 512) (b : BitVec 1024) (mode wrong : Nat) (s : State), lane.toNat < 9 → s.up = true → Settled s →
    s.checks lane = true → s.seam.test.locked.getLsbD lane.toNat = true → mode = s.fld F.SEAM_TEST_CTRL.MODE →
    b = (if mode = 3 then seqTake 1024 (s.seam.test.gens.toList.getD lane.toNat 0)
      else if mode = 2 then ~~~(second ++ first) else second ++ first) →
    wrong = wrongBits b (seqTake 1024 (s.seam.test.checks.toList.getD lane.toNat 0)) → Runs (.prbsLoss lane first second) s fun t =>
      t.seam.test.locked.getLsbD lane.toNat = decide (wrong ≤ 256) ∧
        t.seam.test.compared.toList.getD lane.toNat 0 = s.seam.test.compared.toList.getD lane.toNat 0 + 1024 ∧
        (t.reg (R.SEAM_PRBS_ERR + 4 * lane.toNat)).toNat
          = min ((s.reg (R.SEAM_PRBS_ERR + 4 * lane.toNat)).toNat + wrong) 0xFFFFFFFF ∧
        OnlyChanges [.seam, .regs, .outs, .slp] s t ∧ RegsBut [R.SEAM_PRBS_ERR + 4 * lane.toNat] s t) ∧
  (∀ (lane : BitVec 4) (s : State) (a : BitVec 1055) (b c : BitVec 512), 9 ≤ lane.toNat →
    exec (.prbsLock ⟨lane, a⟩) s = .fault (.noSuchTestLane lane) ∧ exec (.prbsLoss lane b c) s = .fault (.noSuchTestLane lane))

/-! ## Tailoring -/

/-- The phase tracker (R105): below a magnitude of 8 its offset is kept, at 8 or more the sampling phase takes a step over as far as its
range goes, with the committed and the shadow values. A pass begins on the lane whose turn it is once INTERVAL_MS has passed, or RETRY_MS
after a STARVED one (R108, R117), in a sleeve whose spare is not idle with its restricted steps (R118), and one that reaches its time
limit is abandoned with its shadow values discarded (R112). -/
def Obligations.PassesStartAndEnd : Prop :=
  (∀ (lane : LaneNo) (offset : BitVec 5) (s : State), lane.toNat < 72 → s.functional = true → Settled s →
    ((-8 < offset.toInt ∧ offset.toInt < 8) ∨ (8 ≤ offset.toInt ∧ fld (s.inUse lane) 0 6 = 63) ∨
      (offset.toInt ≤ -8 ∧ fld (s.inUse lane) 0 6 = 0)) → Runs (.phaseTrackerShift lane offset) s fun t =>
      t.rx lane = { s.rx lane with tracker := offset } ∧ OnlyChanges [.tlr, .outs, .slp] s t) ∧
  (∀ (lane : LaneNo) (offset : BitVec 5) (s : State), lane.toNat < 72 → s.functional = true → Settled s → 8 ≤ offset.toInt →
    fld (s.inUse lane) 0 6 < 63 → Runs (.phaseTrackerShift lane offset) s fun t =>
      fld (t.rx lane).act 0 6 = min 63 (fld (s.rx lane).act 0 6 + 1) ∧ fld (t.rx lane).shd 0 6 = min 63 (fld (s.rx lane).shd 0 6 + 1) ∧
        (t.rx lane).tracker = offset - 1 ∧ OnlyChanges [.tlr, .outs, .slp] s t) ∧
  (∀ (lane : LaneNo) (offset : BitVec 5) (s : State), lane.toNat < 72 → s.functional = true → Settled s → offset.toInt ≤ -8 →
    0 < fld (s.inUse lane) 0 6 → Runs (.phaseTrackerShift lane offset) s fun t =>
      fld (t.rx lane).act 0 6 = fld (s.rx lane).act 0 6 - 1 ∧ fld (t.rx lane).shd 0 6 = fld (s.rx lane).shd 0 6 - 1 ∧
        (t.rx lane).tracker = offset + 1 ∧ OnlyChanges [.tlr, .outs, .slp] s t) ∧
  (∀ (k : SleeveNo) (j : Nat) (s : State), s.functional = true → Settled s → s.rolls = true →
    s.seam.usable.getLsbD k.toNat = true → s.passIn k = none → (s.slv .down k).spareState ≠ 2 →
    s.flag (if (s.slv .down k).spareState = 0 then F.TLR_CTRL.ROLL_EN else F.TLR_CTRL.DARNED_EN) = true →
    s.nextLane k (s.tlr.turn.toList.getD k.toNat 0).val 9 = some j → Runs (.rollingPassStart k) s fun t =>
      (t.passIn k).map (fun p => (p.lane, p.step, p.full)) = some (laneOf k j, .opening, (s.slv .down k).spareState == 0) ∧
        (t.passIn k).map (·.startedAt) = some t.now ∧ (t.rx (laneOf k j)).shd = (s.rx (laneOf k j)).act ∧
        s.tlr.lastEnd.toList.getD k.toNat 0 + 1000000 * s.fld F.TLR_ROLL_CFG.INTERVAL_MS ≤ t.now ∧
        ((s.slv .down k).spareState ≠ 0 → OnlyChanges [.tlr, .rwt, .aoCycles, .outs, .slp] s t) ∧
        OnlyChanges [.tlr, .seam, .rwt, .aoCycles, .outs, .slp] s t) ∧
  (∀ (k : SleeveNo) (j : Nat) (s : State), s.functional = true → Settled s → s.rolls = true →
    s.seam.usable.getLsbD k.toNat = true → s.passIn k = none → (s.slv .down k).spareState = 0 → s.flag F.TLR_CTRL.ROLL_EN = true →
    s.tlr.starvedMask.getLsbD k.toNat = true → s.nextLane k (s.tlr.turn.toList.getD k.toNat 0).val 9 = some j →
    Runs (.starvedRetry k) s fun t =>
      (t.passIn k).map (fun p => (p.lane, p.step)) = some (laneOf k j, .opening) ∧
        s.tlr.lastEnd.toList.getD k.toNat 0 + 1000000 * s.fld F.TLR_CFG2.RETRY_MS ≤ t.now ∧
        OnlyChanges [.tlr, .seam, .rwt, .aoCycles, .outs, .slp] s t) ∧
  (∀ (lane : LaneNo) (p : Pass) (s : State), lane.toNat < 72 → s.functional = true → s.passIn (slvOf lane) = some p → p.lane = lane →
    Runs (.passLimitTimeout lane) s fun t =>
      t.passIn (slvOf lane) = none ∧ Raised C.TLR.PASS_ABANDONED t ∧ (t.rx lane).act = (s.rx lane).act ∧
        (t.rx lane).shd = (s.rx lane).act ∧ p.startedAt + 1000 * s.fld F.TLR_ROLL_CFG.PASS_LIMIT_US ≤ t.now)

/-- A histogram that fails R107, or does not fill within STARVE_MS, ends the pass STARVED (R107, R108) and, in training, the lane's
training (R122); a measure-only run ends with its quality (R109, R124); a step of the search that widens the eye is kept and the setting
moves on in its direction (R110); the closing measurement commits or discards, and while frozen discards (R111, R129); a measured eye
that is low for the DEGRADE_COUNTth time fails the lane (R84). -/
def Obligations.PassesMeasure : Prop :=
  (∀ (lane : LaneNo) (h : Histogram) (s : State), lane.toNat < 72 → s.functional = true → s.tlr.measuring = some lane →
    Runs (.histogramDone lane h) s fun t =>
      t.tlr.measuring = none ∧ (s.fitsIn s.tlr.measureFrom h = false → (t.rx lane).qual = qualWord 3 0 0 0) ∧
        (s.fitsIn s.tlr.measureFrom h = true →
          (t.rx lane).qual = qualWord 3 (s.histWorst h) (s.phaseCentre h).1 (eyePct (s.histEye h)))) ∧
  (∀ (lane : LaneNo) (h : Histogram) (s : State), lane.toNat < 72 → s.functional = true → s.tlr.measuring = some lane →
    s.fitsIn s.tlr.measureFrom h = true → s.eyeLow (s.histEye h) = true →
    s.fld F.SEAM_DET_CFG.DEGRADE_COUNT ≤ ((s.seam.lowEye.find? (·.1 == lane)).map (·.2)).getD 0 + 1 →
    s.seam.retired.getLsbD (slvOf lane).toNat = false → Runs (.histogramDone lane h) s fun t =>
      (t.slv .down (slvOf lane)).failed.getLsbD (placeOf lane) = true) ∧
  (∀ (lane : LaneNo) (h : Histogram) (p : Pass) (s : State), lane.toNat < 72 → s.functional = true → s.tlr.measuring ≠ some lane →
    s.passIn (slvOf lane) = some p → s.passOn lane = some p → s.live p = true → s.gathered p = true → p.ffeWait = false →
    s.fitsIn p.since h = false → Runs (.histogramDone lane h) s fun t =>
      t.passIn (slvOf lane) = none ∧ Raised C.TLR.STARVED t ∧ t.tlr.starvedMask.getLsbD (slvOf lane).toNat = true ∧
        (t.rx lane).shd = (s.rx lane).act) ∧
  (∀ (lane : LaneNo) (h : Histogram) (p : Pass) (s : State), lane.toNat < 72 → s.functional = true → Settled s →
    s.tlr.measuring ≠ some lane → s.passOn lane = some p → p.train = true → s.gathered p = true → p.ffeWait = false →
    s.fitsIn p.since h = false → Runs (.histogramDone lane h) s fun t =>
      (t.passOn lane).map (·.step) = some (.done false) ∧ OnlyChanges [.tlr, .outs, .slp] s t) ∧
  (∀ (lane : LaneNo) (h : Histogram) (p : Pass) (i best steps : Nat) (up : Bool) (r : BitVec 128) (s : State), lane.toNat < 72 →
    s.functional = true → Settled s → s.tlr.measuring ≠ some lane → s.passOn lane = some p → s.live p = true → s.gathered p = true →
    p.ffeWait = false → s.fitsIn p.since h = true → p.step = .attempt i up best steps → best < s.histEye h → peerSetting i = false →
    steps + 1 < s.fld F.TLR_CFG2.MAX_STEPS → stepSetting i true (s.rx lane).shd = some r → Runs (.histogramDone lane h) s fun t =>
      (t.rx lane).shd = r ∧ (t.rx lane).act = (s.rx lane).act ∧
        (t.passOn lane).map (·.step) = some (.attempt i true (s.histEye h) (steps + 1)) ∧ OnlyChanges [.tlr, .outs, .slp] s t) ∧
  (∀ (lane : LaneNo) (h : Histogram) (p : Pass) (s : State), lane.toNat < 72 → s.functional = true → s.tlr.measuring ≠ some lane →
    s.passIn (slvOf lane) = some p → s.passOn lane = some p → s.live p = true → s.gathered p = true → p.ffeWait = false →
    p.step = .closing → s.fitsIn p.since h = true → Runs (.histogramDone lane h) s fun t =>
      (s.freezing = false → p.opening + s.fld F.TLR_CFG2.COMMIT_GAIN ≤ s.histEye h →
        (t.rx lane).act = putField (s.rx lane).shd 112 8 (eyePct (s.histEye h)) ∧ (t.rx lane).shd = (t.rx lane).act) ∧
      ((s.freezing = true ∨ s.histEye h < p.opening + s.fld F.TLR_CFG2.COMMIT_GAIN) →
        (t.rx lane).act = (s.rx lane).act ∧ (t.rx lane).shd = (s.rx lane).act) ∧
      (p.onSpare = false → t.passIn (slvOf lane) = none) ∧
      (p.onSpare = true → (t.passIn (slvOf lane)).map (·.step) = some .verify)) ∧
  (∀ (lane : LaneNo) (s : State), lane.toNat < 72 → s.functional = true → s.tlr.measuring = some lane →
    Runs (.populationTimeout lane) s fun t =>
      t.tlr.measuring = none ∧ (t.rx lane).qual = qualWord 3 0 0 0 ∧
        (s.byAo = false → s.tlr.measureFrom.rail + s.starveNs ≤ t.now)) ∧
  (∀ (lane : LaneNo) (p : Pass) (s : State), lane.toNat < 72 → s.functional = true → s.tlr.measuring ≠ some lane →
    s.passIn (slvOf lane) = some p → s.passOn lane = some p → (s.live p = true ∨ p.full = false) →
    Runs (.populationTimeout lane) s fun t =>
      t.passIn (slvOf lane) = none ∧ Raised C.TLR.STARVED t ∧ (s.byAo = false → p.since.rail + s.starveNs ≤ t.now))

/-- FFE values asked for by the station are answered with STATUS 0, with 1 where the lane takes none now, and with 2 where a code is out of
range or the lane does not exist (R119, R120; a lane above 71 by the model's choice, log entry 74); they are in force at their slot, or
after the release of a freeze (R120, R129). FFE_DONE lets the step of a pass be measured, from then on (R110). -/
def Obligations.FfeIsExchanged : Prop :=
  (∀ (msg : BitVec 96) (s : State), s.functional = true → s.slp.lock = true → Settled s → fld msg 0 7 < 72 →
    s.ffeOpen (bits msg 0 7) = true → fld msg 16 5 ≤ 23 → Runs (.ffeSet msg) s fun t =>
      (bits msg 0 7, msg) ∈ t.tlr.ffeDue ∧
        t.out = .sleeper 0x19 s.slp.mseq (ffeMsg (bits msg 0 7) (bits msg 8 4) (bits msg 16 5) (bits msg 32 32) 0) :: s.out ∧
        OnlyChanges [.tlr, .out, .outs, .slp] s t) ∧
  (∀ (msg : BitVec 96) (st : Byte) (s : State), s.functional = true → s.slp.lock = true → Settled s →
    ((72 ≤ fld msg 0 7 ∧ st = 2) ∨ (fld msg 0 7 < 72 ∧ s.ffeOpen (bits msg 0 7) = false ∧ st = 1) ∨
      (fld msg 0 7 < 72 ∧ s.ffeOpen (bits msg 0 7) = true ∧ 23 < fld msg 16 5 ∧ st = 2)) → Runs (.ffeSet msg) s fun t =>
      t.out = .sleeper 0x19 s.slp.mseq (ffeMsg (bits msg 0 7) (bits msg 8 4) (bits msg 16 5) (bits msg 32 32) st) :: s.out ∧
        OnlyChanges [.out, .outs, .slp] s t) ∧
  (∀ (lane : LaneNo) (msg : BitVec 96) (s : State), lane.toNat < 72 → s.functional = true → Settled s → s.freezing = false →
    s.tlr.ffeDue.find? (·.1 == lane) = some (lane, msg) → Runs (.ffeApply lane) s fun t =>
      (t.tlr.tx[lane.toNat]?).map (·.act) = some (BitVec.ofNat 128 (fld msg 8 4 + fld msg 16 5 * 2 ^ 4)) ∧
        (∀ x ∈ t.tlr.ffeDue, x.1 ≠ lane) ∧ OnlyChanges [.tlr, .outs, .slp] s t) ∧
  (∀ (lane : LaneNo) (s : State), lane.toNat < 72 → s.functional = true → Settled s → s.freezing = true →
    Runs (.ffeApply lane) s fun t => t = s) ∧
  (∀ (msg : BitVec 96) (p : Pass) (s : State), s.functional = true → s.slp.lock = true → Settled s →
    fld msg 0 7 < 72 → s.passOn (bits msg 0 7) = some p → p.ffeWait = true →
    (fld msg 64 8 = 0 ∨ ∀ i up best steps, p.step ≠ .attempt i up best steps) → Runs (.ffeDone msg) s fun t =>
      t.passOn (bits msg 0 7) = some { p with ffeWait := false, since := s.mark } ∧ OnlyChanges [.tlr, .outs, .slp] s t)

/-- TLR_CTRL measures the selected lane and under MANUAL commits it, a receive lane with an FFE_SET where its FFE codes change
(R114, R119, R124); SNAP_CTRL freezes, releases and restores (R129, R131); the window then holds the image of R126, rebuilt under the next
generation, and a final rebuild sets FROZEN (R128, R129). -/
def Obligations.SnapshotAndManual : Prop :=
  (∀ (data : Word) (s : State), s.functional = true → s.regOn R.TLR_CTRL = true → bit data 9 = true → bit data 8 = false →
    bit data 3 = false → fld data 16 7 < 72 → bit data 24 = false → s.tlr.measuring = none →
    Runs (.tlrCtrlMeasure data) s fun t =>
      t.tlr.measuring = some (bits data 16 7) ∧ t.tlr.measureFrom = s.mark ∧ t.flag F.TLR_CTRL.MEASURE = true ∧
        t.outs.regAck = true ∧ t.outs.regErr = false) ∧
  (∀ (data : Word) (s : State), s.functional = true → s.regOn R.TLR_CTRL = true → bit data 8 = true → bit data 9 = false →
    bit data 3 = true → fld data 16 7 < 72 → bit data 24 = false → s.tlr.passes = [] → s.freezing = false → Settled s →
    rxOk (s.rx (bits data 16 7)).shd = true → Runs (.tlrCtrlCommit data) s fun t =>
      (t.rx (bits data 16 7)).act = (s.rx (bits data 16 7)).shd ∧ t.tlr.rebuild = some 0 ∧
        (ffeOf (s.rx (bits data 16 7)).shd ≠ ffeOf (s.rx (bits data 16 7)).act → ∃ slot, t.out = .sleeper 0x18 s.slp.mseq
          (ffeMsg (bits data 16 7) (ffeOf (s.rx (bits data 16 7)).shd).1 (ffeOf (s.rx (bits data 16 7)).shd).2 slot 0) :: s.out) ∧
        (ffeOf (s.rx (bits data 16 7)).shd = ffeOf (s.rx (bits data 16 7)).act → t.out = s.out) ∧ t.outs.regAck = true ∧
        t.outs.regErr = false) ∧
  (∀ (data : Word) (r : TlrLane) (s : State), s.functional = true → s.regOn R.TLR_CTRL = true → bit data 8 = true →
    bit data 9 = false → bit data 3 = true → bit data 24 = true → s.tlr.passes = [] → s.freezing = false →
    s.tlr.tx[fld data 16 7]? = some r → txOk (bits r.shd 0 32) = true → Runs (.tlrCtrlCommit data) s fun t =>
      (t.tlr.tx[fld data 16 7]?).map (·.act) = some r.shd ∧ t.tlr.rebuild = some 0 ∧ t.outs.regAck = true ∧ t.outs.regErr = false) ∧
  (∀ (data : Word) (s : State), s.functional = true → s.regOn R.TLR_SNAP_CTRL = true → bit data 0 = true → bit data 2 = false →
    s.freezing = false → s.sbx.ready = true → Runs (.snapFreeze data) s fun t =>
      t.tlr.frozenHost = true ∧ t.tlr.rebuild = some 1 ∧ t.flag F.TLR_SNAP_CTRL.FREEZE = true ∧ t.outs.regAck = true ∧
        t.outs.regErr = false ∧ (s.tlr.recentAt = s.aoCycles → ∀ x ∈ s.tlr.recent, x.1.toNat < 72 →
          (s.tlr.recent.filter (·.1 == x.1)) = [x] → (t.rx x.1).act = x.2.act)) ∧
  (∀ (data : Word) (s : State), s.functional = true → s.regOn R.TLR_SNAP_CTRL = true → bit data 0 = false → bit data 2 = false →
    s.tlr.frozenHost = true → s.tlr.frozenBrown = false → s.sbx.ready = true → Runs (.snapRelease data) s fun t =>
      t.tlr.frozenHost = false ∧ t.tlr.frozen = false ∧ t.tlr.rebuild = some 0 ∧ t.flag F.TLR_SNAP_CTRL.FREEZE = false ∧
        t.outs.regAck = true ∧ t.outs.regErr = false) ∧
  (∀ (data : Word) (s : State), s.functional = true → s.regOn R.TLR_SNAP_CTRL = true → bit data 2 = true →
    bit data 0 = s.tlr.frozenHost → s.loadable = true → Runs (.snapRestore data) s fun t =>
      t.outs.regAck = true ∧ t.outs.regErr = false ∧ (s.boot.physValid = false → t.tlr.restoreDue = true) ∧
        (s.boot.physValid = true → imageReject s.window1576 (Config.seamTemp s.free) s ≠ 0 →
          t.tlr.reject = imageReject s.window1576 (Config.seamTemp s.free) s ∧ t.tlr.rx = s.tlr.rx ∧ Raised C.TLR.RESTORE_REJECTED t) ∧
        (s.boot.physValid = true → imageReject s.window1576 (Config.seamTemp s.free) s = 0 →
          t.tlr.restored = true ∧ t.tlr.gen = leWord 32 s.window1576 8 4 ∧
            ∀ lane : LaneNo, lane.toNat < 72 → (t.rx lane).act = leWord 128 s.window1576 (128 + 16 * lane.toNat) 16)) ∧
  (∀ (cause : BitVec 2) (s : State), s.functional = true → s.tlr.rebuild = some cause → Runs .snapshotRebuild s fun t =>
    t.tlr.gen = (if s.tlr.gen = 0xFFFFFFFF then 1 else s.tlr.gen + 1) ∧ t.tlr.imageCause = cause ∧ t.tlr.rebuild = none ∧
      t.window1576 = imageOf t.tlr.gen cause (Config.seamTemp s.free) s ∧
      (s.freezing = true → t.tlr.frozen = true ∧ Raised C.TLR.SNAP_FROZEN t))

/-- The ends of training, of a restore's verification and of a retrain's tailoring share, with the message that each sends the
station (R123, R132, R157, R413): TRAIN_DONE with no sleeve but those trained, LINK_READY. A sound lane of a retrain
with one report has its committed sampling phase and thresholds centred (R123), and one without a report fails (log entry 74). -/
def Obligations.TrainingEnds : Prop :=
  (∀ (lanes : List LaneReport) (s : State), s.functional = true → s.tlr.mode = .training → s.pcm.st ≠ .waking →
    s.boot.peerMask.isSome = true → Runs (.trainingDone lanes) s fun t =>
      t.tlr.committed = true ∧ Raised C.TLR.TRAIN_DONE t ∧
        ∃ (m : Byte) (n : Byte), t.boot.ownUsable = some m ∧ m &&& ~~~s.trainMask = 0 ∧ Emit.sleeper 0x21 n [m.setWidth 32] ∈ t.out) ∧
  (∀ (lanes : List LaneReport) (s : State), s.functional = true → s.tlr.mode = .training → s.pcm.st = .waking →
    Runs (.trainingDone lanes) s fun t => t.tlr.mode = .service ∧ t.tlr.committed = true ∧ Raised C.TLR.TRAIN_DONE t) ∧
  (∀ (lanes : List LaneReport) (s : State), s.functional = true → s.tlr.mode ≠ .training → s.tlr.leftOut ≠ 0 →
    Runs (.trainingDone lanes) s fun t =>
      t.tlr.leftOut &&& ~~~s.tlr.leftOut = 0 ∧ t.tlr.committed = true ∧ Raised C.TLR.TRAIN_DONE t) ∧
  (∀ (lanes : List LaneReport) (s : State), s.functional = true → s.tlr.mode = .restoring → s.boot.peerMask.isSome = true →
    Runs (.restoreVerifyDone lanes) s fun t =>
      Raised C.TLR.RESTORE_DONE t ∧
        ∃ (m : Byte) (n : Byte), t.boot.ownUsable = some m ∧ m &&& ~~~s.trainMask = 0 ∧ Emit.sleeper 0x21 n [m.setWidth 32] ∈ t.out) ∧
  (∀ (lanes : List LaneReport) (r : Retrain) (s : State), s.functional = true → s.lnk.retraining = some r → r.tailored = false →
    Runs (.retrainTailoringDone lanes) s fun t =>
      t.lnk.retraining = some { r with tailored := true } ∧ Raised C.TLR.TRAIN_DONE t ∧ (∃ n : Byte, Emit.sleeper 0x29 n [0, 0] ∈ t.out) ∧
        (∀ lane ∈ s.soundLanes s.seam.usable, s.seam.retired.getLsbD (slvOf lane).toNat = false → (∀ x ∈ lanes, x.lane ≠ lane) →
          (t.slv .down (slvOf lane)).failed.getLsbD (placeOf lane) = true) ∧
        (∀ x ∈ s.soundReports s.seam.usable lanes, s.freezing = false → lanes.filter (·.lane == x.lane) = [x] →
          (t.rx x.lane).act = s.centrePhase x.hist (s.putThresholds x.hist (s.rx x.lane).act)))

/-! ## Link -/

/-- A flit slot advances both counters by one and takes 2 ns, less what a held railway time makes good and never past a path boundary
still to come (R72, R74, R200; log entry 6); the lanes carry what the slot sends, filler where nothing does (R72, R73, R75). A link
control flit that is due goes first (R138), then a flit due again, whose replay count rises (R138, R141), then a new flit of the track
whose turn it is, which takes the next sequence number and its ticket, enters the siding and carries the newest ACK (R136, R139, R140,
R147, R151); a seam control flit goes on every free sleeve (R80). The clauses on one flit are for one free sleeve. -/
def Obligations.FlitSlots : Prop :=
  (∀ s : State, s.platLive = true → s.seam.counting = true → Runs .flitSlotSend s fun t =>
    t.seam.upSlot = s.seam.upSlot + 1 ∧ t.seam.dnSlot = s.seam.dnSlot + 1 ∧
      ∃ fs, Emit.slot s.seam.upSlot fs ∈ t.out ∧
        (s.ttb.st ≠ .running → s.ttb.st ≠ .startArmed → t.now = s.now + (2 - s.rwt.hold) ∧
          ∀ f ∈ fs, s.seam.usable.getLsbD f.1.toNat = true)) ∧
  (∀ s : State, s.platLive = true → s.seam.counting = false → Runs .flitSlotSend s fun t => t = settle s) ∧
  (∀ (s : State) (k : SleeveNo), s.platLive = true → s.seam.counting = true → s.ttb.st ≠ .running →
    sleevesOf (s.seam.usable &&& ~~~s.ttb.upMask &&& ~~~s.grantedMask) = [k] → s.seam.ctlOut = [] → s.ctlReady = true →
    Runs .flitSlotSend s fun t =>
      Emit.slot s.seam.upSlot [(k, s.linkFlit)] ∈ t.out ∧ t.seam.line = s.lineOf s.seam.upSlot [(k, s.linkFlit)] ∧
        t.lnk.ctlDue = false ∧ t.lnk.nakDue = false ∧ t.lnk.retrainDue = false) ∧
  (∀ (s : State) (k : SleeveNo) (f : SideFlit), s.platLive = true → s.seam.counting = true → s.ttb.st ≠ .running →
    sleevesOf (s.seam.usable &&& ~~~s.ttb.upMask &&& ~~~s.grantedMask) = [k] → s.seam.ctlOut = [] → s.ctlReady = false →
    s.lnk.st = .up → s.lnk.siding.find? (·.again) = some f → retrainAt (f.replays + 1) = false → f.replays ≠ 15 → Runs .flitSlotSend s fun t =>
      Emit.slot s.seam.upSlot [(k, dataFlit s.lnk f)] ∈ t.out ∧
        t.lnk.siding = s.lnk.siding.map (fun x => if x.seq == f.seq then { x with again := false, replays := x.replays + 1 } else x)) ∧
  (∀ (s : State) (k : SleeveNo) (tr left : Nat) (turn : Fin 4) (f : OutFlit) (rest : List OutFlit) (i : Option (Fin 6)) (shared : Bool),
    s.platLive = true → s.seam.counting = true → s.ttb.st ≠ .running →
    sleevesOf (s.seam.usable &&& ~~~s.ttb.upMask &&& ~~~s.grantedMask) = [k] → s.seam.ctlOut = [] → s.ctlReady = false →
    s.lnk.st = .up → s.lnk.siding.find? (·.again) = none → s.span < s.spanLimit →
    (passTurn s).nextTrack = some (tr, turn, left) → s.lnk.outq.toList.getD tr [] = f :: rest →
    s.ticketFor (BitVec.ofNat 3 tr) = some (i, shared) → Runs .flitSlotSend s fun t =>
      Emit.slot s.seam.upSlot [(k, dataFlit s.lnk ⟨s.lnk.nextSeq, shared, f, 0, false⟩)] ∈ t.out ∧
        t.lnk.siding = s.lnk.siding ++ [⟨s.lnk.nextSeq, shared, f, 0, false⟩] ∧ t.lnk.nextSeq = s.lnk.nextSeq + 1 ∧
        t.lnk.held = (match i with | some i => s.lnk.held.set i (s.lnk.held[i] - 1) | none => s.lnk.held)) ∧
  (∀ (s : State) (k : SleeveNo) (p : BitVec 1920) (ps : List (BitVec 1920)), s.platLive = true → s.seam.counting = true →
    s.ttb.st ≠ .running → sleevesOf (s.seam.usable &&& ~~~s.ttb.upMask &&& ~~~s.grantedMask) = [k] → s.seam.ctlOut = p :: ps →
    s.lnk.st = .up → Runs .flitSlotSend s fun t =>
      Emit.slot s.seam.upSlot [(k, sealFlit (0b100#3 ++ 0#61) p)] ∈ t.out ∧ t.seam.ctlOut = ps)

/-- Flits received (R73, R135, R137, R139, R142, R143, R148): the next in sequence is accepted, a repeated one is not, one out of order
opens a gap, in selective mode to be held, one with a bad CRC is counted and opens one, one of a reserved kind raises PROTOCOL, and
filler is none. -/
def Obligations.DataFlitsArrive : Prop :=
  (∀ (k : SleeveNo) (line : BitVec 2304) (p : BitVec 1920) (s : State) (h : DHdr), s.platLive = true → s.lnk.st = .up →
    Brings 1 k line p s → h = DHdr.ofBits (bits (s.slotOf k line) 0 64) → h.track.toNat < 6 →
    s.lnk.trackMask.getLsbD h.track.toNat = true → h.seq = s.lnk.lastAcc + 1 → s.lnk.reorder = [] →
    (∀ i, (rxFlitOf h (s.slotOf k line)).kind = some i → s.poolUsed i < s.poolSize i) → Runs (.dataFlitReceive k line) s fun t =>
      t.lnk.lastAcc = h.seq ∧ t.lnk.pool = s.lnk.pool ++ [rxFlitOf h (s.slotOf k line)] ∧ t.lnk.gap = false ∧ t.lnk.rxCount = 0 ∧
        t.lnk.ackDirty = true) ∧
  (∀ (k : SleeveNo) (line : BitVec 2304) (p : BitVec 1920) (s : State) (h : DHdr), s.platLive = true → s.lnk.st = .up →
    Brings 1 k line p s → h = DHdr.ofBits (bits (s.slotOf k line) 0 64) → (s.lnk.lastAcc - h.seq).toNat < 2048 →
    Runs (.dataFlitReceive k line) s fun t => t.lnk.lastAcc = s.lnk.lastAcc ∧ t.lnk.pool = s.lnk.pool ∧ t.lnk.reorder = s.lnk.reorder) ∧
  (∀ (k : SleeveNo) (line : BitVec 2304) (p : BitVec 1920) (s : State) (h : DHdr), s.platLive = true → s.lnk.st = .up →
    Brings 1 k line p s → h = DHdr.ofBits (bits (s.slotOf k line) 0 64) → h.track.toNat < 6 →
    s.lnk.trackMask.getLsbD h.track.toNat = true → 2048 ≤ (s.lnk.lastAcc - h.seq).toNat → h.seq ≠ s.lnk.lastAcc + 1 →
      (s.lnk.selective = false → Runs (.dataFlitReceive k line) s fun t =>
        t.lnk.lastAcc = s.lnk.lastAcc ∧ t.lnk.pool = s.lnk.pool ∧ t.lnk.reorder = s.lnk.reorder ∧ t.lnk.gap = true ∧
          (s.lnk.gap = false → t.lnk.nakDue = true)) ∧
      (s.lnk.selective = true → (h.seq - s.lnk.lastAcc).toNat ≤ 256 → s.lnk.reorder = [] →
        (∀ i, (rxFlitOf h (s.slotOf k line)).kind = some i → s.poolUsed i < s.poolSize i) → Runs (.dataFlitReceive k line) s fun t =>
          t.lnk.lastAcc = s.lnk.lastAcc ∧ t.lnk.pool = s.lnk.pool ∧ t.lnk.reorder = [rxFlitOf h (s.slotOf k line)] ∧ t.lnk.gap = true ∧
            t.lnk.nakDue = true)) ∧
  (∀ (k : SleeveNo) (line : BitVec 2304) (f : BitVec 2048) (s : State), s.platLive = true → s.lnk.st = .up → Comes k line f s →
    kindOf f = 1 → crcOk f = false → Runs (.dataFlitReceive k line) s fun t =>
      t.lnk.lastAcc = s.lnk.lastAcc ∧ t.lnk.pool = s.lnk.pool ∧ t.lnk.siding = s.lnk.siding ∧ t.lnk.gap = true ∧
        t.seam.crcWin.toList.getD k.toNat 0 = s.seam.crcWin.toList.getD k.toNat 0 + 1 ∧
        (t.reg (R.LNK_CRC_ERR + 4 * k.toNat)).toNat = min 0xFFFFFFFF ((s.reg (R.LNK_CRC_ERR + 4 * k.toNat)).toNat + 1)) ∧
  (∀ (k : SleeveNo) (line : BitVec 2304) (f : BitVec 2048) (s : State), s.platLive = true → Settled s → Comes k line f s →
    5 ≤ kindOf f → Runs (.dataFlitReceive k line) s fun t =>
      Raised C.LNK.PROTOCOL t ∧ OnlyChanges [.regs, .flt, .outs, .slp] s t ∧ RegsBut C.LNK.PROTOCOL.regs s t) ∧
  (∀ (k : SleeveNo) (line : BitVec 2304) (s : State), s.platLive = true → Settled s → bits (s.slotOf k line) 0 64 = 0#64 →
    Runs (.dataFlitReceive k line) s fun t => t = s)

/-- Link control flits (R137, R140, R145, R157, R412): the first in start-up's last step brings LINK_UP, the ACK of one that arrives while
the link is up empties the siding up to it, and one with RETRAIN begins a retrain, in a grace hold too (R160). A T6 flit is counted as
corrected or as uncorrectable by its decoding, one on a sleeve in the slot in which it is retired as uncorrectable, and filler in a
reserved slot is none (R73, R154, R162). -/
def Obligations.ControlFlitsArrive : Prop :=
  (∀ (k : SleeveNo) (line : BitVec 2304) (p : BitVec 1920) (s : State), s.platLive = true → Brings 3 k line p s → s.lnk.st = .notUp →
    s.boot.step = 8 → (LinkCtl.ofBits p).retrain = false → Runs (.linkControlReceive k line) s fun t =>
      t.lnk.st = .up ∧ t.pcm.st = .awake ∧ t.tlr.mode = .service ∧ Raised C.LNK.LINK_UP t ∧ t.outs.portsReady = true) ∧
  (∀ (k : SleeveNo) (line : BitVec 2304) (p : BitVec 1920) (s : State) (h : DHdr), s.platLive = true → Brings 3 k line p s →
    s.lnk.st = .up → h = DHdr.ofBits (bits (s.slotOf k line) 0 64) → (LinkCtl.ofBits p).retrain = false →
    (h.ack - s.lnk.acked).toNat ≤ (s.lnk.nextSeq - 1 - s.lnk.acked).toNat → Runs (.linkControlReceive k line) s fun t =>
      t.lnk.acked = h.ack ∧ t.lnk.st = .up ∧
        t.lnk.siding.map (fun f => (f.seq, f.flit, f.replays))
          = (s.lnk.siding.filter fun f => (h.ack - s.lnk.acked).toNat < (f.seq - s.lnk.acked).toNat).map fun f => (f.seq, f.flit, f.replays)) ∧
  (∀ (k : SleeveNo) (line : BitVec 2304) (p : BitVec 1920) (s : State), s.platLive = true → Brings 3 k line p s →
    (s.lnk.st = .up ∨ s.lnk.st = .grace) → (LinkCtl.ofBits p).retrain = true → s.lnk.retraining = none →
    Runs (.linkControlReceive k line) s fun t =>
      t.lnk.st = (if s.lnk.st = .grace then .grace else .retrain) ∧ t.lnk.retraining.isSome = true ∧ t.lnk.retrainDue = false ∧
        Raised C.LNK.RETRAIN t) ∧
  (∀ (k : SleeveNo) (line : BitVec 2304) (f : BitVec 2048) (s : State), s.platLive = true → Comes k line f s → kindOf f = 3 →
    crcOk f = false → Runs (.linkControlReceive k line) s fun t =>
      t.lnk = s.lnk ∧ (t.reg (R.LNK_CRC_ERR + 4 * k.toNat)).toNat = min 0xFFFFFFFF ((s.reg (R.LNK_CRC_ERR + 4 * k.toNat)).toNat + 1)) ∧
  (∀ (k : SleeveNo) (place : BitVec 5) (line : BitVec 2304) (s : State), s.platLive = true → s.lnk.st = .up →
    bits (s.slotOf k line) 0 64 ≠ 0#64 → s.seam.usable.getLsbD k.toNat = true → s.seam.lastRetired ≠ some (k, s.seam.dnSlot) →
    Runs (.t6FlitReceive k ⟨place, line⟩) s fun t =>
      (t6Decode (s.slotOf k line) = none → (t.reg R.LNK_FEC_UNCORR).toNat = min 0xFFFFFFFF ((s.reg R.LNK_FEC_UNCORR).toNat + 1) ∧
        t.reg R.LNK_FEC_CORR = s.reg R.LNK_FEC_CORR) ∧
      (∀ h p n, t6Decode (s.slotOf k line) = some (h, p, n) → n ≠ 0 →
        (t.reg R.LNK_FEC_CORR).toNat = min 0xFFFFFFFF ((s.reg R.LNK_FEC_CORR).toNat + 1) ∧
          t.reg R.LNK_FEC_UNCORR = s.reg R.LNK_FEC_UNCORR)) ∧
  (∀ (k : SleeveNo) (place : BitVec 5) (line : BitVec 2304) (s : State), s.platLive = true → s.lnk.st = .up →
    bits (s.slotOf k line) 0 64 ≠ 0#64 → s.seam.lastRetired = some (k, s.seam.dnSlot) → Runs (.t6FlitReceive k ⟨place, line⟩) s fun t =>
      (t.reg R.LNK_FEC_UNCORR).toNat = min 0xFFFFFFFF ((s.reg R.LNK_FEC_UNCORR).toNat + 1) ∧ t.reg R.LNK_FEC_CORR = s.reg R.LNK_FEC_CORR) ∧
  (∀ (k : SleeveNo) (place : BitVec 5) (line : BitVec 2304) (s : State), s.platLive = true → Settled s →
    bits (s.slotOf k line) 0 64 = 0#64 → Runs (.t6FlitReceive k ⟨place, line⟩) s fun t => t = s)

/-- The link's timers: REPLAY_TIMER, a REPLAY_NS after its last start, starts again and makes the siding due again in go-back mode and its
oldest flit in selective mode, with REPLAY where one was not due yet (R141, R142, R143, R164); ACK_TIMER, an ACK_MAX_NS after the first
change not sent, and KEEPALIVE_TIMER, a KEEPALIVE after the last link control flit, make a link control flit due (R145, R164);
RECEIVER_REPLAY_PERIOD counts the REPLAY_NS of a gap, begins a retrain at 4, 8 and 12 and takes the link down at 16 (R156, R159). -/
def Obligations.LinkTimers : Prop :=
  (∀ (f : SideFlit) (fs : List SideFlit) (s : State), s.platLive = true → s.lnk.st = .up → s.lnk.siding = f :: fs → Settled s →
    Runs .replayTimer s fun t =>
      t.lnk = { s.lnk with
        replayFrom := t.mark,
        siding := s.lnk.siding.map fun x => if s.lnk.selective = false ∨ x.seq = f.seq then { x with again := true } else x } ∧
      (f.again = false → Raised C.LNK.REPLAY t) ∧ (s.byAo = false → s.lnk.replayFrom.rail + s.replayNs ≤ t.now) ∧
      OnlyChanges [.lnk, .regs, .flt, .rwt, .aoCycles, .outs, .slp] s t ∧ RegsBut C.LNK.REPLAY.regs s t) ∧
  (∀ s : State, s.platLive = true → s.lnk.st = .up → s.lnk.siding = [] → Settled s → Runs .replayTimer s fun t => t = s) ∧
  (∀ s : State, s.platLive = true → s.lnk.st = .up → s.lnk.ackDirty = true → Settled s → Runs .ackTimer s fun t =>
    t.lnk = { s.lnk with ctlDue := true } ∧ (s.byAo = false → s.lnk.dirtyFrom.rail + s.ackMaxNs ≤ t.now) ∧
      OnlyChanges [.lnk, .rwt, .aoCycles, .outs, .slp] s t) ∧
  (∀ s : State, s.platLive = true → s.lnk.st = .up → Settled s → Runs .keepaliveTimer s fun t =>
    t.lnk = { s.lnk with ctlDue := true } ∧ (s.byAo = false → s.lnk.ctlFrom.rail + s.keepaliveNs ≤ t.now) ∧
      OnlyChanges [.lnk, .rwt, .aoCycles, .outs, .slp] s t) ∧
  (∀ s : State, s.platLive = true → s.lnk.st = .up → s.lnk.gap = true → Settled s → retrainAt (s.lnk.rxCount + 1) = false →
    s.lnk.rxCount ≠ 15 → Runs .receiverReplayPeriod s fun t =>
      t.lnk = { s.lnk with rxCount := s.lnk.rxCount + 1, gapFrom := t.mark } ∧
        (s.byAo = false → s.lnk.gapFrom.rail + s.replayNs ≤ t.now) ∧ OnlyChanges [.lnk, .rwt, .aoCycles, .outs, .slp] s t) ∧
  (∀ s : State, s.platLive = true → s.lnk.st = .up → s.lnk.gap = true → retrainAt (s.lnk.rxCount + 1) = true →
    s.lnk.retraining = none → Runs .receiverReplayPeriod s fun t => t.lnk.st = .retrain ∧ Raised C.LNK.RETRAIN t) ∧
  (∀ s : State, s.platLive = true → s.lnk.st = .up → s.lnk.gap = true → s.lnk.rxCount = 15 → s.lnk.retraining = none →
    Runs .receiverReplayPeriod s fun t => t.lnk.downCause = 0x02 ∧ Raised C.LNK.LINK_DOWN t)

/-- Retrains (R156 to R158, R160): asked for by LNK_CTRL or by the station they begin while the link is up, and every 1 ms of a grace
hold; LINK_READY names the slots, and LINK_RESUME takes the link up again with them once the tailoring share has ended, its siding due
again, with its counts at 0 after a hold; a RETRAIN_TIMEOUT counts a failure and tries again, and the third takes the link down. In
CALIBRATING the station's message is taken as silence (R419); LINK_READY at the end of calibration starts the slot counters (R74, R412). -/
def Obligations.Retrains : Prop :=
  (∀ (data : Word) (s : State), s.functional = true → s.regOn R.LNK_CTRL = true → bit data 2 = true → bit data 3 = false →
    s.lnk.st = .up → s.lnk.retraining = none → Runs (.lnkCtrlRetrain data) s fun t =>
      t.lnk.st = .retrain ∧ t.lnk.retraining.isSome = true ∧ t.lnk.retrainDue = true ∧ Raised C.LNK.RETRAIN t ∧
        t.tlr.mode = .retrain ∧ t.outs.regAck = true ∧ t.outs.regErr = false) ∧
  (∀ s : State, s.functional = true → s.slp.lock = true → s.boot.step ≠ 7 → (s.lnk.st = .up ∨ s.lnk.st = .grace) →
    s.lnk.retraining = none → Runs .sleeperLinkRetrain s fun t =>
      t.lnk.retraining.isSome = true ∧ t.lnk.st = (if s.lnk.st = .up then .retrain else .grace) ∧ t.lnk.retrainDue = false ∧
        Raised C.LNK.RETRAIN t) ∧
  (∀ s : State, s.functional = true → s.slp.lock = true → s.boot.step = 7 → s.boot.trainSends < 10 → Runs .sleeperLinkRetrain s fun t =>
    t.boot.peerMask = none ∧ t.boot.ownUsable = none ∧ t.boot.trainSends = s.boot.trainSends + 1 ∧ t.boot.step = 7) ∧
  (∀ (msg : BitVec 64) (r : Retrain) (s : State), s.functional = true → s.slp.lock = true → Settled s → s.boot.step ≠ 7 →
    s.lnk.retraining = some r → Runs (.linkReady msg) s fun t =>
      t.lnk = { s.lnk with retraining := some { r with resume := some (bits msg 0 32, bits msg 32 32) } } ∧
        OnlyChanges [.lnk, .outs, .slp] s t) ∧
  (∀ (msg : BitVec 64) (s : State), s.functional = true → s.slp.lock = true → Settled s → s.boot.step = 7 →
    s.boot.ownUsable.isSome = true → s.boot.peerUsable.isSome = true → s.seam.usable ≠ 0 → Runs (.linkReady msg) s fun t =>
      t.boot.step = 8 ∧ t.seam.counting = true ∧ t.seam.upSlot = 0 ∧ t.seam.dnSlot = 0 ∧ t.lnk.ctlDue = true ∧
        OnlyChanges [.boot, .seam, .lnk, .outs, .slp] s t) ∧
  (∀ (s : State) (r : Retrain) (u d : BitVec 32), s.platLive = true → s.lnk.retraining = some r → r.resume = some (u, d) →
    r.tailored = true → r.downAfter = false → s.seam.usable ≠ 0 → Runs .linkResume s fun t =>
      t.lnk.st = .up ∧ t.lnk.retraining = none ∧ t.lnk.retrainFails = 0 ∧ t.tlr.mode = .service ∧ t.seam.upSlot = u ∧
        t.seam.dnSlot = d ∧ t.lnk.ctlDue = true ∧
        t.lnk.siding = s.lnk.siding.map fun f => { f with again := true, replays := if s.lnk.st = .grace then 0 else f.replays }) ∧
  (∀ (s : State) (r : Retrain), s.platLive = true → Settled s → s.lnk.retraining = some r → (r.tailored = false ∨ r.resume = none) →
    Runs .linkResume s fun t => t = s) ∧
  (∀ (s : State) (r : Retrain), s.platLive = true → s.lnk.retraining = some r → s.lnk.st = .retrain → Runs .retrainTimeout s fun t =>
    Raised C.LNK.RETRAIN_FAIL t ∧ t.lnk.retrainFails = s.lnk.retrainFails + 1 ∧ r.startedAt + 100000 ≤ t.now ∧
      (s.lnk.retrainFails ≠ 2 → r.downAfter = false → t.lnk.st = .retrain ∧ t.lnk.retraining.isSome = true) ∧
      (s.lnk.retrainFails = 2 → t.lnk.downCause = 0x01 ∧ Raised C.LNK.LINK_DOWN t)) ∧
  (∀ (s : State) (r : Retrain), s.platLive = true → s.lnk.retraining = some r → s.lnk.st = .grace → Runs .retrainTimeout s fun t =>
    Raised C.LNK.RETRAIN_FAIL t ∧ t.lnk.retrainFails = s.lnk.retrainFails + 1 ∧ t.lnk.st = .grace ∧ t.lnk.retraining = none) ∧
  (∀ s : State, s.platLive = true → s.lnk.st = .grace → Runs .graceRetrainTimer s fun t =>
    t.lnk.st = .grace ∧ t.lnk.graceFrom = t.mark ∧ (s.byAo = false → s.lnk.graceFrom.rail + 1000000 ≤ t.now) ∧
      (s.lnk.retraining = none → (s.slp.lock = true ∨ s.asleep = false) → t.lnk.retraining.isSome = true ∧ Raised C.LNK.RETRAIN t))

/-- The link goes down into the grace hold with LINK_DOWN and its cause (R159, R160); GRACE_EXPIRY flushes it, unless a retrain succeeds in
the same tick (R162), and so does FLUSH_NOW: the siding and the outbound queues are empty, and FLUSHED is raised (R161); RESTART after a
flush begins again at negotiation with a NEG_OFFER, the link and its counters as after reset (R161, R414). -/
def Obligations.HoldFlushRestart : Prop :=
  (∀ (msg : BitVec 32) (s : State), s.functional = true → s.slp.lock = true → s.boot.step ≠ 7 →
    (s.lnk.st = .up ∨ s.lnk.st = .retrain) → Runs (.sleeperLinkDown msg) s fun t =>
      Raised C.LNK.LINK_DOWN t ∧ t.lnk.downCause = bits msg 0 8 ∧ (s.graceUs ≠ 0 → t.lnk.st = .grace ∧ t.lnk.downAt = s.now) ∧
        (s.graceUs = 0 → t.lnk.st = .flushed)) ∧
  (∀ s : State, s.platLive = true → s.lnk.st = .grace → s.canResume = false → Runs .graceExpiry s fun t =>
    t.lnk.st = .flushed ∧ t.lnk.siding = [] ∧ t.lnk.outq = Vector.replicate 6 [] ∧ Raised C.LNK.FLUSHED t ∧
      s.lnk.downAt + 1000 * s.graceUs ≤ t.now) ∧
  (∀ s : State, s.platLive = true → s.lnk.st = .grace → s.canResume = true → (∀ r, s.lnk.retraining = some r → r.downAfter = false) →
    Runs .graceExpiry s fun t => t.lnk.st = .up ∧ t.lnk.siding.map (·.seq) = s.lnk.siding.map (·.seq)) ∧
  (∀ (data : Word) (s : State), s.functional = true → s.regOn R.LNK_CTRL = true → bit data 1 = true →
    bit data 3 = false → s.lnk.st = .grace → Runs (.flushNow data) s fun t =>
      t.lnk.st = .flushed ∧ t.lnk.siding = [] ∧ t.lnk.outq = Vector.replicate 6 [] ∧ Raised C.LNK.FLUSHED t ∧ t.outs.regAck = true ∧
        t.outs.regErr = false) ∧
  (∀ (data : Word) (s : State), s.functional = true → s.regOn R.LNK_CTRL = true → bit data 3 = true → s.lnk.st = .flushed →
    Runs (.lnkCtrlRestart data) s fun t =>
      t.lnk = Lnk.reset ∧ t.boot.step = 6 ∧ t.boot.again = true ∧ t.boot.offers = 1 ∧ t.seam.usable = 0 ∧ t.tlr.passes = [] ∧
        (∀ n, n < 9 → t.reg (R.LNK_EVT_CNT + 4 * n) = 0) ∧ (∀ k, k < 8 → t.reg (R.LNK_CRC_ERR + 4 * k) = 0) ∧
        t.reg R.LNK_FEC_CORR = 0 ∧ t.reg R.LNK_FEC_UNCORR = 0 ∧ t.outs.regAck = true ∧ t.outs.regErr = false)

/-! ## Railway time and timetables -/

/-- A set of time exchanges (R198): it begins, INTERVAL_US after the start of the one before (R225), each exchange sends TIME_REQ 1 µs after the one before, an answer is paired by ECHO within
its window, an exchange without one is dead after 10 µs. A set without an answer fails (R200, R201). The set's end locks after LOCK_SETS good sets, steps where the offset exceeds
1 ns, and loses the lock at the second set beyond LOST_NS (R200, R201); RELOCK returns to the unlocked state, unless a timetable is
start armed or running (R201). -/
def Obligations.TimeSets : Prop :=
  (∀ s : State, s.functional = true → Settled s → s.rwt.inSet = false → 7 ≤ s.boot.reached.toNat → Runs .syncSetStart s fun t =>
    t.rwt = { s.rwt with
      now := t.rwt.now, hold := t.rwt.hold, sub := t.rwt.sub, inSet := true, sets := true, setFrom := t.mark, exch := [],
      st := if s.rwt.st = .unlocked then .locking else s.rwt.st } ∧
      (s.rwt.sets = false → t.now = s.now ∧ t.ticks = s.ticks) ∧
      (s.rwt.sets = true → s.byAo = false → s.rwt.setFrom.rail + 1000 * max 16 (s.fld F.RWT_SYNC_CFG.INTERVAL_US) ≤ t.now) ∧
      OnlyChanges [.rwt, .aoCycles, .outs, .slp] s t) ∧
  (∀ s : State, s.functional = true → Settled s → s.rwt.inSet = true → s.rwt.exch.length < 8 → Runs .timeReqSend s fun t =>
    t.out = .sleeper 0x10 s.slp.mseq [] :: s.out ∧ t.rwt.exch = s.rwt.exch ++ [⟨s.slp.mseq, (t.now : Int), none, false⟩] ∧
      (∀ x, s.rwt.exch.getLast? = some x → x.t1.toNat + 1000 ≤ t.now) ∧
      OnlyChanges [.rwt, .aoCycles, .out, .outs, .slp] s t) ∧
  (∀ (msg : BitVec 160) (x : TimeExch) (xs : List TimeExch) (s : State), s.functional = true → s.slp.lock = true → Settled s →
    s.rwt.inSet = true → s.rwt.exch = xs ++ [x] → x.mseq = bits msg 152 8 → (∀ y ∈ xs, y.mseq ≠ bits msg 152 8) → x.got = none →
    x.dead = false → (s.now : Int) ≤ x.t1 + 10000 → Runs (.timeResp msg) s fun t =>
      t.rwt.exch = xs ++ [{ x with got := some (((fld msg 0 64 : Int) - x.t1) + ((s.now : Int) - (fld msg 64 64 : Int)),
        (x.t1 - (fld msg 0 64 : Int)) + ((s.now : Int) - (fld msg 64 64 : Int)) - (bits msg 128 16 : BitVec 16).toInt,
        bits msg 144 2) }] ∧ OnlyChanges [.rwt, .outs, .slp] s t) ∧
  (∀ (x : TimeExch) (s : State), s.functional = true → Settled s → (s.rwt.exch.find? fun x => x.got.isNone && !x.dead) = some x →
    Runs .timeExchangeTimeout s fun t =>
      (∀ y ∈ t.rwt.exch, y.mseq = x.mseq → y.got = none → y.dead = true) ∧ x.t1.toNat + 10000 ≤ t.now ∧
        t.rwt.exch.length = s.rwt.exch.length ∧ OnlyChanges [.rwt, .aoCycles, .outs, .slp] s t) ∧
  (∀ s : State, s.functional = true → s.rwt.inSet = true → bestExch (s.rwt.exch.filterMap (·.got)) = none → Runs .syncSetEnd s fun t =>
    t.rwt.inSet = false ∧ t.rwt.exch = [] ∧ t.rwt.goodRun = 0 ∧ t.rwt.lostRun = 0 ∧
      t.rwt.failRun = s.rwt.failRun + 1 ∧ t.rwt.st = s.rwt.st ∧
      (s.unlocked = false → (s.rwt.failRun + 1) % 10 = 0 → Raised C.RWT.SYNC_MISSING t)) ∧
  (∀ (d o : Int) (q : BitVec 2) (s : State), s.functional = true → s.rwt.inSet = true →
    bestExch (s.rwt.exch.filterMap (·.got)) = some (d, o, q) → Runs .syncSetEnd s fun t =>
      t.rwt.failRun = 0 ∧ t.rwt.q = q ∧ (-32768 ≤ o → o ≤ 32767 → t.rwt.offset = BitVec.ofInt 16 o) ∧
      (s.rwt.st = .locking → o.natAbs ≤ 2 → atLeastOne (s.fld F.RWT_SYNC_CFG.LOCK_SETS) ≤ s.rwt.goodRun + 1 →
        t.rwt.st = .locked ∧ Raised C.RWT.LOCKED t) ∧
      (s.rwt.st = .locking → 2 < o.natAbs → t.rwt.st = .locking ∧ t.rwt.goodRun = 0 ∧ Raised C.RWT.STEP t) ∧
      (s.rwt.st = .locked → 2 * s.fld F.RWT_SYNC_CFG.DRIFT_NS < o.natAbs → Raised C.RWT.DRIFT t) ∧
      (s.rwt.st = .locked → 2 * s.fld F.RWT_SYNC_CFG.LOST_NS < o.natAbs → s.rwt.lostRun ≠ 0 →
        t.rwt.st = .lost ∧ Raised C.RWT.TIME_LOST t)) ∧
  (∀ (data : Word) (s : State), s.functional = true → Settled s → s.regOn R.RWT_CTRL = true → bit data 0 = true →
    s.ttb.st ≠ .running → s.ttb.st ≠ .startArmed → Runs (.rwtRelock data) s fun t =>
      t.rwt = { s.rwt with st := .unlocked, goodRun := 0, lostRun := 0, failRun := 0 } ∧ t.outs.regAck = true ∧ t.outs.regErr = false ∧
        OnlyChanges [.rwt, .outs, .slp] s t)

/-- Loads (R207, R208): GO at an aligned address begins one and at any other ends it at once with RESULT 0x12; an image that passes
the checks and has no station section becomes the ready standby, one whose header or capacity checks fail ends with their RESULT, a
failed read of the header or after them with RESULT 0x35; the station's last acknowledgement installs the bank, its refusal and its
silence for 10 ms end the load with RESULT 0x37 and 0x36. -/
def Obligations.Loads : Prop :=
  (∀ (data : Word) (s : State), s.functional = true → s.regOn R.TTB_LOAD_CTRL = true → bit data 0 = true → s.ttb.load = none →
    (s.pair R.TTB_LOAD_ADDR_LO).toNat % 4096 = 0 → Runs (.ttbLoadGo data) s fun t =>
      t.ttb.load = some ⟨s.pair R.TTB_LOAD_ADDR_LO, bits data 8 3, bit data 1, s.ttb.standby == .armed, none⟩ ∧
        t.ttb.standby = (if s.ttb.standby = .armed then .armed else .loading) ∧ t.outs.regAck = true ∧ t.outs.regErr = false) ∧
  (∀ (data : Word) (s : State), s.functional = true → s.regOn R.TTB_LOAD_CTRL = true → bit data 0 = true → s.ttb.load = none →
    (s.pair R.TTB_LOAD_ADDR_LO).toNat % 4096 ≠ 0 → Runs (.ttbLoadGo data) s fun t =>
      t.ttb.load = none ∧ t.fld F.TTB_LOAD_CTRL.RESULT = 0x12 ∧ Raised C.TTB.LOAD_FAIL t) ∧
  (∀ (data : Word) (s : State), s.functional = true → s.regOn R.TTB_LOAD_CTRL = true → bit data 0 = true →
    s.ttb.load.isSome = true → Runs (.ttbLoadGo data) s fun t => t.ttb = s.ttb ∧ t.fld F.TTB_LOAD_CTRL.RESULT = 0x01) ∧
  (∀ (fetched : Bool) (image : List Byte) (ld : Load) (s : State), s.platLive = true → s.ttb.load = some ld → ld.bank = none →
    s.hasPort ld.port = true → (fetched = true ∨ 128 ≤ image.length) → hdrChecks image ld s.own s.freeEntries ≠ 0 →
    Runs (.ttbLoadFetchDone fetched image) s fun t =>
      t.ttb.load = none ∧ t.fld F.TTB_LOAD_CTRL.RESULT = hdrChecks image ld s.own s.freeEntries ∧ Raised C.TTB.LOAD_FAIL t) ∧
  (∀ (image : List Byte) (ld : Load) (s : State), s.platLive = true → s.ttb.load = some ld → ld.bank = none →
    (s.hasPort ld.port = false ∨ image.length < 128 ∨ hdrChecks image ld s.own s.freeEntries = 0) →
    Runs (.ttbLoadFetchDone false image) s fun t =>
      t.ttb.load = none ∧ t.fld F.TTB_LOAD_CTRL.RESULT = 0x35 ∧ Raised C.TTB.LOAD_FAIL t ∧
        (ld.keep = false → t.ttb.standby = .empty) ∧ (ld.keep = true → t.ttb.standby = s.ttb.standby)) ∧
  (∀ (image : List Byte) (ld : Load) (s : State), s.platLive = true → s.ttb.load = some ld → ld.bank = none →
    s.hasPort ld.port = true → hdrChecks image ld s.own s.freeEntries = 0 → s.structureOk image ld = true →
    imgBytes image (leAt image 64 8) (leAt image 72 4) = [] → Runs (.ttbLoadFetchDone true image) s fun t =>
      t.ttb.load = none ∧ t.fld F.TTB_LOAD_CTRL.RESULT = 0 ∧ t.ttb.standby = .ready ∧
        t.bankAt (!s.ttb.active) = some (bankOf image ld) ∧ t.bankAt s.ttb.active = s.bankAt s.ttb.active ∧ Raised C.TTB.LOAD_DONE t) ∧
  (∀ (hdr : BitVec 128) (flits : Nat) (p : Prog) (ld : Load) (b : Bank) (s : State), s.functional = true →
    s.mgmtBad (MHdr.ofBits hdr) 1 flits = false → (MHdr.ofBits hdr).op = 0x66 →
    (s.vtx.progs.find? fun p => p.rtags.contains (MHdr.ofBits hdr).rtag) = some p → p.what = .load → s.ttb.load = some ld →
    ld.bank = some b →
      (p.rtags = [(MHdr.ofBits hdr).rtag] → Runs (.stationAck hdr [0] flits) s fun t =>
        t.ttb.load = none ∧ t.ttb.standby = .ready ∧ t.bankAt (!s.ttb.active) = some b ∧ Raised C.TTB.LOAD_DONE t) ∧
      Runs (.stationAck hdr [1] flits) s fun t =>
        t.ttb.load = none ∧ t.fld F.TTB_LOAD_CTRL.RESULT = 0x37 ∧ Raised C.TTB.LOAD_FAIL t) ∧
  (∀ (p : Prog) (ps : List Prog) (s : State), s.functional = true → s.vtx.progs = p :: ps → p.what = .load → s.ttb.load.isSome = true →
    Runs .stationAckTimeout s fun t =>
      t.ttb.load = none ∧ t.fld F.TTB_LOAD_CTRL.RESULT = 0x36 ∧ Raised C.TTB.LOAD_FAIL t ∧
        (s.byAo = false → p.since.rail + 10000000 ≤ t.now))

/-- Starting, halting and switching (R209, R210, R212): each has its effect under its conditions and is refused otherwise. -/
def Obligations.StartsHaltsSwitches : Prop :=
  (∀ (data : Word) (s : State), s.functional = true → s.regOn R.TTB_CTRL = true → bit data 0 = true → bit data 4 = false →
    bit data 1 = false → Runs (.ttbCtrlStart data) s fun t =>
      t.outs.regAck = true ∧ t.outs.regErr = false ∧
      (s.startOk ((s.pair R.TTB_START_LO).toNat % 2 ^ 58) false = true →
        t.ttb.st = .startArmed ∧ t.ttb.g0 = (s.pair R.TTB_START_LO).toNat % 2 ^ 58 ∧ t.ttb.active = !s.ttb.active ∧
          t.ttb.standby = .empty ∧ t.ttb.resume = false) ∧
      (s.startOk ((s.pair R.TTB_START_LO).toNat % 2 ^ 58) false = false → t.ttb = s.ttb ∧ Raised C.TTB.SWITCH_REFUSED t)) ∧
  (∀ (data : Word) (s : State), s.functional = true → s.regOn R.TTB_CTRL = true → bit data 4 = true → bit data 0 = false →
    bit data 1 = false → Runs (.ttbCtrlResume data) s fun t =>
      t.outs.regAck = true ∧ t.outs.regErr = false ∧
      (s.startOk ((s.pair R.TTB_START_LO).toNat % 2 ^ 58) true = true →
        t.ttb.st = .startArmed ∧ t.ttb.g0 = (s.pair R.TTB_START_LO).toNat % 2 ^ 58 ∧ t.ttb.active = s.ttb.active ∧
          t.ttb.resume = true) ∧
      (s.startOk ((s.pair R.TTB_START_LO).toNat % 2 ^ 58) true = false → t.ttb = s.ttb ∧ Raised C.TTB.SWITCH_REFUSED t)) ∧
  (∀ (data : Word) (s : State), s.functional = true → s.regOn R.TTB_CTRL = true → bit data 1 = true → bit data 0 = false →
    bit data 4 = false → Runs (.ttbCtrlHalt data) s fun t =>
      t.outs.regAck = true ∧ t.outs.regErr = false ∧
      (s.ttb.st = .running → t.ttb.st = .running ∧ t.ttb.stops = s.ttb.stops ++
        [⟨if bit data 2 then s.ttb.path + 1 else s.ttb.cycleG + s.cyclePaths, 1, 0, 0⟩]) ∧
      (s.ttb.st = .startArmed → t.ttb.st = .stopped ∧ t.ttb.haltReason = 1 ∧ Raised C.TTB.HALTED t)) ∧
  (∀ (data : Word) (s : State), s.functional = true → s.regOn R.TTB_SWITCH = true → bit data 16 = true → bit data 17 = false →
    Runs (.ttbSwitchArm data) s fun t =>
      t.fld F.TTB_SWITCH.RESULT = s.armResult (bits data 0 16) ∧ t.outs.regAck = true ∧ t.outs.regErr = false ∧
        (s.armResult (bits data 0 16) = 0 → t.ttb.standby = .armed ∧ t.ttb.armEpoch = bits data 0 16) ∧
        (s.armResult (bits data 0 16) ≠ 0 → t.ttb = s.ttb)) ∧
  (∀ (data : Word) (s : State), s.functional = true → s.regOn R.TTB_SWITCH = true → bit data 17 = true → bit data 16 = false →
    s.ttb.standby = .armed → Runs (.ttbSwitchCancel data) s fun t =>
      t.ttb = { s.ttb with standby := .ready, n1 := none } ∧ t.outs.regAck = true ∧ t.outs.regErr = false)

/-- Path boundaries (R202, R209, R212, R213): the start armed runs at G0 if its bank passes the checks of R211, a stop takes effect at
the first boundary at or after its path, a cycle's end begins the next epoch, and any other boundary the next path. A FENCE_NOTICE is
seen, and with AUTO_N1 and no variant the timetable that names the die stops at the first path at or after T_FENCE + LEAD_US, or, where
that has begun, at the next (R222). -/
def Obligations.PathBoundaries : Prop :=
  (∀ (b : Bank) (s : State), s.platLive = true → s.ttb.st = .startArmed → s.ttb.recv = [] → s.ttb.due = [] → s.ttb.stops = [] →
    s.ttb.g0 ≤ s.nextPath → s.bank = some b → s.bankChecks b true = 0 → b.filled = true → Runs .pathBoundary s fun t =>
      t.ttb.st = .running ∧ t.ttb.cycleG = s.ttb.g0 ∧ t.ttb.path = s.nextPath ∧ t.ttb.haltReason = 0 ∧
        t.ttb.epoch = BitVec.ofNat 16 (s.fld F.RWT_EPOCH.START) ∧ Raised C.TTB.STARTED t ∧ 64 * s.nextPath ≤ t.now) ∧
  (∀ (x : Stop) (s : State), s.platLive = true → s.ttb.st = .running → s.ttb.stops.find? (fun x => decide (x.atG ≤ s.ttb.path + 1)) = some x →
    Runs .pathBoundary s fun t =>
      t.ttb.st = .stopped ∧ t.ttb.haltReason = x.reason ∧ t.ttb.upMask = 0 ∧ t.ttb.dnMask = 0 ∧
        (x.reason = 1 → Raised C.TTB.HALTED t) ∧ (x.reason = 2 → Raised C.TTB.STOPPED t)) ∧
  (∀ s : State, s.platLive = true → s.ttb.st = .running → s.ttb.stops = [] → s.ttb.standby ≠ .armed →
    s.msh.release = none → s.ttb.cycleG + s.cyclePaths ≤ s.ttb.path + 1 → Runs .pathBoundary s fun t =>
      t.ttb.st = .running ∧ t.ttb.epoch = s.ttb.epoch + 1 ∧ t.ttb.cycleG = s.ttb.cycleG + s.cyclePaths ∧
        t.ttb.path = s.ttb.path + 1 ∧ t.ttb.cycleNo = s.ttb.cycleNo + 1) ∧
  (∀ s : State, s.platLive = true → s.ttb.st = .running → s.ttb.stops = [] → s.ttb.path + 1 < s.ttb.cycleG + s.cyclePaths →
    Runs .pathBoundary s fun t =>
      t.ttb.st = .running ∧ t.ttb.epoch = s.ttb.epoch ∧ t.ttb.cycleG = s.ttb.cycleG ∧ t.ttb.path = s.ttb.path + 1 ∧
        64 * (s.ttb.path + 1) ≤ t.now) ∧
  (∀ (msg : BitVec 96) (s : State), s.functional = true → s.slp.lock = true → Runs (.fenceNotice msg) s fun t =>
    Raised C.TTB.FENCE_SEEN t ∧
      (s.flag F.TTB_CTRL.AUTO_N1 = false ∨ s.names (bits msg 0 14) = false → t.ttb.stops = s.ttb.stops) ∧
      (s.flag F.TTB_CTRL.AUTO_N1 = true → (s.ttb.st = .running ∨ s.ttb.st = .startArmed) → s.names (bits msg 0 14) = true →
        s.ttb.standby = .empty →
          (s.now / 64 < (fld msg 32 64 + s.leadNs + 63) / 64 → ({ atG := (fld msg 32 64 + s.leadNs + 63) / 64, reason := 3, die := bits msg 0 14, fence := fld msg 32 64 } : Stop) ∈ t.ttb.stops) ∧
          ((fld msg 32 64 + s.leadNs + 63) / 64 ≤ s.now / 64 → ({ atG := s.ttb.path + 1, reason := 4, die := bits msg 0 14, fence := fld msg 32 64 } : Stop) ∈ t.ttb.stops)))

/-! ## Junction -/

/-- What a junction packet from a member brings (R230, R231, R243 to R247, R254): a contribution is counted and, while another member is
still to come, accumulated exactly; a result and an exchange's data count for their member; a packet that R167 and R244 refuse, one
from another source than the member's and one for no open group change nothing of the junction but raise their cause. -/
def Obligations.ContributionsCount : Prop :=
  (∀ (hdr : BitVec 256) (data : List Byte) (flits : Nat) (s : State) (h : JHdr) (g : JGroup) (m : Member), s.functional = true →
    h = JHdr.ofBits hdr → GoodT5 0x40 hdr data flits s → Takes h g m s → g.sums = true →
    runOk g h.format.toNat h.elemOff.toNat (h.elems.toNat + 1) data.length = true →
    (((g.leaves.drop h.elemOff.toNat).take (h.elems.toNat + 1)).any fun c =>
      decide (2 ^ 20 < c + (if isPartial h.format.toNat then h.weight.toNat else 1))) = false →
    Runs (.contrib hdr data flits) s fun t =>
      ((t.group h.group).bind (fun g => g.members[h.member.toNat]?)).map (fun x => (x.phys, x.elems))
        = some (m.phys, m.elems + (h.elems.toNat + 1)) ∧
      ((∃ j x, j ≠ h.member.toNat ∧ g.members[j]? = some x ∧ x.excused = false ∧ g.memberDone x = false) →
        (t.group h.group).map (fun g => (g.acc, g.st)) = some
          (accRun g.acc h.elemOff.toNat (contributions h.format.toNat data (h.elems.toNat + 1)), .accumulating) ∧
        t.jct.elems = s.jct.elems + BitVec.ofNat 64 (h.elems.toNat + 1))) ∧
  (∀ (hdr : BitVec 256) (data : List Byte) (flits : Nat) (s : State) (h : JHdr) (g : JGroup) (m : Member), s.functional = true →
    h = JHdr.ofBits hdr → GoodT5 0x42 hdr data flits s → Takes h g m s → g.sums = true → formatOk h.format.toNat = true →
    elemBytes h.format.toNat (h.elems.toNat + 1) = data.length → h.elemOff.toNat + (h.elems.toNat + 1) ≤ g.elems →
    Runs (.result hdr data flits) s fun t =>
      (t.group h.group).map (·.results) = some true ∧
      ((t.group h.group).bind (fun g => g.members[h.member.toNat]?)).map (fun x => (x.phys, x.elems))
        = some (m.phys, m.elems + (h.elems.toNat + 1))) ∧
  (∀ (hdr : BitVec 256) (data : List Byte) (flits : Nat) (s : State) (h : JHdr) (g : JGroup) (m : Member), s.functional = true →
    h = JHdr.ofBits hdr → GoodT5 0x43 hdr data flits s → Takes h g m s → g.operation = 2 → Runs (.a2aData hdr data flits) s fun t =>
      ((t.group h.group).bind (fun g => g.members[h.member.toNat]?)).map (fun x => (x.phys, x.bytes))
        = some (m.phys, m.bytes + data.length)) ∧
  (∀ (hdr : BitVec 256) (data : List Byte) (flits : Nat) (s : State) (h : JHdr), s.functional = true → Settled s →
    h = JHdr.ofBits hdr → GoodT5 0x44 hdr data flits s → Runs (.mcastData hdr data flits) s fun t =>
      (h.addr.toNat % 4096 + data.length ≤ 4096 →
        (⟨true, h.addr, data.length, data, h.poison == 1, .posted, none, none⟩ : Breq) ∈ (t.port (s.servePort h.addr)).breqs) ∧
        OnlyChanges [.ports, .lnk, .outs, .slp] s t) ∧
  (∀ (hdr : BitVec 256) (data : List Byte) (flits : Nat) (s : State) (c : Instr), s.functional = true → Settled s →
    (c = .contrib hdr data flits ∨ c = .ready hdr data flits ∨ c = .result hdr data flits ∨ c = .a2aData hdr data flits ∨
      c = .mcastData hdr data flits ∨ c = .mcastDone hdr data flits ∨ c = .abort hdr data flits) →
    (t5Data (JHdr.ofBits hdr) ≠ some data.length ∨ (JHdr.ofBits hdr).rsv ≠ 0 ∨ flits ≠ flitsOf (32 + data.length) ∨
      4096 < data.length) → Runs c s fun t =>
        Raised C.MNF.PROTOCOL t ∧ OnlyChanges [.lnk, .regs, .flt, .outs, .slp] s t) ∧
  (∀ (hdr : BitVec 256) (data : List Byte) (flits : Nat) (s : State) (h : JHdr), s.functional = true → Settled s →
    h = JHdr.ofBits hdr → GoodT5 0x40 hdr data flits s →
      (s.group h.group = none → Runs (.contrib hdr data flits) s fun t =>
        Raised C.JCT.NO_GROUP t ∧ OnlyChanges [.lnk, .regs, .flt, .outs, .slp] s t) ∧
      (∀ (g : JGroup) (m : Member), s.group h.group = some g → g.live = true → s.flag F.JCT_CTRL.EN = true →
        g.members[h.member.toNat]? = some m → m.phys ≠ h.src → Runs (.contrib hdr data flits) s fun t =>
          Raised C.JCT.PROTOCOL t ∧ OnlyChanges [.lnk, .regs, .flt, .outs, .slp] s t))

/-- How junction groups go on and end (R243, R245, R246, R251 to R253, R255, R257, R258): READY lets the group send to its parent, has no
effect on a group without accumulators, or is kept for a group not open yet; MCAST_DONE, ABORT, the timeouts and ABORT_ALL each end a
group with its own result, its accumulators freed and its causes raised; a write of T6_ACC_K while a group is open is rejected. -/
def Obligations.GroupsEnd : Prop :=
  (∀ (hdr : BitVec 256) (flits : Nat) (s : State) (h : JHdr) (g : JGroup), s.functional = true → h = JHdr.ofBits hdr →
    GoodT5 0x41 hdr [] flits s → s.group h.group = some g → g.live = true → g.outKind = .parent → g.parent = h.src → g.ready = none →
    Runs (.ready hdr [] flits) s fun t => (t.group h.group).map (·.ready) = some (some (h.group, h.member))) ∧
  (∀ (hdr : BitVec 256) (flits : Nat) (s : State) (h : JHdr), s.functional = true → h = JHdr.ofBits hdr → GoodT5 0x41 hdr [] flits s →
    (∀ g ∈ s.jct.groups, g.parent ≠ h.src) → (∀ g ∈ s.jct.groups, g.num = h.group → g.heeds h.src = false) →
    (∀ m ∈ s.asp.mems, m.dest ≠ h.src) → Settled s → Runs (.ready hdr [] flits) s fun t =>
      t.jct = { s.jct with readies := s.jct.readies ++ [(h.src, h.group, h.member)] } ∧ OnlyChanges [.jct, .lnk, .outs, .slp] s t) ∧
  (∀ (hdr : BitVec 256) (flits : Nat) (s : State) (h : JHdr) (g : JGroup), s.functional = true → h = JHdr.ofBits hdr →
    GoodT5 0x41 hdr [] flits s → g ∈ s.jct.groups → g.live = true → g.num = h.group → g.heeds h.src = true →
    (∀ x ∈ s.jct.groups, x.num = h.group → x.parent ≠ h.src) → Settled s →
    Runs (.ready hdr [] flits) s fun t => OnlyChanges [.lnk, .outs, .slp] s t) ∧
  (∀ (hdr : BitVec 256) (data : List Byte) (flits : Nat) (s : State) (h : JHdr) (g : JGroup), s.functional = true →
    h = JHdr.ofBits hdr → GoodT5 0x45 hdr data flits s → s.group h.group = some g → g.live = true → g.started = true →
    g.operation = 3 → h.tree = g.tree → Runs (.mcastDone hdr data flits) s fun t =>
      ∃ g', t.group h.group = some g' ∧ g'.st = .complete ∧ g'.bitmap = BitVec.ofNat 256 (leNat data) ∧ Raised C.JCT.MCAST_DONE t ∧
        (g'.bitmap &&& s.leafMap g.tree = s.leafMap g.tree → g'.result = 1 ∧ Raised C.JCT.GROUP_DONE t) ∧
        (g'.bitmap &&& s.leafMap g.tree ≠ s.leafMap g.tree → g'.result = 8 ∧ Raised C.JCT.MCAST_PARTIAL t)) ∧
  (∀ (hdr : BitVec 256) (data : List Byte) (flits : Nat) (s : State) (h : JHdr) (g : JGroup), s.functional = true →
    h = JHdr.ofBits hdr → GoodT5 0x45 hdr data flits s → s.group h.group = some g → g.live = true → g.started = true →
    g.sums = true → g.t6 = false → h.tree = g.tree → Runs (.mcastDone hdr data flits) s fun t =>
      ∃ g', t.group h.group = some g' ∧ g'.live = false ∧ g'.bitmap = BitVec.ofNat 256 (leNat data) ∧ g'.acc = [] ∧
        g'.result = (if g'.bitmap &&& s.leafMap g.tree = s.leafMap g.tree then g.outcome else if g.skip then 2 else 3)) ∧
  (∀ (hdr : BitVec 256) (flits : Nat) (s : State) (h : JHdr) (g : JGroup), s.functional = true → h = JHdr.ofBits hdr →
    GoodT5 0x46 hdr [] flits s → s.group g.num = some g →
    (s.jct.groups.find? fun g => g.live && ((g.num == h.group && g.members.any (·.phys == h.src))
      || (g.outKind == .parent && g.parent == h.src && (g.ready.map (·.1)).getD g.num == h.group))) = some g →
    Runs (.abort hdr [] flits) s fun t =>
      ∃ g', t.group g.num = some g' ∧ g'.st = .ended ∧ g'.result = 5 ∧ g'.acc = [] ∧ g'.chunks = 0 ∧ Raised C.JCT.GROUP_FAIL t) ∧
  (∀ (num : BitVec 12) (s : State) (g : JGroup), s.functional = true → s.group num = some g → g.live = true → g.operation = 3 →
    g.started = true → Runs (.mcastTimeout num) s fun t =>
      ∃ g', t.group num = some g' ∧ g'.st = .ended ∧ g'.result = 7 ∧ g'.bitmap = 0 ∧ Raised C.JCT.MCAST_PARTIAL t ∧
        (s.byAo = false → g.since.rail + 1000 * atLeastOne (s.fld F.JCT_TIMEOUT.MCAST_US) ≤ t.now)) ∧
  (∀ (num : BitVec 12) (s : State) (g : JGroup), s.functional = true → s.group num = some g → g.live = true → g.t6 = false →
    g.fallback = false → Runs (.groupTimeout num) s fun t =>
      (∃ g', t.group num = some g' ∧ g'.st = .ended ∧ g'.result = 7 ∧ g'.acc = [] ∧ g'.chunks = 0) ∧ Raised C.JCT.GROUP_FAIL t ∧
        (s.byAo = false → g.openedAt.rail + 100000 * atLeastOne (s.fld F.JCT_TIMEOUT.GROUP_100US) ≤ t.now)) ∧
  (∀ (data : Word) (s : State), s.functional = true → s.regOn R.JCT_CTRL = true → bit data 1 = true →
    (s.jct.groups.map (·.num)).Nodup → Runs (.abortAll data) s fun t =>
      (∀ g ∈ t.jct.groups, g.live = false) ∧ (∀ g ∈ s.jct.groups, g.live = true → Raised C.JCT.GROUP_FAIL t) ∧
        t.flag F.JCT_CTRL.EN = bit data 0 ∧
        (s.jct.groups = [] → t.fld F.JCT_CTRL.T6_ACC_K = fld data 16 8) ∧
        (s.jct.groups ≠ [] → t.fld F.JCT_CTRL.T6_ACC_K = s.fld F.JCT_CTRL.T6_ACC_K ∧ Raised C.JCT.CFG_REJECT t) ∧
        t.outs.regAck = true ∧ t.outs.regErr = false)

/-! ## Analog sum -/

/-- ASP_CTL is kept for its window and acknowledged with its SEQ, and its MODE 0b011 ends the membership with that window, or at once where
no timetable runs (R268, R278); an acknowledge takes the message off, one unanswered for CTL_LEAD_US is sent again with its SEQ, and after
the third send the contributor has failed (R268, R275). In fallback the fallback group completes for the cycle FB_SLACK_US after its last
deadline, and after its hold a group with AUTO_RETURN recalibrates (R274). -/
def Obligations.AnalogGroups : Prop :=
  (∀ (msg : BitVec 96) (m : AspMem) (s : State), s.functional = true → s.slp.lock = true → Settled s → s.lnk.gen = 3 →
    fld msg 17 3 < 4 → (s.asp.mems.find? fun m => m.num == bits msg 0 12 && m.contrib == fld msg 12 5) = some m →
      ((fld msg 17 3 ≠ 3 ∨ m.ended = true ∨ s.ttb.st = .running) → Runs (.aspCtl msg) s fun t =>
        ((t.asp.mems.find? fun m => m.num == bits msg 0 12 && m.contrib == fld msg 12 5).map (·.ctls)) = some (
          if (m.ctls.any fun x => x.2.2.2.2 == bits msg 80 8) then m.ctls
          else m.ctls ++ [(bits msg 48 16, bits msg 64 16, bits msg 17 3, bits msg 32 16, bits msg 80 8)]) ∧
        t.out = .sleeper 0x51 s.slp.mseq [(bits msg 80 8 : Byte) ++ 0#7 ++ BitVec.ofNat 5 (fld msg 12 5) ++ (bits msg 0 12 : BitVec 12)]
          :: s.out ∧ OnlyChanges [.asp, .out, .outs, .slp] s t) ∧
      (fld msg 17 3 = 3 → m.ended = false → s.ttb.st ≠ .running → Runs (.aspCtl msg) s fun t =>
        ((t.asp.mems.find? fun m => m.num == bits msg 0 12 && m.contrib == fld msg 12 5).map fun m => (m.ended, m.result)) = some (true, 5) ∧
          Raised C.ASP.GROUP_END t)) ∧
  (∀ (msg : BitVec 32) (s : State), s.functional = true → s.slp.lock = true → Settled s → Runs (.aspCtlAck msg) s fun t =>
    (s.lnk.gen = 3 → t.asp = { s.asp with
      ctls := s.asp.ctls.filter fun c => !(c.group == bits msg 0 12 && c.contrib == fld msg 12 5 && c.seq == bits msg 24 8) }) ∧
      (s.lnk.gen ≠ 3 → t.asp = s.asp) ∧ OnlyChanges [.asp, .outs, .slp] s t) ∧
  (∀ (g : BitVec 12) (j : BitVec 5) (c : CtlOut) (s : State), s.functional = true → Settled s →
    (s.asp.ctls.find? fun c => c.group == g && c.contrib == j.toNat) = some c →
      (c.sends < 3 → Runs (.aspCtlTimeout g j) s fun t =>
        t.asp = { s.asp with ctls := s.asp.ctls.erase c ++ [{ c with sends := c.sends + 1, since := t.mark }] } ∧
          t.out = .sleeper 0x50 s.slp.mseq (msgWords 3 c.msg.toNat) :: s.out ∧ (s.byAo = false → c.since.rail + s.ctlLead ≤ t.now) ∧
          OnlyChanges [.asp, .rwt, .aoCycles, .out, .outs, .slp] s t) ∧
      (∀ (d : AspDest) (k : Contrib), 3 ≤ c.sends → s.aspDest g = some d → d.cons[j.toNat]? = some k → k.state = 1 →
        Runs (.aspCtlTimeout g j) s fun t =>
          ((t.aspDest g).bind (fun d => d.cons[j.toNat]?)).map (·.state) = some 2 ∧ Raised C.ASP.CONTRIB_FAIL t ∧
          (s.byAo = false → c.since.rail + s.ctlLead ≤ t.now) ∧
          (d.st = .analog ∨ d.st = .recal → (t.aspDest g).map (·.st) = some .pending ∧ Raised C.ASP.FALLBACK t))) ∧
  (∀ (num : BitVec 12) (d : AspDest) (due : Nat) (rest : List Nat) (g : JGroup) (s : State), s.functional = true →
    s.aspDest num = some d → d.fbDue = due :: rest → s.group d.fbGroup = some g → g.fallback = true → g.live = true → g.sums = true →
    g.hasLocal = false → Runs (.fallbackComplete num) s fun t =>
      due ≤ t.now ∧ (t.aspDest num).map (·.fbDue) = some rest ∧
      ∃ g', t.group d.fbGroup = some g' ∧ g'.st = .opened ∧ g'.acc = List.replicate g.elems 0 ∧
        g'.held = some (g.acc, g.outcome == 4) ∧ (g.outcome = 1 → Raised C.JCT.GROUP_DONE t) ∧
        (g.outcome = 4 → Raised C.JCT.GROUP_FAIL t)) ∧
  (∀ (num : BitVec 12) (d : AspDest) (s : State), s.functional = true → Settled s → s.aspDest num = some d → d.fbDue = [] →
    Runs (.fallbackComplete num) s fun t => t = s) ∧
  (∀ (num : BitVec 12) (d : AspDest) (s : State), s.functional = true → s.aspDest num = some d → d.st = .fallback →
    d.autoReturn = true → Runs (.fallbackHoldExpiry num) s fun t =>
      (t.aspDest num).map (fun d => (d.st, d.returning, d.recalLeft)) = some (.recal, true, d.cons.length + 2) ∧
        d.fbSince + 1000000 * atLeastOne (s.fld F.ASP_CFG.FB_HOLD_MS) ≤ t.now)

/-! ## Marshalling -/

/-- The marshalling unit's events: a staged generation is released at its time (R284, R285), a fenced die's bound entries become fenced
and its paired ones are staged for its standby (R289), beacon values come, grow stale and count as 255, the pools' occupancy is reported
every REPORT_US (R295), a heat window ends after WINDOW_US and reports a hot record (R297), the target of a migration follows MIG_BEGIN, MIG_DONE and
MIG_ABORT in its own record (R298, R300), and a ring's consumer count moves on, unless the write would put PROD more than the slots
ahead (R303). -/
def Obligations.MarshallingGoesOn : Prop :=
  (∀ (r : Nat) (s : State), s.platLive = true → Settled s → s.running? = false → s.msh.release = some (.time r) →
    s.msh.hasStage = true → (s.msh.staged.map (·.lid)).Nodup → Runs .bindingRelease s fun t =>
      r ≤ t.now ∧ t.msh.current = s.msh.current + 1 ∧ t.msh.staged = [] ∧ t.msh.hasStage = false ∧ t.msh.release = none ∧
        (∀ x ∈ s.msh.staged, t.bindOf x.lid = x.entry) ∧ Raised C.MSH.RELEASED t ∧
        OnlyChanges [.msh, .regs, .flt, .rwt, .aoCycles, .outs, .slp] s t) ∧
  (∀ (msg : BitVec 96) (l : BitVec 16) (e : BitVec 64) (s : State), s.functional = true → s.slp.lock = true →
    s.flag F.MSH_CTRL.AUTO_PAIR = true → s.msh.staged = [] → s.msh.fences = [] → s.msh.release = none →
    (s.msh.bind.map (·.1)).Nodup → (∀ x ∈ s.msh.bind, x.1 < 65536) → cellsGet l.toNat s.msh.bind = some e →
    bPhys e = bits msg 0 14 → Runs (.fenceNotice msg) s fun t =>
      (bState e = 1 → bState (t.bindOf l) = 3 ∧ Raised C.MSH.BIND_FENCED t) ∧
      (bState e = 2 → s.now < fld msg 32 64 + s.leadNs →
        (⟨l, mkBind s.stagedGen 1 false (bStandby e) 0, false⟩ : Stage) ∈ t.msh.staged ∧
          t.msh.release = some (.time (fld msg 32 64 + s.leadNs)) ∧ Raised C.MSH.PAIR_SWAP t)) ∧
  (∀ (words : List Word) (i : Nat) (s : State), s.platLive = true → s.slp.lock = true → Settled s →
    i < min (fld (words.headD 0) 0 8) (2 * (words.length - 1)) →
    (∀ j, i < j → j < min (fld (words.headD 0) 0 8) (2 * (words.length - 1)) →
      ((beaconItem words s.now j).tile, (beaconItem words s.now j).num) ≠ ((beaconItem words s.now i).tile, (beaconItem words s.now i).num)) →
    Runs (.loadBeacon words) s fun t =>
      beaconItem words s.now i ∈ t.msh.beacons ∧ OnlyChanges [.msh, .outs, .slp] s t) ∧
  (∀ s : State, s.platLive = true → Settled s → Runs .loadReportTimer s fun t =>
    t.out = .sleeper 0x49 s.slp.mseq [BitVec.setWidth 32 s.workLoad] :: s.out ∧
      t.msh = { s.msh with workLoad := s.workLoad, reportAt := t.mark } ∧
      (s.byAo = false → s.msh.reportAt.rail + 1000 * atLeastOne (s.fld F.MSH_BEACON_CFG.REPORT_US) ≤ t.now) ∧
      OnlyChanges [.msh, .rwt, .aoCycles, .out, .outs, .slp] s t) ∧
  (∀ (tile : Bool) (num : BitVec 7) (b : Beacon) (s : State), s.platLive = true → Settled s →
    (s.msh.beacons.find? fun b => b.tile == tile && b.num == num) = some b → b.stale = false → Runs (.beaconStale tile num) s fun t =>
      t.load tile num = 255 ∧ b.time + 1000 * atLeastOne (s.fld F.MSH_BEACON_CFG.STALE_US) < t.now ∧ Raised C.MSH.BEACON_STALE t ∧
        OnlyChanges [.msh, .regs, .flt, .rwt, .aoCycles, .outs, .slp] s t) ∧
  (∀ s : State, s.platLive = true → Runs .heatWindowEnd s fun t =>
    t.msh.heat = [] ∧ t.msh.heatAt = t.mark ∧
      (s.byAo = false → s.msh.heatAt.rail + 1000 * atLeastOne (s.fld F.MSH_HEAT_CFG.WINDOW_US) ≤ t.now) ∧
      ∀ (r : DirRec) (h : Heat) (i n : Nat), s.flag F.MSH_CTRL.HEAT_EN = true → r ∈ s.counted →
      h = (s.msh.heat.find? fun x => x.slot == r.slot).getD ⟨r.slot, 0, []⟩ → s.topCandidate r h = some (i, n) →
      (if r.hotCount = 0 then s.fld F.MSH_HEAT_CFG2.HOT_COUNT else r.hotCount.toNat) ≤ h.total →
      min 100 (s.fld F.MSH_HEAT_CFG.DOM_PCT) * h.total ≤ 100 * n → Raised C.MSH.HOT t) ∧
  (∀ (hdr : BitVec 128) (data : List Byte) (flits : Nat) (o : DirRec) (s : State), s.platLive = true → Settled s →
    GoodT0 0x62 hdr data flits s → data.length = 64 → recFormOk data = true → s.recAt (recOf data).base = some o →
    Runs (.migBegin hdr data flits) s fun t =>
      (t.rec? o.slot).map (fun r => (r.migrating, r.migTarget)) = some (true, (recOf data).migTarget) ∧
        OnlyChanges [.msh, .lnk, .outs, .slp] s t) ∧
  (∀ (hdr : BitVec 128) (data : List Byte) (flits : Nat) (o : DirRec) (s : State), s.platLive = true →
    GoodT0 0x63 hdr data flits s → data.length = 68 → recFormOk (data.take 64) = true →
    s.recAt (recOf (data.take 64)).base = some o → Runs (.migDone hdr data flits) s fun t =>
      (bit (data.getD 64 0) 0 = false → { recOf (data.take 64) with slot := o.slot } ∈ t.msh.dir) ∧
      (bit (data.getD 64 0) 0 = true → s.owns (recOf (data.take 64)) = true → Raised C.MSH.MIG_FAULT t ∧
        { recOf (data.take 64) with slot := o.slot, flags := setFlag (recOf (data.take 64)).flags 4 true } ∈ t.msh.dir)) ∧
  (∀ (hdr : BitVec 128) (data : List Byte) (flits : Nat) (o : DirRec) (s : State), s.platLive = true → Settled s →
    GoodT0 0x64 hdr data flits s → data.length = 8 → s.recAt (leWord 64 data 0 8) = some o → Runs (.migAbort hdr data flits) s fun t =>
      (t.rec? o.slot).map (fun r => (r.migrating, r.migTarget)) = some (false, 0) ∧ OnlyChanges [.msh, .lnk, .outs, .slp] s t) ∧
  (∀ (n : BitVec 6) (data : Word) (r : Ring) (s : State), s.functional = true → Settled s →
    s.regOn (R.MSH_RING_CONS + 4 * n.toNat) = true → s.msh.rings[n.toNat]! = some r → Runs (.ringConsWrite n data) s fun t =>
      t.msh.rings[n.toNat]! = some (if (r.prod - data).toNat ≤ 2 ^ r.slotsLog then { r with cons := data } else r) ∧
        t.outs.regAck = true ∧ t.outs.regErr = false ∧ OnlyChanges [.msh, .outs, .slp] s t)

/-! ## Vetex -/

/-- How commands come in and how replies are read. MBX_GO and the ring's producer count offer a command (R309, R310); a take puts it into
the slot of its tag or context and, where a check of R314 fails, completes it with that check's status, discards it where its tag
runs (R311, R317), and takes the mailbox first, then a remote command, then the ring's (R308). Reading SBX_RPL_HDR, SBX_RPL_ACK and
SBX_CPL_FIFO move a reply on (R317, R319). -/
def Obligations.CommandsAreTaken : Prop :=
  (∀ (data : Word) (s : State), s.functional = true → s.regOn R.SBX_VTX_CTRL = true → bit data 8 = true →
    Runs (.mbxGo data) s fun t =>
      t.vtx.mbxGo = true ∧ (bit data 0 = false ∨ s.hasPort s.ringPort = true → t.reg R.SBX_VTX_CTRL = data &&& 0x7) ∧
        (bit data 0 = false → s.flag F.SBX_VTX_CTRL.RING_EN = true → t.vtx.fetched = none ∧ t.vtx.fetchBusy = false) ∧
        t.outs.regAck = true ∧ t.outs.regErr = false) ∧
  (∀ (data : Word) (s : State), s.functional = true → s.regOn R.SBX_RING_PROD = true → Runs (.ringProdWrite data) s fun t =>
    t.outs.regAck = true ∧ t.outs.regErr = false ∧
      (s.ringSlots < ((bits data 0 16 : BitVec 16) - s.vtx.cons).toNat → t.vtx.prod = s.vtx.prod ∧ Raised C.SBX_VTX.MALFORMED t) ∧
      (((bits data 0 16 : BitVec 16) - s.vtx.cons).toNat ≤ s.ringSlots → t.vtx.prod = bits data 0 16 ∧
        (s.flag F.SBX_VTX_CTRL.RING_EN = true → s.vtx.cons ≠ bits data 0 16 → s.vtx.fetched = none → s.vtx.fetchBusy = false →
          s.hasPort s.ringPort = true → t.vtx.fetchBusy = true ∧
            (⟨false, s.ringSlot s.vtx.cons, 16, [], false, .vtxHdr s.vtx.cons, none, none⟩ : Breq) ∈ (t.port s.ringPort).breqs))) ∧
  (∀ (data : Word) (s : State), s.functional = true → Settled s → s.regOn R.SBX_RING_BASE_LO = true →
    Runs (.ringBaseLoWrite data) s fun t =>
      t.vtx.prod = 0 ∧ t.vtx.cons = 0 ∧ t.vtx.fetched = none ∧ (.port, R.SBX_RING_BASE_LO, data) ∈ t.holders ∧
        t.outs.regAck = true ∧ t.outs.regErr = false ∧ OnlyChanges [.vtx, .holders, .ports, .outs, .slp] s t) ∧
  (∀ (c : List Byte) (s : State), s.functional = true → s.sbx.ready = true → s.sbx.quiesce = false → s.ctlOn = true →
    ((s.vtx.mbxGo = true ∧ c = s.mailbox) ∨ (s.vtx.mbxGo = false ∧ s.vtx.remoteReady = [] ∧ s.vtx.fetched = some c ∧
      s.vtx.fetchBusy = false)) → Fits c s → Runs .commandTake s fun t =>
        ((vtxChecks false c s).1 = 0 → t.running (.tag (cmdTag c)) = some c ∧ t.orderOf (.tag (cmdTag c)) = some s.vtx.nextOrder) ∧
        ((vtxChecks false c s).1 ≠ 0 → Ended (.tag (cmdTag c)) (vtxChecks false c s).1 [] t ∧ Raised C.SBX_VTX.CMD_DONE t) ∧
        t.vtx.mbxGo = false ∧ t.vtx.cons = (if s.vtx.mbxGo = true then s.vtx.cons else s.vtx.cons + 1)) ∧
  (∀ (x : Slot) (s : State), s.functional = true → s.sbx.ready = true → s.sbx.quiesce = false → s.ctlOn = true → s.vtx.mbxGo = true →
    s.slot (cmdTag s.mailbox) = some x → x.st = .running → Runs .commandTake s fun t =>
      t.vtx.slots = s.vtx.slots ∧ t.vtx.mbxGo = false ∧ Raised C.SBX_VTX.TAG_CLASH t) ∧
  (∀ (n : BitVec 5) (ns : List (BitVec 5)) (x : Ctx) (s : State), s.functional = true → s.sbx.ready = true → s.sbx.quiesce = false →
    s.ctlOn = true → s.vtx.mbxGo = false → s.vtx.remoteReady = n :: ns → s.ctx n = some x → x.running = true →
    Runs .commandTake s fun t =>
      ((vtxChecks true x.cmd s).1 = 0 → t.running (.context n) = some x.cmd ∧ t.orderOf (.context n) = some s.vtx.nextOrder) ∧
      ((vtxChecks true x.cmd s).1 ≠ 0 → Ended (.context n) (vtxChecks true x.cmd s).1 [] t) ∧ n ∉ t.vtx.remoteReady) ∧
  (∀ (x : Slot) (s : State), s.functional = true → s.regOn R.SBX_RPL_HDR = true → s.sbx.takeover = none → s.rplSlot = some x →
    x.st = .unread → Runs .rplHdrRead s fun t =>
      t.outs.regRdata = BitVec.setWidth 32 x.status ∧ t.outs.regAck = true ∧ t.outs.regErr = false ∧
        t.rplSlot = some { x with st := .read }) ∧
  (∀ (data : Word) (x : Slot) (s : State), s.functional = true → Settled s → s.regOn R.SBX_RPL_ACK = true →
    s.slot (bits data 0 16) = some x → Runs (.rplAckWrite data) s fun t =>
      t.slot (bits data 0 16) = (if x.st = .running then some x else none) ∧ t.outs.regAck = true ∧ t.outs.regErr = false ∧
        OnlyChanges [.vtx, .sbx, .outs, .slp] s t) ∧
  (∀ (g : BitVec 16) (gs : List (BitVec 16)) (s : State), s.functional = true → Settled s → s.regOn R.SBX_CPL_FIFO = true →
    s.vtx.cpl = g :: gs → Runs .cplFifoRead s fun t =>
      t.outs.regRdata = 0x80000000 ||| BitVec.setWidth 32 g ∧ t.outs.regAck = true ∧ t.outs.regErr = false ∧ t.vtx.cpl = gs ∧
        OnlyChanges [.vtx, .sbx, .outs, .slp] s t)

/-- Remote commands (R324 to R327): a VTX_CMD takes a context, a repeated one that runs is ignored, a VTX_REPLY ends the command that was
forwarded, a resend, 400 µs after the send before, counts and waits where no ticket is in hand, 10 ms after the first send the command
ends with VTX_REMOTE_TIMEOUT, and a malformed packet is
discarded with its tickets going back. -/
def Obligations.RemoteCommands : Prop :=
  (∀ (hdr : BitVec 128) (data : List Byte) (flits : Nat) (h : MHdr) (n : BitVec 5) (s : State), s.platLive = true →
    h = MHdr.ofBits hdr → GoodT0 0x60 hdr data flits s → s.sbx.ready = true → 16 ≤ data.length →
    (∀ x ∈ s.vtx.ctxs, (x.src, x.rtag) ≠ (h.src, h.rtag)) → s.freeCtx = some n → Runs (.vtxCmd hdr data flits) s fun t =>
      (t.ctx n).map (fun x => (x.src, x.rtag, x.cmd, x.running)) = some (h.src, h.rtag, data, true) ∧ n ∈ t.vtx.remoteReady) ∧
  (∀ (hdr : BitVec 128) (data : List Byte) (flits : Nat) (h : MHdr) (x : Ctx) (s : State), s.platLive = true → Settled s →
    h = MHdr.ofBits hdr → GoodT0 0x60 hdr data flits s →
    (s.vtx.ctxs.find? fun x => x.src == h.src && x.rtag == h.rtag) = some x → x.running = true → Runs (.vtxCmd hdr data flits) s fun t =>
      OnlyChanges [.lnk, .outs, .slp] s t) ∧
  (∀ (hdr : BitVec 128) (data : List Byte) (flits : Nat) (h : MHdr) (s : State), s.platLive = true → h = MHdr.ofBits hdr →
    GoodT0 0x61 hdr data flits s → (∃ f ∈ s.vtx.fwds, f.rtag = h.rtag ∧ f.dest = h.src) → Runs (.vtxReply hdr data flits) s fun t =>
      t.vtx.fwds = s.vtx.fwds.filter (·.rtag != h.rtag) ∧
      ∀ (g : BitVec 16) (x : Slot), s.sbx.ready = true →
        s.vtx.waits.filter (fun w => w.2 == .forward h.rtag) = [(.tag g, .forward h.rtag)] → s.slot g = some x → x.st = .running →
        Ended (.tag g) 0 (data.take 1008) t) ∧
  (∀ (hdr : BitVec 128) (data : List Byte) (flits : Nat) (s : State), s.platLive = true → Settled s →
    s.mgmtBad (MHdr.ofBits hdr) data.length flits = true → Runs (.managementPacketDiscard hdr data flits) s fun t =>
      Raised C.SBX_VTX.MALFORMED t ∧ OnlyChanges [.lnk, .regs, .flt, .outs, .slp] s t ∧ RegsBut C.SBX_VTX.MALFORMED.regs s t) ∧
  (∀ (rtag : BitVec 16) (f : Fwd) (s : State), s.functional = true → Settled s → s.vtx.fwds.find? (·.rtag == rtag) = some f →
    f.sends < 4 → Runs (.forwardResend rtag) s fun t =>
      t.vtx.fwds.find? (·.rtag == rtag) = some { f with sends := f.sends + 1, missed := !s.t0Ticket } ∧
        (s.byAo = false → f.since.rail + 400000 * f.sends ≤ t.now) ∧ OnlyChanges [.vtx, .lnk, .rwt, .aoCycles, .outs, .slp] s t) ∧
  (∀ (rtag : BitVec 16) (f : Fwd) (s : State), s.functional = true → s.vtx.fwds.find? (·.rtag == rtag) = some f →
    Runs (.forwardTimeout rtag) s fun t =>
    t.vtx.fwds = s.vtx.fwds.filter (·.rtag != rtag) ∧ (s.byAo = false → f.since.rail + 10000000 ≤ t.now) ∧
    ∀ (g : BitVec 16) (x : Slot), s.sbx.ready = true → s.vtx.waits.filter (fun w => w.2 == .forward rtag) = [(.tag g, .forward rtag)] →
      s.slot g = some x → x.st = .running → Ended (.tag g) 0x0202 [] t)

/-- The commands that read (R329 to R338): each completes at once with the reply data of its row, and nothing changes but what every
completion writes. -/
def Obligations.ReadingCommands : Prop :=
  ∀ (ref : CmdRef) (p : List Byte) (s : State), Settled s →
    (Starts ref 0x0101 p s → Runs (.linkStatusGet ref) s fun t =>
      Answers ref 0 (bvBytes s.lnkStatus ++ bvBytes s.seamStatus ++
        allSleeves.flatMap fun k => bvBytes (s.slvWord .up k) ++ bvBytes (s.slvWord .down k)) [] [] s t) ∧
    (Starts ref 0x0203 p s → leAt p 0 2 % 4 = 0 → leAt p 2 2 % 4 = 0 → 4 ≤ leAt p 2 2 → leAt p 2 2 ≤ 1000 →
      leAt p 0 2 + leAt p 2 2 ≤ 1576 → s.tlr.frozen = true → Runs (.tlrSnapRead ref) s fun t =>
        Answers ref 0 (slice s.window1576 (leAt p 0 2) (leAt p 2 2)) [] [] s t) ∧
    (Starts ref 0x0306 p s → Runs (.ttbStatusGet ref) s fun t =>
      Answers ref 0 (bvBytes s.ttbStatus ++ bvBytes s.rwtEpoch ++ leBytes 8 (s.now / 64) ++
        ((List.range 7).flatMap fun i => bvBytes (s.reg (R.TTB_DL_CNT + 4 * i))) ++ bvBytes s.ttb.dlLast ++ bvBytes s.rwtStatus) [] [] s t) ∧
    (∀ r, Starts ref 0x0603 p s → s.recAt (leWord 64 p 0 8) = some r → Runs (.mshDirGet ref) s fun t =>
      Answers ref 0 (recBytes r) [] [] s t) ∧
    (Starts ref 0x0623 p s → leAt p 2 1 ≤ 120 → leAt p 3 1 = 0 → leAt p 0 2 + leAt p 2 1 ≤ 65536 → Runs (.mshBindGet ref) s fun t =>
      Answers ref 0 (leBytes 2 s.msh.current.toNat ++ leBytes 2 (s.msh.current + 1).toNat ++
        [BitVec.ofNat 8 (2 * b2n s.msh.hasStage + b2n s.msh.release.isSome)] ++ leBytes 3 0 ++ leBytes 8 s.releasePoint ++
        (List.range (leAt p 2 1)).flatMap fun i => leBytes 8 (s.bindOf (BitVec.ofNat 16 (leAt p 0 2 + i))).toNat) [] [] s t) ∧
    (Starts ref 0x0701 p s → Runs (.pcmStateGet ref) s fun t =>
      Answers ref 0 [s.pcmStateO.setWidth 8, s.seam.powered, s.seam.usable, BitVec.ofNat 8 s.effPolicy, 0, 0, 0, 0] [] [] s t) ∧
    (Starts ref 0x0802 p s → Runs (.idnKeyGet ref) s fun t =>
      Answers ref 0 ([0x02, 0, 0] ++ s.idn.pubkey) [] [] s t) ∧
    (Starts ref 0x0901 p s → Runs (.sbxStatusGet ref) s fun t =>
      Answers ref 0 ([(match s.sbx.holder with | .a => 0 | .b => 1), BitVec.ofNat 8 (boxCode (s.box (mate s.sbx.holder)).st), 0, 0] ++
        leBytes 4 s.sbx.gen.toNat ++ leBytes 8 s.sbx.healthTime.toNat) [] [] s t) ∧
    (Starts ref 0x0904 p s → Runs (.vtxInfo ref) s fun t =>
      Answers ref 0 [0, 128, 32, 0, 0, 0, 0, 0, 0, 0, 0, 0, 0, 0, 0, 0] [] [] s t) ∧
    (Starts ref 0x0A02 p s → s.seam.test.everRun = true → Runs (.diagTestRead ref) s fun t =>
      Answers ref 0 (leBytes 2 s.seam.test.locked.toNat ++ leBytes 2 0 ++ leBytes 8 s.prbsCompared.toNat ++
        (List.range 9).flatMap fun i => bvBytes (s.reg (R.SEAM_PRBS_ERR + 4 * i))) [] [] s t) ∧
    (Starts ref 0x0A04 p s → leAt p 0 2 ≤ 1023 → 1 ≤ leAt p 2 1 → leAt p 2 1 ≤ 31 → Runs (.diagFaultRead ref) s fun t =>
      Answers ref 0 ((List.range (leAt p 2 1)).flatMap fun i => s.fltEntry (leAt p 0 2 + i)) [] [] s t) ∧
    (Starts ref 0x0A05 p s → 1 ≤ leAt p 0 1 → leAt p 0 1 ≤ 64 →
      (∀ i < leAt p 0 1, leAt p (4 + 4 * i) 4 < 2 ^ 24 ∧ leAt p (4 + 4 * i) 4 % 4 = 0) → Runs (.diagRegRead ref) s fun t =>
        Answers ref 0 ((List.range (leAt p 0 1)).flatMap fun i => bvBytes (s.diagValue (leAt p (4 + 4 * i) 4))) [] [] s t)

/-- The commands that act at once (R329 to R338): each has the effect of its row, completes with status 0, and changes nothing besides
that effect and what a completion writes; the relay copies of MSH_BIND_STAGE are among what is sent (R288). The last three clauses are
refusals: VTX_NOT_READY before the step that an opcode needs (R415) and for a dynamic group below G3 (R417), and MSH_STATE while
MSH_CTRL.EN is 0 (R305). -/
def Obligations.ActingCommands : Prop :=
  ∀ (ref : CmdRef) (p : List Byte) (s : State), Settled s →
    (Starts ref 0x0106 p s → leAt p 0 1 ≤ 1 → Runs (.linkModeSet ref) s fun t =>
      t.fld F.LNK_CTRL.REPLAY_MODE = leAt p 0 1 ∧ Answers ref 0 [] [] [R.LNK_CTRL] s t) ∧
    (Starts ref 0x0304 p s → s.ttb.standby = .armed → Runs (.ttbCancel ref) s fun t =>
      t.ttb = { s.ttb with standby := .ready, n1 := none } ∧ Answers ref 0 [] [.ttb] [] s t) ∧
    (∀ (kind : OutKind) (q : BitVec 14) (ids : List (BitVec 16)) (g : JGroup), Starts ref 0x0401 p s →
      s.flag F.JCT_CTRL.EN = true → s.flag F.MSH_CTRL.EN = true → s.group (BitVec.ofNat 12 (leAt p 0 2)) = none →
      leAt p 2 1 ≤ 3 → outKindOf (leAt p 3 1 / 8 % 4) = some kind →
      (leAt p 2 1 < 2 → formatsBad (leWord 32 p 12 4) (leAt p 16 1) (leAt p 33 1) ((leAt p 3 1).testBit 2) = false ∧
        elemsBad (leWord 32 p 12 4) (leAt p 16 1) (leAt p 4 4) = false) → (2 ≤ leAt p 2 1 → leAt p 4 4 = 0) →
      ids = (List.range (leAt p 34 2)).map (fun i => leWord 16 p (56 + 2 * i) 2) → 1 ≤ ids.length → ids.length ≤ 256 →
      (s.lnk.gen = 3 ∨ (leAt p 3 1).testBit 0 = true) → leAt p 17 1 ≤ 1 → leAt p 18 1 ≤ 1 → leAt p 52 2 < 4096 → s.jct.groups.length < 4096 → s.membersUsed + ids.length ≤ 32768 →
      (if kind = .parent ∧ leAt p 2 1 < 2 then s.physOf (leWord 16 p 50 2) = some q else q = 0) →
      (ids.filterMap s.physOf).length = ids.length → g = groupOf p (ids.filterMap s.physOf) q kind s →
      (g.t6 = true → leAt p 2 1 < 2 → s.accClash g.accBase g.elems = false) → (g.t6 = false → g.chunks ≤ s.freeChunks) →
      (g.hasLocal = true → s.hasPort g.localPort = true) → (kind = .parent → ∀ x ∈ s.jct.readies, x.1 ≠ q) → Runs (.jctGroupOpen ref) s fun t =>
        (t.group (BitVec.ofNat 12 (leAt p 0 2))).map (fun x => { x with staged := 0 }) = some g ∧ Answers ref 0 [] [.jct, .ports] [] s t) ∧
    (∀ g, Starts ref 0x0403 p s → paramGroup p s = some g → (g.live = false ∨ (g.t6 = true ∧ s.running? = false)) →
      Runs (.jctGroupClose ref) s fun t => t.group g.num = none ∧ Answers ref 0 [] [.jct] [] s t) ∧
    (∀ g, Starts ref 0x0404 p s → paramGroup p s = some g → g.live = true → Runs (.jctGroupAbort ref) s fun t =>
      (t.group g.num).map (fun g => (g.st, g.result, g.acc, g.chunks)) = some (.ended, 5, [], 0) ∧ Raised C.JCT.GROUP_FAIL t ∧
        Answers ref 0 [] [.jct] C.JCT.GROUP_FAIL.regs s t) ∧
    (∀ g, Starts ref 0x0410 p s → paramGroup p s = some g → g.live = true → g.sums = false → g.started = false →
      s.hasPort g.localPort = true → g.chunk ≠ 0 → Runs (.jctStart ref) s fun t =>
        (t.group g.num).map (fun x => { x with staged := 0 }) =
          some { g with started := true, st := .accumulating, since := s.mark, staged := 0 } ∧
        (g.operation = 3 → s.jct.reads = [] → (s.jct.groups.map (·.staged)).sum + g.chunk ≤ 1114112 →
          (⟨false, g.localAddr, min g.chunk (4096 - g.localAddr.toNat % 4096), [], false, .jctSend g.num 0 0, none, none⟩ : Breq) ∈
            (t.port g.localPort).breqs) ∧ Answers ref 0 [] [.jct, .ports] [] s t) ∧
    (∀ d, Starts ref 0x0502 p s → (s.asp.dests.find? fun d => d.num.toNat == leAt p 0 2) = some d → Runs (.aspGroupClose ref) s fun t =>
      t.aspDest d.num = none ∧ t.group d.fbGroup = none ∧ (d.st ≠ .ended → Raised C.ASP.GROUP_END t) ∧
        Answers ref 0 [] [.asp, .jct, .out] C.ASP.GROUP_END.regs s t) ∧
    (∀ m ∈ s.asp.mems, Starts ref 0x0502 p s → (∀ d ∈ s.asp.dests, d.num.toNat ≠ leAt p 0 2) → m.num.toNat = leAt p 0 2 →
      Runs (.aspGroupClose ref) s fun t =>
        (∀ x ∈ t.asp.mems, x.num.toNat ≠ leAt p 0 2) ∧ (m.ended = false → Raised C.ASP.GROUP_END t) ∧
          Answers ref 0 [] [.asp] C.ASP.GROUP_END.regs s t) ∧
    (∀ d, Starts ref 0x0503 p s → (s.asp.dests.find? fun d => d.num.toNat == leAt p 0 2) = some d →
      (d.st = .analog ∨ d.st = .fallback) → Runs (.aspRecalibrate ref) s fun t =>
        (t.aspDest d.num).map (fun x => (x.st, x.recalLeft, x.returning)) = some (.recal, d.cons.length + 2, d.st == .fallback) ∧
          Answers ref 0 [] [.asp, .out] [] s t) ∧
    (∀ d, Starts ref 0x0504 p s → (s.asp.dests.find? fun d => d.num.toNat == leAt p 0 2) = some d →
      (d.st = .analog ∨ d.st = .recal) → Runs (.aspFallback ref) s fun t =>
        (t.aspDest d.num).map (·.st) = some .pending ∧ Raised C.ASP.FALLBACK t ∧
          Answers ref 0 [] [.asp, .out] C.ASP.FALLBACK.regs s t) ∧
    (∀ bs, Starts ref 0x0601 p s → s.flag F.MSH_CTRL.EN = true → 1 ≤ leAt p 0 1 → leAt p 0 1 ≤ 16 →
      bs = (List.range (leAt p 0 1)).map (fun i => slice p (8 + 64 * i) 64) → s.dirSetStatus bs = 0 → Runs (.mshDirSet ref) s fun t =>
        t.msh = { s.msh with dir := (bs.map recOf).foldl (fun d r => installRec r d) s.msh.dir } ∧ Answers ref 0 [] [.msh] [] s t) ∧
    (∀ r, Starts ref 0x0602 p s → s.flag F.MSH_CTRL.EN = true → s.recAt (leWord 64 p 0 8) = some r → r.migrating = false →
      Runs (.mshDirDelete ref) s fun t =>
        t.msh.dir = s.msh.dir.filter (·.slot != r.slot) ∧ t.msh.heat = s.msh.heat.filter (·.slot != r.slot) ∧
          Answers ref 0 [] [.msh] [] s t) ∧
    (Starts ref 0x0610 p s → s.flag F.MSH_CTRL.EN = true → leAt p 0 2 ≤ 4095 → leAt p 2 1 ≤ 16 →
      ((s.msh.pools.filter fun x => x.num.toNat != leAt p 0 2).map (·.members.length)).foldl (· + ·) 0 + leAt p 2 1 ≤ 16384 →
      Runs (.mshPoolSet ref) s fun t =>
        t.msh = { s.msh with pools := s.msh.pools.filter (fun x => x.num.toNat != leAt p 0 2) ++
          (if leAt p 2 1 = 0 then [] else [⟨BitVec.ofNat 12 (leAt p 0 2), leAt p 4 4,
            (List.range (leAt p 2 1)).map fun i => leWord 16 p (8 + 2 * i) 2, leAt p 2 1 - 1⟩]) } ∧
        Answers ref 0 [] [.msh] [] s t) ∧
    (Starts ref 0x0611 p s → s.flag F.MSH_CTRL.EN = true → leAt p 0 1 ≤ 63 → leAt p 1 1 = 1 → leAt p 2 2 ≤ 4095 → 12 ≤ leAt p 4 1 →
      leAt p 4 1 ≤ 24 → 1 ≤ leAt p 5 1 → leAt p 5 1 ≤ 16 → leAt p 8 8 % 4096 = 0 →
      (∀ r, s.msh.rings[leAt p 0 1]! = some r → r.prod = r.cons ∧ r.taken = 0) → Runs (.mshRingSet ref) s fun t =>
        t.msh.rings[leAt p 0 1]! = some ⟨BitVec.ofNat 12 (leAt p 2 2), leAt p 4 1, leAt p 5 1, leWord 64 p 8 8, 0, 0, 0⟩ ∧
          Answers ref 0 [] [.msh] [] s t) ∧
    (Starts ref 0x0620 p s → s.flag F.MSH_CTRL.EN = true → 1 ≤ leAt p 0 2 → leAt p 0 2 ≤ 256 →
      (∀ i < leAt p 0 2, stageOk p i = true) → s.msh.release = none → Runs (.mshBindStage ref) s fun t =>
        t.msh.hasStage = true ∧
          (∀ i < leAt p 0 2, ∃ x ∈ t.msh.staged, x.lid = leWord 16 p (8 + 12 * i) 2 ∧ bGen x.entry = s.msh.current + 1 ∧ x.byCommand = true) ∧
          (∀ x ∈ t.msh.staged, x ∈ s.msh.staged ∨ ∃ i < leAt p 0 2, x.lid = leWord 16 p (8 + 12 * i) 2 ∧
            x.entry = putField (leWord 64 p (12 + 12 * i) 8) 48 16 (s.msh.current + 1).toNat) ∧
          t.msh.bind = s.msh.bind ∧ t.msh.current = s.msh.current ∧ Answers ref 0 [] [.msh] [] s t) ∧
    (Starts ref 0x0621 p s → s.flag F.MSH_CTRL.EN = true → leAt p 0 1 = 1 → s.msh.hasStage = true → s.msh.release = none →
      s.now < leAt p 8 8 → Runs (.mshBindCommit ref) s fun t =>
        t.msh = { s.msh with release := some (.time (leAt p 8 8)) } ∧ Answers ref 0 (leBytes 8 (leAt p 8 8)) [.msh] [] s t) ∧
    (Starts ref 0x0622 p s → s.flag F.MSH_CTRL.EN = true → s.msh.hasStage = true → Runs (.mshBindCancel ref) s fun t =>
      t.msh = { s.msh with staged := [], hasStage := false, release := none, fences := [] } ∧ Answers ref 0 [] [.msh] [] s t) ∧
    (∀ r, Starts ref 0x0630 p s → s.flag F.MSH_CTRL.EN = true → s.recAt (leWord 64 p 0 8) = some r → s.rec? r.slot = some r →
      1 ≤ leAt p 8 1 → leAt p 8 1 < r.holders.length → s.migrating = false → s.owns r = true → r.migrating = false → 1 ≤ r.pages →
      Runs (.mshMigrate ref) s fun t =>
        t.msh.mig.st = .copying ∧ t.msh.mig.slot = r.slot ∧ t.msh.mig.round = 1 ∧ t.msh.mig.dirty = [] ∧
          (t.rec? r.slot).map (fun r => (r.migrating, r.migTarget)) = some (true, BitVec.ofNat 8 (leAt p 8 1)) ∧
          Answers ref 0 [] [.msh, .ports] [] s t) ∧
    (Starts ref 0x0702 p s → leAt p 0 1 ≤ 2 → Runs (.pcmPolicySet ref) s fun t =>
      t.fld F.PCM_CTRL.POLICY = leAt p 0 1 ∧ Answers ref 0 [] [] [R.PCM_CTRL] s t) ∧
    (∀ (chain c : List Byte), Starts ref 0x0803 p s → c = slice chain 0 (leAt p 10 2) → 1 ≤ leAt p 10 2 → leAt p 10 2 ≤ 8192 →
      leAt p 8 1 ≤ 7 → s.hasPort (leWord 3 p 8 1) = true → Runs (.idnChainSet ref true chain) s fun t =>
        (∀ x xs, chainOk c = some (x :: xs) → ((x :: xs).getLastD x).key = s.idn.pubkey →
          t.idn.chain = c ∧ (∀ k ∈ t.idn.conns, k.st = .resync) ∧ Raised C.IDN.CHAIN_SET t ∧ Ended ref 0 [] t) ∧
        (∀ x xs, chainOk c = some (x :: xs) → ((x :: xs).getLastD x).key ≠ s.idn.pubkey → Answers ref 0x0410 [] [] [] s t) ∧
        (chainOk c = none → Answers ref 0x0104 [] [] [] s t)) ∧
    (Starts ref 0x0A03 p s → s.testing = true → Runs (.diagTestStop ref) s fun t =>
      t.seam.test = { s.seam.test with waiting := false, running := false, poweredFor := false, locked := 0 } ∧
        t.flag F.SEAM_TEST_CTRL.ENABLE = false ∧ Answers ref 0 [] [.seam, .out] [R.SEAM_TEST_CTRL] s t) ∧
    (∀ c op, (c, op) ∈ ([(.widthSet ref, 0x0102), (.linkRetrain ref, 0x0103), (.linkFlush ref, 0x0104), (.linkRestart ref, 0x0105),
        (.tlrMeasure ref, 0x0201), (.ttbLoad ref, 0x0301), (.ttbStart ref, 0x0302), (.ttbArm ref, 0x0303), (.ttbCancel ref, 0x0304),
        (.ttbHalt ref, 0x0305), (.jctGroupOpen ref, 0x0401), (.jctGroupWait ref, 0x0402), (.jctGroupClose ref, 0x0403),
        (.jctGroupAbort ref, 0x0404), (.jctStart ref, 0x0410), (.jctBranchSet ref, 0x0420), (.aspGroupOpen ref, 0x0501),
        (.aspGroupClose ref, 0x0502), (.aspRecalibrate ref, 0x0503), (.aspFallback ref, 0x0504), (.aspGroupWait ref, 0x0505),
        (.mshDirSet ref, 0x0601), (.mshDirDelete ref, 0x0602), (.mshPoolSet ref, 0x0610), (.mshRingSet ref, 0x0611),
        (.mshBindStage ref, 0x0620), (.mshBindCommit ref, 0x0621), (.mshBindCancel ref, 0x0622), (.mshMigrate ref, 0x0630),
        (.pcmPolicySet ref, 0x0702), (.pcmWake ref, 0x0703), (.pcmSleep ref, 0x0704), (.spdmExchange ref, 0x0801),
        (.idnKeyGet ref, 0x0802), (.vtxForward ref, 0x0905)] : List (Instr × Nat)) → Taken ref op p s → s.stepPassed op = false →
      Runs c s fun t => Answers ref 0x0200 [] [] [] s t) ∧
    (Starts ref 0x0401 p s → s.lnk.gen.toNat < 3 → (leAt p 3 1).testBit 0 = false →
      Runs (.jctGroupOpen ref) s fun t => Answers ref 0x0200 [] [] [] s t) ∧
    (∀ c op, (c, op) ∈ ([(.mshDirSet ref, 0x0601), (.mshDirDelete ref, 0x0602), (.mshPoolSet ref, 0x0610), (.mshRingSet ref, 0x0611),
        (.mshBindStage ref, 0x0620), (.mshBindCommit ref, 0x0621), (.mshBindCancel ref, 0x0622),
        (.mshMigrate ref, 0x0630)] : List (Instr × Nat)) → Starts ref op p s → s.flag F.MSH_CTRL.EN = false →
      Runs c s fun t => Answers ref 0x0241 [] [] [] s t)

/-- The commands that wait (R315, R329 to R338): each begins what its row says and its reply comes with the event that ends it; where that
has come already, it completes at once. -/
def Obligations.WaitingCommands : Prop :=
  ∀ (ref : CmdRef) (p : List Byte) (s : State), Settled s →
    (Starts ref 0x0102 p s → s.seam.width = none → s.widthRefusal (leAt p 0 1) ((leAt p 1 1).testBit 0) = 0 →
      s.maskFor (leAt p 0 1) ≠ s.seam.usable → Runs (.widthSet ref) s fun t =>
        (t.seam.width.map fun w => (w.mine, w.target)) = some (true, s.maskFor (leAt p 0 1)) ∧ Waits ref .width s t) ∧
    (Starts ref 0x0102 p s → s.seam.width.isSome = true → leAt p 0 1 < 16 → Runs (.widthSet ref) s fun t =>
      t.seam.queued = some ⟨BitVec.ofNat 4 (leAt p 0 1), (leAt p 1 1).testBit 0⟩ ∧ Waits ref .widthQueued s t) ∧
    (Starts ref 0x0102 p s → s.seam.width = none → s.widthRefusal (leAt p 0 1) ((leAt p 1 1).testBit 0) ≠ 0 →
      Runs (.widthSet ref) s fun t =>
        Ended ref (widthStatus (s.widthRefusal (leAt p 0 1) ((leAt p 1 1).testBit 0))) [] t) ∧
    (Starts ref 0x0102 p s → s.seam.width.isSome = true → 16 ≤ leAt p 0 1 → Runs (.widthSet ref) s fun t =>
      Answers ref 0x0150 [] [] [] s t) ∧
    (Starts ref 0x0103 p s → s.lnk.st = .up → s.lnk.retraining = none → Runs (.linkRetrain ref) s fun t =>
      t.lnk.st = .retrain ∧ t.lnk.retraining.isSome = true ∧ t.tlr.mode = .retrain ∧ Raised C.LNK.RETRAIN t ∧
        Waits ref .retrain s t) ∧
    (Starts ref 0x0104 p s → s.lnk.st = .grace → Runs (.linkFlush ref) s fun t =>
      t.lnk.st = .flushed ∧ t.lnk.siding = [] ∧ t.lnk.reorder = [] ∧ Raised C.LNK.FLUSHED t ∧
        Ended ref 0 (leBytes 4 t.lnk.flushedEntries) t) ∧
    (Starts ref 0x0105 p s → s.lnk.st = .flushed → Runs (.linkRestart ref) s fun t =>
      t.lnk.st = .notUp ∧ t.boot.step = 6 ∧ t.boot.offers = 1 ∧ Waits ref .linkUp s t) ∧
    (Starts ref 0x0201 p s → leAt p 0 1 ≤ 71 → s.tlr.mode = .service → s.flag F.TLR_CTRL.MANUAL = false → s.freezing = false →
      s.tlr.measuring = none → Runs (.tlrMeasure ref) s fun t =>
        t.tlr = { s.tlr with measuring := some (leWord 7 p 0 1), measureFrom := s.mark } ∧ Waits ref .measure s t ∧ OnlyChanges [.tlr, .vtx, .outs, .slp] s t) ∧
    (Starts ref 0x0202 p s → leAt p 0 1 = 1 → s.tlr.frozen = false → Runs (.tlrFreeze ref) s fun t =>
      t.tlr.frozenHost = true ∧ Waits ref .freeze s t) ∧
    (Starts ref 0x0202 p s → leAt p 0 1 = 0 → s.tlr.frozenBrown = false → Runs (.tlrFreeze ref) s fun t =>
      t.tlr.frozenHost = false ∧ t.flag F.TLR_SNAP_CTRL.FREEZE = false ∧ (s.tlr.frozenHost = true → t.tlr.frozen = false) ∧
        Ended ref 0 (bvBytes s.tlr.gen) t ∧
        ((∀ x ∈ s.tlr.passes, ∀ e, x.2.step ≠ .waiting e) → Answers ref 0 (bvBytes s.tlr.gen) [.tlr] [R.TLR_SNAP_CTRL] s t)) ∧
    (∀ image, Starts ref 0x0204 p s → leAt p 8 1 ≤ 7 → s.loadable = true → s.hasPort (leWord 3 p 8 1) = true →
      s.boot.physValid = false → Runs (.tlrRestore ref true image) s fun t =>
        t.tlr = { s.tlr with restoreDue := true } ∧ Waits ref .restore s t ∧
          (∀ i < 394, t.reg (R.TLR_SNAP_WIN + 4 * i) = leWord 32 (slice image 0 1576) (4 * i) 4) ∧
          OnlyChanges [.tlr, .vtx, .regs, .outs, .slp] s t) ∧
    (Starts ref 0x0301 p s → s.ttb.load = none → leAt p 8 1 ≤ 7 → leAt p 0 8 % 4096 = 0 → Runs (.ttbLoad ref) s fun t =>
      t.ttb.load = some ⟨leWord 64 p 0 8, leWord 3 p 8 1, (leAt p 9 1).testBit 0, s.ttb.standby == .armed, none⟩ ∧
        Waits ref .load s t ∧ OnlyChanges [.ttb, .vtx, .outs, .slp] s t) ∧
    (Starts ref 0x0301 p s → s.ttb.load.isSome = true → Runs (.ttbLoad ref) s fun t =>
      Answers ref 1 [] [] [R.TTB_LOAD_CTRL] s t) ∧
    (Starts ref 0x0302 p s → leAt p 0 8 < 2 ^ 58 → leAt p 8 1 = 0 → s.startOk (leAt p 0 8) false = true → Runs (.ttbStart ref) s fun t =>
      t.ttb.st = .startArmed ∧ t.ttb.g0 = leAt p 0 8 ∧ t.ttb.active = !s.ttb.active ∧ t.ttb.standby = .empty ∧ Waits ref .start s t ∧
        OnlyChanges [.ttb, .vtx, .outs, .slp] s t) ∧
    (Starts ref 0x0303 p s → s.armResult (leWord 16 p 0 2) = 0 → Runs (.ttbArm ref) s fun t =>
      t.ttb.standby = .armed ∧ t.ttb.armEpoch = leWord 16 p 0 2 ∧ t.fld F.TTB_SWITCH.RESULT = 0 ∧ Waits ref .arm s t) ∧
    (Starts ref 0x0305 p s → leAt p 0 1 ≤ 1 → s.ttb.st = .running → Runs (.ttbHalt ref) s fun t =>
      t.ttb = { s.ttb with stops := s.ttb.stops ++
        [⟨if leAt p 0 1 = 1 then s.ttb.path + 1 else s.ttb.cycleG + s.cyclePaths, 1, 0, 0⟩] } ∧ Waits ref .halt s t ∧
        OnlyChanges [.ttb, .vtx, .outs, .slp] s t) ∧
    (∀ g, Starts ref 0x0402 p s → paramGroup p s = some g → Runs (.jctGroupWait ref) s fun t =>
      (g.live = true → Waits ref (.group g.num) s t ∧ OnlyChanges [.vtx, .outs, .slp] s t) ∧
      (g.live = false → Answers ref (groupStatus g.result) (groupReply g) [] [] s t)) ∧
    (Starts ref 0x0420 p s → leAt p 0 2 < 4096 → p.length = 8 + 2 * (leAt p 4 1 + 1) → s.jct.branches.length < 4096 →
      s.flag F.MSH_CTRL.EN = true → (∀ i < leAt p 4 1 + 1, (s.physOf (leWord 16 p (8 + 2 * i) 2)).isSome = true) →
      Runs (.jctBranchSet ref) s fun t =>
        t.vtx.progs.length = s.vtx.progs.length + 1 ∧ Waits ref (.station []) s t ∧ OnlyChanges [.vtx, .lnk, .outs, .slp] s t) ∧
    (∀ ids, Starts ref 0x0501 p s → s.lnk.gen = 3 → aspParamBad p = false → leAt p 2 1 = 0 → p.length = 40 + 2 * leAt p 3 1 →
      s.flag F.ASP_CTRL.EN = true → s.flag F.MSH_CTRL.EN = true →
      ids = (List.range (leAt p 3 1)).map (fun i => leWord 16 p (40 + 2 * i) 2) → (∀ l ∈ ids, ∃ x, s.physOf l = some x ∧ tileOf x = tileOf s.own) →
      (∀ d ∈ s.asp.dests, d.num.toNat ≠ leAt p 0 2) → s.asp.dests.length < 64 → (leAt p 12 4 + 1023) / 1024 ≤ s.freeChunks →
      Runs (.aspGroupOpen ref) s fun t =>
        t.vtx.progs.length = s.vtx.progs.length + 1 ∧ Waits ref (.station []) s t ∧ OnlyChanges [.vtx, .lnk, .outs, .slp] s t) ∧
    (∀ d, Starts ref 0x0501 p s → s.lnk.gen = 3 → aspParamBad p = false → leAt p 2 1 = 1 → p.length = 40 → s.flag F.ASP_CTRL.EN = true →
      s.flag F.MSH_CTRL.EN = true → s.physOf (leWord 16 p 38 2) = some d → tileOf d = tileOf s.own →
      (∀ m ∈ s.asp.mems, m.num.toNat ≠ leAt p 0 2) → s.asp.mems.length < 256 → Runs (.aspGroupOpen ref) s fun t =>
        t.asp = { s.asp with mems := s.asp.mems ++ [aspMemOf p d] } ∧ Answers ref 0 [] [.asp] [] s t) ∧
    (∀ d, Starts ref 0x0505 p s → (s.asp.dests.find? fun d => d.num.toNat == leAt p 0 2) = some d → Runs (.aspGroupWait ref) s fun t =>
      (d.st ≠ .ended → Waits ref (.aspGroup d.num) s t ∧ OnlyChanges [.vtx, .outs, .slp] s t) ∧
      (d.st = .ended → Answers ref (if d.result = 3 then 0x0221 else 0) [d.result.setWidth 8] [] [] s t)) ∧
    (∀ m, Starts ref 0x0505 p s → (∀ d ∈ s.asp.dests, d.num.toNat ≠ leAt p 0 2) →
      (s.asp.mems.find? fun m => m.num.toNat == leAt p 0 2) = some m → Runs (.aspGroupWait ref) s fun t =>
        (m.ended = false → Waits ref (.aspGroup m.num) s t ∧ OnlyChanges [.vtx, .outs, .slp] s t) ∧
        (m.ended = true → Answers ref (if m.result = 3 then 0x0221 else 0) [m.result.setWidth 8] [] [] s t)) ∧
    (Starts ref 0x0703 p s → WakesNow s → Runs (.pcmWake ref) s fun t => Waking 3 s t ∧ Waits ref .wake s t) ∧
    (Starts ref 0x0703 p s → s.pcm.st = .awake → s.seam.usable = s.permitted → Runs (.pcmWake ref) s fun t =>
      Ended ref 0 [s.seam.usable] t ∧ t.flag F.PCM_CTRL.WAKE = false) ∧
    (Starts ref 0x0704 p s → SleepsNow s → Runs (.pcmSleep ref) s fun t => Falling t ∧ Waits ref .sleep s t) ∧
    (Starts ref 0x0704 p s → s.asleep = true → Runs (.pcmSleep ref) s fun t => Ended ref 0 [] t ∧ t.flag F.PCM_CTRL.SLEEP = false) ∧
    (∀ (peer : SpdmPeer) (a : SpdmAnswer), Starts ref 0x0801 p s →
      peer = (match ref with | .tag _ => SpdmPeer.host | .context n => SpdmPeer.remote (((s.ctx n).map (·.src)).getD 0)) →
      a = spdmAnswer ((s.idn.conns.find? (·.peer == peer)).getD (SpdmConn.fresh peer)) p s → Runs (.spdmExchange ref) s fun t =>
        (a.sign = none → Answers ref 0 a.response [.idn, .free] [] s t) ∧
        (∀ d, a.sign = some d → Waits ref .spdm s t ∧ t.idn.signing = s.idn.signing ++ [⟨some ref, a.response, d⟩] ∧
          OnlyChanges [.vtx, .idn, .free, .outs, .slp] s t)) ∧
    (Starts ref 0x0902 p s → s.standsBy = true → s.sbx.wantHand = false → Runs (.sbxFailover ref) s fun t =>
      t.sbx = { s.sbx with wantHand := true, quiesce := true, handFrom := s.now } ∧ Waits ref .handover s t ∧
        OnlyChanges [.vtx, .sbx, .outs, .slp] s t) ∧
    (Starts ref 0x0903 p s → leAt p 0 8 % 4096 = 0 → leAt p 8 1 ≤ 7 → Runs (.sbxFwStage ref) s fun t =>
      (t.box (mate s.sbx.holder)).st = .loading ∧ t.reg R.SBX_FW_ADDR_LO = leWord 32 p 0 4 ∧ t.reg R.SBX_FW_ADDR_HI = leWord 32 p 4 4 ∧
        t.fld F.SBX_FW_CFG.PORT = leAt p 8 1 ∧ Waits ref .image s t) ∧
    (Starts ref 0x0905 p s → s.reachable (leWord 14 p 0 2) = true → Runs (.vtxForward ref) s fun t =>
      (∃ f ∈ t.vtx.fwds, f.rtag = s.vtx.nextRtag ∧ f.dest = leWord 14 p 0 2 ∧ f.cmd = p.drop 8 ∧ f.relay = false) ∧
        Waits ref (.forward s.vtx.nextRtag) s t ∧ OnlyChanges [.vtx, .lnk, .outs, .slp] s t) ∧
    (Starts ref 0x0A01 p s → leAt p 0 1 ≤ 7 → 1 ≤ leAt p 1 1 → leAt p 1 1 ≤ 5 → leAt p 2 1 ≤ 3 → s.testing = false →
      s.seam.usable.getLsbD (leAt p 0 1) = false → Runs (.diagTestStart ref) s fun t =>
        t.seam.test.waiting = true ∧ t.flag F.SEAM_TEST_CTRL.ENABLE = true ∧ t.fld F.SEAM_TEST_CTRL.SLEEVE = leAt p 0 1 ∧
          t.fld F.SEAM_TEST_CTRL.MODE = leAt p 1 1 ∧ t.seam.powered.getLsbD (leAt p 0 1) = true ∧ Waits ref .test s t)

/-! ## Signal boxes -/

/-- The signal boxes (R341 to R360): the journal's commit, the causes that fail the active box over and what the new one makes of the
commands that it finds, health reports and self-tests of the box without the token, the box link, a token fault and its tie-break,
take-back and orderly hand-over, and the loading, rejection and self-test of an image. -/
def Obligations.SignalBoxes : Prop :=
  (∀ s : State, s.functional = true → Settled s → s.sbx.sending = true → s.sbx.ready = true → Runs .generationCommit s fun t =>
    t.sbx = { s.sbx with sending := false, gen := nextGen s.sbx.gen, journal := s.vtx, writes := [] } ∧
      OnlyChanges [.sbx, .outs, .slp] s t) ∧
  (∀ s : State, Backed s → s.ctlOn = true → Runs .heartbeatTimeout s fun t => FailsOver 1 s t) ∧
  (∀ (cause : BitVec 4) (s : State), Backed s → 2 ≤ cause.toNat → cause.toNat ≤ 5 → Runs (.activeBoxFault cause) s fun t =>
    FailsOver cause s t) ∧
  (∀ (cause : BitVec 4) (s : State), s.functional = true → Settled s → s.sbx.held = true → s.sbx.tie = true →
    (s.box s.sbx.holder).st = .active → 2 ≤ cause.toNat → cause.toNat ≤ 5 → Runs (.activeBoxFault cause) s fun t =>
      t.sbx = { s.sbx with deferred := some (s.sbx.deferred.getD cause) } ∧ OnlyChanges [.sbx, .outs, .slp] s t) ∧
  (∀ (cause : BitVec 4) (b : Box) (lone : Bool) (s : State), s.functional = true → s.sbx.takeover = some (cause, b, lone) →
    (s.box s.sbx.holder).st = .active → (s.vtx.slots.map (·.tag)).Nodup → Runs .takeoverDone s fun t =>
      t.sbx.ready = true ∧ t.sbx.takeover = none ∧ t.sbx.lone = lone ∧ t.sbx.tie = (s.sbx.tie || !s.sbx.tokenOk) ∧
        Raised C.SBX.FAILOVER t ∧ (lone = true → t.vtx.slots = [] ∧ t.vtx.ctxs = [] ∧ t.vtx.cpl = [] ∧ Raised C.SBX.STATE_LOST t) ∧
        ((∀ w ∈ s.sbx.writes, w.addr.toNat ≠ R.TLR_SNAP_CTRL) → t.tlr.frozenHost = s.flag F.TLR_SNAP_CTRL.FREEZE) ∧
        (lone = false → (s.vtx.waits = [] ∨ (s.flag F.TLR_SNAP_CTRL.FREEZE = s.tlr.frozenHost ∧
          ∀ w ∈ s.sbx.writes, w.addr.toNat ≠ R.TLR_SNAP_CTRL)) → ∀ (g : BitVec 16) (x : Slot), s.slot g = some x → x.st = .running → cmdOpcode x.cmd ≠ 0x0902 →
          ((cmdFlags x.cmd).getLsbD 0 = false → Ended (.tag g) 0x0600 [] t) ∧
          ((cmdFlags x.cmd).getLsbD 0 = true → t.slot g = some { x with rerun := true, waits := false }))) ∧
  (∀ (r : HealthRpt) (s : State), s.functional = true → Settled s → s.ctlOn = true → s.reports = true →
    ¬ s.sbx.healthErr < r.errors → Runs (.healthReport (some r)) s fun t =>
      t.sbx = { s.sbx with
        reportAt := t.now, healthSt := BitVec.ofNat 4 (boxCode (s.box (mate s.sbx.holder)).st), healthErr := r.errors,
        healthPasses := r.passes, healthTime := BitVec.ofNat 64 t.now, missed := 0 } ∧ s.sbx.reportAt + 1000000 ≤ t.now ∧
        OnlyChanges [.sbx, .rwt, .aoCycles, .outs, .slp] s t) ∧
  (∀ s : State, s.functional = true → Settled s → s.ctlOn = true → s.reports = true → s.sbx.missed < 2 →
    Runs (.healthReport none) s fun t =>
      t.sbx = { s.sbx with reportAt := t.now, missed := s.sbx.missed + 1, holdFrom := s.sbx.holdFrom.map fun _ => t.now } ∧
        s.sbx.reportAt + 1000000 ≤ t.now ∧ OnlyChanges [.sbx, .rwt, .aoCycles, .outs, .slp] s t) ∧
  (∀ (c : Instr) (s : State), s.functional = true → s.ctlOn = true → s.reports = true →
    ((∃ r : HealthRpt, c = .healthReport (some r) ∧ s.sbx.healthErr < r.errors) ∨ (c = .healthReport none ∧ 2 ≤ s.sbx.missed) ∨
      c = .selfTestPass false) → Runs c s fun t =>
        (t.box (mate s.sbx.holder)).st = .loading ∧ t.sbx.holder = s.sbx.holder ∧ Raised C.SBX.STANDBY_FAIL t) ∧
  (∀ s : State, s.functional = true → Settled s → s.ctlOn = true → s.reports = true → Runs (.selfTestPass true) s fun t =>
    t.sbx = { s.sbx with passes := if s.sbx.passes = 0xFFFF then 0xFFFF else s.sbx.passes + 1 } ∧ OnlyChanges [.sbx, .outs, .slp] s t) ∧
  (∀ s : State, s.functional = true → s.sbx.held = true →
    ((s.box (mate s.sbx.holder)).st = .standby ∨ (s.box (mate s.sbx.holder)).st = .resync) → (s.box s.sbx.holder).st ≠ .standby →
    Runs .boxLinkLoss s fun t =>
      (t.box (mate s.sbx.holder)).st = .isolated ∧ t.sbx.sending = false ∧ Raised C.SBX.BOX_LINK_LOST t) ∧
  (∀ s : State, s.functional = true → Settled s → s.sbx.held = true → (s.box (mate s.sbx.holder)).st = .isolated →
    Runs (.boxLinkRetry true) s fun t =>
      (t.box (mate s.sbx.holder)).st = .resync ∧ t.box s.sbx.holder = s.box s.sbx.holder ∧ t.sbx.linkTried = t.mark ∧
        (s.byAo = false → s.sbx.linkTried.rail + 1000000 ≤ t.now) ∧ OnlyChanges [.sbx, .rwt, .aoCycles, .outs, .slp] s t) ∧
  (∀ s : State, s.functional = true → s.sbx.ready = true → (s.box (mate s.sbx.holder)).st = .resync → Runs .resyncDone s fun t =>
    (t.box (mate s.sbx.holder)).st = .standby ∧ Raised C.SBX.STANDBY_READY t) ∧
  (∀ s : State, s.functional = true → Settled s → s.sbx.held = true → s.sbx.tokenOk = true → s.sbx.takeover = none →
    Runs .tokenFault s fun t =>
      t.sbx = { s.sbx with tokenOk := false, tie := true, tieAt := s.now, tieSent := s.mark } ∧ Raised C.SBX.TOKEN_FAULT t ∧
        t.out = .sleeper 0x58 s.slp.mseq [BitVec.ofNat 32 (boxCode s.sbx.a.st + 16 * boxCode s.sbx.b.st +
          256 * (match s.sbx.holder with | .a => 0 | .b => 1))] :: s.out ∧
        OnlyChanges [.sbx, .regs, .flt, .out, .outs, .slp] s t ∧ RegsBut C.SBX.TOKEN_FAULT.regs s t) ∧
  (∀ (msg : BitVec 32) (s : State), s.functional = true → s.slp.lock = true → s.sbx.tie = true → s.sbx.deferred = none →
    Runs (.boxTieResp msg) s fun t =>
      t.sbx.tie = false ∧ t.sbx.tokenOk = true ∧ Raised C.SBX.TIE_RESOLVED t ∧ t.sbx.holder = (if bit msg 0 then .b else .a) ∧
        (s.sbx.holder = (if bit msg 0 then .b else .a) → t.sbx.takeover = s.sbx.takeover) ∧
        (s.sbx.holder ≠ (if bit msg 0 then .b else .a) → t.sbx.ready = false ∧ (t.sbx.takeover.map (·.1)) = some 6)) ∧
  (∀ s : State, s.functional = true → Settled s → s.sbx.tie = true → s.slp.lock = true → Runs .boxTieResend s fun t =>
    t.out = .sleeper 0x58 s.slp.mseq [BitVec.ofNat 32 (boxCode s.sbx.a.st + 16 * boxCode s.sbx.b.st +
      256 * (match s.sbx.holder with | .a => 0 | .b => 1))] :: s.out ∧ t.sbx = { s.sbx with tieSent := t.mark } ∧
      (s.byAo = false → s.sbx.tieSent.rail + 100000 ≤ t.now) ∧ OnlyChanges [.sbx, .rwt, .aoCycles, .out, .outs, .slp] s t) ∧
  (∀ s : State, s.functional = true → s.sbx.tie = true → s.sbx.deferred = none → Runs .tieSettlement s fun t =>
    t.sbx.tie = false ∧ t.sbx.tokenOk = true ∧ t.sbx.holder = s.sbx.holder ∧ s.sbx.tieAt + 10000000 ≤ t.now ∧
      Raised C.SBX.TIE_RESOLVED t) ∧
  (∀ (f : Nat) (s : State), s.functional = true → s.sbx.holdFrom = some f → s.flag F.SBX_CTRL.TAKEBACK_EN = true → s.standsBy = true →
    s.sbx.wantHand = false → Runs .takebackHoldoff s fun t =>
      t.sbx.wantHand = true ∧ t.sbx.quiesce = true ∧ f + 1000000 * atLeastOne (s.fld F.SBX_TIMING.HOLDOFF_MS) ≤ t.now) ∧
  (∀ s : State, s.functional = true → s.sbx.wantHand = true → s.sbx.quiesce = true → s.standsBy = true → s.quiescent = true →
    s.sbx.tie = false → Runs .quiescentPoint s fun t =>
      t.sbx.holder = mate s.sbx.holder ∧ (t.box (mate s.sbx.holder)).st = .active ∧ (t.box s.sbx.holder).st = .standby ∧
        t.sbx.wantHand = false ∧ t.sbx.quiesce = false ∧ Raised C.SBX.HANDOVER t ∧
        ∀ (g : BitVec 16) (x : Slot), s.vtx.waits.filter (fun w => w.2 == .handover) = [(.tag g, .handover)] → s.slot g = some x →
          x.st = .running → Ended (.tag g) 0 [] t) ∧
  (∀ s : State, s.functional = true → s.sbx.wantHand = true → s.sbx.quiesce = true → Runs .takebackWaitTimeout s fun t =>
    t.sbx.wantHand = true ∧ t.sbx.quiesce = false ∧
      s.sbx.handFrom + 1000 * atLeastOne (s.fld F.SBX_TIMING.TAKEBACK_WAIT_US) ≤ t.now) ∧
  (∀ s : State, s.functional = true → s.sbx.wantHand = true → s.sbx.quiesce = false → Runs .takebackRetry s fun t =>
    t.sbx.wantHand = true ∧ t.sbx.quiesce = true ∧ s.sbx.handFrom + 10000000 ≤ t.now) ∧
  (∀ (data : Word) (s : State), s.functional = true → Settled s → s.regOn R.SBX_CTRL = true → bit data 2 = true → s.standsBy = true →
    s.sbx.wantHand = false → Runs (.sbxCtrlFailover data) s fun t =>
      t.sbx = { s.sbx with wantHand := true, quiesce := true, handFrom := s.now } ∧ t.flag F.SBX_CTRL.FAILOVER = true ∧
        t.flag F.SBX_CTRL.AUTO_FAILOVER = bit data 1 ∧ t.flag F.SBX_CTRL.TAKEBACK_EN = bit data 0 ∧ t.outs.regAck = true ∧
        t.outs.regErr = false ∧ OnlyChanges [.sbx, .regs, .outs, .slp] s t ∧ RegsBut [R.SBX_CTRL] s t) ∧
  (∀ (box : Box) (image : List Byte) (s : State), s.functional = true → (s.box box).st = .loading →
    s.hasPort (BitVec.ofNat 3 (s.fld F.SBX_FW_CFG.PORT)) = true → Runs (.imageLoadDone box true image) s fun t =>
      (firmwareReject true image = 0 → t.box box = { s.box box with
        st := .selfTest, code := 0, ver := leWord 8 image 8 1 ++ leWord 8 image 9 1 ++ leWord 8 image 10 1,
        imageHash := sha384 (imageWhole image) }) ∧
      (firmwareReject true image ≠ 0 → t.box box = { s.box box with st := .rejected, ver := 0, code := firmwareReject true image } ∧
        Raised C.SBX.IMAGE_REJECTED t)) ∧
  (∀ s : State, s.functional = true → s.sbx.a.st = .selfTest → s.sbx.held = false → Runs (.startupSelfTestDone .a true) s fun t =>
    t.sbx.holder = .a ∧ t.sbx.held = true ∧ t.sbx.ready = true ∧ t.sbx.a.st = .active ∧
      (s.sbx.b.st = .isolated → t.sbx.b.st = .standby ∧ Raised C.SBX.STANDBY_READY t)) ∧
  (∀ s : State, s.functional = true → s.sbx.b.st = .selfTest → s.sbx.held = false → s.sbx.a.st ≠ .rejected → s.sbx.a.st ≠ .failed →
    Runs (.startupSelfTestDone .b true) s fun t => t.sbx.held = false ∧ t.sbx.b.st = .isolated) ∧
  (∀ (box : Box) (s : State), s.functional = true → (s.box box).st = .selfTest → s.sbx.held = true →
    Runs (.startupSelfTestDone box true) s fun t => (t.box box).st = (if s.sbx.holder = box then .active else .resync)) ∧
  (∀ (box : Box) (s : State), s.functional = true → (s.box box).st = .selfTest → Runs (.startupSelfTestDone box false) s fun t =>
    (t.box box).st = (if s.sbx.held then .loading else .failed)) ∧
  (∀ (data : Word) (s : State), s.functional = true → s.regOn R.SBX_FW_ADDR_HI = true → s.pins.platRstN = true → s.boot.step = 1 →
    s.boot.reached ≠ 0 → s.idn.key ≠ .failed → Runs (.fwAddrHiWrite data) s fun t =>
      t.boot.step = 2 ∧ t.sbx.a.st = .loading ∧ t.sbx.b.st = .loading ∧ t.sbx.loadBegun = true ∧ t.reg R.SBX_FW_ADDR_HI = data ∧
        t.outs.regAck = true ∧ t.outs.regErr = false)

/-! ## Identity and start-up -/

/-- The identity unit (R389, R390, R396, R398, R399): deriving and enrolling begin on their writes and end with the key or its failure, a slot is
locked and valid when its key is a point of the curve, a request of the station is answered or waits for its signature, and a
rejection holds start-up. -/
def Obligations.IdentityUnit : Prop :=
  (∀ (data : Word) (s : State), s.functional = true → Settled s → s.regOn R.IDN_CTRL = true → bit data 0 = true → bit data 2 = false →
    bit data 3 = false → s.idn.key = .absent → Runs (.derive data) s fun t =>
      t.idn = { s.idn with key := .underway, enrolling := false } ∧ t.outs.regAck = true ∧ t.outs.regErr = false ∧
        OnlyChanges [.idn, .outs, .slp] s t) ∧
  (∀ (data : Word) (s : State), s.functional = true → Settled s → s.regOn R.IDN_CTRL = true → bit data 1 = true → bit data 0 = false →
    bit data 2 = false → bit data 3 = false → s.idn.key = .absent → Runs (.enroll data) s fun t =>
      t.idn = { s.idn with key := .underway, enrolling := true } ∧ t.outs.regAck = true ∧ t.outs.regErr = false ∧
        OnlyChanges [.idn, .outs, .slp] s t) ∧
  (∀ (data : Word) (s : State), s.functional = true → Settled s → s.regOn R.IDN_CTRL = true → bit data 2 = true → bit data 0 = false →
    bit data 1 = false → bit data 3 = false → s.idn.locked0 = false → Runs (.authkeyLock data) s fun t =>
      t.idn = { s.idn with locked0 := true, valid0 := (pointOf (s.authKey 0)).isSome } ∧
        (pointOf (s.authKey 0) = none → Raised C.IDN.KEY_FAIL t) ∧ t.outs.regAck = true ∧ t.outs.regErr = false ∧
        OnlyChanges [.idn, .regs, .flt, .outs, .slp] s t ∧ RegsBut C.IDN.KEY_FAIL.regs s t) ∧
  (∀ s : State, s.functional = true → s.idn.key = .underway → s.idn.enrolling = false → Runs .deriveDone s fun t =>
    (helperReject (s.windowBytes R.IDN_HELPER_WIN 256) = 0 → t.idn.key = .ready ∧ Raised C.IDN.KEY_READY t ∧
      t.idn.pubkey = pufKeyBytes (leWord 256 (s.windowBytes R.IDN_HELPER_WIN 256) 8 32)
        (leWord 7424 (s.windowBytes R.IDN_HELPER_WIN 256) 88 928)) ∧
    (helperReject (s.windowBytes R.IDN_HELPER_WIN 256) ≠ 0 → t.idn.key = .failed ∧
      t.idn.reject = helperReject (s.windowBytes R.IDN_HELPER_WIN 256) ∧ Raised C.IDN.KEY_FAIL t ∧ (s.starting = true → Holds 2 s t))) ∧
  (∀ s : State, s.functional = true → s.idn.key = .underway → s.idn.enrolling = true → Runs .enrollDone s fun t =>
    t.idn.key = .ready ∧ t.free = s.free + 1 ∧ Raised C.IDN.ENROLLED t ∧ Raised C.IDN.KEY_READY t ∧
      t.windowBytes R.IDN_HELPER_WIN 256 = helperImage (Config.enrollSalt s.free) (pufCodeOf (Config.enrollSalt s.free)) ∧
      t.idn.pubkey = pufKeyBytes (Config.enrollSalt s.free) (pufCodeOf (Config.enrollSalt s.free))) ∧
  (∀ (words : List Word) (a : SpdmAnswer) (s : State), s.functional = true → s.slp.lock = true → Settled s → s.ctlOn = true →
    s.idn.key = .ready → words ≠ [] → words.length ≤ 255 → (leAt (wordsBytes words) 1 1).testBit 7 = true →
    a = spdmAnswer ((s.idn.conns.find? (·.peer == .station)).getD (SpdmConn.fresh .station)) (wordsBytes words) s →
    Runs (.spdmMessage words) s fun t =>
      t.idn.conns = useConn a.conn s.idn.conns ∧ t.free = s.free + b2n a.drew ∧
      (a.sign = none → t.out = .sleeper 0x08 s.slp.mseq (bytesWords a.response) :: s.out ∧ t.idn.signing = s.idn.signing) ∧
      (∀ d, a.sign = some d → t.out = s.out ∧ t.idn.signing = s.idn.signing ++ [⟨none, a.response, d⟩]) ∧
      OnlyChanges [.idn, .free, .out, .outs, .slp] s t) ∧
  (∀ (words : List Word) (s : State), s.functional = true → s.slp.lock = true → s.ctlOn = true → words ≠ [] → words.length ≤ 255 →
    s.boot.step = 5 → leAt (wordsBytes words) 1 1 = 0x7F → Runs (.spdmMessage words) s fun t =>
      t.idn.auth = .failed ∧ Raised C.IDN.STATION_AUTH_FAIL t ∧ Holds 3 s t) ∧
  (∀ (x : Signing) (xs : List Signing) (s : State), s.functional = true → Settled s → s.idn.signing = x :: xs → x.ref = none →
    s.boot.step ≠ 5 → Runs .spdmSignDone s fun t =>
      t.idn = { s.idn with signing := xs } ∧ t.free = s.free + 1 ∧
        t.out = .sleeper 0x08 s.slp.mseq (bytesWords (x.response ++ s.signature x.digest)) :: s.out ∧
        OnlyChanges [.idn, .free, .out, .outs, .slp] s t) ∧
  (∀ (x : Signing) (xs : List Signing) (ref : CmdRef) (c : List Byte) (s : State), s.functional = true → Settled s →
    s.idn.signing = x :: xs → x.ref = some ref → s.running ref = some c → s.sbx.ready = true → Runs .spdmSignDone s fun t =>
      Answers ref 0 (x.response ++ s.signature x.digest) [.idn, .free] [] s t)

/-- Start-up from negotiation to training (R409 to R417): an agreement that passes the checks is confirmed and put in force, any other
holds start-up with the code of its check; offers and training messages are sent again and hold start-up after the tenth; the
station's TRAIN_START and TRAIN_DONE are taken, and both ends' give the first width. A message that is discarded changes nothing. -/
def Obligations.StartUp : Prop :=
  (∀ (msg : BitVec 128) (s : State), s.functional = true → s.slp.lock = true → s.boot.step = 6 → s.tlr.restoreDue = false →
    agreeCode msg s = 0 → hex4 s.idn.serial = some (fld msg 16 14) → Runs (.negAgree msg) s fun t =>
      t.boot.step = 7 ∧ t.boot.phys = bits msg 16 14 ∧ t.boot.physValid = true ∧ t.lnk.gen = bits msg 0 2 ∧ t.boot.gen = bits msg 0 2 ∧
        t.lnk.selective = bit msg 2 ∧ t.lnk.held[5] = fld msg 104 11 ∧ t.lnk.held[0] = fld msg 64 8 ∧ t.boot.ownMask = t.permitted ∧
        t.boot.peerMask = none ∧ t.boot.trainSends = 1) ∧
  (∀ (msg : BitVec 128) (s : State), s.functional = true → s.slp.lock = true → Settled s → s.boot.step = 6 → agreeCode msg s ≠ 0 →
    Runs (.negAgree msg) s fun t =>
      Holds (BitVec.ofNat 4 (agreeCode msg s)) s t ∧ t.out = .sleeper 0x03 s.slp.mseq
        [BitVec.ofNat 32 (fld msg 0 2 + 16 * agreeCode msg s)] :: s.out) ∧
  (∀ s : State, s.functional = true → s.boot.step = 6 → (s.boot.offers < 10 → Runs .negOfferTimeout s fun t =>
    t.boot.step = 6 ∧ t.boot.offers = s.boot.offers + 1 ∧ t.boot.offerSelective = s.flag F.LNK_CTRL.REPLAY_MODE ∧
      t.boot.offerGrace = BitVec.ofNat 20 s.graceUs ∧ t.boot.sentAt = t.mark ∧
      (s.byAo = false → s.boot.sentAt.rail + 100000 ≤ t.now)) ∧
    (10 ≤ s.boot.offers → Runs .negOfferTimeout s fun t => Holds 6 s t)) ∧
  (∀ (msg : BitVec 32) (s : State), s.functional = true → s.slp.lock = true → s.boot.step = 7 → s.boot.peerMask = none →
    Runs (.trainStart msg) s fun t =>
      t.boot.peerMask = some (bits msg 0 8) ∧ t.boot.trainSends = 1 ∧ t.boot.restore = (s.boot.restore && bit msg 8) ∧
        t.seam.powered = ((s.boot.ownMask ||| bits msg 0 8) &&& s.permitted) ||| (s.seam.powered &&& s.testMask) ∧
        (s.boot.restore = true → bit msg 8 = false → t.tlr.mode = .training)) ∧
  (∀ (msg : BitVec 32) (a m : Byte) (s : State), s.functional = true → s.slp.lock = true → s.boot.step = 7 → s.boot.peerUsable = none →
    s.boot.ownUsable = some a → m = a &&& bits msg 0 8 &&& s.permitted → Runs (.trainDone msg) s fun t =>
      t.boot.peerUsable = some (bits msg 0 8) ∧ (m = 0 → Holds 7 s t) ∧
      (m ≠ 0 → t.boot.step = 7 ∧ t.seam.usable = lowest m ((([8, 6, 4, 2] : List Nat).find? (· ≤ popcount8 m)).getD 1))) ∧
  (∀ (msg : BitVec 32) (s : State), s.functional = true → s.slp.lock = true → Settled s → s.boot.step = 7 → s.boot.peerUsable = none →
    s.boot.ownUsable = none → Runs (.trainDone msg) s fun t =>
      t.boot = { s.boot with peerUsable := some (bits msg 0 8), trainSends := 1 } ∧ OnlyChanges [.boot, .outs, .slp] s t) ∧
  (∀ s : State, s.functional = true → Settled s → s.boot.step = 7 → s.boot.peerMask = none →
    (s.boot.trainSends < 10 → Runs .trainMsgTimeout s fun t =>
      t.boot = { s.boot with trainSends := s.boot.trainSends + 1, sentAt := t.mark } ∧ t.out = .sleeper 0x20 s.slp.mseq
        [BitVec.ofNat 32 (s.boot.ownMask.toNat + 256 * b2n s.boot.restore)] :: s.out ∧
      (s.byAo = false → s.boot.sentAt.rail + 100000 ≤ t.now) ∧ OnlyChanges [.boot, .rwt, .aoCycles, .out, .outs, .slp] s t) ∧
    (10 ≤ s.boot.trainSends → Runs .trainMsgTimeout s fun t => Holds 6 s t)) ∧
  (∀ (p u : Byte) (s : State), s.functional = true → Settled s → s.boot.step = 7 → s.boot.peerMask = some p →
    s.boot.ownUsable = some u → s.boot.peerUsable = none →
    (s.boot.trainSends < 10 → Runs .trainMsgTimeout s fun t =>
      t.boot = { s.boot with trainSends := s.boot.trainSends + 1, sentAt := t.mark } ∧
      t.out = .sleeper 0x21 s.slp.mseq [u.setWidth 32] :: s.out ∧ (s.byAo = false → s.boot.sentAt.rail + 100000 ≤ t.now) ∧
      OnlyChanges [.boot, .rwt, .aoCycles, .out, .outs, .slp] s t) ∧
    (10 ≤ s.boot.trainSends → Runs .trainMsgTimeout s fun t => Holds 6 s t)) ∧
  (∀ (blocks : List (BitVec 34)) (s : State), s.functional = true → s.slp.lock = true → Settled s →
    (∀ b ∈ blocks, bits b 32 2 = 1#2 ∨ bits b 32 2 = 2#2) → slips s.slp.heads = false → Runs (.sleeperMessageDiscard blocks) s fun t =>
    t.slp.lock = true ∧ t.fld F.SEAM_SLP_STATUS.SYNC_ERR = s.fld F.SEAM_SLP_STATUS.SYNC_ERR ∧ OnlyChanges [.regs, .outs, .slp] s t ∧
      RegsBut [R.SEAM_SLP_STATUS] s t)

/-! ## Encodings -/

/-- No field of a header, of a seam control flit or of a link control flit is lost between its bits and its fields (R81, R136, R145,
R152, R165, R244, R324); a flit as it is sealed carries its header and its payload and passes the check of its trailer (R137); the
flits of a packet carry its bytes in order, at most 240 in each (R136). -/
def Obligations.HeadersRoundTrip : Prop :=
  (∀ h : THdr, THdr.ofBits h.toBits = h) ∧ (∀ w : BitVec 256, (THdr.ofBits w).toBits = w) ∧
  (∀ h : MHdr, MHdr.ofBits h.toBits = h) ∧ (∀ w : BitVec 128, (MHdr.ofBits w).toBits = w) ∧
  (∀ h : JHdr, JHdr.ofBits h.toBits = h) ∧ (∀ w : BitVec 256, (JHdr.ofBits w).toBits = w) ∧
  (∀ h : DHdr, DHdr.ofBits h.toBits = h) ∧ (∀ w : BitVec 64, (DHdr.ofBits w).toBits = w) ∧
  (∀ h : T6Hdr, T6Hdr.ofBits h.toBits = h) ∧ (∀ w : BitVec 64, (T6Hdr.ofBits w).toBits = w) ∧
  (∀ h : SeamCtl, SeamCtl.ofBits h.toBits = h) ∧ (∀ c : LinkCtl, LinkCtl.ofBits c.toBits = c) ∧
  (∀ (hdr : BitVec 64) (p : BitVec 1920), crcOk (sealFlit hdr p) = true ∧ bits (sealFlit hdr p) 0 64 = hdr ∧
    payloadOf (sealFlit hdr p) = p) ∧
  (∀ (track : Nat) (bytes : List Byte), (pktFlits track bytes).flatMap (·.data) = bytes ∧
    (pktFlits track bytes).length = flitsOf bytes.length ∧ ∀ f ∈ pktFlits track bytes, f.data.length ≤ 240)
end

