-- ==== Sys2Proof/Laws/State.lean ====
section
/-!
SUPPORT. What each shared operation on the state leaves and what it makes, field by field, so that no later proof unfolds a record
update.
-/
namespace Sys2Proof.Machine

/-- What a change of the field `lnk` leaves, and what it makes. -/
@[simp] theorem modLnk_frame (f : Lnk → Lnk) (s : State) :
    (modLnk f s).pending = s.pending ∧ (modLnk f s).par = s.par ∧ (modLnk f s).pins = s.pins ∧ (modLnk f s).outs = s.outs ∧
    (modLnk f s).out = s.out ∧ (modLnk f s).aoCycles = s.aoCycles ∧ (modLnk f s).free = s.free ∧ (modLnk f s).tap = s.tap ∧
    (modLnk f s).wrapped = s.wrapped ∧ (modLnk f s).access = s.access ∧ (modLnk f s).regs = s.regs ∧
    (modLnk f s).latches = s.latches ∧ (modLnk f s).holders = s.holders ∧ (modLnk f s).flt = s.flt ∧ (modLnk f s).slp = s.slp ∧
    (modLnk f s).seam = s.seam ∧ (modLnk f s).tlr = s.tlr ∧ (modLnk f s).ports = s.ports ∧ (modLnk f s).mnf = s.mnf ∧
    (modLnk f s).rwt = s.rwt ∧ (modLnk f s).ttb = s.ttb ∧ (modLnk f s).jct = s.jct ∧ (modLnk f s).asp = s.asp ∧
    (modLnk f s).msh = s.msh ∧ (modLnk f s).vtx = s.vtx ∧ (modLnk f s).sbx = s.sbx ∧ (modLnk f s).pcm = s.pcm ∧
    (modLnk f s).idn = s.idn ∧ (modLnk f s).boot = s.boot ∧ (modLnk f s).lnk = f s.lnk := by
  repeat' constructor

/-- What a change of the field `seam` leaves, and what it makes. -/
@[simp] theorem modSeam_frame (f : Seam → Seam) (s : State) :
    (modSeam f s).pending = s.pending ∧ (modSeam f s).par = s.par ∧ (modSeam f s).pins = s.pins ∧ (modSeam f s).outs = s.outs ∧
    (modSeam f s).out = s.out ∧ (modSeam f s).aoCycles = s.aoCycles ∧ (modSeam f s).free = s.free ∧ (modSeam f s).tap = s.tap ∧
    (modSeam f s).wrapped = s.wrapped ∧ (modSeam f s).access = s.access ∧ (modSeam f s).regs = s.regs ∧
    (modSeam f s).latches = s.latches ∧ (modSeam f s).holders = s.holders ∧ (modSeam f s).flt = s.flt ∧
    (modSeam f s).slp = s.slp ∧ (modSeam f s).tlr = s.tlr ∧ (modSeam f s).lnk = s.lnk ∧ (modSeam f s).ports = s.ports ∧
    (modSeam f s).mnf = s.mnf ∧ (modSeam f s).rwt = s.rwt ∧ (modSeam f s).ttb = s.ttb ∧ (modSeam f s).jct = s.jct ∧
    (modSeam f s).asp = s.asp ∧ (modSeam f s).msh = s.msh ∧ (modSeam f s).vtx = s.vtx ∧ (modSeam f s).sbx = s.sbx ∧
    (modSeam f s).pcm = s.pcm ∧ (modSeam f s).idn = s.idn ∧ (modSeam f s).boot = s.boot ∧ (modSeam f s).seam = f s.seam := by
  repeat' constructor

/-- What a change of the field `tlr` leaves, and what it makes. -/
@[simp] theorem modTlr_frame (f : Tlr → Tlr) (s : State) :
    (modTlr f s).pending = s.pending ∧ (modTlr f s).par = s.par ∧ (modTlr f s).pins = s.pins ∧ (modTlr f s).outs = s.outs ∧
    (modTlr f s).out = s.out ∧ (modTlr f s).aoCycles = s.aoCycles ∧ (modTlr f s).free = s.free ∧ (modTlr f s).tap = s.tap ∧
    (modTlr f s).wrapped = s.wrapped ∧ (modTlr f s).access = s.access ∧ (modTlr f s).regs = s.regs ∧
    (modTlr f s).latches = s.latches ∧ (modTlr f s).holders = s.holders ∧ (modTlr f s).flt = s.flt ∧ (modTlr f s).slp = s.slp ∧
    (modTlr f s).seam = s.seam ∧ (modTlr f s).lnk = s.lnk ∧ (modTlr f s).ports = s.ports ∧ (modTlr f s).mnf = s.mnf ∧
    (modTlr f s).rwt = s.rwt ∧ (modTlr f s).ttb = s.ttb ∧ (modTlr f s).jct = s.jct ∧ (modTlr f s).asp = s.asp ∧
    (modTlr f s).msh = s.msh ∧ (modTlr f s).vtx = s.vtx ∧ (modTlr f s).sbx = s.sbx ∧ (modTlr f s).pcm = s.pcm ∧
    (modTlr f s).idn = s.idn ∧ (modTlr f s).boot = s.boot ∧ (modTlr f s).tlr = f s.tlr := by
  repeat' constructor

/-- What a change of the field `rwt` leaves, and what it makes. -/
@[simp] theorem modRwt_frame (f : Rwt → Rwt) (s : State) :
    (modRwt f s).pending = s.pending ∧ (modRwt f s).par = s.par ∧ (modRwt f s).pins = s.pins ∧ (modRwt f s).outs = s.outs ∧
    (modRwt f s).out = s.out ∧ (modRwt f s).aoCycles = s.aoCycles ∧ (modRwt f s).free = s.free ∧ (modRwt f s).tap = s.tap ∧
    (modRwt f s).wrapped = s.wrapped ∧ (modRwt f s).access = s.access ∧ (modRwt f s).regs = s.regs ∧
    (modRwt f s).latches = s.latches ∧ (modRwt f s).holders = s.holders ∧ (modRwt f s).flt = s.flt ∧ (modRwt f s).slp = s.slp ∧
    (modRwt f s).seam = s.seam ∧ (modRwt f s).tlr = s.tlr ∧ (modRwt f s).lnk = s.lnk ∧ (modRwt f s).ports = s.ports ∧
    (modRwt f s).mnf = s.mnf ∧ (modRwt f s).ttb = s.ttb ∧ (modRwt f s).jct = s.jct ∧ (modRwt f s).asp = s.asp ∧
    (modRwt f s).msh = s.msh ∧ (modRwt f s).vtx = s.vtx ∧ (modRwt f s).sbx = s.sbx ∧ (modRwt f s).pcm = s.pcm ∧
    (modRwt f s).idn = s.idn ∧ (modRwt f s).boot = s.boot ∧ (modRwt f s).rwt = f s.rwt := by
  repeat' constructor

/-- What a change of the field `ttb` leaves, and what it makes. -/
@[simp] theorem modTtb_frame (f : Ttb → Ttb) (s : State) :
    (modTtb f s).pending = s.pending ∧ (modTtb f s).par = s.par ∧ (modTtb f s).pins = s.pins ∧ (modTtb f s).outs = s.outs ∧
    (modTtb f s).out = s.out ∧ (modTtb f s).aoCycles = s.aoCycles ∧ (modTtb f s).free = s.free ∧ (modTtb f s).tap = s.tap ∧
    (modTtb f s).wrapped = s.wrapped ∧ (modTtb f s).access = s.access ∧ (modTtb f s).regs = s.regs ∧
    (modTtb f s).latches = s.latches ∧ (modTtb f s).holders = s.holders ∧ (modTtb f s).flt = s.flt ∧ (modTtb f s).slp = s.slp ∧
    (modTtb f s).seam = s.seam ∧ (modTtb f s).tlr = s.tlr ∧ (modTtb f s).lnk = s.lnk ∧ (modTtb f s).ports = s.ports ∧
    (modTtb f s).mnf = s.mnf ∧ (modTtb f s).rwt = s.rwt ∧ (modTtb f s).jct = s.jct ∧ (modTtb f s).asp = s.asp ∧
    (modTtb f s).msh = s.msh ∧ (modTtb f s).vtx = s.vtx ∧ (modTtb f s).sbx = s.sbx ∧ (modTtb f s).pcm = s.pcm ∧
    (modTtb f s).idn = s.idn ∧ (modTtb f s).boot = s.boot ∧ (modTtb f s).ttb = f s.ttb := by
  repeat' constructor

/-- What a change of the field `msh` leaves, and what it makes. -/
@[simp] theorem modMsh_frame (f : Msh → Msh) (s : State) :
    (modMsh f s).pending = s.pending ∧ (modMsh f s).par = s.par ∧ (modMsh f s).pins = s.pins ∧ (modMsh f s).outs = s.outs ∧
    (modMsh f s).out = s.out ∧ (modMsh f s).aoCycles = s.aoCycles ∧ (modMsh f s).free = s.free ∧ (modMsh f s).tap = s.tap ∧
    (modMsh f s).wrapped = s.wrapped ∧ (modMsh f s).access = s.access ∧ (modMsh f s).regs = s.regs ∧
    (modMsh f s).latches = s.latches ∧ (modMsh f s).holders = s.holders ∧ (modMsh f s).flt = s.flt ∧ (modMsh f s).slp = s.slp ∧
    (modMsh f s).seam = s.seam ∧ (modMsh f s).tlr = s.tlr ∧ (modMsh f s).lnk = s.lnk ∧ (modMsh f s).ports = s.ports ∧
    (modMsh f s).mnf = s.mnf ∧ (modMsh f s).rwt = s.rwt ∧ (modMsh f s).ttb = s.ttb ∧ (modMsh f s).jct = s.jct ∧
    (modMsh f s).asp = s.asp ∧ (modMsh f s).vtx = s.vtx ∧ (modMsh f s).sbx = s.sbx ∧ (modMsh f s).pcm = s.pcm ∧
    (modMsh f s).idn = s.idn ∧ (modMsh f s).boot = s.boot ∧ (modMsh f s).msh = f s.msh := by
  repeat' constructor

/-- What a change of the field `vtx` leaves, and what it makes. -/
@[simp] theorem modVtx_frame (f : Vtx → Vtx) (s : State) :
    (modVtx f s).pending = s.pending ∧ (modVtx f s).par = s.par ∧ (modVtx f s).pins = s.pins ∧ (modVtx f s).outs = s.outs ∧
    (modVtx f s).out = s.out ∧ (modVtx f s).aoCycles = s.aoCycles ∧ (modVtx f s).free = s.free ∧ (modVtx f s).tap = s.tap ∧
    (modVtx f s).wrapped = s.wrapped ∧ (modVtx f s).access = s.access ∧ (modVtx f s).regs = s.regs ∧
    (modVtx f s).latches = s.latches ∧ (modVtx f s).holders = s.holders ∧ (modVtx f s).flt = s.flt ∧ (modVtx f s).slp = s.slp ∧
    (modVtx f s).seam = s.seam ∧ (modVtx f s).tlr = s.tlr ∧ (modVtx f s).lnk = s.lnk ∧ (modVtx f s).ports = s.ports ∧
    (modVtx f s).mnf = s.mnf ∧ (modVtx f s).rwt = s.rwt ∧ (modVtx f s).ttb = s.ttb ∧ (modVtx f s).jct = s.jct ∧
    (modVtx f s).asp = s.asp ∧ (modVtx f s).msh = s.msh ∧ (modVtx f s).sbx = s.sbx ∧ (modVtx f s).pcm = s.pcm ∧
    (modVtx f s).idn = s.idn ∧ (modVtx f s).boot = s.boot ∧ (modVtx f s).vtx = f s.vtx := by
  repeat' constructor

/-- What a change of the field `sbx` leaves, and what it makes. -/
@[simp] theorem modSbx_frame (f : Sbx → Sbx) (s : State) :
    (modSbx f s).pending = s.pending ∧ (modSbx f s).par = s.par ∧ (modSbx f s).pins = s.pins ∧ (modSbx f s).outs = s.outs ∧
    (modSbx f s).out = s.out ∧ (modSbx f s).aoCycles = s.aoCycles ∧ (modSbx f s).free = s.free ∧ (modSbx f s).tap = s.tap ∧
    (modSbx f s).wrapped = s.wrapped ∧ (modSbx f s).access = s.access ∧ (modSbx f s).regs = s.regs ∧
    (modSbx f s).latches = s.latches ∧ (modSbx f s).holders = s.holders ∧ (modSbx f s).flt = s.flt ∧ (modSbx f s).slp = s.slp ∧
    (modSbx f s).seam = s.seam ∧ (modSbx f s).tlr = s.tlr ∧ (modSbx f s).lnk = s.lnk ∧ (modSbx f s).ports = s.ports ∧
    (modSbx f s).mnf = s.mnf ∧ (modSbx f s).rwt = s.rwt ∧ (modSbx f s).ttb = s.ttb ∧ (modSbx f s).jct = s.jct ∧
    (modSbx f s).asp = s.asp ∧ (modSbx f s).msh = s.msh ∧ (modSbx f s).vtx = s.vtx ∧ (modSbx f s).pcm = s.pcm ∧
    (modSbx f s).idn = s.idn ∧ (modSbx f s).boot = s.boot ∧ (modSbx f s).sbx = f s.sbx := by
  repeat' constructor

/-- What a change of the field `pcm` leaves, and what it makes. -/
@[simp] theorem modPcm_frame (f : Pcm → Pcm) (s : State) :
    (modPcm f s).pending = s.pending ∧ (modPcm f s).par = s.par ∧ (modPcm f s).pins = s.pins ∧ (modPcm f s).outs = s.outs ∧
    (modPcm f s).out = s.out ∧ (modPcm f s).aoCycles = s.aoCycles ∧ (modPcm f s).free = s.free ∧ (modPcm f s).tap = s.tap ∧
    (modPcm f s).wrapped = s.wrapped ∧ (modPcm f s).access = s.access ∧ (modPcm f s).regs = s.regs ∧
    (modPcm f s).latches = s.latches ∧ (modPcm f s).holders = s.holders ∧ (modPcm f s).flt = s.flt ∧ (modPcm f s).slp = s.slp ∧
    (modPcm f s).seam = s.seam ∧ (modPcm f s).tlr = s.tlr ∧ (modPcm f s).lnk = s.lnk ∧ (modPcm f s).ports = s.ports ∧
    (modPcm f s).mnf = s.mnf ∧ (modPcm f s).rwt = s.rwt ∧ (modPcm f s).ttb = s.ttb ∧ (modPcm f s).jct = s.jct ∧
    (modPcm f s).asp = s.asp ∧ (modPcm f s).msh = s.msh ∧ (modPcm f s).vtx = s.vtx ∧ (modPcm f s).sbx = s.sbx ∧
    (modPcm f s).idn = s.idn ∧ (modPcm f s).boot = s.boot ∧ (modPcm f s).pcm = f s.pcm := by
  repeat' constructor

/-- What a change of the field `idn` leaves, and what it makes. -/
@[simp] theorem modIdn_frame (f : Idn → Idn) (s : State) :
    (modIdn f s).pending = s.pending ∧ (modIdn f s).par = s.par ∧ (modIdn f s).pins = s.pins ∧ (modIdn f s).outs = s.outs ∧
    (modIdn f s).out = s.out ∧ (modIdn f s).aoCycles = s.aoCycles ∧ (modIdn f s).free = s.free ∧ (modIdn f s).tap = s.tap ∧
    (modIdn f s).wrapped = s.wrapped ∧ (modIdn f s).access = s.access ∧ (modIdn f s).regs = s.regs ∧
    (modIdn f s).latches = s.latches ∧ (modIdn f s).holders = s.holders ∧ (modIdn f s).flt = s.flt ∧ (modIdn f s).slp = s.slp ∧
    (modIdn f s).seam = s.seam ∧ (modIdn f s).tlr = s.tlr ∧ (modIdn f s).lnk = s.lnk ∧ (modIdn f s).ports = s.ports ∧
    (modIdn f s).mnf = s.mnf ∧ (modIdn f s).rwt = s.rwt ∧ (modIdn f s).ttb = s.ttb ∧ (modIdn f s).jct = s.jct ∧
    (modIdn f s).asp = s.asp ∧ (modIdn f s).msh = s.msh ∧ (modIdn f s).vtx = s.vtx ∧ (modIdn f s).sbx = s.sbx ∧
    (modIdn f s).pcm = s.pcm ∧ (modIdn f s).boot = s.boot ∧ (modIdn f s).idn = f s.idn := by
  repeat' constructor

/-- What a change of the field `flt` leaves, and what it makes. -/
@[simp] theorem modFlt_frame (f : Flt → Flt) (s : State) :
    (modFlt f s).pending = s.pending ∧ (modFlt f s).par = s.par ∧ (modFlt f s).pins = s.pins ∧ (modFlt f s).outs = s.outs ∧
    (modFlt f s).out = s.out ∧ (modFlt f s).aoCycles = s.aoCycles ∧ (modFlt f s).free = s.free ∧ (modFlt f s).tap = s.tap ∧
    (modFlt f s).wrapped = s.wrapped ∧ (modFlt f s).access = s.access ∧ (modFlt f s).regs = s.regs ∧
    (modFlt f s).latches = s.latches ∧ (modFlt f s).holders = s.holders ∧ (modFlt f s).slp = s.slp ∧
    (modFlt f s).seam = s.seam ∧ (modFlt f s).tlr = s.tlr ∧ (modFlt f s).lnk = s.lnk ∧ (modFlt f s).ports = s.ports ∧
    (modFlt f s).mnf = s.mnf ∧ (modFlt f s).rwt = s.rwt ∧ (modFlt f s).ttb = s.ttb ∧ (modFlt f s).jct = s.jct ∧
    (modFlt f s).asp = s.asp ∧ (modFlt f s).msh = s.msh ∧ (modFlt f s).vtx = s.vtx ∧ (modFlt f s).sbx = s.sbx ∧
    (modFlt f s).pcm = s.pcm ∧ (modFlt f s).idn = s.idn ∧ (modFlt f s).boot = s.boot ∧ (modFlt f s).flt = f s.flt := by
  repeat' constructor

/-- A change of a port leaves every other field. -/
@[simp] theorem modPort_frame (p : PortId) (f : Port → Port) (s : State) :
    (s.modPort p f).pending = s.pending ∧ (s.modPort p f).par = s.par ∧ (s.modPort p f).pins = s.pins ∧
    (s.modPort p f).outs = s.outs ∧ (s.modPort p f).out = s.out ∧ (s.modPort p f).aoCycles = s.aoCycles ∧
    (s.modPort p f).free = s.free ∧ (s.modPort p f).tap = s.tap ∧ (s.modPort p f).wrapped = s.wrapped ∧
    (s.modPort p f).access = s.access ∧ (s.modPort p f).regs = s.regs ∧ (s.modPort p f).latches = s.latches ∧
    (s.modPort p f).holders = s.holders ∧ (s.modPort p f).flt = s.flt ∧ (s.modPort p f).slp = s.slp ∧
    (s.modPort p f).seam = s.seam ∧ (s.modPort p f).tlr = s.tlr ∧ (s.modPort p f).lnk = s.lnk ∧ (s.modPort p f).mnf = s.mnf ∧
    (s.modPort p f).rwt = s.rwt ∧ (s.modPort p f).ttb = s.ttb ∧ (s.modPort p f).jct = s.jct ∧ (s.modPort p f).asp = s.asp ∧
    (s.modPort p f).msh = s.msh ∧ (s.modPort p f).vtx = s.vtx ∧ (s.modPort p f).sbx = s.sbx ∧ (s.modPort p f).pcm = s.pcm ∧
    (s.modPort p f).idn = s.idn ∧ (s.modPort p f).boot = s.boot ∧ (s.modPort p f).ports = vmod s.ports p.toNat f := by
  repeat' constructor

/-- A register written leaves every other field. -/
@[simp] theorem setReg_frame (a : Nat) (v : Word) (s : State) :
    (s.setReg a v).pending = s.pending ∧ (s.setReg a v).par = s.par ∧ (s.setReg a v).pins = s.pins ∧
    (s.setReg a v).outs = s.outs ∧ (s.setReg a v).out = s.out ∧ (s.setReg a v).aoCycles = s.aoCycles ∧
    (s.setReg a v).free = s.free ∧ (s.setReg a v).tap = s.tap ∧ (s.setReg a v).wrapped = s.wrapped ∧
    (s.setReg a v).access = s.access ∧ (s.setReg a v).latches = s.latches ∧ (s.setReg a v).holders = s.holders ∧
    (s.setReg a v).flt = s.flt ∧ (s.setReg a v).slp = s.slp ∧ (s.setReg a v).seam = s.seam ∧ (s.setReg a v).tlr = s.tlr ∧
    (s.setReg a v).lnk = s.lnk ∧ (s.setReg a v).ports = s.ports ∧ (s.setReg a v).mnf = s.mnf ∧ (s.setReg a v).rwt = s.rwt ∧
    (s.setReg a v).ttb = s.ttb ∧ (s.setReg a v).jct = s.jct ∧ (s.setReg a v).asp = s.asp ∧ (s.setReg a v).msh = s.msh ∧
    (s.setReg a v).vtx = s.vtx ∧ (s.setReg a v).sbx = s.sbx ∧ (s.setReg a v).pcm = s.pcm ∧ (s.setReg a v).idn = s.idn ∧
    (s.setReg a v).boot = s.boot := by
  repeat' constructor

/-- A register field written leaves every other field. -/
@[simp] theorem setFld_frame (f : Field) (v : Nat) (s : State) :
    (s.setFld f v).pending = s.pending ∧ (s.setFld f v).par = s.par ∧ (s.setFld f v).pins = s.pins ∧
    (s.setFld f v).outs = s.outs ∧ (s.setFld f v).out = s.out ∧ (s.setFld f v).aoCycles = s.aoCycles ∧
    (s.setFld f v).free = s.free ∧ (s.setFld f v).tap = s.tap ∧ (s.setFld f v).wrapped = s.wrapped ∧
    (s.setFld f v).access = s.access ∧ (s.setFld f v).latches = s.latches ∧ (s.setFld f v).holders = s.holders ∧
    (s.setFld f v).flt = s.flt ∧ (s.setFld f v).slp = s.slp ∧ (s.setFld f v).seam = s.seam ∧ (s.setFld f v).tlr = s.tlr ∧
    (s.setFld f v).lnk = s.lnk ∧ (s.setFld f v).ports = s.ports ∧ (s.setFld f v).mnf = s.mnf ∧ (s.setFld f v).rwt = s.rwt ∧
    (s.setFld f v).ttb = s.ttb ∧ (s.setFld f v).jct = s.jct ∧ (s.setFld f v).asp = s.asp ∧ (s.setFld f v).msh = s.msh ∧
    (s.setFld f v).vtx = s.vtx ∧ (s.setFld f v).sbx = s.sbx ∧ (s.setFld f v).pcm = s.pcm ∧ (s.setFld f v).idn = s.idn ∧
    (s.setFld f v).boot = s.boot := by
  repeat' constructor

/-- A flag set and counted leaves every other field. -/
@[simp] theorem setCause_frame (c : Cause) (s : State) :
    (setCause c s).pending = s.pending ∧ (setCause c s).par = s.par ∧ (setCause c s).pins = s.pins ∧
    (setCause c s).outs = s.outs ∧ (setCause c s).out = s.out ∧ (setCause c s).aoCycles = s.aoCycles ∧
    (setCause c s).free = s.free ∧ (setCause c s).tap = s.tap ∧ (setCause c s).wrapped = s.wrapped ∧
    (setCause c s).access = s.access ∧ (setCause c s).latches = s.latches ∧ (setCause c s).holders = s.holders ∧
    (setCause c s).flt = s.flt ∧ (setCause c s).slp = s.slp ∧ (setCause c s).seam = s.seam ∧ (setCause c s).tlr = s.tlr ∧
    (setCause c s).lnk = s.lnk ∧ (setCause c s).ports = s.ports ∧ (setCause c s).mnf = s.mnf ∧ (setCause c s).rwt = s.rwt ∧
    (setCause c s).ttb = s.ttb ∧ (setCause c s).jct = s.jct ∧ (setCause c s).asp = s.asp ∧ (setCause c s).msh = s.msh ∧
    (setCause c s).vtx = s.vtx ∧ (setCause c s).sbx = s.sbx ∧ (setCause c s).pcm = s.pcm ∧ (setCause c s).idn = s.idn ∧
    (setCause c s).boot = s.boot := by
  repeat' constructor

/-- An occurrence pending leaves every other field. -/
@[simp] theorem pushOcc_frame (o : Occ) (s : State) :
    (pushOcc o s).pending = s.pending ∧ (pushOcc o s).par = s.par ∧ (pushOcc o s).pins = s.pins ∧ (pushOcc o s).outs = s.outs ∧
    (pushOcc o s).out = s.out ∧ (pushOcc o s).aoCycles = s.aoCycles ∧ (pushOcc o s).free = s.free ∧ (pushOcc o s).tap = s.tap ∧
    (pushOcc o s).wrapped = s.wrapped ∧ (pushOcc o s).access = s.access ∧ (pushOcc o s).regs = s.regs ∧
    (pushOcc o s).latches = s.latches ∧ (pushOcc o s).holders = s.holders ∧ (pushOcc o s).slp = s.slp ∧
    (pushOcc o s).seam = s.seam ∧ (pushOcc o s).tlr = s.tlr ∧ (pushOcc o s).lnk = s.lnk ∧ (pushOcc o s).ports = s.ports ∧
    (pushOcc o s).mnf = s.mnf ∧ (pushOcc o s).rwt = s.rwt ∧ (pushOcc o s).ttb = s.ttb ∧ (pushOcc o s).jct = s.jct ∧
    (pushOcc o s).asp = s.asp ∧ (pushOcc o s).msh = s.msh ∧ (pushOcc o s).vtx = s.vtx ∧ (pushOcc o s).sbx = s.sbx ∧
    (pushOcc o s).pcm = s.pcm ∧ (pushOcc o s).idn = s.idn ∧ (pushOcc o s).boot = s.boot := by
  repeat' constructor

/-- A cause raised touches the registers and the fault log alone. -/
@[simp] theorem raiseAs_frame (c : Cause) (cls cost : Byte) (d : BitVec 80) (s : State) :
    (raiseAs c cls cost d s).pending = s.pending ∧ (raiseAs c cls cost d s).par = s.par ∧
    (raiseAs c cls cost d s).pins = s.pins ∧ (raiseAs c cls cost d s).outs = s.outs ∧ (raiseAs c cls cost d s).out = s.out ∧
    (raiseAs c cls cost d s).aoCycles = s.aoCycles ∧ (raiseAs c cls cost d s).free = s.free ∧
    (raiseAs c cls cost d s).tap = s.tap ∧ (raiseAs c cls cost d s).wrapped = s.wrapped ∧
    (raiseAs c cls cost d s).access = s.access ∧ (raiseAs c cls cost d s).latches = s.latches ∧
    (raiseAs c cls cost d s).holders = s.holders ∧ (raiseAs c cls cost d s).slp = s.slp ∧
    (raiseAs c cls cost d s).seam = s.seam ∧ (raiseAs c cls cost d s).tlr = s.tlr ∧ (raiseAs c cls cost d s).lnk = s.lnk ∧
    (raiseAs c cls cost d s).ports = s.ports ∧ (raiseAs c cls cost d s).mnf = s.mnf ∧ (raiseAs c cls cost d s).rwt = s.rwt ∧
    (raiseAs c cls cost d s).ttb = s.ttb ∧ (raiseAs c cls cost d s).jct = s.jct ∧ (raiseAs c cls cost d s).asp = s.asp ∧
    (raiseAs c cls cost d s).msh = s.msh ∧ (raiseAs c cls cost d s).vtx = s.vtx ∧ (raiseAs c cls cost d s).sbx = s.sbx ∧
    (raiseAs c cls cost d s).pcm = s.pcm ∧ (raiseAs c cls cost d s).idn = s.idn ∧ (raiseAs c cls cost d s).boot = s.boot := by
  dsimp only [raiseAs]; split <;> simp

/-- A cause raised touches the registers and the fault log alone. -/
@[simp] theorem raise_frame (c : Cause) (d : BitVec 80) (s : State) :
    (raise c d s).pending = s.pending ∧ (raise c d s).par = s.par ∧ (raise c d s).pins = s.pins ∧ (raise c d s).outs = s.outs ∧
    (raise c d s).out = s.out ∧ (raise c d s).aoCycles = s.aoCycles ∧ (raise c d s).free = s.free ∧ (raise c d s).tap = s.tap ∧
    (raise c d s).wrapped = s.wrapped ∧ (raise c d s).access = s.access ∧ (raise c d s).latches = s.latches ∧
    (raise c d s).holders = s.holders ∧ (raise c d s).slp = s.slp ∧ (raise c d s).seam = s.seam ∧ (raise c d s).tlr = s.tlr ∧
    (raise c d s).lnk = s.lnk ∧ (raise c d s).ports = s.ports ∧ (raise c d s).mnf = s.mnf ∧ (raise c d s).rwt = s.rwt ∧
    (raise c d s).ttb = s.ttb ∧ (raise c d s).jct = s.jct ∧ (raise c d s).asp = s.asp ∧ (raise c d s).msh = s.msh ∧
    (raise c d s).vtx = s.vtx ∧ (raise c d s).sbx = s.sbx ∧ (raise c d s).pcm = s.pcm ∧ (raise c d s).idn = s.idn ∧
    (raise c d s).boot = s.boot := by
  simp [raise]

/-- A message queued leaves every field but the Sleeper lane. -/
@[simp] theorem sendSlp_frame (t : Byte) (ws : List Word) (s : State) :
    (sendSlp t ws s).pending = s.pending ∧ (sendSlp t ws s).par = s.par ∧ (sendSlp t ws s).pins = s.pins ∧
    (sendSlp t ws s).outs = s.outs ∧ (sendSlp t ws s).out = s.out ∧ (sendSlp t ws s).aoCycles = s.aoCycles ∧
    (sendSlp t ws s).free = s.free ∧ (sendSlp t ws s).tap = s.tap ∧ (sendSlp t ws s).wrapped = s.wrapped ∧
    (sendSlp t ws s).access = s.access ∧ (sendSlp t ws s).regs = s.regs ∧ (sendSlp t ws s).latches = s.latches ∧
    (sendSlp t ws s).holders = s.holders ∧ (sendSlp t ws s).flt = s.flt ∧ (sendSlp t ws s).seam = s.seam ∧
    (sendSlp t ws s).tlr = s.tlr ∧ (sendSlp t ws s).lnk = s.lnk ∧ (sendSlp t ws s).ports = s.ports ∧
    (sendSlp t ws s).mnf = s.mnf ∧ (sendSlp t ws s).rwt = s.rwt ∧ (sendSlp t ws s).ttb = s.ttb ∧ (sendSlp t ws s).jct = s.jct ∧
    (sendSlp t ws s).asp = s.asp ∧ (sendSlp t ws s).msh = s.msh ∧ (sendSlp t ws s).vtx = s.vtx ∧ (sendSlp t ws s).sbx = s.sbx ∧
    (sendSlp t ws s).pcm = s.pcm ∧ (sendSlp t ws s).idn = s.idn ∧ (sendSlp t ws s).boot = s.boot ∧
    (sendSlp t ws s).slp = { s.slp with queue := s.slp.queue ++ [(slpClass t, t, ws)] } := by
  repeat' constructor

/-- An output recorded. -/
@[simp] theorem emit_frame (e : Emit) (s : State) :
    (s.emit e).pending = s.pending ∧ (s.emit e).par = s.par ∧ (s.emit e).pins = s.pins ∧ (s.emit e).outs = s.outs ∧
    (s.emit e).aoCycles = s.aoCycles ∧ (s.emit e).free = s.free ∧ (s.emit e).tap = s.tap ∧ (s.emit e).wrapped = s.wrapped ∧
    (s.emit e).access = s.access ∧ (s.emit e).regs = s.regs ∧ (s.emit e).latches = s.latches ∧ (s.emit e).holders = s.holders ∧
    (s.emit e).flt = s.flt ∧ (s.emit e).slp = s.slp ∧ (s.emit e).seam = s.seam ∧ (s.emit e).tlr = s.tlr ∧
    (s.emit e).lnk = s.lnk ∧ (s.emit e).ports = s.ports ∧ (s.emit e).mnf = s.mnf ∧ (s.emit e).rwt = s.rwt ∧
    (s.emit e).ttb = s.ttb ∧ (s.emit e).jct = s.jct ∧ (s.emit e).asp = s.asp ∧ (s.emit e).msh = s.msh ∧
    (s.emit e).vtx = s.vtx ∧ (s.emit e).sbx = s.sbx ∧ (s.emit e).pcm = s.pcm ∧ (s.emit e).idn = s.idn ∧
    (s.emit e).boot = s.boot ∧ (s.emit e).out = e :: s.out := by
  repeat' constructor

/-- A draw of a free value. -/
@[simp] theorem draw_frame  (s : State) :
    (s.draw).pending = s.pending ∧ (s.draw).par = s.par ∧ (s.draw).pins = s.pins ∧ (s.draw).outs = s.outs ∧
    (s.draw).out = s.out ∧ (s.draw).aoCycles = s.aoCycles ∧ (s.draw).tap = s.tap ∧ (s.draw).wrapped = s.wrapped ∧
    (s.draw).access = s.access ∧ (s.draw).regs = s.regs ∧ (s.draw).latches = s.latches ∧ (s.draw).holders = s.holders ∧
    (s.draw).flt = s.flt ∧ (s.draw).slp = s.slp ∧ (s.draw).seam = s.seam ∧ (s.draw).tlr = s.tlr ∧ (s.draw).lnk = s.lnk ∧
    (s.draw).ports = s.ports ∧ (s.draw).mnf = s.mnf ∧ (s.draw).rwt = s.rwt ∧ (s.draw).ttb = s.ttb ∧ (s.draw).jct = s.jct ∧
    (s.draw).asp = s.asp ∧ (s.draw).msh = s.msh ∧ (s.draw).vtx = s.vtx ∧ (s.draw).sbx = s.sbx ∧ (s.draw).pcm = s.pcm ∧
    (s.draw).idn = s.idn ∧ (s.draw).boot = s.boot ∧ s.draw.free = s.free + 1 := by
  repeat' constructor

/-- The port answers a write. -/
@[simp] theorem answer_frame (err : Bool) (s : State) :
    (s.answer err).pending = s.pending ∧ (s.answer err).par = s.par ∧ (s.answer err).pins = s.pins ∧
    (s.answer err).out = s.out ∧ (s.answer err).aoCycles = s.aoCycles ∧ (s.answer err).free = s.free ∧
    (s.answer err).tap = s.tap ∧ (s.answer err).wrapped = s.wrapped ∧ (s.answer err).access = s.access ∧
    (s.answer err).regs = s.regs ∧ (s.answer err).latches = s.latches ∧ (s.answer err).holders = s.holders ∧
    (s.answer err).flt = s.flt ∧ (s.answer err).slp = s.slp ∧ (s.answer err).seam = s.seam ∧ (s.answer err).tlr = s.tlr ∧
    (s.answer err).lnk = s.lnk ∧ (s.answer err).ports = s.ports ∧ (s.answer err).mnf = s.mnf ∧ (s.answer err).rwt = s.rwt ∧
    (s.answer err).ttb = s.ttb ∧ (s.answer err).jct = s.jct ∧ (s.answer err).asp = s.asp ∧ (s.answer err).msh = s.msh ∧
    (s.answer err).vtx = s.vtx ∧ (s.answer err).sbx = s.sbx ∧ (s.answer err).pcm = s.pcm ∧ (s.answer err).idn = s.idn ∧
    (s.answer err).boot = s.boot ∧ (s.answer err).outs = { s.outs with regAck := true, regErr := err } := by
  repeat' constructor

/-- The port answers a read. -/
@[simp] theorem answerRead_frame (v : Word) (err : Bool) (s : State) :
    (s.answerRead v err).pending = s.pending ∧ (s.answerRead v err).par = s.par ∧ (s.answerRead v err).pins = s.pins ∧
    (s.answerRead v err).out = s.out ∧ (s.answerRead v err).aoCycles = s.aoCycles ∧ (s.answerRead v err).free = s.free ∧
    (s.answerRead v err).tap = s.tap ∧ (s.answerRead v err).wrapped = s.wrapped ∧ (s.answerRead v err).access = s.access ∧
    (s.answerRead v err).regs = s.regs ∧ (s.answerRead v err).latches = s.latches ∧ (s.answerRead v err).holders = s.holders ∧
    (s.answerRead v err).flt = s.flt ∧ (s.answerRead v err).slp = s.slp ∧ (s.answerRead v err).seam = s.seam ∧
    (s.answerRead v err).tlr = s.tlr ∧ (s.answerRead v err).lnk = s.lnk ∧ (s.answerRead v err).ports = s.ports ∧
    (s.answerRead v err).mnf = s.mnf ∧ (s.answerRead v err).rwt = s.rwt ∧ (s.answerRead v err).ttb = s.ttb ∧
    (s.answerRead v err).jct = s.jct ∧ (s.answerRead v err).asp = s.asp ∧ (s.answerRead v err).msh = s.msh ∧
    (s.answerRead v err).vtx = s.vtx ∧ (s.answerRead v err).sbx = s.sbx ∧ (s.answerRead v err).pcm = s.pcm ∧
    (s.answerRead v err).idn = s.idn ∧ (s.answerRead v err).boot = s.boot ∧
    (s.answerRead v err).outs = { s.outs with regAck := true, regRdata := v, regErr := err } := by
  repeat' constructor

/-- A moment reached touches the counts alone. -/
@[simp] theorem reach_frame (t : Nat) (s : State) :
    (s.reach t).pending = s.pending ∧ (s.reach t).par = s.par ∧ (s.reach t).pins = s.pins ∧ (s.reach t).outs = s.outs ∧
    (s.reach t).out = s.out ∧ (s.reach t).free = s.free ∧ (s.reach t).tap = s.tap ∧ (s.reach t).wrapped = s.wrapped ∧
    (s.reach t).access = s.access ∧ (s.reach t).regs = s.regs ∧ (s.reach t).latches = s.latches ∧
    (s.reach t).holders = s.holders ∧ (s.reach t).flt = s.flt ∧ (s.reach t).slp = s.slp ∧ (s.reach t).seam = s.seam ∧
    (s.reach t).tlr = s.tlr ∧ (s.reach t).lnk = s.lnk ∧ (s.reach t).ports = s.ports ∧ (s.reach t).mnf = s.mnf ∧
    (s.reach t).ttb = s.ttb ∧ (s.reach t).jct = s.jct ∧ (s.reach t).asp = s.asp ∧ (s.reach t).msh = s.msh ∧
    (s.reach t).vtx = s.vtx ∧ (s.reach t).sbx = s.sbx ∧ (s.reach t).pcm = s.pcm ∧ (s.reach t).idn = s.idn ∧
    (s.reach t).boot = s.boot := by
  dsimp only [State.reach]; split <;> repeat' constructor

/-- Ticks that pass touch the counts alone. -/
@[simp] theorem elapse_frame (n : Nat) (s : State) :
    (s.elapse n).pending = s.pending ∧ (s.elapse n).par = s.par ∧ (s.elapse n).pins = s.pins ∧ (s.elapse n).outs = s.outs ∧
    (s.elapse n).out = s.out ∧ (s.elapse n).free = s.free ∧ (s.elapse n).tap = s.tap ∧ (s.elapse n).wrapped = s.wrapped ∧
    (s.elapse n).access = s.access ∧ (s.elapse n).regs = s.regs ∧ (s.elapse n).latches = s.latches ∧
    (s.elapse n).holders = s.holders ∧ (s.elapse n).flt = s.flt ∧ (s.elapse n).slp = s.slp ∧ (s.elapse n).seam = s.seam ∧
    (s.elapse n).tlr = s.tlr ∧ (s.elapse n).lnk = s.lnk ∧ (s.elapse n).ports = s.ports ∧ (s.elapse n).mnf = s.mnf ∧
    (s.elapse n).ttb = s.ttb ∧ (s.elapse n).jct = s.jct ∧ (s.elapse n).asp = s.asp ∧ (s.elapse n).msh = s.msh ∧
    (s.elapse n).vtx = s.vtx ∧ (s.elapse n).sbx = s.sbx ∧ (s.elapse n).pcm = s.pcm ∧ (s.elapse n).idn = s.idn ∧
    (s.elapse n).boot = s.boot := by
  repeat' constructor

/-- A limit run out touches the counts alone. -/
@[simp] theorem lapse_frame (m : Mark) (ns : Nat) (s : State) :
    (s.lapse m ns).pending = s.pending ∧ (s.lapse m ns).par = s.par ∧ (s.lapse m ns).pins = s.pins ∧
    (s.lapse m ns).outs = s.outs ∧ (s.lapse m ns).out = s.out ∧ (s.lapse m ns).free = s.free ∧ (s.lapse m ns).tap = s.tap ∧
    (s.lapse m ns).wrapped = s.wrapped ∧ (s.lapse m ns).access = s.access ∧ (s.lapse m ns).regs = s.regs ∧
    (s.lapse m ns).latches = s.latches ∧ (s.lapse m ns).holders = s.holders ∧ (s.lapse m ns).flt = s.flt ∧
    (s.lapse m ns).slp = s.slp ∧ (s.lapse m ns).seam = s.seam ∧ (s.lapse m ns).tlr = s.tlr ∧ (s.lapse m ns).lnk = s.lnk ∧
    (s.lapse m ns).ports = s.ports ∧ (s.lapse m ns).mnf = s.mnf ∧ (s.lapse m ns).ttb = s.ttb ∧ (s.lapse m ns).jct = s.jct ∧
    (s.lapse m ns).asp = s.asp ∧ (s.lapse m ns).msh = s.msh ∧ (s.lapse m ns).vtx = s.vtx ∧ (s.lapse m ns).sbx = s.sbx ∧
    (s.lapse m ns).pcm = s.pcm ∧ (s.lapse m ns).idn = s.idn ∧ (s.lapse m ns).boot = s.boot := by
  dsimp only [State.lapse]; split <;> simp

/-- A step of start-up touches start-up alone. -/
@[simp] theorem toStep_frame (n : BitVec 4) (s : State) :
    (toStep n s).pending = s.pending ∧ (toStep n s).par = s.par ∧ (toStep n s).pins = s.pins ∧ (toStep n s).outs = s.outs ∧
    (toStep n s).out = s.out ∧ (toStep n s).aoCycles = s.aoCycles ∧ (toStep n s).free = s.free ∧ (toStep n s).tap = s.tap ∧
    (toStep n s).wrapped = s.wrapped ∧ (toStep n s).access = s.access ∧ (toStep n s).regs = s.regs ∧
    (toStep n s).latches = s.latches ∧ (toStep n s).holders = s.holders ∧ (toStep n s).flt = s.flt ∧ (toStep n s).slp = s.slp ∧
    (toStep n s).seam = s.seam ∧ (toStep n s).tlr = s.tlr ∧ (toStep n s).lnk = s.lnk ∧ (toStep n s).ports = s.ports ∧
    (toStep n s).mnf = s.mnf ∧ (toStep n s).rwt = s.rwt ∧ (toStep n s).ttb = s.ttb ∧ (toStep n s).jct = s.jct ∧
    (toStep n s).asp = s.asp ∧ (toStep n s).msh = s.msh ∧ (toStep n s).vtx = s.vtx ∧ (toStep n s).sbx = s.sbx ∧
    (toStep n s).pcm = s.pcm ∧ (toStep n s).idn = s.idn := by
  repeat' constructor

/-- What the end of a meaning leaves, and the outputs it makes. -/
@[simp] theorem settle_frame  (s : State) :
    (settle s).pending = s.pending ∧ (settle s).par = s.par ∧ (settle s).pins = s.pins ∧ (settle s).aoCycles = s.aoCycles ∧
    (settle s).free = s.free ∧ (settle s).tap = s.tap ∧ (settle s).wrapped = s.wrapped ∧ (settle s).access = s.access ∧
    (settle s).regs = s.regs ∧ (settle s).latches = s.latches ∧ (settle s).holders = s.holders ∧ (settle s).flt = s.flt ∧
    (settle s).seam = s.seam ∧ (settle s).tlr = s.tlr ∧ (settle s).lnk = s.lnk ∧ (settle s).ports = s.ports ∧
    (settle s).mnf = s.mnf ∧ (settle s).rwt = s.rwt ∧ (settle s).ttb = s.ttb ∧ (settle s).jct = s.jct ∧
    (settle s).asp = s.asp ∧ (settle s).msh = s.msh ∧ (settle s).vtx = s.vtx ∧ (settle s).sbx = s.sbx ∧
    (settle s).pcm = s.pcm ∧ (settle s).idn = s.idn ∧ (settle s).boot = s.boot ∧ (settle s).outs = outsOf s ∧
    (settle s).slp.queue = [] ∧ (settle s).slp.lock = s.slp.lock ∧ (settle s).slp.txActive = s.slp.txActive ∧
    (settle s).slp.lostAt = s.slp.lostAt ∧ (settle s).slp.heads = s.slp.heads := by
  repeat' constructor

/-- A change of a sleeve touches the seam alone. -/
@[simp] theorem modSlv_frame (d : Dir) (k : SleeveNo) (f : Slv → Slv) (s : State) :
    (modSlv d k f s).pending = s.pending ∧ (modSlv d k f s).par = s.par ∧ (modSlv d k f s).pins = s.pins ∧
    (modSlv d k f s).outs = s.outs ∧ (modSlv d k f s).out = s.out ∧ (modSlv d k f s).aoCycles = s.aoCycles ∧
    (modSlv d k f s).free = s.free ∧ (modSlv d k f s).tap = s.tap ∧ (modSlv d k f s).wrapped = s.wrapped ∧
    (modSlv d k f s).access = s.access ∧ (modSlv d k f s).regs = s.regs ∧ (modSlv d k f s).latches = s.latches ∧
    (modSlv d k f s).holders = s.holders ∧ (modSlv d k f s).flt = s.flt ∧ (modSlv d k f s).slp = s.slp ∧
    (modSlv d k f s).tlr = s.tlr ∧ (modSlv d k f s).lnk = s.lnk ∧ (modSlv d k f s).ports = s.ports ∧
    (modSlv d k f s).mnf = s.mnf ∧ (modSlv d k f s).rwt = s.rwt ∧ (modSlv d k f s).ttb = s.ttb ∧ (modSlv d k f s).jct = s.jct ∧
    (modSlv d k f s).asp = s.asp ∧ (modSlv d k f s).msh = s.msh ∧ (modSlv d k f s).vtx = s.vtx ∧ (modSlv d k f s).sbx = s.sbx ∧
    (modSlv d k f s).pcm = s.pcm ∧ (modSlv d k f s).idn = s.idn ∧ (modSlv d k f s).boot = s.boot := by
  cases d <;> repeat' constructor

/-- A change of a downstream lane's record touches tailoring alone. -/
@[simp] theorem modRx_frame (n : LaneNo) (f : TlrLane → TlrLane) (s : State) :
    (modRx n f s).pending = s.pending ∧ (modRx n f s).par = s.par ∧ (modRx n f s).pins = s.pins ∧ (modRx n f s).outs = s.outs ∧
    (modRx n f s).out = s.out ∧ (modRx n f s).aoCycles = s.aoCycles ∧ (modRx n f s).free = s.free ∧ (modRx n f s).tap = s.tap ∧
    (modRx n f s).wrapped = s.wrapped ∧ (modRx n f s).access = s.access ∧ (modRx n f s).regs = s.regs ∧
    (modRx n f s).latches = s.latches ∧ (modRx n f s).holders = s.holders ∧ (modRx n f s).flt = s.flt ∧
    (modRx n f s).slp = s.slp ∧ (modRx n f s).seam = s.seam ∧ (modRx n f s).lnk = s.lnk ∧ (modRx n f s).ports = s.ports ∧
    (modRx n f s).mnf = s.mnf ∧ (modRx n f s).rwt = s.rwt ∧ (modRx n f s).ttb = s.ttb ∧ (modRx n f s).jct = s.jct ∧
    (modRx n f s).asp = s.asp ∧ (modRx n f s).msh = s.msh ∧ (modRx n f s).vtx = s.vtx ∧ (modRx n f s).sbx = s.sbx ∧
    (modRx n f s).pcm = s.pcm ∧ (modRx n f s).idn = s.idn ∧ (modRx n f s).boot = s.boot := by
  repeat' constructor

/-- A change of an upstream lane's record touches tailoring alone. -/
@[simp] theorem modTx_frame (n : LaneNo) (f : TlrLane → TlrLane) (s : State) :
    (modTx n f s).pending = s.pending ∧ (modTx n f s).par = s.par ∧ (modTx n f s).pins = s.pins ∧ (modTx n f s).outs = s.outs ∧
    (modTx n f s).out = s.out ∧ (modTx n f s).aoCycles = s.aoCycles ∧ (modTx n f s).free = s.free ∧ (modTx n f s).tap = s.tap ∧
    (modTx n f s).wrapped = s.wrapped ∧ (modTx n f s).access = s.access ∧ (modTx n f s).regs = s.regs ∧
    (modTx n f s).latches = s.latches ∧ (modTx n f s).holders = s.holders ∧ (modTx n f s).flt = s.flt ∧
    (modTx n f s).slp = s.slp ∧ (modTx n f s).seam = s.seam ∧ (modTx n f s).lnk = s.lnk ∧ (modTx n f s).ports = s.ports ∧
    (modTx n f s).mnf = s.mnf ∧ (modTx n f s).rwt = s.rwt ∧ (modTx n f s).ttb = s.ttb ∧ (modTx n f s).jct = s.jct ∧
    (modTx n f s).asp = s.asp ∧ (modTx n f s).msh = s.msh ∧ (modTx n f s).vtx = s.vtx ∧ (modTx n f s).sbx = s.sbx ∧
    (modTx n f s).pcm = s.pcm ∧ (modTx n f s).idn = s.idn ∧ (modTx n f s).boot = s.boot := by
  repeat' constructor

/-- A change of a group touches the junction alone. -/
@[simp] theorem modGroup_frame (g : BitVec 12) (f : JGroup → JGroup) (s : State) :
    (modGroup g f s).pending = s.pending ∧ (modGroup g f s).par = s.par ∧ (modGroup g f s).pins = s.pins ∧
    (modGroup g f s).outs = s.outs ∧ (modGroup g f s).out = s.out ∧ (modGroup g f s).aoCycles = s.aoCycles ∧
    (modGroup g f s).free = s.free ∧ (modGroup g f s).tap = s.tap ∧ (modGroup g f s).wrapped = s.wrapped ∧
    (modGroup g f s).access = s.access ∧ (modGroup g f s).regs = s.regs ∧ (modGroup g f s).latches = s.latches ∧
    (modGroup g f s).holders = s.holders ∧ (modGroup g f s).flt = s.flt ∧ (modGroup g f s).slp = s.slp ∧
    (modGroup g f s).seam = s.seam ∧ (modGroup g f s).tlr = s.tlr ∧ (modGroup g f s).lnk = s.lnk ∧
    (modGroup g f s).ports = s.ports ∧ (modGroup g f s).mnf = s.mnf ∧ (modGroup g f s).rwt = s.rwt ∧
    (modGroup g f s).ttb = s.ttb ∧ (modGroup g f s).asp = s.asp ∧ (modGroup g f s).msh = s.msh ∧ (modGroup g f s).vtx = s.vtx ∧
    (modGroup g f s).sbx = s.sbx ∧ (modGroup g f s).pcm = s.pcm ∧ (modGroup g f s).idn = s.idn ∧ (modGroup g f s).boot = s.boot := by
  repeat' constructor

/-- A change of an analog group touches the analog sum alone. -/
@[simp] theorem modDest_frame (g : BitVec 12) (f : AspDest → AspDest) (s : State) :
    (modDest g f s).pending = s.pending ∧ (modDest g f s).par = s.par ∧ (modDest g f s).pins = s.pins ∧
    (modDest g f s).outs = s.outs ∧ (modDest g f s).out = s.out ∧ (modDest g f s).aoCycles = s.aoCycles ∧
    (modDest g f s).free = s.free ∧ (modDest g f s).tap = s.tap ∧ (modDest g f s).wrapped = s.wrapped ∧
    (modDest g f s).access = s.access ∧ (modDest g f s).regs = s.regs ∧ (modDest g f s).latches = s.latches ∧
    (modDest g f s).holders = s.holders ∧ (modDest g f s).flt = s.flt ∧ (modDest g f s).slp = s.slp ∧
    (modDest g f s).seam = s.seam ∧ (modDest g f s).tlr = s.tlr ∧ (modDest g f s).lnk = s.lnk ∧
    (modDest g f s).ports = s.ports ∧ (modDest g f s).mnf = s.mnf ∧ (modDest g f s).rwt = s.rwt ∧ (modDest g f s).ttb = s.ttb ∧
    (modDest g f s).jct = s.jct ∧ (modDest g f s).msh = s.msh ∧ (modDest g f s).vtx = s.vtx ∧ (modDest g f s).sbx = s.sbx ∧
    (modDest g f s).pcm = s.pcm ∧ (modDest g f s).idn = s.idn ∧ (modDest g f s).boot = s.boot := by
  repeat' constructor

/-- A change of a contributor touches the analog sum alone. -/
@[simp] theorem modCon_frame (g : BitVec 12) (j : Nat) (f : Contrib → Contrib) (s : State) :
    (modCon g j f s).pending = s.pending ∧ (modCon g j f s).par = s.par ∧ (modCon g j f s).pins = s.pins ∧
    (modCon g j f s).outs = s.outs ∧ (modCon g j f s).out = s.out ∧ (modCon g j f s).aoCycles = s.aoCycles ∧
    (modCon g j f s).free = s.free ∧ (modCon g j f s).tap = s.tap ∧ (modCon g j f s).wrapped = s.wrapped ∧
    (modCon g j f s).access = s.access ∧ (modCon g j f s).regs = s.regs ∧ (modCon g j f s).latches = s.latches ∧
    (modCon g j f s).holders = s.holders ∧ (modCon g j f s).flt = s.flt ∧ (modCon g j f s).slp = s.slp ∧
    (modCon g j f s).seam = s.seam ∧ (modCon g j f s).tlr = s.tlr ∧ (modCon g j f s).lnk = s.lnk ∧
    (modCon g j f s).ports = s.ports ∧ (modCon g j f s).mnf = s.mnf ∧ (modCon g j f s).rwt = s.rwt ∧
    (modCon g j f s).ttb = s.ttb ∧ (modCon g j f s).jct = s.jct ∧ (modCon g j f s).msh = s.msh ∧ (modCon g j f s).vtx = s.vtx ∧
    (modCon g j f s).sbx = s.sbx ∧ (modCon g j f s).pcm = s.pcm ∧ (modCon g j f s).idn = s.idn ∧ (modCon g j f s).boot = s.boot := by
  repeat' constructor

/-- A change of a membership touches the analog sum alone. -/
@[simp] theorem modMem_frame (g : BitVec 12) (c : Nat) (f : AspMem → AspMem) (s : State) :
    (modMem g c f s).pending = s.pending ∧ (modMem g c f s).par = s.par ∧ (modMem g c f s).pins = s.pins ∧
    (modMem g c f s).outs = s.outs ∧ (modMem g c f s).out = s.out ∧ (modMem g c f s).aoCycles = s.aoCycles ∧
    (modMem g c f s).free = s.free ∧ (modMem g c f s).tap = s.tap ∧ (modMem g c f s).wrapped = s.wrapped ∧
    (modMem g c f s).access = s.access ∧ (modMem g c f s).regs = s.regs ∧ (modMem g c f s).latches = s.latches ∧
    (modMem g c f s).holders = s.holders ∧ (modMem g c f s).flt = s.flt ∧ (modMem g c f s).slp = s.slp ∧
    (modMem g c f s).seam = s.seam ∧ (modMem g c f s).tlr = s.tlr ∧ (modMem g c f s).lnk = s.lnk ∧
    (modMem g c f s).ports = s.ports ∧ (modMem g c f s).mnf = s.mnf ∧ (modMem g c f s).rwt = s.rwt ∧
    (modMem g c f s).ttb = s.ttb ∧ (modMem g c f s).jct = s.jct ∧ (modMem g c f s).msh = s.msh ∧ (modMem g c f s).vtx = s.vtx ∧
    (modMem g c f s).sbx = s.sbx ∧ (modMem g c f s).pcm = s.pcm ∧ (modMem g c f s).idn = s.idn ∧ (modMem g c f s).boot = s.boot := by
  repeat' constructor

/-- A change of a directory record touches the marshalling yard alone. -/
@[simp] theorem modRec_frame (slot : Nat) (f : DirRec → DirRec) (s : State) :
    (modRec slot f s).pending = s.pending ∧ (modRec slot f s).par = s.par ∧ (modRec slot f s).pins = s.pins ∧
    (modRec slot f s).outs = s.outs ∧ (modRec slot f s).out = s.out ∧ (modRec slot f s).aoCycles = s.aoCycles ∧
    (modRec slot f s).free = s.free ∧ (modRec slot f s).tap = s.tap ∧ (modRec slot f s).wrapped = s.wrapped ∧
    (modRec slot f s).access = s.access ∧ (modRec slot f s).regs = s.regs ∧ (modRec slot f s).latches = s.latches ∧
    (modRec slot f s).holders = s.holders ∧ (modRec slot f s).flt = s.flt ∧ (modRec slot f s).slp = s.slp ∧
    (modRec slot f s).seam = s.seam ∧ (modRec slot f s).tlr = s.tlr ∧ (modRec slot f s).lnk = s.lnk ∧
    (modRec slot f s).ports = s.ports ∧ (modRec slot f s).mnf = s.mnf ∧ (modRec slot f s).rwt = s.rwt ∧
    (modRec slot f s).ttb = s.ttb ∧ (modRec slot f s).jct = s.jct ∧ (modRec slot f s).asp = s.asp ∧
    (modRec slot f s).vtx = s.vtx ∧ (modRec slot f s).sbx = s.sbx ∧ (modRec slot f s).pcm = s.pcm ∧
    (modRec slot f s).idn = s.idn ∧ (modRec slot f s).boot = s.boot := by
  repeat' constructor

/-- A change of the migration touches the marshalling yard alone. -/
@[simp] theorem modMig_frame (f : Mig → Mig) (s : State) :
    (modMig f s).pending = s.pending ∧ (modMig f s).par = s.par ∧ (modMig f s).pins = s.pins ∧ (modMig f s).outs = s.outs ∧
    (modMig f s).out = s.out ∧ (modMig f s).aoCycles = s.aoCycles ∧ (modMig f s).free = s.free ∧ (modMig f s).tap = s.tap ∧
    (modMig f s).wrapped = s.wrapped ∧ (modMig f s).access = s.access ∧ (modMig f s).regs = s.regs ∧
    (modMig f s).latches = s.latches ∧ (modMig f s).holders = s.holders ∧ (modMig f s).flt = s.flt ∧ (modMig f s).slp = s.slp ∧
    (modMig f s).seam = s.seam ∧ (modMig f s).tlr = s.tlr ∧ (modMig f s).lnk = s.lnk ∧ (modMig f s).ports = s.ports ∧
    (modMig f s).mnf = s.mnf ∧ (modMig f s).rwt = s.rwt ∧ (modMig f s).ttb = s.ttb ∧ (modMig f s).jct = s.jct ∧
    (modMig f s).asp = s.asp ∧ (modMig f s).vtx = s.vtx ∧ (modMig f s).sbx = s.sbx ∧ (modMig f s).pcm = s.pcm ∧
    (modMig f s).idn = s.idn ∧ (modMig f s).boot = s.boot := by
  repeat' constructor

/-- A change of a box touches the signal boxes alone. -/
@[simp] theorem modBox_frame (x : Box) (f : BoxRec → BoxRec) (s : State) :
    (modBox x f s).pending = s.pending ∧ (modBox x f s).par = s.par ∧ (modBox x f s).pins = s.pins ∧
    (modBox x f s).outs = s.outs ∧ (modBox x f s).out = s.out ∧ (modBox x f s).aoCycles = s.aoCycles ∧
    (modBox x f s).free = s.free ∧ (modBox x f s).tap = s.tap ∧ (modBox x f s).wrapped = s.wrapped ∧
    (modBox x f s).access = s.access ∧ (modBox x f s).regs = s.regs ∧ (modBox x f s).latches = s.latches ∧
    (modBox x f s).holders = s.holders ∧ (modBox x f s).flt = s.flt ∧ (modBox x f s).slp = s.slp ∧
    (modBox x f s).seam = s.seam ∧ (modBox x f s).tlr = s.tlr ∧ (modBox x f s).lnk = s.lnk ∧ (modBox x f s).ports = s.ports ∧
    (modBox x f s).mnf = s.mnf ∧ (modBox x f s).rwt = s.rwt ∧ (modBox x f s).ttb = s.ttb ∧ (modBox x f s).jct = s.jct ∧
    (modBox x f s).asp = s.asp ∧ (modBox x f s).msh = s.msh ∧ (modBox x f s).vtx = s.vtx ∧ (modBox x f s).pcm = s.pcm ∧
    (modBox x f s).idn = s.idn ∧ (modBox x f s).boot = s.boot := by
  repeat' constructor

end Sys2Proof.Machine
end

