-- ==== Sys2Proof/Laws/Regs.lean ====
section
/-!
SUPPORT. The register store: what a write of one register does to it and to every other, and that it keeps the canonical form.
-/
namespace Sys2Proof.Machine

/-! ## Stores -/

theorem cellsGet_cellsPut_same {α : Type} (a : Nat) (v : α) (cs : List (Nat × α)) : cellsGet a (cellsPut a v cs) = some v := by
  induction cs with
  | nil => simp [cellsPut, cellsGet]
  | cons c cs ih =>
    unfold cellsPut
    split
    · simp [cellsGet]
    · split
      · simp [cellsGet]
      · rename_i _ h; simp [cellsGet, h, ih]

theorem cellsGet_cellsPut_other {α : Type} (a b : Nat) (v : α) (cs : List (Nat × α)) (h : b ≠ a) :
    cellsGet b (cellsPut a v cs) = cellsGet b cs := by
  induction cs with
  | nil => simp [cellsPut, cellsGet, Ne.symm h]
  | cons c cs ih =>
    unfold cellsPut
    split
    · simp [cellsGet, Ne.symm h]
    · split
      · rename_i _ e; simp [cellsGet, Ne.symm h, e]
      · simp [cellsGet, ih]

theorem cellsGet_cellsDrop_same {α : Type} (a : Nat) (cs : List (Nat × α)) : cellsGet a (cellsDrop a cs) = none := by
  induction cs with
  | nil => rfl
  | cons c cs ih =>
    unfold cellsDrop
    split
    · exact ih
    · rename_i h; simp [cellsGet, h, ih]

theorem cellsGet_cellsDrop_other {α : Type} (a b : Nat) (cs : List (Nat × α)) (h : b ≠ a) :
    cellsGet b (cellsDrop a cs) = cellsGet b cs := by
  induction cs with
  | nil => rfl
  | cons c cs ih =>
    unfold cellsDrop
    split
    · rename_i e; rw [ih]; simp [cellsGet, show c.1 ≠ b from fun x => h (by omega)]
    · simp [cellsGet, ih]

/-- Every offset of a store lies above `n`. -/
def cellsAbove {α : Type} (n : Nat) (cs : List (Nat × α)) : Prop := ∀ c ∈ cs, n < c.1

theorem cellsRise_cons {α : Type} (c : Nat × α) (cs : List (Nat × α)) :
    cellsRise (c :: cs) = true ↔ cellsAbove c.1 cs ∧ cellsRise cs = true := by
  induction cs generalizing c with
  | nil => simp [cellsRise, cellsAbove]
  | cons d ds ih =>
    simp only [cellsRise, Bool.and_eq_true, decide_eq_true_eq]
    constructor
    · rintro ⟨h, r⟩
      refine ⟨?_, r⟩
      have := ((ih d).1 r).1
      intro x hx
      rcases List.mem_cons.1 hx with e | e
      · rw [e]; exact h
      · exact Nat.lt_trans h (this x e)
    · rintro ⟨h, r⟩
      exact ⟨h d List.mem_cons_self, r⟩

theorem mem_cellsPut {α : Type} {a : Nat} {v : α} {cs : List (Nat × α)} {x : Nat × α} (h : x ∈ cellsPut a v cs) :
    x = (a, v) ∨ x ∈ cs := by
  induction cs with
  | nil => simpa [cellsPut] using h
  | cons c cs ih =>
    unfold cellsPut at h
    split at h
    · simpa using h
    · split at h
      · rcases List.mem_cons.1 h with e | e
        · exact .inl e
        · exact .inr (List.mem_cons_of_mem _ e)
      · rcases List.mem_cons.1 h with e | e
        · exact .inr (e ▸ List.mem_cons_self)
        · exact (ih e).imp id (List.mem_cons_of_mem _)

theorem mem_cellsDrop {α : Type} {a : Nat} {cs : List (Nat × α)} {x : Nat × α} (h : x ∈ cellsDrop a cs) : x ∈ cs := by
  induction cs with
  | nil => exact h
  | cons c cs ih =>
    unfold cellsDrop at h
    split at h
    · exact List.mem_cons_of_mem _ (ih h)
    · rcases List.mem_cons.1 h with e | e
      · exact e ▸ List.mem_cons_self
      · exact List.mem_cons_of_mem _ (ih e)

theorem cellsRise_cellsPut {α : Type} (a : Nat) (v : α) (cs : List (Nat × α)) (h : cellsRise cs = true) :
    cellsRise (cellsPut a v cs) = true := by
  induction cs with
  | nil => rfl
  | cons c cs ih =>
    have ⟨ab, r⟩ := (cellsRise_cons c cs).1 h
    unfold cellsPut
    split
    · rename_i lt
      rw [cellsRise_cons]
      refine ⟨?_, h⟩
      intro x hx
      rcases List.mem_cons.1 hx with e | e
      · rw [e]; exact lt
      · exact Nat.lt_trans lt (ab x e)
    · split
      · rename_i e
        rw [cellsRise_cons]
        exact ⟨by simpa [e] using ab, r⟩
      · rw [cellsRise_cons]
        refine ⟨?_, ih r⟩
        intro x hx
        rcases mem_cellsPut hx with e | e
        · rw [e]; show c.1 < a; omega
        · exact ab x e

theorem cellsRise_cellsDrop {α : Type} (a : Nat) (cs : List (Nat × α)) (h : cellsRise cs = true) :
    cellsRise (cellsDrop a cs) = true := by
  induction cs with
  | nil => rfl
  | cons c cs ih =>
    have ⟨ab, r⟩ := (cellsRise_cons c cs).1 h
    unfold cellsDrop
    split
    · exact ih r
    · rw [cellsRise_cons]
      exact ⟨fun x hx => ab x (mem_cellsDrop hx), ih r⟩

theorem mem_cellsDrop_ne {α : Type} {a : Nat} {cs : List (Nat × α)} {x : Nat × α} (h : x ∈ cellsDrop a cs) : x.1 ≠ a := by
  induction cs with
  | nil => cases h
  | cons c cs ih =>
    unfold cellsDrop at h
    split at h
    · exact ih h
    · rename_i ne
      rcases List.mem_cons.1 h with e | e
      · rw [e]; exact ne
      · exact ih e

/-! ## Registers -/

/-- A register written reads as written. -/
@[simp] theorem reg_setReg_same (s : State) (a : Nat) (v : Word) : (s.setReg a v).reg a = v := by
  unfold State.reg State.setReg
  by_cases h : v = regReset s.par a
  · simp only [h, if_true, cellsGet_cellsDrop_same, Option.getD_none]
  · simp only [h, if_false, cellsGet_cellsPut_same, Option.getD_some]

/-- A register written leaves every other register. -/
@[simp] theorem reg_setReg_other (s : State) (a b : Nat) (v : Word) (h : b ≠ a) : (s.setReg a v).reg b = s.reg b := by
  unfold State.reg State.setReg
  split
  · simp only [cellsGet_cellsDrop_other a b s.regs h]
  · simp only [cellsGet_cellsPut_other a b v s.regs h]

/-- A register written keeps the canonical form of the store. -/
theorem regsWf_setReg (s : State) (a : Nat) (v : Word) (h : regsWf s.par s.regs = true) :
    regsWf s.par (s.setReg a v).regs = true := by
  unfold regsWf at *
  rw [Bool.and_eq_true, List.all_eq_true] at *
  unfold State.setReg
  by_cases e : v = regReset s.par a
  · simp only [e, if_true]
    exact ⟨cellsRise_cellsDrop a _ h.1, fun x hx => h.2 x (mem_cellsDrop hx)⟩
  · simp only [e, if_false]
    refine ⟨cellsRise_cellsPut a v _ h.1, fun x hx => ?_⟩
    rcases mem_cellsPut hx with y | y
    · rw [y]; simpa using e
    · exact h.2 x y

/-- Registers do not see fields of the state other than the store and the parameters. -/
theorem reg_congr {s t : State} (hp : t.par = s.par) (hr : t.regs = s.regs) (a : Nat) : t.reg a = s.reg a := by
  unfold State.reg; rw [hp, hr]

@[simp] theorem reg_settle (s : State) (a : Nat) : (settle s).reg a = s.reg a := rfl

@[simp] theorem reg_pushOcc (o : Occ) (s : State) (a : Nat) : (pushOcc o s).reg a = s.reg a := rfl

/-- The registers after a field is written. -/
@[simp] theorem reg_setFld_same (s : State) (f : Field) (v : Nat) :
    (s.setFld f v).reg f.reg = putField (s.reg f.reg) f.lo f.n v := by
  simp [State.setFld]

@[simp] theorem reg_setFld_other (s : State) (f : Field) (v a : Nat) (h : a ≠ f.reg) : (s.setFld f v).reg a = s.reg a := by
  simp [State.setFld, h]

end Sys2Proof.Machine
end

