-- ==== Sys2Proof/Laws/Flags.lean ====
section
/-!
SUPPORT. Causes: the flag that a cause sets, its companion counter, and the registers that it leaves.
-/
namespace Sys2Proof.Machine

/-- A cause as the register map lays it out: its event register and its counter are two registers, both zero at reset whatever the
parameters, and its bit lies in the word. -/
def Cause.sound (c : Cause) : Prop := c.evt ≠ c.cnt ∧ c.bitNo < 32

theorem causes_sound : ∀ c ∈ causes, c.evt ≠ c.cnt ∧ c.bitNo < 32 := by decide

@[simp] theorem reg_setCause_other (c : Cause) (s : State) (a : Nat) (h : a ≠ c.evt) (k : a ≠ c.cnt) :
    (setCause c s).reg a = s.reg a := by
  simp [setCause, h, k]

/-- The event register after a cause: its bit joins it. -/
theorem reg_setCause_evt (c : Cause) (s : State) (h : c.evt ≠ c.cnt) :
    (setCause c s).reg c.evt = s.reg c.evt ||| (1#32 <<< c.bitNo) := by
  simp [setCause, h]

/-- The counter after a cause: one more, saturating at 0xFFFF. -/
theorem reg_setCause_cnt (c : Cause) (s : State) (h : c.evt ≠ c.cnt) :
    (setCause c s).reg c.cnt = if s.reg c.cnt = 0xFFFF#32 then 0xFFFF#32 else s.reg c.cnt + 1 := by
  simp [setCause, Ne.symm h]

@[simp] theorem reg_raiseAs (c : Cause) (cls cost : Byte) (d : BitVec 80) (s : State) (a : Nat) :
    (raiseAs c cls cost d s).reg a = (setCause c s).reg a := by
  dsimp only [raiseAs]; split <;> rfl

@[simp] theorem reg_raise (c : Cause) (d : BitVec 80) (s : State) (a : Nat) : (raise c d s).reg a = (setCause c s).reg a := by
  simp [raise]

/-- A cause sets its flag. -/
theorem flag_setCause (c : Cause) (s : State) (h : c.evt ≠ c.cnt) (k : c.bitNo < 32) :
    ((setCause c s).reg c.evt).getLsbD c.bitNo = true := by
  rw [reg_setCause_evt c s h]
  simp [BitVec.getLsbD_or, k]

/-- A cause of the fault line hands its occurrence to the log; so does one of the info line with INFO_LOG at 1 (R421). -/
theorem flt_raiseAs (c : Cause) (cls cost : Byte) (d : BitVec 80) (s : State) :
    (raiseAs c cls cost d s).flt =
      if c.line == .fault || (c.line == .info && s.flag F.FLT_CTRL.INFO_LOG) then
        { s.flt with pend := s.flt.pend ++ [occOf c cls cost false d s] }
      else s.flt := by
  dsimp only [raiseAs]; split <;> simp [pushOcc, *]

end Sys2Proof.Machine
end

