-- ==== Sys2Proof/Laws/Lines.lean ====
section
/-!
SUPPORT. What the lanes of a sleeve carry: a slot that is put onto the lanes of a sleeve is the slot that is read from them (R71, R72,
R75).
-/
namespace Sys2Proof.Laws
open Sys2Proof Sys2Proof.Machine

/-- A bit of an OR over a list. -/
theorem getLsbD_foldl_or {w : Nat} {α : Type} (g : α → BitVec w) (b : Nat) : ∀ (l : List α) (a : BitVec w),
    (l.foldl (fun acc i => acc ||| g i) a).getLsbD b = (a.getLsbD b || l.any fun i => (g i).getLsbD b)
  | [], a => by simp
  | x :: xs, a => by
    rw [List.foldl_cons, getLsbD_foldl_or g b xs]
    simp [Bool.or_assoc]

/-- A bit of a part that is put in its place. -/
theorem getLsbD_place {m w : Nat} (x : BitVec m) (k b : Nat) (h : b < w) :
    (x.setWidth w <<< k).getLsbD b = (decide (k ≤ b) && x.getLsbD (b - k)) := by
  simp only [BitVec.getLsbD_shiftLeft, BitVec.getLsbD_setWidth]
  by_cases hk : k ≤ b
  · simp [h, hk, Nat.not_lt.mpr hk, show b - k < w by omega]
  · simp [h, hk, Nat.lt_of_not_le hk]

/-- In a list of parts side by side, each of `m` bits, only the part `j` has the bit `m j + t`. -/
theorem any_place {m : Nat} (x : Nat → BitVec m) (n j t : Nat) (hj : j < n) (ht : t < m) :
    ((List.range n).any fun i => decide (m * i ≤ m * j + t) && (x i).getLsbD (m * j + t - m * i)) = (x j).getLsbD t := by
  rw [Bool.eq_iff_iff, List.any_eq_true]
  constructor
  · rintro ⟨i, -, h⟩
    simp only [Bool.and_eq_true, decide_eq_true_eq] at h
    obtain ⟨h, e⟩ := h
    have b := BitVec.lt_of_getLsbD e
    have h1 : m * i < m * (j + 1) := by rw [Nat.mul_add]; omega
    have h2 : m * j < m * (i + 1) := by rw [Nat.mul_add]; omega
    have : i = j := by
      have := Nat.lt_of_mul_lt_mul_left h1
      have := Nat.lt_of_mul_lt_mul_left h2
      omega
    subst this
    rwa [Nat.add_sub_cancel_left] at e
  · intro e
    exact ⟨j, List.mem_range.mpr hj, by simp [e]⟩

/-- A lane of nine that were joined. -/
theorem lineLane_lineOfLanes (lane : Nat → BitVec 256) (j : Nat) (h : j < 9) : lineLane (lineOfLanes lane) j = lane j := by
  apply BitVec.eq_of_getLsbD_eq
  intro t ht
  have hb : 256 * j + t < 2304 := by omega
  simp only [lineLane, bits, BitVec.getLsbD_extractLsb', ht, decide_true, Bool.true_and, lineOfLanes, getLsbD_foldl_or,
    getLsbD_place _ _ _ hb, BitVec.ofNat_eq_ofNat, BitVec.getLsbD_zero, Bool.false_or]
  exact any_place lane 9 j t h ht

/-- A bit of a data lane's bytes. -/
theorem getLsbD_laneBytes (slot : BitVec 2048) (j t : Nat) (hj : j < 8) (ht : t < 256) :
    (laneBytes slot j).getLsbD t = slot.getLsbD (8 * (j + 8 * (t / 8)) + t % 8) := by
  have e : t = 8 * (t / 8) + t % 8 := by omega
  have h8 : t % 8 < 8 := by omega
  simp only [laneBytes, getLsbD_foldl_or, getLsbD_place _ _ _ ht, BitVec.ofNat_eq_ofNat, BitVec.getLsbD_zero, Bool.false_or]
  have := any_place (fun i => bits slot (8 * (j + 8 * i)) 8) 32 (t / 8) (t % 8) (by omega) h8
  rw [← e] at this
  rw [this]
  simp [bits, BitVec.getLsbD_extractLsb', h8]

/-- The slot whose lanes carry a slot's bytes is that slot. -/
theorem slotOfLanes_laneBytes (slot : BitVec 2048) (lane : Nat → BitVec 256) (h : ∀ j < 8, lane j = laneBytes slot j) :
    slotOfLanes lane = slot := by
  apply BitVec.eq_of_getLsbD_eq
  intro b hb
  have inner : ∀ (l : List Nat) (a : BitVec 2048),
      (l.foldl (fun acc j => (List.range 32).foldl
        (fun acc i => acc ||| ((bits (lane j) (8 * i) 8).setWidth 2048 <<< (8 * (j + 8 * i)))) acc) a).getLsbD b =
      (a.getLsbD b || l.any fun j => (List.range 32).any fun i => decide (8 * (j + 8 * i) ≤ b) &&
        (bits (lane j) (8 * i) 8).getLsbD (b - 8 * (j + 8 * i))) := by
    intro l
    induction l with
    | nil => simp
    | cons x xs ih =>
      intro a
      rw [List.foldl_cons, ih, getLsbD_foldl_or]
      simp only [getLsbD_place _ _ _ hb, List.any_cons, Bool.or_assoc]
  simp only [slotOfLanes, inner, BitVec.ofNat_eq_ofNat, BitVec.getLsbD_zero, Bool.false_or]
  rw [Bool.eq_iff_iff]
  simp only [List.any_eq_true, List.mem_range, Bool.and_eq_true, decide_eq_true_eq]
  constructor
  · rintro ⟨j, hj, i, hi, hle, e⟩
    have hl := BitVec.lt_of_getLsbD e
    rw [h j hj] at e
    simp only [bits, BitVec.getLsbD_extractLsb', hl, decide_true, Bool.true_and] at e
    rw [getLsbD_laneBytes slot j _ hj (by omega)] at e
    have e1 : (8 * i + (b - 8 * (j + 8 * i))) / 8 = i := by omega
    have e2 : (8 * i + (b - 8 * (j + 8 * i))) % 8 = b - 8 * (j + 8 * i) := by omega
    rw [e1, e2] at e
    have e3 : 8 * (j + 8 * i) + (b - 8 * (j + 8 * i)) = b := by omega
    rwa [e3] at e
  · intro e
    refine ⟨b / 8 % 8, by omega, b / 64, by omega, by omega, ?_⟩
    have hl : b - 8 * (b / 8 % 8 + 8 * (b / 64)) = b % 8 := by omega
    rw [hl, h _ (by omega)]
    simp only [bits, BitVec.getLsbD_extractLsb', show b % 8 < 8 by omega, decide_true, Bool.true_and]
    rw [getLsbD_laneBytes slot _ _ (by omega) (by omega)]
    have e1 : (8 * (b / 64) + b % 8) / 8 = b / 64 := by omega
    have e2 : (8 * (b / 64) + b % 8) % 8 = b % 8 := by omega
    rw [e1, e2]
    have e3 : 8 * (b / 8 % 8 + 8 * (b / 64)) + b % 8 = b := by omega
    rwa [e3]

/-- The Gray mapping is its own inverse (R71). -/
theorem grayLane_grayLane (x : BitVec 256) : grayLane (grayLane x) = x := by
  have e : (lowBits >>> 1) &&& lowBits = 0 := by decide +kernel
  have h : ((grayLane x) >>> 1) &&& lowBits = (x >>> 1) &&& lowBits := by
    apply BitVec.eq_of_getLsbD_eq
    intro i hi
    have := congrArg (fun v => v.getLsbD i) e
    simp only [BitVec.getLsbD_and, BitVec.getLsbD_ushiftRight, BitVec.ofNat_eq_ofNat, BitVec.getLsbD_zero] at this
    simp only [grayLane, BitVec.getLsbD_and, BitVec.getLsbD_ushiftRight, BitVec.getLsbD_xor]
    revert this
    cases lowBits.getLsbD (1 + i) <;> cases lowBits.getLsbD i <;> simp
  unfold grayLane at h ⊢
  rw [h, BitVec.xor_assoc, BitVec.xor_self, BitVec.xor_zero]

/-- A lane's level codes give back its data (R71, R75). -/
theorem laneDown_laneUp (k j n : Nat) (x : BitVec 256) : laneDown k j n (laneUp k j n x) = x := by
  unfold laneDown laneUp
  rw [grayLane_grayLane, BitVec.xor_assoc, BitVec.xor_self, BitVec.xor_zero]

/-- A slot on the lanes of a sleeve whose spare is idle is the slot that they bring (R71, R72, R75). -/
theorem recvLine_sendLine (lane lane' k n : Nat) (slot : BitVec 2048) : recvLine 0 lane k n (sendLine 0 lane' k n slot) = slot := by
  apply slotOfLanes_laneBytes
  intro j hj
  have h8 : j ≠ 8 := by omega
  simp [sendLine, lineLane_lineOfLanes _ j (show j < 9 by omega), h8, laneDown_laneUp]

end Sys2Proof.Laws
end

