-- ==== Sys2Proof/Laws/Ops.lean ====
section
/-!
SUPPORT. The shared operations that are no plain update of one field: the guards of the meanings, the end of every meaning, the
passing of time, and lists and vectors with one element changed.
-/
namespace Sys2Proof.Machine

/-! ## The guards and the end of a meaning -/

/-- The outputs do not see the Sleeper transmitter or what the block has sent. -/
theorem outsOf_settle (s : State) : outsOf (settle s) = outsOf s := rfl

/-- What the end of every meaning leaves is settled: the outputs are those of the state, and no message waits. -/
theorem settle_settled (s : State) : (settle s).outs = outsOf (settle s) ∧ (settle s).slp.queue = [] := ⟨rfl, rfl⟩

/-- Messages leave in their order, each with the next MSEQ. -/
theorem slpEmit_append (ms : List (Byte × List Word)) (n : Byte) (acc : List Emit) :
    slpEmit ms n acc = slpEmit ms n [] ++ acc := by
  induction ms generalizing n acc with
  | nil => rfl
  | cons m ms ih =>
    simp only [slpEmit]
    rw [ih (n + 1) (.sleeper m.1 n m.2 :: acc), ih (n + 1) [.sleeper m.1 n m.2]]
    simp

/-- Everything that a guarded meaning can do: it answers a next state, its own settled or the one it began with. -/
theorem whenUp_next {s t : State} {k : State → State} (h : whenUp s k = .next t) :
    (s.up = true ∧ t = settle (k s)) ∨ (s.up = false ∧ t = s) := by
  unfold whenUp at h
  cases hs : s.up <;> simp [hs] at h <;> simp [h]

theorem whenFunctional_next {s t : State} {k : State → State} (h : whenFunctional s k = .next t) :
    (s.functional = true ∧ t = settle (k s)) ∨ (s.functional = false ∧ t = s) := by
  unfold whenFunctional at h
  cases hs : s.functional <;> simp [hs] at h <;> simp [h]

theorem whenPlat_next {s t : State} {k : State → State} (h : whenPlat s k = .next t) :
    (s.platLive = true ∧ t = settle (k s)) ∨ (s.platLive = false ∧ t = s) := by
  unfold whenPlat at h
  cases hs : s.platLive <;> simp [hs] at h <;> simp [h]

theorem whenMsg_next {s t : State} {k : State → State} (h : whenMsg s k = .next t) :
    ((s.functional && s.slp.lock) = true ∧ t = settle (k s)) ∨ ((s.functional && s.slp.lock) = false ∧ t = s) := by
  unfold whenMsg at h
  cases hs : (s.functional && s.slp.lock) <;> simp [hs] at h <;> simp [h]

/-- On a lane that the seam has, the meaning is that of functional operation. -/
theorem whenLane_ok {n : LaneNo} (s : State) (k : State → State) (h : n.toNat < 72) : whenLane n s k = whenFunctional s k := by
  simp [whenLane, h]

theorem whenLane_bad {n : LaneNo} (s : State) (k : State → State) (h : 72 ≤ n.toNat) : whenLane n s k = .fault (.noSuchLane n) := by
  simp [whenLane, Nat.not_lt.2 h]

/-! ## Time -/

/-- A timer's command takes railway time to its moment, and never back. -/
theorem now_reach (t : Nat) (s : State) : (s.reach t).now = max s.now t := by
  unfold State.reach
  split
  · rename_i h; show t = max s.now t; omega
  · omega

/-- The AO count does not go back when a moment comes. -/
theorem aoCycles_reach (t : Nat) (s : State) : s.aoCycles ≤ (s.reach t).aoCycles := by
  unfold State.reach
  split
  · exact Nat.le_add_right _ _
  · exact Nat.le_refl _

/-- A limit in railway time has come to its end when its timer's command comes, and that moment is never set back. -/
theorem now_lapse (m : Mark) (ns : Nat) (s : State) (h : s.byAo = false) : (s.lapse m ns).now = max s.now (m.rail + ns) := by
  simp [State.lapse, h, now_reach]

/-- A limit in AO cycles has come to its end too: at least its whole cycles have passed since its start. -/
theorem ticks_lapse (m : Mark) (ns : Nat) (s : State) (h : s.byAo = true) : m.ticks + ns ≤ (s.lapse m ns).ticks := by
  simp only [State.lapse, h, if_true, State.elapse, State.ticks]
  omega

/-- Ticks advance railway time by no more than their number, and by all of them while no step is held. -/
theorem now_elapse (n : Nat) (s : State) : (s.elapse n).now = s.now + (n - s.rwt.hold) := rfl

@[simp] theorem reg_reach (t : Nat) (s : State) (a : Nat) : (s.reach t).reg a = s.reg a := by
  unfold State.reach; split <;> rfl

@[simp] theorem reg_elapse (n : Nat) (s : State) (a : Nat) : (s.elapse n).reg a = s.reg a := rfl

@[simp] theorem reg_lapse (m : Mark) (ns : Nat) (s : State) (a : Nat) : (s.lapse m ns).reg a = s.reg a := by
  unfold State.lapse; split <;> simp

/-! ## Fields of registers -/

/-- A field of a register that a write leaves reads as before. -/
@[simp] theorem fld_setReg_other (s : State) (f : Field) (a : Nat) (v : Word) (h : f.reg ≠ a) : (s.setReg a v).fld f = s.fld f := by
  simp [State.fld, h]

@[simp] theorem flag_setReg_other (s : State) (f : Field) (a : Nat) (v : Word) (h : f.reg ≠ a) :
    (s.setReg a v).flag f = s.flag f := by
  simp [State.flag, h]

/-- A field takes one value or another: it is below two to its width. -/
theorem fld_lt (s : State) (f : Field) : s.fld f < 2 ^ f.n := by
  unfold State.fld Sys2Proof.fld; exact BitVec.isLt _

theorem atLeastOne_pos (n : Nat) : 0 < atLeastOne n := by unfold atLeastOne; split <;> omega

/-! ## Lists and vectors -/

@[simp] theorem length_mapIf {α : Type} (p : α → Bool) (f : α → α) (l : List α) : (mapIf p f l).length = l.length := by
  simp [mapIf]

/-- A list whose elements all fail the test stays. -/
theorem mapIf_none {α : Type} (p : α → Bool) (f : α → α) (l : List α) (h : ∀ x ∈ l, p x = false) : mapIf p f l = l := by
  unfold mapIf
  conv_rhs => rw [← List.map_id l]
  exact List.map_congr_left fun x m => by simp [h x m]

/-- A changed element of a vector. -/
theorem vmod_same {α : Type} {n : Nat} (v : Vector α n) (i : Nat) (f : α → α) (h : i < n) : (vmod v i f)[i] = f v[i] := by
  simp [vmod, h]

/-- The other elements of a vector stay. -/
theorem vmod_other {α : Type} {n : Nat} (v : Vector α n) (i j : Nat) (f : α → α) (h : j < n) (k : i ≠ j) :
    (vmod v i f)[j] = v[j] := by
  unfold vmod
  split
  · simp [k]
  · rfl

/-- A port changed, and the ports beside it. -/
theorem port_modPort_same (s : State) (p : PortId) (f : Port → Port) : (s.modPort p f).port p = f (s.port p) :=
  vmod_same _ _ _ _

theorem port_modPort_other (s : State) (p q : PortId) (f : Port → Port) (h : p ≠ q) : (s.modPort p f).port q = s.port q :=
  vmod_other _ _ _ _ _ fun e => h (BitVec.eq_of_toNat_eq e)

/-! ## Packets -/

/-- A packet of `n` bytes has as many flits as its length needs. -/
theorem length_chunks240 (n : Nat) (bs : List Byte) : (chunks240 n bs).length = n := by
  induction n generalizing bs with
  | zero => rfl
  | succ n ih => simp [chunks240, ih]

@[simp] theorem length_pktFlits (t : Nat) (bs : List Byte) : (pktFlits t bs).length = flitsOf bs.length := by
  simp [pktFlits, length_chunks240]

/-- A packet queued joins its track's outbound queue, whose wait begins where it was empty, or is discarded; nothing else changes. -/
theorem queuePacket_cases (t : Nat) (bs : List Byte) (s : State) :
    queuePacket t bs s = s ∨
      queuePacket t bs s = { s with lnk := { s.lnk with
        outq := vmod s.lnk.outq t (· ++ pktFlits t bs)
        heldFrom := if (s.lnk.outq.toList.getD t []).isEmpty then vmod s.lnk.heldFrom t (fun _ => s.mark) else s.lnk.heldFrom } } := by
  unfold queuePacket; split
  · exact .inr rfl
  · exact .inl rfl

/-- The registers do not see packets queued. -/
@[simp] theorem reg_queuePacket (t : Nat) (bs : List Byte) (s : State) (a : Nat) : (queuePacket t bs s).reg a = s.reg a := by
  unfold queuePacket; split <;> rfl

/-! ## The PLAT domain lost (R366) -/

/-- Registers kept one after another leave the parameters as they are and keep the canonical form of the store. -/
theorem regsWf_keepRegs (cs : List (Nat × Word)) (s : State) (h : regsWf s.par s.regs = true) :
    (cs.foldl keepReg s).par = s.par ∧ regsWf s.par (cs.foldl keepReg s).regs = true := by
  induction cs generalizing s with
  | nil => exact ⟨rfl, h⟩
  | cons c cs ih =>
    have hp : (keepReg s c).par = s.par := by unfold keepReg; split <;> rfl
    have hw : regsWf s.par (keepReg s c).regs = true := by
      unfold keepReg; split
      · exact regsWf_setReg s c.1 _ h
      · exact h
    have := ih (keepReg s c) (by rw [hp]; exact hw)
    rw [hp] at this
    exact this

/-- What the loss of the PLAT domain leaves in the registers keeps the canonical form of the store. -/
theorem regsWf_losePlat (s : State) (h : regsWf s.par s.regs = true) : regsWf s.par (losePlat s).regs = true :=
  (regsWf_keepRegs s.regs s h).2

end Sys2Proof.Machine
end

