-- ==== Sys2Proof/Laws/PerInstr.lean ====
section
/-!
SUPPORT. What well-formedness says of each command: its lane operands name lanes that exist (R64, R102), and a message is no longer
than its header can say.
-/
namespace Sys2Proof.Laws.OperandRanges

/-- The lanes of a direction that a command names, in its operands and in its reports. -/
def lanes : Instr → List LaneNo
  | .lossOfSignal l | .phaseTrackerLimit l | .stuckLevels l | .populationTimeout l | .passLimitTimeout l | .ffeApply l => [l]
  | .phaseTrackerShift l _ | .histogramDone l _ => [l]
  | .trainingDone ls | .restoreVerifyDone ls | .retrainTailoringDone ls => ls.map (·.lane)
  | _ => []

/-- The lanes of the sleeve under test that a command names. -/
def testLanes : Instr → List (BitVec 4)
  | .prbsLock g => [g.lane]
  | .prbsLoss l _ _ => [l]
  | _ => []

/-- The messages that a command brings as words. -/
def messages : Instr → List (List Word)
  | .spdmMessage ws | .loadBeacon ws => [ws]
  | _ => []

/-- A command is well formed where every lane that it names exists and its message is no longer than a header can say. -/
def Statement (i : Instr) : Prop :=
  i.wellFormed = true ↔
    (∀ l ∈ lanes i, l.toNat < 72) ∧ (∀ l ∈ testLanes i, l.toNat ≤ 8) ∧ (∀ ws ∈ messages i, ws.length ≤ 255)

/-- A command that names no lane and brings no message is well formed. -/
theorem free {i : Instr} (h : i.wellFormed = true) (h1 : lanes i = []) (h2 : testLanes i = []) (h3 : messages i = []) :
    Statement i := by
  simp [Statement, h, h1, h2, h3]

/-- A command that names one lane. -/
theorem one_lane {i : Instr} (l : LaneNo) (h : i.wellFormed = laneOk l) (h1 : lanes i = [l]) (h2 : testLanes i = [])
    (h3 : messages i = []) : Statement i := by
  simp [Statement, h, h1, h2, h3, laneOk]

/-- A command with a report on each of some lanes. -/
theorem reports {i : Instr} (ls : List LaneReport) (h : i.wellFormed = ls.all fun r => laneOk r.lane)
    (h1 : lanes i = ls.map (·.lane)) (h2 : testLanes i = []) (h3 : messages i = []) : Statement i := by
  simp [Statement, h, h1, h2, h3, laneOk]

/-- A command on one lane of the sleeve under test. -/
theorem one_test_lane {i : Instr} (l : BitVec 4) (h : i.wellFormed = decide (l.toNat ≤ 8)) (h1 : lanes i = [])
    (h2 : testLanes i = [l]) (h3 : messages i = []) : Statement i := by
  simp [Statement, h, h1, h2, h3]

/-- A command that brings a message. -/
theorem one_message {i : Instr} (ws : List Word) (h : i.wellFormed = decide (ws.length ≤ 255)) (h1 : lanes i = [])
    (h2 : testLanes i = []) (h3 : messages i = [ws]) : Statement i := by
  simp [Statement, h, h1, h2, h3]

theorem hostRequestPacket (port : PortId) (cmd : BitVec 128) (beats : List Beat) :
    Statement (.hostRequestPacket port cmd beats) := free rfl rfl rfl rfl
theorem hostRequestWake (port : PortId) : Statement (.hostRequestWake port) := free rfl rfl rfl rfl
theorem transactionIssue (port : PortId) : Statement (.transactionIssue port) := free rfl rfl rfl rfl
theorem segmentAdmit (port : PortId) : Statement (.segmentAdmit port) := free rfl rfl rfl rfl
theorem responsePacketOpen (port : PortId) : Statement (.responsePacketOpen port) := free rfl rfl rfl rfl
theorem responseBeatTransfer (port : PortId) : Statement (.responseBeatTransfer port) := free rfl rfl rfl rfl
theorem replySinkViolation (port : PortId) : Statement (.replySinkViolation port) := free rfl rfl rfl rfl
theorem replySinkRecover (port : PortId) : Statement (.replySinkRecover port) := free rfl rfl rfl rfl
theorem blockRequestIssue (port : PortId) : Statement (.blockRequestIssue port) := free rfl rfl rfl rfl
theorem blockResponse (port : PortId) (info : BitVec 24) (beats : List (BitVec 512)) (poison : Bool) :
    Statement (.blockResponse port info beats poison) := free rfl rfl rfl rfl
theorem breqTimeout (port : PortId) (btag : BitVec 12) : Statement (.breqTimeout port btag) := free rfl rfl rfl rfl
theorem btagRelease (port : PortId) (btag : BitVec 12) : Statement (.btagRelease port btag) := free rfl rfl rfl rfl
theorem registerWrite (addr : BitVec 24) (data : Word) : Statement (.registerWrite addr data) := free rfl rfl rfl rfl
theorem eventClear (addr : BitVec 24) (data : Word) : Statement (.eventClear addr data) := free rfl rfl rfl rfl
theorem counterRead (addr : BitVec 24) : Statement (.counterRead addr) := free rfl rfl rfl rfl
theorem pairLoRead (who : Requester) (addr : BitVec 24) : Statement (.pairLoRead who addr) := free rfl rfl rfl rfl
theorem pairLoWrite (who : Requester) (addr : BitVec 24) (data : Word) :
    Statement (.pairLoWrite who addr data) := free rfl rfl rfl rfl
theorem pairHiWrite (who : Requester) (addr : BitVec 24) (data : Word) :
    Statement (.pairHiWrite who addr data) := free rfl rfl rfl rfl
theorem boxRegisterWrite (box : Box) (addr : BitVec 24) (data : Word) :
    Statement (.boxRegisterWrite box addr data) := free rfl rfl rfl rfl
theorem tapInstruction (load : TapLoad) : Statement (.tapInstruction load) := free rfl rfl rfl rfl
theorem wrapperInstruction (load : WrapLoad) : Statement (.wrapperInstruction load) := free rfl rfl rfl rfl
theorem pcmHostReqChange (v : BitVec 2) : Statement (.pcmHostReqChange v) := free rfl rfl rfl rfl
theorem platClockCheck (count : BitVec 16) : Statement (.platClockCheck count) := free rfl rfl rfl rfl
theorem lossOfSignal (lane : LaneNo) : Statement (.lossOfSignal lane) := one_lane lane rfl rfl rfl rfl
theorem phaseTrackerLimit (lane : LaneNo) : Statement (.phaseTrackerLimit lane) := one_lane lane rfl rfl rfl rfl
theorem stuckLevels (lane : LaneNo) : Statement (.stuckLevels lane) := one_lane lane rfl rfl rfl rfl
theorem substReq (got : SlvLine) : Statement (.substReq got) := free rfl rfl rfl rfl
theorem substAck (got : SlvLine) : Statement (.substAck got) := free rfl rfl rfl rfl
theorem retireReq (got : SlvLine) : Statement (.retireReq got) := free rfl rfl rfl rfl
theorem retireAck (got : SlvLine) : Statement (.retireAck got) := free rfl rfl rfl rfl
theorem widthReq (got : SlvLine) : Statement (.widthReq got) := free rfl rfl rfl rfl
theorem widthAck (got : SlvLine) : Statement (.widthAck got) := free rfl rfl rfl rfl
theorem widthCfm (got : SlvLine) : Statement (.widthCfm got) := free rfl rfl rfl rfl
theorem seamNak (got : SlvLine) : Statement (.seamNak got) := free rfl rfl rfl rfl
theorem substSwitch (dir : Dir) (slv : SleeveNo) : Statement (.substSwitch dir slv) := free rfl rfl rfl rfl
theorem retireSwitch (slv : SleeveNo) : Statement (.retireSwitch slv) := free rfl rfl rfl rfl
theorem widthGo (data : Word) : Statement (.widthGo data) := free rfl rfl rfl rfl
theorem widthSwitch (dir : Dir) : Statement (.widthSwitch dir) := free rfl rfl rfl rfl
theorem testEnable (data : Word) : Statement (.testEnable data) := free rfl rfl rfl rfl
theorem testDisable (data : Word) : Statement (.testDisable data) := free rfl rfl rfl rfl
theorem testAck (msg : BitVec 32) : Statement (.testAck msg) := free rfl rfl rfl rfl
theorem prbsLock (got : PrbsBits) : Statement (.prbsLock got) := one_test_lane got.lane rfl rfl rfl rfl
theorem prbsLoss (lane : BitVec 4) (first second : BitVec 512) : Statement (.prbsLoss lane first second) := one_test_lane lane rfl rfl rfl rfl
theorem phaseTrackerShift (lane : LaneNo) (offset : BitVec 5) :
    Statement (.phaseTrackerShift lane offset) := one_lane lane rfl rfl rfl rfl
theorem rollingPassStart (slv : SleeveNo) : Statement (.rollingPassStart slv) := free rfl rfl rfl rfl
theorem histogramDone (lane : LaneNo) (h : Histogram) : Statement (.histogramDone lane h) := one_lane lane rfl rfl rfl rfl
theorem populationTimeout (lane : LaneNo) : Statement (.populationTimeout lane) := one_lane lane rfl rfl rfl rfl
theorem starvedRetry (slv : SleeveNo) : Statement (.starvedRetry slv) := free rfl rfl rfl rfl
theorem passLimitTimeout (lane : LaneNo) : Statement (.passLimitTimeout lane) := one_lane lane rfl rfl rfl rfl
theorem ffeSet (msg : BitVec 96) : Statement (.ffeSet msg) := free rfl rfl rfl rfl
theorem ffeDone (msg : BitVec 96) : Statement (.ffeDone msg) := free rfl rfl rfl rfl
theorem ffeApply (lane : LaneNo) : Statement (.ffeApply lane) := one_lane lane rfl rfl rfl rfl
theorem tlrCtrlMeasure (data : Word) : Statement (.tlrCtrlMeasure data) := free rfl rfl rfl rfl
theorem tlrCtrlCommit (data : Word) : Statement (.tlrCtrlCommit data) := free rfl rfl rfl rfl
theorem snapFreeze (data : Word) : Statement (.snapFreeze data) := free rfl rfl rfl rfl
theorem snapRelease (data : Word) : Statement (.snapRelease data) := free rfl rfl rfl rfl
theorem snapRestore (data : Word) : Statement (.snapRestore data) := free rfl rfl rfl rfl
theorem trainingDone (lanes : List LaneReport) : Statement (.trainingDone lanes) := reports lanes rfl rfl rfl rfl
theorem restoreVerifyDone (lanes : List LaneReport) : Statement (.restoreVerifyDone lanes) := reports lanes rfl rfl rfl rfl
theorem retrainTailoringDone (lanes : List LaneReport) : Statement (.retrainTailoringDone lanes) := reports lanes rfl rfl rfl rfl
theorem dataFlitReceive (slv : SleeveNo) (line : BitVec 2304) : Statement (.dataFlitReceive slv line) := free rfl rfl rfl rfl
theorem linkControlReceive (slv : SleeveNo) (line : BitVec 2304) : Statement (.linkControlReceive slv line) := free rfl rfl rfl rfl
theorem t6FlitReceive (slv : SleeveNo) (got : SlotLine) : Statement (.t6FlitReceive slv got) := free rfl rfl rfl rfl
theorem lnkCtrlRetrain (data : Word) : Statement (.lnkCtrlRetrain data) := free rfl rfl rfl rfl
theorem linkReady (msg : BitVec 64) : Statement (.linkReady msg) := free rfl rfl rfl rfl
theorem sleeperLinkDown (msg : BitVec 32) : Statement (.sleeperLinkDown msg) := free rfl rfl rfl rfl
theorem flushNow (data : Word) : Statement (.flushNow data) := free rfl rfl rfl rfl
theorem lnkCtrlRestart (data : Word) : Statement (.lnkCtrlRestart data) := free rfl rfl rfl rfl
theorem requestPacketReceive (track : BitVec 3) (hdr : BitVec 256) (data : List Byte) (flits : Nat) :
    Statement (.requestPacketReceive track hdr data flits) := free rfl rfl rfl rfl
theorem replyReceive (hdr : BitVec 256) (data : List Byte) (flits : Nat) :
    Statement (.replyReceive hdr data flits) := free rfl rfl rfl rfl
theorem quarantineEnd (tag : BitVec 18) : Statement (.quarantineEnd tag) := free rfl rfl rfl rfl
theorem timeResp (msg : BitVec 160) : Statement (.timeResp msg) := free rfl rfl rfl rfl
theorem rwtRelock (data : Word) : Statement (.rwtRelock data) := free rfl rfl rfl rfl
theorem ttbLoadGo (data : Word) : Statement (.ttbLoadGo data) := free rfl rfl rfl rfl
theorem ttbLoadFetchDone (fetched : Bool) (image : List Byte) : Statement (.ttbLoadFetchDone fetched image) := free rfl rfl rfl rfl
theorem stationAck (hdr : BitVec 128) (data : List Byte) (flits : Nat) :
    Statement (.stationAck hdr data flits) := free rfl rfl rfl rfl
theorem ttbCtrlStart (data : Word) : Statement (.ttbCtrlStart data) := free rfl rfl rfl rfl
theorem ttbCtrlResume (data : Word) : Statement (.ttbCtrlResume data) := free rfl rfl rfl rfl
theorem ttbCtrlHalt (data : Word) : Statement (.ttbCtrlHalt data) := free rfl rfl rfl rfl
theorem ttbSwitchArm (data : Word) : Statement (.ttbSwitchArm data) := free rfl rfl rfl rfl
theorem ttbSwitchCancel (data : Word) : Statement (.ttbSwitchCancel data) := free rfl rfl rfl rfl
theorem fenceNotice (msg : BitVec 96) : Statement (.fenceNotice msg) := free rfl rfl rfl rfl
theorem contrib (hdr : BitVec 256) (data : List Byte) (flits : Nat) : Statement (.contrib hdr data flits) := free rfl rfl rfl rfl
theorem ready (hdr : BitVec 256) (data : List Byte) (flits : Nat) : Statement (.ready hdr data flits) := free rfl rfl rfl rfl
theorem result (hdr : BitVec 256) (data : List Byte) (flits : Nat) : Statement (.result hdr data flits) := free rfl rfl rfl rfl
theorem a2aData (hdr : BitVec 256) (data : List Byte) (flits : Nat) : Statement (.a2aData hdr data flits) := free rfl rfl rfl rfl
theorem mcastData (hdr : BitVec 256) (data : List Byte) (flits : Nat) :
    Statement (.mcastData hdr data flits) := free rfl rfl rfl rfl
theorem mcastDone (hdr : BitVec 256) (data : List Byte) (flits : Nat) :
    Statement (.mcastDone hdr data flits) := free rfl rfl rfl rfl
theorem abort (hdr : BitVec 256) (data : List Byte) (flits : Nat) : Statement (.abort hdr data flits) := free rfl rfl rfl rfl
theorem mcastTimeout (group : BitVec 12) : Statement (.mcastTimeout group) := free rfl rfl rfl rfl
theorem groupTimeout (group : BitVec 12) : Statement (.groupTimeout group) := free rfl rfl rfl rfl
theorem abortAll (data : Word) : Statement (.abortAll data) := free rfl rfl rfl rfl
theorem aspCtl (msg : BitVec 96) : Statement (.aspCtl msg) := free rfl rfl rfl rfl
theorem aspCtlAck (msg : BitVec 32) : Statement (.aspCtlAck msg) := free rfl rfl rfl rfl
theorem aspCtlTimeout (group : BitVec 12) (contrib : BitVec 5) : Statement (.aspCtlTimeout group contrib) := free rfl rfl rfl rfl
theorem fallbackComplete (group : BitVec 12) : Statement (.fallbackComplete group) := free rfl rfl rfl rfl
theorem fallbackHoldExpiry (group : BitVec 12) : Statement (.fallbackHoldExpiry group) := free rfl rfl rfl rfl
theorem loadBeacon (words : List Word) : Statement (.loadBeacon words) := one_message words rfl rfl rfl rfl
theorem beaconStale (tile : Bool) (num : BitVec 7) : Statement (.beaconStale tile num) := free rfl rfl rfl rfl
theorem migBegin (hdr : BitVec 128) (data : List Byte) (flits : Nat) : Statement (.migBegin hdr data flits) := free rfl rfl rfl rfl
theorem migDone (hdr : BitVec 128) (data : List Byte) (flits : Nat) : Statement (.migDone hdr data flits) := free rfl rfl rfl rfl
theorem migAbort (hdr : BitVec 128) (data : List Byte) (flits : Nat) : Statement (.migAbort hdr data flits) := free rfl rfl rfl rfl
theorem ringConsWrite (n : BitVec 6) (data : Word) : Statement (.ringConsWrite n data) := free rfl rfl rfl rfl
theorem mbxGo (data : Word) : Statement (.mbxGo data) := free rfl rfl rfl rfl
theorem ringProdWrite (data : Word) : Statement (.ringProdWrite data) := free rfl rfl rfl rfl
theorem ringBaseLoWrite (data : Word) : Statement (.ringBaseLoWrite data) := free rfl rfl rfl rfl
theorem rplAckWrite (data : Word) : Statement (.rplAckWrite data) := free rfl rfl rfl rfl
theorem vtxCmd (hdr : BitVec 128) (data : List Byte) (flits : Nat) : Statement (.vtxCmd hdr data flits) := free rfl rfl rfl rfl
theorem vtxReply (hdr : BitVec 128) (data : List Byte) (flits : Nat) : Statement (.vtxReply hdr data flits) := free rfl rfl rfl rfl
theorem managementPacketDiscard (hdr : BitVec 128) (data : List Byte) (flits : Nat) :
    Statement (.managementPacketDiscard hdr data flits) := free rfl rfl rfl rfl
theorem forwardResend (rtag : BitVec 16) : Statement (.forwardResend rtag) := free rfl rfl rfl rfl
theorem forwardTimeout (rtag : BitVec 16) : Statement (.forwardTimeout rtag) := free rfl rfl rfl rfl
theorem linkStatusGet (ref : CmdRef) : Statement (.linkStatusGet ref) := free rfl rfl rfl rfl
theorem widthSet (ref : CmdRef) : Statement (.widthSet ref) := free rfl rfl rfl rfl
theorem linkRetrain (ref : CmdRef) : Statement (.linkRetrain ref) := free rfl rfl rfl rfl
theorem linkFlush (ref : CmdRef) : Statement (.linkFlush ref) := free rfl rfl rfl rfl
theorem linkRestart (ref : CmdRef) : Statement (.linkRestart ref) := free rfl rfl rfl rfl
theorem linkModeSet (ref : CmdRef) : Statement (.linkModeSet ref) := free rfl rfl rfl rfl
theorem tlrMeasure (ref : CmdRef) : Statement (.tlrMeasure ref) := free rfl rfl rfl rfl
theorem tlrFreeze (ref : CmdRef) : Statement (.tlrFreeze ref) := free rfl rfl rfl rfl
theorem tlrSnapRead (ref : CmdRef) : Statement (.tlrSnapRead ref) := free rfl rfl rfl rfl
theorem tlrRestore (ref : CmdRef) (fetched : Bool) (image : List Byte) :
    Statement (.tlrRestore ref fetched image) := free rfl rfl rfl rfl
theorem ttbLoad (ref : CmdRef) : Statement (.ttbLoad ref) := free rfl rfl rfl rfl
theorem ttbStart (ref : CmdRef) : Statement (.ttbStart ref) := free rfl rfl rfl rfl
theorem ttbArm (ref : CmdRef) : Statement (.ttbArm ref) := free rfl rfl rfl rfl
theorem ttbCancel (ref : CmdRef) : Statement (.ttbCancel ref) := free rfl rfl rfl rfl
theorem ttbHalt (ref : CmdRef) : Statement (.ttbHalt ref) := free rfl rfl rfl rfl
theorem ttbStatusGet (ref : CmdRef) : Statement (.ttbStatusGet ref) := free rfl rfl rfl rfl
theorem jctGroupOpen (ref : CmdRef) : Statement (.jctGroupOpen ref) := free rfl rfl rfl rfl
theorem jctGroupWait (ref : CmdRef) : Statement (.jctGroupWait ref) := free rfl rfl rfl rfl
theorem jctGroupClose (ref : CmdRef) : Statement (.jctGroupClose ref) := free rfl rfl rfl rfl
theorem jctGroupAbort (ref : CmdRef) : Statement (.jctGroupAbort ref) := free rfl rfl rfl rfl
theorem jctStart (ref : CmdRef) : Statement (.jctStart ref) := free rfl rfl rfl rfl
theorem jctBranchSet (ref : CmdRef) : Statement (.jctBranchSet ref) := free rfl rfl rfl rfl
theorem aspGroupOpen (ref : CmdRef) : Statement (.aspGroupOpen ref) := free rfl rfl rfl rfl
theorem aspGroupClose (ref : CmdRef) : Statement (.aspGroupClose ref) := free rfl rfl rfl rfl
theorem aspRecalibrate (ref : CmdRef) : Statement (.aspRecalibrate ref) := free rfl rfl rfl rfl
theorem aspFallback (ref : CmdRef) : Statement (.aspFallback ref) := free rfl rfl rfl rfl
theorem aspGroupWait (ref : CmdRef) : Statement (.aspGroupWait ref) := free rfl rfl rfl rfl
theorem mshDirSet (ref : CmdRef) : Statement (.mshDirSet ref) := free rfl rfl rfl rfl
theorem mshDirDelete (ref : CmdRef) : Statement (.mshDirDelete ref) := free rfl rfl rfl rfl
theorem mshDirGet (ref : CmdRef) : Statement (.mshDirGet ref) := free rfl rfl rfl rfl
theorem mshPoolSet (ref : CmdRef) : Statement (.mshPoolSet ref) := free rfl rfl rfl rfl
theorem mshRingSet (ref : CmdRef) : Statement (.mshRingSet ref) := free rfl rfl rfl rfl
theorem mshBindStage (ref : CmdRef) : Statement (.mshBindStage ref) := free rfl rfl rfl rfl
theorem mshBindCommit (ref : CmdRef) : Statement (.mshBindCommit ref) := free rfl rfl rfl rfl
theorem mshBindCancel (ref : CmdRef) : Statement (.mshBindCancel ref) := free rfl rfl rfl rfl
theorem mshBindGet (ref : CmdRef) : Statement (.mshBindGet ref) := free rfl rfl rfl rfl
theorem mshMigrate (ref : CmdRef) : Statement (.mshMigrate ref) := free rfl rfl rfl rfl
theorem pcmStateGet (ref : CmdRef) : Statement (.pcmStateGet ref) := free rfl rfl rfl rfl
theorem pcmPolicySet (ref : CmdRef) : Statement (.pcmPolicySet ref) := free rfl rfl rfl rfl
theorem pcmWake (ref : CmdRef) : Statement (.pcmWake ref) := free rfl rfl rfl rfl
theorem pcmSleep (ref : CmdRef) : Statement (.pcmSleep ref) := free rfl rfl rfl rfl
theorem spdmExchange (ref : CmdRef) : Statement (.spdmExchange ref) := free rfl rfl rfl rfl
theorem idnKeyGet (ref : CmdRef) : Statement (.idnKeyGet ref) := free rfl rfl rfl rfl
theorem idnChainSet (ref : CmdRef) (fetched : Bool) (chain : List Byte) :
    Statement (.idnChainSet ref fetched chain) := free rfl rfl rfl rfl
theorem sbxStatusGet (ref : CmdRef) : Statement (.sbxStatusGet ref) := free rfl rfl rfl rfl
theorem sbxFailover (ref : CmdRef) : Statement (.sbxFailover ref) := free rfl rfl rfl rfl
theorem sbxFwStage (ref : CmdRef) : Statement (.sbxFwStage ref) := free rfl rfl rfl rfl
theorem vtxInfo (ref : CmdRef) : Statement (.vtxInfo ref) := free rfl rfl rfl rfl
theorem vtxForward (ref : CmdRef) : Statement (.vtxForward ref) := free rfl rfl rfl rfl
theorem diagTestStart (ref : CmdRef) : Statement (.diagTestStart ref) := free rfl rfl rfl rfl
theorem diagTestRead (ref : CmdRef) : Statement (.diagTestRead ref) := free rfl rfl rfl rfl
theorem diagTestStop (ref : CmdRef) : Statement (.diagTestStop ref) := free rfl rfl rfl rfl
theorem diagFaultRead (ref : CmdRef) : Statement (.diagFaultRead ref) := free rfl rfl rfl rfl
theorem diagRegRead (ref : CmdRef) : Statement (.diagRegRead ref) := free rfl rfl rfl rfl
theorem activeBoxFault (cause : BitVec 4) : Statement (.activeBoxFault cause) := free rfl rfl rfl rfl
theorem healthReport (report : Option HealthRpt) : Statement (.healthReport report) := free rfl rfl rfl rfl
theorem selfTestPass (ok : Bool) : Statement (.selfTestPass ok) := free rfl rfl rfl rfl
theorem boxLinkRetry (works : Bool) : Statement (.boxLinkRetry works) := free rfl rfl rfl rfl
theorem boxTieResp (msg : BitVec 32) : Statement (.boxTieResp msg) := free rfl rfl rfl rfl
theorem sbxCtrlFailover (data : Word) : Statement (.sbxCtrlFailover data) := free rfl rfl rfl rfl
theorem imageLoadDone (box : Box) (fetched : Bool) (image : List Byte) :
    Statement (.imageLoadDone box fetched image) := free rfl rfl rfl rfl
theorem startupSelfTestDone (box : Box) (ok : Bool) : Statement (.startupSelfTestDone box ok) := free rfl rfl rfl rfl
theorem fwAddrHiWrite (data : Word) : Statement (.fwAddrHiWrite data) := free rfl rfl rfl rfl
theorem pcmCtrlSleep (data : Word) : Statement (.pcmCtrlSleep data) := free rfl rfl rfl rfl
theorem pcmCtrlWake (data : Word) : Statement (.pcmCtrlWake data) := free rfl rfl rfl rfl
theorem wakeReady (msg : BitVec 64) : Statement (.wakeReady msg) := free rfl rfl rfl rfl
theorem powerGoodTimeout (domain : BitVec 3) : Statement (.powerGoodTimeout domain) := free rfl rfl rfl rfl
theorem brownoutWarn (msg : BitVec 96) : Statement (.brownoutWarn msg) := free rfl rfl rfl rfl
theorem brownoutEnd (msg : BitVec 64) : Statement (.brownoutEnd msg) := free rfl rfl rfl rfl
theorem derive (data : Word) : Statement (.derive data) := free rfl rfl rfl rfl
theorem enroll (data : Word) : Statement (.enroll data) := free rfl rfl rfl rfl
theorem authkeyLock (data : Word) : Statement (.authkeyLock data) := free rfl rfl rfl rfl
theorem spdmMessage (words : List Word) : Statement (.spdmMessage words) := one_message words rfl rfl rfl rfl
theorem negAgree (msg : BitVec 128) : Statement (.negAgree msg) := free rfl rfl rfl rfl
theorem trainStart (msg : BitVec 32) : Statement (.trainStart msg) := free rfl rfl rfl rfl
theorem trainDone (msg : BitVec 32) : Statement (.trainDone msg) := free rfl rfl rfl rfl
theorem sleeperMessageDiscard (blocks : List (BitVec 34)) : Statement (.sleeperMessageDiscard blocks) := free rfl rfl rfl rfl
theorem fltRdWrite (data : Word) : Statement (.fltRdWrite data) := free rfl rfl rfl rfl
theorem forwardedClockFail (slv : SleeveNo) : Statement (.forwardedClockFail slv) := free rfl rfl rfl rfl
theorem aoClockLoss : Statement .aoClockLoss := free rfl rfl rfl rfl
theorem coldReset : Statement .coldReset := free rfl rfl rfl rfl
theorem coldResetRelease : Statement .coldResetRelease := free rfl rfl rfl rfl
theorem platReset : Statement .platReset := free rfl rfl rfl rfl
theorem platResetRelease : Statement .platResetRelease := free rfl rfl rfl rfl
theorem regReset : Statement .regReset := free rfl rfl rfl rfl
theorem tapReset : Statement .tapReset := free rfl rfl rfl rfl
theorem ctrlResendTimeout : Statement .ctrlResendTimeout := free rfl rfl rfl rfl
theorem widthGoDequeue : Statement .widthGoDequeue := free rfl rfl rfl rfl
theorem addedSleevesReady : Statement .addedSleevesReady := free rfl rfl rfl rfl
theorem widthLockTimeout : Statement .widthLockTimeout := free rfl rfl rfl rfl
theorem crcWindowEnd : Statement .crcWindowEnd := free rfl rfl rfl rfl
theorem sleeperLock : Statement .sleeperLock := free rfl rfl rfl rfl
theorem sleeperLoss : Statement .sleeperLoss := free rfl rfl rfl rfl
theorem sleeperLossTimeout : Statement .sleeperLossTimeout := free rfl rfl rfl rfl
theorem testReqTimeout : Statement .testReqTimeout := free rfl rfl rfl rfl
theorem snapshotRebuild : Statement .snapshotRebuild := free rfl rfl rfl rfl
theorem flitSlotSend : Statement .flitSlotSend := free rfl rfl rfl rfl
theorem replayTimer : Statement .replayTimer := free rfl rfl rfl rfl
theorem ackTimer : Statement .ackTimer := free rfl rfl rfl rfl
theorem keepaliveTimer : Statement .keepaliveTimer := free rfl rfl rfl rfl
theorem receiverReplayPeriod : Statement .receiverReplayPeriod := free rfl rfl rfl rfl
theorem sleeperLinkRetrain : Statement .sleeperLinkRetrain := free rfl rfl rfl rfl
theorem linkResume : Statement .linkResume := free rfl rfl rfl rfl
theorem retrainTimeout : Statement .retrainTimeout := free rfl rfl rfl rfl
theorem graceRetrainTimer : Statement .graceRetrainTimer := free rfl rfl rfl rfl
theorem graceExpiry : Statement .graceExpiry := free rfl rfl rfl rfl
theorem valiantForward : Statement .valiantForward := free rfl rfl rfl rfl
theorem manifestSweep : Statement .manifestSweep := free rfl rfl rfl rfl
theorem pathBoundary : Statement .pathBoundary := free rfl rfl rfl rfl
theorem syncSetStart : Statement .syncSetStart := free rfl rfl rfl rfl
theorem timeReqSend : Statement .timeReqSend := free rfl rfl rfl rfl
theorem timeExchangeTimeout : Statement .timeExchangeTimeout := free rfl rfl rfl rfl
theorem syncSetEnd : Statement .syncSetEnd := free rfl rfl rfl rfl
theorem stationAckTimeout : Statement .stationAckTimeout := free rfl rfl rfl rfl
theorem bindingRelease : Statement .bindingRelease := free rfl rfl rfl rfl
theorem loadReportTimer : Statement .loadReportTimer := free rfl rfl rfl rfl
theorem heatWindowEnd : Statement .heatWindowEnd := free rfl rfl rfl rfl
theorem commandTake : Statement .commandTake := free rfl rfl rfl rfl
theorem rplHdrRead : Statement .rplHdrRead := free rfl rfl rfl rfl
theorem cplFifoRead : Statement .cplFifoRead := free rfl rfl rfl rfl
theorem generationCommit : Statement .generationCommit := free rfl rfl rfl rfl
theorem heartbeatTimeout : Statement .heartbeatTimeout := free rfl rfl rfl rfl
theorem takeoverDone : Statement .takeoverDone := free rfl rfl rfl rfl
theorem boxLinkLoss : Statement .boxLinkLoss := free rfl rfl rfl rfl
theorem resyncDone : Statement .resyncDone := free rfl rfl rfl rfl
theorem tokenFault : Statement .tokenFault := free rfl rfl rfl rfl
theorem boxTieResend : Statement .boxTieResend := free rfl rfl rfl rfl
theorem tieSettlement : Statement .tieSettlement := free rfl rfl rfl rfl
theorem takebackHoldoff : Statement .takebackHoldoff := free rfl rfl rfl rfl
theorem quiescentPoint : Statement .quiescentPoint := free rfl rfl rfl rfl
theorem takebackWaitTimeout : Statement .takebackWaitTimeout := free rfl rfl rfl rfl
theorem takebackRetry : Statement .takebackRetry := free rfl rfl rfl rfl
theorem policyWindowEnd : Statement .policyWindowEnd := free rfl rfl rfl rfl
theorem useHigh : Statement .useHigh := free rfl rfl rfl rfl
theorem sleeperIdleTimeout : Statement .sleeperIdleTimeout := free rfl rfl rfl rfl
theorem sleeperPreferredIdle : Statement .sleeperPreferredIdle := free rfl rfl rfl rfl
theorem retainEntry : Statement .retainEntry := free rfl rfl rfl rfl
theorem sleepStepDone : Statement .sleepStepDone := free rfl rfl rfl rfl
theorem stationWake : Statement .stationWake := free rfl rfl rfl rfl
theorem wakeAt : Statement .wakeAt := free rfl rfl rfl rfl
theorem wakeAck : Statement .wakeAck := free rfl rfl rfl rfl
theorem wakeDone : Statement .wakeDone := free rfl rfl rfl rfl
theorem deriveDone : Statement .deriveDone := free rfl rfl rfl rfl
theorem enrollDone : Statement .enrollDone := free rfl rfl rfl rfl
theorem spdmSignDone : Statement .spdmSignDone := free rfl rfl rfl rfl
theorem negOfferTimeout : Statement .negOfferTimeout := free rfl rfl rfl rfl
theorem trainMsgTimeout : Statement .trainMsgTimeout := free rfl rfl rfl rfl
theorem faultLogIntake : Statement .faultLogIntake := free rfl rfl rfl rfl
theorem aoClockReturn : Statement .aoClockReturn := free rfl rfl rfl rfl

end Sys2Proof.Laws.OperandRanges
end

