-- ==== Sys2Proof/Tests/Slice0.lean ====
section
/-!
SUPPORT. Small states for the tests, the refusals of WellFormed, the spec's worked examples, and for every statement with
hypotheses a witness that meets them.
-/
open Sys2Proof Sys2Proof.Machine
namespace Sys2Proof.Tests

set_option linter.unusedVariables false
set_option Elab.async false

/-- The block in service at link-up, with every sleeve usable and box A active beside box B on standby. -/
def live : State :=
  settle { State.reset with
    pins := ⟨true, true, true, 0, true⟩
    boot := { Boot.reset with step := 9, reached := 10, phys := 0x0081, physValid := true }
    slp := { Slp.reset with txActive := true, lock := true }
    seam := { Seam.reset with usable := 0xFF, powered := 0xFF, counting := true }
    lnk := { Lnk.reset with st := .up, gen := 3, trackMask := 0x7F, held := Vector.replicate 6 32, peerPool := Vector.replicate 6 32 }
    rwt := { Rwt.reset with st := .locked, now := 1000000 }
    pcm := { Pcm.reset with st := .awake }
    tlr := { Tlr.reset with mode := .service, committed := true }
    sbx := { Sbx.reset with a := { BoxRec.reset with st := .active }, b := { BoxRec.reset with st := .standby }, held := true, ready := true }
    idn := { Idn.reset with key := .ready } }

/-- The block in service with a change, settled. -/
def mk (f : State → State) : State := settle (f live)

/-- The block in held Sleeper mode, with a change. -/
def slept (f : State → State) : State :=
  mk fun s => f { s with pcm := { s.pcm with st := .held }, seam := { s.seam with usable := 0, powered := 0 } }

/-- The block at a step of start-up, before the link has come up. -/
def starting (n : BitVec 4) (f : State → State) : State :=
  mk fun s => f { s with boot := { s.boot with step := n, reached := n }, lnk := Lnk.reset, pcm := { s.pcm with st := .start } }

/-- A seam control flit. -/
def ctl (type xid sleeve target nak : Nat) (lane : BitVec 4) (reason : BitVec 2) : BitVec 1920 :=
  ctlFlit (BitVec.ofNat 8 type) (BitVec.ofNat 8 xid) (BitVec.ofNat 3 sleeve) lane reason (BitVec.ofNat 8 target) (BitVec.ofNat 8 nak) 64

/-- A start of a limit. -/
def mk0 : Mark := ⟨900000, 0⟩

/-- A slot as it comes on the lanes of a sleeve in the first downstream slot. -/
def lineTo (k : SleeveNo) (f : BitVec 2048) : BitVec 2304 := sendLine 0 0 k.toNat 0 f

/-- The header of a whole packet of two bytes on T1. -/
def dh0 : DHdr :=
  { kind := 1, track := 1, shared := 0, sop := 1, eop := 1, len := 2, seq := 0, ack := 0xFFF, nak := 0, sel := 0, count := 0, rsv := 0 }

/-- A flit of a kind with a payload, on the lanes of a sleeve. -/
def flitTo (k : SleeveNo) (kind : BitVec 3) (p : BitVec 1920) : BitVec 2304 := lineTo k (sealFlit (DHdr.toBits { dh0 with kind := kind }) p)

/-- A read of 64 bytes in a port's table. -/
def hreq (f : Seg → Seg) : HostReq :=
  { serial := 0, htag := 5, op := 1, addr := 0, len := 64, dest := 0xFFFF,
    segs := [f { addr := 0, len := 64, st := .waiting, data := [], poison := false, admitted := false, withdrawn := false }],
    avoid := none, opened := false, sent := 0, finished := false }

/-- A block request of 64 bytes. -/
def brq (w : Bool) (p : Purpose) : Breq := { write := w, addr := 0x1000, len := 64, data := if w then List.replicate 64 1 else [], poison := false, purpose := p }

/-- An exchange of the block's own. -/
def ex0 (k : ExKind) : Exch := { kind := k, xid := 9, sends := 1, renew := false, since := mk0 }

/-- A width change of the block's own to the one sleeve 0. -/
def wch : WidthChange :=
  { mine := true, byPcm := false, target := 1, xid := 9, added := 0, phase := [], ready := true, acked := false, upSlot := none, dnSlot := none,
    upDone := false, dnDone := false, since := mk0 }

/-- A pass on lane 71 of sleeve 7. -/
def pas (st : PassStep) : Pass :=
  { lane := 71, step := st, opening := 10, full := true, onSpare := false, ffeWait := false, startedAt := 5, train := false, since := mk0,
    granted := 0 }

/-- A histogram of a dwell of 4,096 symbols with an open eye between each two of its levels, of so many symbols a level. -/
def hist (pop : BitVec 28) : Histogram :=
  { above := Vector.ofFn fun i => if i.val < 16 then 4096 else if i.val < 48 then 3072 else if i.val < 80 then 2048 else if i.val < 112 then 1024 else 0,
    levels := Vector.replicate 4 pop, phases := Vector.replicate 64 3072 }

/-- A retrain under way. -/
def rtr : Retrain := { startedAt := 5, tailored := true, resume := some (7, 9), downAfter := false, inGrace := false }

/-- A first flit of a packet on T1. -/
def of1 : OutFlit := ⟨1, true, true, [1, 2]⟩

/-- A flit in the siding, sent. -/
def sf (n : BitVec 12) : SideFlit := { seq := n, shared := false, flit := of1, replays := 2, again := false }

/-- A forwarded command that waits for its reply. -/
def fw1 : Fwd := { rtag := 8, dest := 0x0085, cmd := [], sends := 1, relay := false, missed := false, since := mk0 }

/-- Programming packets to the station, the last of them unanswered. -/
def pg (w : ProgFor) : Prog := { what := w, rtags := [8], rest := [], since := mk0 }

/-- A load from address 0x1000. -/
def ldr (b : Option Bank) : Load := { addr := 0x1000, port := 0, stream := false, keep := false, bank := b }

/-- A member of a junction group. -/
def mem0 (p : BitVec 14) : Member := { phys := p, elems := 0, bytes := 0, excused := false, poisoned := false, done := false }

/-- A junction group of two members that reduces 32 elements of format 0 into host memory. -/
def grp : JGroup :=
  { num := 5, operation := 0, t6 := false, accBase := 0, elems := 32, inset := 0xFFFFFFFF, outFormat := 1, round := false,
    saturate := false, salt := 0, seed := 1, skip := false, hasLocal := false, localAddr := 0, localPort := 0, localFormat := 0,
    outKind := .host, outAddr := 0x1000, outPort := 0, parent := 0x0083, tree := 7, chunk := 64,
    members := [mem0 0x0085, mem0 0x0086], own := none,
    acc := List.replicate 32 0, leaves := List.replicate 32 0, st := .opened, result := 0, bitmap := 0, poison := false, ready := none,
    held := none, results := false, chunks := 1, openedAt := mk0, started := false, buffer := [], fallback := false, since := mk0,
    staged := 0, doneAt := 0 }

/-- A contributor of an analog group. -/
def con (p : BitVec 14) : Contrib :=
  { phys := p, state := 1, gain := 1, offset := 0, trim := 0, trims := [], badPairs := 0, onWave := true }

/-- An analog group at its destination, with two contributors. -/
def adst : AspDest :=
  { num := 6, inset := 1, scaleExp := 0, outFormat := 1, pilot := 32, elems := 64, outAddr := 0x2000, outPort := 0, recAddr := 0x3000,
    budget := 100, fbGroup := 5, skip := false, autoReturn := true, st := .analog, result := 0,
    cons := [con 0x0085, con 0x0086], total := 2, gRef := 1, lastResidual := 0,
    seq := 9, recalLeft := 0, recalFrom := (0, 0), pairs := [], means := (0, 0), fbFrom := none, fbSince := 5, returning := false,
    fbUsed := false, fbDue := [], fences := [], staleFrom := 0, staleTo := 0 }

/-- A control message to contributor 1 of group 6, sent so many times. -/
def cto (sends : Nat) : CtlOut := { group := 6, contrib := 1, seq := 9, sends := sends, msg := 0x123456789, since := mk0 }

/-- A contributor's membership of an analog group. -/
def amem : AspMem :=
  { num := 6, n := 2, contrib := 1, dest := 0x0083, inset := 1, scaleExp := 0, pilot := 32, elems := 64, inAddr := 0x4000, inPort := 0,
    fbGroup := 5, skip := false, trim := 0, mode := 0, ctls := [], recal := 0, ended := false, result := 0 }

/-- A bank of a timetable without entries. -/
def bnk : Bank :=
  { entries := [], cycle := 128, bindGen := none, variantOf := none, window := 8, mask := 0xFF, seed := 0, job := 0, streamed := false,
    routes := [], branches := [], present := [], segCrc := [], nextSeg := 0, again := [], late := [], base := 0, entryOff := 4096 }

/-- An entry of the timetable that reserves every sleeve in path 50. -/
def ent0 : TtEntry :=
  { path := 50, sleeves := 0xFF, first := 0, last := 3, kind := 0, group := false, peer := 3, matchIx := 0, opx := 0, port := 0,
    sop := true, eop := true, addr := 0x1000, len := 64, aux := 0 }

/-- Bytes with a CRC-32 over them at their end. -/
def withCrc (bs : List Byte) : List Byte := bs ++ leBytes 4 (crc32 bs).toNat

/-- The image of a timetable without entries. -/
def image0 : List Byte :=
  let h := leBytes 4 0x4C494754 ++ [0, 3] ++ leBytes 2 128 ++ leBytes 4 0 ++ leBytes 4 128 ++ leBytes 8 0 ++ leBytes 4 0 ++
    leBytes 2 0x0081 ++ leBytes 2 0 ++ leBytes 8 0 ++ leBytes 8 4096 ++ leBytes 8 0 ++ leBytes 8 0 ++ leBytes 8 0 ++ List.replicate 48 0
  withCrc h ++ leBytes 4 (crc32 []).toNat

/-- A consignment record of two holders, as bytes and in its directory slot. -/
def recBytes0 (flags : Nat) : List Byte :=
  withCrc (leBytes 8 0x100000 ++ leBytes 8 0x200000 ++ leBytes 4 4 ++ leBytes 4 1 ++ leBytes 2 3 ++ leBytes 2 4 ++ List.replicate 12 0xFF ++
    [2, BitVec.ofNat 8 flags, 0, 0] ++ leBytes 4 0 ++ leBytes 8 0 ++ leBytes 4 0)

def rec0 : DirRec := { recOf (recBytes0 1) with slot := 2 }

/-- A T0 header to this die. -/
def mh (op len rtag : Nat) : BitVec 128 :=
  MHdr.toBits { src := 0x0085, dest := 0x0081, rtag := BitVec.ofNat 16 rtag, len := BitVec.ofNat 13 len, rsv := 0, op := BitVec.ofNat 8 op }

/-- A T5 header of group 5 to this die. -/
def jh (op : Nat) (src : BitVec 14) (len elems : Nat) (member : BitVec 8) : BitVec 256 :=
  JHdr.toBits { addr := 0x1000, src := src, dest := 0x0081, group := 5, tree := 7, elemOff := 0, elems := BitVec.ofNat 17 elems,
                len := BitVec.ofNat 24 len, format := 0, member := member, poison := 0, op := BitVec.ofNat 8 op, status := 0, weight := 1, rsv := 0 }

/-- A Vetex command: opcode, tag and parameters. -/
def cmd (op tag : Nat) (ps : List Byte) : List Byte :=
  leBytes 2 op ++ [0, 0x30] ++ leBytes 2 tag ++ leBytes 2 ps.length ++ List.replicate 8 0 ++ ps

/-- The slot of the command with tag 4 that runs. -/
def slot4 (op : Nat) (ps : List Byte) : Slot := ⟨4, .running, cmd op 4 ps, 0, [], false, false, 0⟩

/-- The block in service with the command of tag 4 taken, and a change. -/
def taken (op : Nat) (ps : List Byte) (f : State → State) : State :=
  mk fun s => f { s with vtx := { s.vtx with slots := [slot4 op ps], nextOrder := 1 } }

/-- A binding entry of a live endpoint. -/
def bind0 (phys : Nat) : BitVec 64 := BitVec.ofNat 64 (2 ^ 45 + phys * 2 ^ 28)

/-- The junction, the analog path and the marshalling unit enabled, with logical IDs 3 and 4 bound to dies of this tile. -/
def served (s : State) : State :=
  let s := ((s.setFld F.JCT_CTRL.EN 1).setFld F.ASP_CTRL.EN 1).setFld F.MSH_CTRL.EN 1
  { s with msh := { s.msh with bind := [(3, bind0 0x0085), (4, bind0 0x0086)] } }

/-- The parameters of JCT_GROUP_OPEN: group 7 over the endpoints 3 and 4, 32 elements of FP32 into host memory. -/
def openParams : List Byte :=
  leBytes 2 7 ++ [0, 0] ++ leBytes 4 32 ++ leBytes 4 0 ++ leBytes 4 1 ++ [0] ++ List.replicate 17 0 ++ leBytes 2 2 ++
    List.replicate 20 0 ++ leBytes 2 3 ++ leBytes 2 4

/-- The parameters of ASP_GROUP_OPEN in a role: group 6 of two contributors. -/
def aspParams (role : Nat) (ids : List Byte) : List Byte :=
  leBytes 2 6 ++ [BitVec.ofNat 8 role, 2, 1, 1, 32, 0] ++ leBytes 4 2 ++ leBytes 4 64 ++ leBytes 8 0x2000 ++ leBytes 8 0x3000 ++
    leBytes 4 0 ++ leBytes 2 5 ++ leBytes 2 3 ++ ids

/-- The slot that `lineTo` puts on the lanes is the one that comes. -/
theorem slot_to {k : SleeveNo} {f : BitVec 2048} {s : State} (h : (s.slv .down k).spareState = 0 ∧ s.seam.dnSlot = 0) :
    s.slotOf k (lineTo k f) = f := by
  unfold State.slotOf lineTo
  simp only [h.1, h.2]
  exact Laws.recvLine_sendLine _ _ _ _ _

/-- A good flit that `lineTo` puts on the lanes comes. -/
theorem brings_of {kind : Nat} {k : SleeveNo} {p : BitVec 1920} {s : State} {f : BitVec 2048}
    (e : (s.slv .down k).spareState = 0 ∧ s.seam.dnSlot = 0)
    (h : s.functional = true ∧ s.seam.usable.getLsbD k.toNat = true ∧ s.granted k = false ∧ bits f 0 64 ≠ 0#64 ∧ kindOf f = kind ∧
      crcOk f = true ∧ payloadOf f = p) : Brings kind k (lineTo k f) p s := by
  unfold Brings
  rw [slot_to e]
  exact h

/-- A slot that `lineTo` puts on the lanes comes. -/
theorem comes_of {k : SleeveNo} {s : State} {f : BitVec 2048} (e : (s.slv .down k).spareState = 0 ∧ s.seam.dnSlot = 0)
    (h : s.functional = true ∧ s.seam.usable.getLsbD k.toNat = true ∧ s.granted k = false ∧ bits f 0 64 ≠ 0#64) :
    Comes k (lineTo k f) f s := by
  unfold Comes
  rw [slot_to e]
  exact ⟨h.1, h.2.1, h.2.2.1, rfl, h.2.2.2⟩

/-- The state of a next outcome. -/
def nextOf : Host.Outcome State Fault Refusal → Option State
  | .next t => some t
  | .fault _ => none
  | .refused _ => none

theorem settled_settle (s : State) : Settled (settle s) := ⟨rfl, rfl⟩
theorem reset_settled : Settled State.reset := ⟨rfl, rfl⟩

/-! ## Ill-formed operands are refused -/

theorem test_lane_72_refused : (Instr.lossOfSignal 72).wellFormed = false ∧ (Instr.lossOfSignal 71).wellFormed = true := by decide
theorem test_ffe_lane_refused : (Instr.ffeApply 127).wellFormed = false := by decide
theorem test_test_lane_9_refused : (Instr.prbsLock ⟨9, 0⟩).wellFormed = false ∧ (Instr.prbsLock ⟨8, 0⟩).wellFormed = true := by decide
theorem test_report_lane_refused (r : LaneReport) : (Instr.trainingDone [{ r with lane := 72 }]).wellFormed = false := by
  simp [Instr.wellFormed, laneOk]
theorem test_message_of_256_words_refused : (Instr.spdmMessage (List.replicate 256 0)).wellFormed = false := by decide +kernel
/-- A lane that the seam does not have stops the command under its own name. -/
theorem test_lane_72_faults : exec (.lossOfSignal 72) live = .fault (.noSuchLane 72) := rfl

/-! ## Worked examples of the spec -/

/-- The ASCII bytes of "123456789". -/
def nine : List Byte := [0x31, 0x32, 0x33, 0x34, 0x35, 0x36, 0x37, 0x38, 0x39]

-- 00_scope.md, "Worked example: a test engineer confirms"
theorem test_crc64 : crc64 nine = 0x6C40DF5F0B497347 := by decide +kernel
theorem test_crc32 : crc32 nine = 0xCBF43926 := by decide +kernel

-- 03, after R91: ratio 20 with sleeve 6 retired, ratio 15 with sleeve 2 retired
theorem test_width_masks :
    let s := mk fun s => { s with par := { s.par with ratio := 20 }, seam := { s.seam with retired := 0x40 } }
    let t := mk fun s => { s with par := { s.par with ratio := 15 }, seam := { s.seam with retired := 0x04 } }
    [s.maskFor 8, s.maskFor 6, t.maskFor 8, t.maskFor 4] = [0xBF, 0x3F, 0x3B, 0x1B] := by decide +kernel

-- 05, the replay example: 0 follows 4,093, and the difference is 3
theorem test_serial_wrap : serialLt (4093#12) 0 = true ∧ serialLt (0#12) 4093 = false ∧ (0#12 - 4093#12).toNat = 3 := by decide +kernel

-- 06, after R170: a read of 3,000 bytes at 0x0000_0200_0000_0F00 with SEG at 1,024, and the flits of its replies
theorem test_segments :
    (segments 1024 8 0x20000000F00 3000).map (·.2) = [256, 1024, 1024, 696] ∧
    (segments 1024 8 0x20000000F00 3000).map (fun x => flitsOf (32 + x.2)) = [2, 5, 5, 4] ∧ (3000 + 63) / 64 = 47 := by decide +kernel

-- 06, after R191: the Valiant route of die 657 to die 1,192 under SALT 0x3A71
theorem test_valiant :
    let s := mk fun s => { s with boot := { s.boot with phys := 657 } }
    let s := (s.setReg R.MNF_TILE_MASK 0xFFFF).setReg R.MNF_VIA_SITES 0xFF
    ((s.setReg (R.MNF_VIA_SITES + 4) 0).setReg (R.MNF_VIA_SITES + 8) 0).intermediate 1192 657 0x3A71 = some (14, 0) := by
  decide +kernel

/-- A synchronization set with one exchange sent at 8,000,000,000 ns, at 8,000,000,146 ns. -/
def syncing : State :=
  mk fun s => { s with rwt := { s.rwt with st := .locking, inSet := true, now := 8000000146, exch := [⟨5, 8000000000, none, false⟩] } }

/-- Its answer: t2, t3, ASYM of one unit, Q 1 and the echo. -/
def timeAnswer : BitVec 160 :=
  BitVec.ofNat 160 (8000000011 + 8000000131 * 2 ^ 64 + 1 * 2 ^ 128 + 1 * 2 ^ 144 + 5 * 2 ^ 152)

-- 07, after R201: the delay 13.0 ns and the offset 1.5 ns, in units of 0.5 ns; the block holds its count for 2 ns
theorem test_time_exchange :
    (nextOf (exec (.timeResp timeAnswer) syncing)).map (fun t => t.rwt.exch) = some [⟨5, 8000000000, some (26, 3, 1), false⟩] := by
  decide +kernel
theorem test_time_step : (beforeLock 3 syncing).rwt.hold = 2 ∧ (beforeLock 3 syncing).rwt.now = 8000000146 := by decide +kernel

/-- The accumulator of the worked example of 08, its three contributions in a given order. -/
def three (a b c : Nat × Nat) : BitVec 384 :=
  [a, b, c].foldl (fun acc x => accAdd acc (contribution x.1 x.2 127)) 0

-- 08, after R236: E4M3 0x5C, BF16 0xBE80 and FP16 0x3555 in two orders of arrival
theorem test_exact_sum :
    accSum (three (3, 0x5C) (2, 0xBE80) (1, 0x3555)) = 0x18155 * 2 ^ 148 ∧
    three (3, 0x5C) (2, 0xBE80) (1, 0x3555) = three (1, 0x3555) (3, 0x5C) (2, 0xBE80) := by decide +kernel
theorem test_bf16_out :
    (floatFmt 2).map (fun f => [outFloat f (0x18155 * 2 ^ 148) false 0, outFloat f (0x18155 * 2 ^ 148) true 0x9A3C71]) =
      some [(0x41C1, false), (0x41C1, false)] := by decide +kernel
theorem test_stochastic_threshold :
    (floatFmt 2).map (fun f => [outFloat f (0x18155 * 2 ^ 148) true 0x557FFF, outFloat f (0x18155 * 2 ^ 148) true 0x558000]) =
      some [(0x41C0, false), (0x41C1, false)] := by decide +kernel

-- 09, after R277: the sample 2,874 under G_REF 0.9844, O 2,051.5 and SCALE_EXP −7, and RESIDUAL 721
theorem test_analog_output :
    aspElem { adst with outFormat := 2, scaleExp := 0xF9, gRef := 9844 / 10000, total := 4103 / 2 } 2874 0 = leBytes 2 0x40D1 := by
  decide +kernel
theorem test_residual : rootUnits (7944 / 1000) = 721 := by decide +kernel

/-- The die of tile 3, site 40 with the beacons of the worked example of 10. -/
def caller : State :=
  mk fun s => { s with
    boot := { s.boot with phys := 424 }
    msh := { s.msh with beacons := [⟨false, 8, 180, 1000000, false⟩, ⟨false, 71, 95, 1000000, false⟩, ⟨true, 11, 20, 1000000, false⟩] } }

-- 10, after R296: the costs of the three holders at the reset weights, and with the beacon of site 71 stale
theorem test_holder_costs : [392, 455, 1413].map caller.holderCost = [424, 254, 552] := by decide +kernel
theorem test_stale_cost :
    (mk fun s => { s with boot := { s.boot with phys := 424 }, msh := { s.msh with beacons := [⟨false, 71, 95, 1000000, true⟩] } }).holderCost 455 = 574 := by decide +kernel

-- 16, after R427: the entry of a missed receive deadline
theorem test_fault_entry :
    fltBytes ⟨0x431, ⟨200000192, false, 0, 3, 5, 7, false, 1, false, 0x50, 5, 0, 0x5A17001500032E07⟩⟩ =
      [0xC0, 0xC2, 0xEB, 0x0B, 0, 0, 0, 0, 0x31, 0x04, 0, 0, 3, 5, 7, 4,
       0x50, 0, 5, 0, 0, 0, 0x07, 0x2E, 3, 0, 0x15, 0, 0x17, 0x5A, 0, 0] := by
  decide +kernel

/-- Rows with a write-1-to-clear bit, and causes with their counter, exist: the first two parts of CausesCount speak of something. -/
theorem witness_CausesCount_rows :
    (∃ r ∈ regRows, ∃ i < 32, r.w1c.getLsbD i = true) ∧ (∃ c ∈ causes, ∃ d ∈ causes, c.cnt = d.cnt) := by
  refine ⟨?_, C.PCM.CLK_FAULT, by decide +kernel, C.PCM.CLK_FAULT, by decide +kernel, rfl⟩
  have h : (regRows.any fun r => r.w1c.getLsbD 0) = true := by decide +kernel
  obtain ⟨r, m, b⟩ := List.any_eq_true.mp h
  exact ⟨r, m, 0, by decide, b⟩

/-! ## Witnesses: every statement's hypotheses can be met -/

theorem witness_StepRunsFrontCommand :
    (∃ (s : State) (c : Instr) (rest : List Instr), s.pending = c :: rest) :=
  ⟨mk fun s => { s with pending := [.faultLogIntake, .tapReset] }, .faultLogIntake, [.tapReset], by decide +kernel⟩

theorem witness_EmptyQueueTicks :
    (∃ (s : State), s.pending = [] ∧ s.up = false) ∧ (∃ (s : State), s.pending = [] ∧ s.up = true) ∧ (∃ (s : State),
      s.pending = [] ∧ s.up = true ∧ s.wrapped = true) ∧ (∃ (s : State), s.pending = [] ∧ s.up = true ∧ s.wrapped = false ∧
      s.ttb.st ≠ .running ∧ s.msh.release = none) :=
  ⟨⟨State.reset, by decide +kernel⟩, ⟨live, by decide +kernel⟩, ⟨mk fun s => { s with wrapped := true }, by decide +kernel⟩,
    ⟨live, by decide +kernel⟩⟩

theorem witness_EveryStepSettles :
    (∃ (s : State) (t : State), Settled s ∧ step s = .next t) :=
  ⟨mk fun s => { s with pending := [.faultLogIntake] },
    (match step (mk fun s => { s with pending := [.faultLogIntake] }) with | .next t => t | _ => (mk fun s => { s with pending := [.faultLogIntake] })),
    settled_settle _, rfl⟩

theorem witness_AoResetHoldsTheBlock :
    (∃ (c : Instr) (s : State) (t : State), exec c s = .next t ∧ s.up = false) :=
  ⟨.coldResetRelease, State.reset, (match exec (.coldResetRelease) (State.reset) with | .next t => t | _ => (State.reset)),
    rfl, by decide +kernel⟩

theorem witness_WrapperHoldsTheBlock :
    (∃ (c : Instr) (s : State) (t : State), Settled s ∧ exec c s = .next t ∧ s.wrapped = true ∧ c ≠ .coldReset ∧
      c ≠ .aoClockLoss) :=
  ⟨.testEnable 0x80000000, mk fun s => { s with wrapped := true },
    (match exec (.testEnable 0x80000000) (mk fun s => { s with wrapped := true }) with | .next t => t | _ => (mk fun s => { s with wrapped := true })),
    settled_settle _, rfl, by decide +kernel⟩

theorem witness_ColdResetsAndStarts :
    (∃ (s : State), s.pins.aoClk = true) ∧ (∃ (s : State), Settled s ∧ s.pins.aoRstN = false ∧ s.pins.aoClk = true) ∧
      (∃ (s : State), Settled s ∧ s.pins.aoRstN = true ∧ s.pins.aoClk = false) :=
  ⟨⟨live, by decide +kernel⟩, ⟨State.reset, reset_settled, by decide +kernel⟩,
    ⟨settle { State.reset with pins := ⟨true, false, false, 0, true⟩ }, settled_settle _, by decide +kernel⟩⟩

theorem witness_PortAndTestResets :
    (∃ (s : State), Settled s ∧ s.up = true) ∧ (∃ (via : WspSource) (wir : WrapInstr) (wsi : List Bool) (s : State),
      Settled s ∧ s.up = true) :=
  ⟨⟨live, settled_settle _, by decide +kernel⟩, ⟨.pins, .wsExtest, [true], live, settled_settle _, by decide +kernel⟩⟩

theorem witness_PlatformReset :
    (∃ (s : State), s.functional = true ∧ s.pins.platRstN = true ∧ s.lnk.st = .up) ∧ (∃ (s : State), s.functional = true ∧
      s.pins.platRstN = false ∧ s.boot.step = 9) :=
  ⟨⟨live, by decide +kernel⟩, ⟨mk fun s => { s with pins := { s.pins with platRstN := false } }, by decide +kernel⟩⟩

theorem witness_WakeTriggers :
    (∃ (port : PortId) (s : State), WakesNow s ∧ s.hasPort port = true) ∧ (∃ (s : State), WakesNow s ∧ s.pins.hostReq ≠ 1) ∧
      (∃ (data : Word) (s : State), WakesNow s ∧ bit data 4 = true ∧ bit data 5 = false) ∧ (∃ (s : State), WakesNow s) ∧
      (∃ (s : State), WakesNow (pathBoundary s) ∧ s.platLive = true ∧
      (pathBoundary s).reservedSoon &&& (pathBoundary s).permitted &&& ~~~(pathBoundary s).seam.usable ≠ 0) ∧ (∃ (s : State),
      WakesNow s ∧ s.flag F.PCM_CTRL.WAKE_AT_EN = true) ∧ (∃ (s : State) (u : State), WakesNow u ∧ s.platLive = true ∧
      s.sbx.ready = true ∧ s.effPolicy ≠ 1 ∧ s.loadHigh = some u) ∧ (∃ (v : BitVec 2) (s : State), Settled s ∧
      s.functional = true ∧ v ≠ 1) :=
  ⟨⟨7, slept fun s => s, by unfold WakesNow; decide +kernel, by decide +kernel⟩, ⟨slept fun s => s,
    by unfold WakesNow; decide +kernel, by decide +kernel⟩, ⟨0x10, slept fun s => s, by unfold WakesNow; decide +kernel,
    by decide +kernel⟩, ⟨slept fun s => s, by unfold WakesNow; decide +kernel⟩,
    ⟨slept fun s => { s with ttb := { s.ttb with st := .running, banks := Vector.replicate 2 (some { bnk with entries := [ent0] }), path := 15000, cycleG := 15000 }, rwt := { s.rwt with now := 15001 * 64 } },
    by unfold WakesNow; decide +kernel, by decide +kernel⟩, ⟨slept (·.setFld F.PCM_CTRL.WAKE_AT_EN 1),
    by unfold WakesNow; decide +kernel, by decide +kernel⟩,
    ⟨slept fun s => { s with lnk := { s.lnk with outq := s.lnk.outq.set 1 [of1] (by decide) } },
    ((slept fun s => { s with lnk := { s.lnk with outq := s.lnk.outq.set 1 [of1] (by decide) } }).loadHigh).getD (slept fun s => { s with lnk := { s.lnk with outq := s.lnk.outq.set 1 [of1] (by decide) } }),
    by unfold WakesNow; decide +kernel, by decide +kernel⟩, ⟨2, live, settled_settle _, by decide +kernel⟩⟩

theorem witness_WakeCompletes :
    (∃ (s : State), Settled s ∧ s.functional = true ∧ s.slp.lock = true ∧ s.pcm.st = .waking) ∧
      (∃ (msg : BitVec 64) (s : State), Settled s ∧ s.functional = true ∧ s.slp.lock = true ∧ s.pcm.st = .waking) ∧
      (∃ (s : State) (u : BitVec 32) (d : BitVec 32), s.functional = true ∧ s.pcm.st = .waking ∧ s.pcm.wakeAcked = true ∧
      s.pcm.wakeSlot = some (u, d) ∧ s.pins.platClkOk = true ∧ s.wakeMask ≠ 0 ∧ s.pcm.wakeSlow = false) :=
  ⟨⟨mk fun s => { s with pcm := { s.pcm with st := .waking, wakeTarget := 1 } }, settled_settle _, by decide +kernel⟩,
    ⟨0x2000000010, mk fun s => { s with pcm := { s.pcm with st := .waking, wakeTarget := 1 } }, settled_settle _,
    by decide +kernel⟩,
    ⟨mk fun s => { s with pcm := { s.pcm with st := .waking, wakeTarget := 1, wakeAcked := true, wakeSlot := some (7, 9) } },
    7, 9, by decide +kernel⟩⟩

theorem witness_SleepBegins :
    (∃ (data : Word) (s : State), SleepsNow s ∧ bit data 5 = true ∧ bit data 4 = false) ∧ (∃ (s : State), SleepsNow s ∧
      s.sbx.ready = true ∧ s.effPolicy = 0) ∧ (∃ (s : State), SleepsNow s ∧ s.sbx.ready = true ∧ s.effPolicy = 2 ∧
      s.lnk.siding = [] ∧ (∀ q ∈ s.lnk.outq.toList, q = [])) ∧ (∃ (s : State), s.functional = true ∧ s.asleep = true ∧
      s.pcm.wakeHeld = true ∧ s.slp.lock = true ∧ s.pcm.brown = false) ∧ (∃ (s : State), Settled s ∧ s.functional = true ∧
      s.pcm.st = .held ∧ s.canRetain = true ∧ s.tlr.rebuild = none ∧ s.pcm.wakeHeld = false) :=
  ⟨⟨0x20, live, by unfold SleepsNow; decide +kernel, by decide +kernel⟩, ⟨live, by unfold SleepsNow; decide +kernel,
    by decide +kernel⟩, ⟨mk (·.setFld F.PCM_CTRL.POLICY 2), by unfold SleepsNow; decide +kernel, by decide +kernel⟩,
    ⟨slept fun s => { s with pcm := { s.pcm with wakeHeld := true, wakeCause := 4 } }, by decide +kernel⟩,
    ⟨slept (·.setFld F.PCM_CTRL.RETAIN_EN 1), settled_settle _, by decide +kernel⟩⟩

theorem witness_PowerEvents :
    (∃ (s : State), s.platLive = true) ∧ (∃ (msg : BitVec 96) (s : State), s.functional = true ∧ s.slp.lock = true) ∧
      (∃ (msg : BitVec 64) (s : State), s.functional = true ∧ s.slp.lock = true) ∧ (∃ (s : State), s.functional = true ∧
      s.slp.lock = false ∧ s.lnk.st ≠ .grace ∧ s.pcm.wakeHeld = false) ∧ (∃ (s : State), Settled s ∧ s.functional = true ∧
      s.slp.lock = true) ∧ (∃ (blocks : List (BitVec 34)) (i : Nat) (s : State), Settled s ∧ s.functional = true ∧
      s.slp.lock = true ∧ 16 ≤ (((blocks.drop i).take 64).filter badHeader).length) ∧
      (∃ (blocks : List (BitVec 34)) (s : State), Settled s ∧ s.functional = true ∧ s.slp.lock = true ∧ s.slp.heads = [] ∧
      (blocks.filter badHeader).length < 16) ∧ (∃ (s : State), s.functional = true ∧ s.slp.lock = false ∧ s.asleep = true ∧
      s.lnk.st = .up) ∧ (∃ (count : BitVec 16) (s : State), Settled s ∧ s.functional = true ∧
      count.toNat = 1024 * s.par.ratio) ∧ (∃ (count : BitVec 16) (s : State), s.functional = true ∧ s.pins.platRstN = true ∧
      s.lnk.st = .up ∧ count.toNat ≠ 1024 * s.par.ratio) ∧ (∃ (domain : BitVec 3) (s : State), Settled s ∧
      s.functional = true ∧ 1 ≤ domain.toNat ∧ domain.toNat ≤ 5) :=
  ⟨⟨live, by decide +kernel⟩, ⟨0x50007, live, by decide +kernel⟩, ⟨3,
    mk fun s => { s with pcm := { s.pcm with brown := true } }, by decide +kernel⟩,
    ⟨starting 1 fun s => { s with slp := { s.slp with lock := false }, boot := { s.boot with reached := 0 } },
    by decide +kernel⟩, ⟨live, settled_settle _, by decide +kernel⟩, ⟨List.replicate 16 0, 0, live, settled_settle _,
    by decide +kernel⟩, ⟨[0x100000000, 0, 0x200000000], live, settled_settle _, by decide +kernel⟩,
    ⟨slept fun s => { s with slp := { s.slp with lock := false } }, by decide +kernel⟩, ⟨20480, live, settled_settle _,
    by decide +kernel⟩, ⟨20479, live, by decide +kernel⟩, ⟨5, live, settled_settle _, by decide +kernel⟩⟩

theorem witness_RegisterWriteIsPlain :
    (∃ (addr : BitVec 24) (data : Word) (s : State) (r : RegRow), Settled s ∧ PlainAddr addr.toNat ∧ s.functional = true ∧
      addr.toNat % 4 = 0 ∧ regRow addr.toNat = some r ∧ s.regOn addr.toNat = true ∧ isPairLo addr.toNat = false ∧
      isPairHi addr.toNat = false) ∧ (∃ (addr : BitVec 24) (data : Word) (s : State), s.functional = true ∧
      addr.toNat % 4 = 0 ∧ (regRow addr.toNat).isSome = true ∧ s.regOn addr.toNat = true) :=
  ⟨⟨BitVec.ofNat 24 R.SEAM_DET_CFG, 0xFFFFFFFF, live, ((regRow R.SEAM_DET_CFG).getD ⟨0,0,0,0,0,0,0⟩), settled_settle _,
    fun _ _ _ => ⟨rfl, rfl⟩, by decide +kernel⟩, ⟨BitVec.ofNat 24 R.SEAM_DET_CFG, 0xFFFFFFFF, live, by decide +kernel⟩⟩

theorem witness_EventsCountersAndFaultLog :
    (∃ (c : Cause) (addr : BitVec 24) (data : Word) (s : State), Settled s ∧ c ∈ causes ∧ addr.toNat = c.evt ∧
      s.functional = true ∧ s.regOn c.evt = true) ∧ (∃ (c : Cause) (addr : BitVec 24) (s : State), Settled s ∧ c ∈ causes ∧
      addr.toNat = c.cnt ∧ s.functional = true ∧ s.regOn c.cnt = true) ∧ (∃ (o : Occ) (s : State), Settled s ∧ s.up = true ∧
      s.flt.pend = [o] ∧ s.flt.intake = [] ∧ s.flt.lost = none ∧ s.merged o = none) ∧ (∃ (o : Occ) (s : State), s.up = true ∧
      s.flt.pend = [o] ∧ s.flt.intake.length = 64 ∧ s.flt.lost = none) ∧ (∃ (data : Word) (d : Nat) (s : State), Settled s ∧
      s.functional = true ∧ s.regOn R.FLT_RD = true ∧ d = (fld data 0 10 + 1024 - s.rdIdx) % 1024) :=
  ⟨⟨C.PCM.CLK_FAULT, BitVec.ofNat 24 (C.PCM.CLK_FAULT).evt, 0xFFFFFFFF, settle (raise C.PCM.CLK_FAULT 0 live),
    settled_settle _, by decide +kernel⟩, ⟨C.PCM.CLK_FAULT, BitVec.ofNat 24 (C.PCM.CLK_FAULT).cnt,
    settle (raise C.PCM.CLK_FAULT 0 live), settled_settle _, by decide +kernel⟩, ⟨⟨5, false, 3, 4, 0, 0, false, 1, true, 0, 0,
    1, 0⟩, mk fun s => { s with flt := { s.flt with pend := [⟨5, false, 3, 4, 0, 0, false, 1, true, 0, 0, 1, 0⟩] } },
    settled_settle _, by decide +kernel⟩, ⟨⟨5, false, 3, 4, 0, 0, false, 1, true, 0, 0, 1, 0⟩,
    mk fun s => { s with flt := { s.flt with pend := [⟨5, false, 3, 4, 0, 0, false, 1, true, 0, 0, 1, 0⟩], intake := List.replicate 64 ⟨5, false, 3, 4, 0, 0, false, 1, true, 0, 0, 1, 0⟩ } },
    by decide +kernel⟩, ⟨1, 1,
    mk fun s => { s with flt := { s.flt with ring := [⟨0, ⟨5, false, 3, 4, 0, 0, false, 1, true, 0, 0, 1, 0⟩⟩], seq := 1, unread := 1 } },
    settled_settle _, by decide +kernel⟩⟩

theorem witness_CausesCount :
    (∃ (c : Cause) (d : BitVec 80) (s : State), c ∈ causes) :=
  ⟨C.PCM.CLK_FAULT, 7, live, by decide +kernel⟩

theorem witness_ReservedAddresses :
    (∃ (addr : BitVec 24) (data : Word) (s : State), Settled s ∧ s.up = true ∧ addr.toNat % 4 = 0 ∧ regRow addr.toNat = none) ∧
      (∃ (addr : BitVec 24) (data : Word) (s : State), Settled s ∧ s.up = true ∧ addr.toNat % 4 ≠ 0) :=
  ⟨⟨0xFFFFFC, 5, live, settled_settle _, by decide +kernel⟩, ⟨1, 5, live, settled_settle _, by decide +kernel⟩⟩

theorem witness_OffDomainAccess :
    (∃ (addr : BitVec 24) (data : Word) (s : State), Settled s ∧ s.functional = true ∧ addr.toNat % 4 = 0 ∧
      (regRow addr.toNat).isSome = true ∧ s.regOn addr.toNat = false) :=
  ⟨BitVec.ofNat 24 R.MNF_CTRL, 5, slept fun s => { s with pcm := { s.pcm with st := .retained } }, settled_settle _,
    by decide +kernel⟩

theorem witness_PairsAndBoxWrites :
    (∃ (who : Requester) (addr : BitVec 24) (s : State), Settled s ∧ s.functional = true ∧ addr.toNat ∈ pairLos ∧
      s.regOn addr.toNat = true) ∧ (∃ (addr : BitVec 24) (s : State), Settled s ∧ s.functional = true ∧
      isPairHi addr.toNat = true ∧ s.regOn addr.toNat = true) ∧
      (∃ (who : Requester) (addr : BitVec 24) (data : Word) (s : State), Settled s ∧ PlainAddr addr.toNat ∧
      s.functional = true ∧ s.mayWrite who = true ∧ addr.toNat ∈ pairLos ∧ s.regOn addr.toNat = true) ∧
      (∃ (who : Requester) (addr : BitVec 24) (data : Word) (s : State) (rl : RegRow) (rh : RegRow), Settled s ∧
      PlainAddr addr.toNat ∧ s.functional = true ∧ s.mayWrite who = true ∧ isPairHi addr.toNat = true ∧
      s.regOn addr.toNat = true ∧ regRow (addr.toNat - 4) = some rl ∧ regRow addr.toNat = some rh) ∧
      (∃ (c : Instr) (x : Box) (addr : BitVec 24) (data : Word) (s : State), Settled s ∧ s.functional = true ∧
      ((s.sbx.held = false ∨ s.sbx.holder ≠ x)) ∧ ((c = .boxRegisterWrite x addr data ∨ (c = .pairLoWrite (.box x) addr data ∧
      isPairLo addr.toNat = true) ∨ (c = .pairHiWrite (.box x) addr data ∧ isPairHi addr.toNat = true)))) ∧
      (∃ (x : Box) (addr : BitVec 24) (data : Word) (s : State) (r : RegRow), Settled s ∧ PlainAddr addr.toNat ∧
      s.functional = true ∧ s.sbx.held = true ∧ s.sbx.holder = x ∧ addr.toNat % 4 = 0 ∧ regRow addr.toNat = some r ∧
      s.regOn addr.toNat = true ∧ isPairLo addr.toNat = false ∧ isPairHi addr.toNat = false) :=
  ⟨⟨.box .b, BitVec.ofNat 24 R.RWT_TIME_LO, live, settled_settle _, by decide +kernel⟩, ⟨BitVec.ofNat 24 (R.TTB_START_LO + 4),
    live, settled_settle _, by decide +kernel⟩, ⟨.port, BitVec.ofNat 24 R.TTB_START_LO, 7, live, settled_settle _,
    fun _ _ _ => ⟨rfl, rfl⟩, by decide +kernel⟩, ⟨.box .a, BitVec.ofNat 24 (R.TTB_START_LO + 4), 3,
    mk fun s => { s with holders := [(.box .a, R.TTB_START_LO, 7)] }, ((regRow R.TTB_START_LO).getD ⟨0,0,0,0,0,0,0⟩),
    ((regRow (R.TTB_START_LO + 4)).getD ⟨0,0,0,0,0,0,0⟩), settled_settle _, fun _ _ _ => ⟨rfl, rfl⟩, by decide +kernel⟩,
    ⟨.pairLoWrite (.box .b) (BitVec.ofNat 24 R.TTB_START_LO) 5, .b, BitVec.ofNat 24 R.TTB_START_LO, 5, live, settled_settle _,
    by decide +kernel⟩, ⟨.a, BitVec.ofNat 24 R.SEAM_DET_CFG, 0xFFFFFFFF, live, ((regRow R.SEAM_DET_CFG).getD ⟨0,0,0,0,0,0,0⟩),
    settled_settle _, fun _ _ _ => ⟨rfl, rfl⟩, by decide +kernel⟩⟩

theorem witness_HostRequestsTaken :
    (∃ (port : PortId) (cmd : BitVec 128) (beats : List Beat) (s : State), Settled s ∧ s.platLive = true ∧
      s.hasPort port = true ∧ s.portsReady = true ∧ (s.port port).reqs.length < 256 ∧
      (HostCmd.ofBits cmd).malformed beats.length = false ∧ s.linkOpen = true ∧ s.flag F.MSH_CTRL.EN = false) ∧
      (∃ (port : PortId) (cmd : BitVec 128) (beats : List Beat) (s : State), Settled s ∧ s.platLive = true ∧
      s.hasPort port = true ∧ s.portsReady = true ∧ (s.port port).reqs.length < 256 ∧
      (HostCmd.ofBits cmd).malformed beats.length = true) ∧
      (∃ (port : PortId) (cmd : BitVec 128) (beats : List Beat) (s : State), Settled s ∧ s.platLive = true ∧
      s.hasPort port = true ∧ s.portsReady = true ∧ (s.port port).reqs.length < 256 ∧
      (HostCmd.ofBits cmd).malformed beats.length = false ∧ s.linkOpen = false) ∧
      (∃ (port : PortId) (cmd : BitVec 128) (beats : List Beat) (s : State), Settled s ∧ s.platLive = true ∧
      s.hasPort port = true ∧ ((s.portsReady = false ∨ 256 ≤ (s.port port).reqs.length))) :=
  ⟨⟨2, (0x1000#64 ++ 0xFFFF#16 ++ 0x0000FF#24 ++ 5#16 ++ 1#8), [⟨0, 0⟩], mk (·.setFld F.MSH_CTRL.EN 0), settled_settle _,
    by decide +kernel⟩, ⟨2, (0x1000#64 ++ 0xFFFF#16 ++ 0x0000FF#24 ++ 5#16 ++ 9#8), [⟨0, 0⟩], live, settled_settle _,
    by decide +kernel⟩, ⟨2, (0x1000#64 ++ 0xFFFF#16 ++ 0x0000FF#24 ++ 5#16 ++ 1#8), [⟨0, 0⟩],
    mk fun s => { s with lnk := { s.lnk with st := .flushed } }, settled_settle _, by decide +kernel⟩, ⟨2, (0x1000#64 ++
    0xFFFF#16 ++ 0x0000FF#24 ++ 5#16 ++ 1#8), [⟨0, 0⟩], slept fun s => s, settled_settle _, by decide +kernel⟩⟩

theorem witness_ResponsesGo :
    (∃ (port : PortId) (s : State) (n : Nat) (i : Nat) (len : Nat), Settled s ∧ s.platLive = true ∧
      (s.port port).unadmitted = some (n, i, len) ∧ (s.port port).undelivered + len ≤ s.window port ∧
      s.paced port + len ≤ 61440) ∧ (∃ (port : PortId) (s : State) (n : Nat), Settled s ∧ s.platLive = true ∧
      ((∀ r ∈ (s.port port).reqs, r.opened = true → r.finished = true)) ∧ ((s.port port).beats = [] ∨ s.portsDrive = false) ∧
      firstOpen (s.port port).reqs [] = some n) ∧
      (∃ (port : PortId) (s : State) (tag : BitVec 16) (st : Byte) (rest : List (BitVec 16 × Byte)), Settled s ∧
      s.platLive = true ∧ s.portsDrive = true ∧ ((∀ r ∈ (s.port port).reqs, r.opened = true → r.finished = true)) ∧
      (s.port port).beats = (tag, st) :: rest) ∧
      (∃ (port : PortId) (s : State) (r : HostReq) (bs : List Byte) (poison : Bool) (front : Nat) (lo : Nat) (n : Nat),
      Settled s ∧ s.platLive = true ∧ s.portsDrive = true ∧
      (s.port port).reqs.find? (fun r => r.opened && !r.finished) = some r ∧
      front = (if r.sent = 0 then r.addr.toNat % 64 else 0) ∧ lo = 64 * r.sent - r.addr.toNat % 64 ∧
      n = min (64 - front) (r.len - lo) ∧ readBytes r lo n = some (bs, poison)) ∧ (∃ (port : PortId) (s : State), Settled s ∧
      s.platLive = true ∧ s.portsDrive = false) ∧ (∃ (port : PortId) (s : State), Settled s ∧ s.platLive = true ∧
      (s.port port).violation = false) ∧ (∃ (port : PortId) (s : State), Settled s ∧ s.platLive = true) :=
  ⟨⟨2, mk fun s => { s with ports := s.ports.set 2 { s.port 2 with reqs := [hreq id] } (by decide) }, 0, 0, 64,
    settled_settle _, by decide +kernel⟩, ⟨2,
    mk fun s => { s with ports := s.ports.set 2 { s.port 2 with reqs := [hreq fun x => { x with st := .ready, data := List.replicate 64 1, admitted := true }] } (by decide) },
    0, settled_settle _, by decide +kernel⟩, ⟨2,
    mk fun s => { s with ports := s.ports.set 2 { s.port 2 with beats := [(5, 1)] } (by decide) }, 5, 1, [], settled_settle _,
    by decide +kernel⟩, ⟨2,
    mk fun s => { s with ports := s.ports.set 2 { s.port 2 with reqs := [{ hreq (fun x => { x with st := .ready, data := List.replicate 64 1, admitted := true }) with opened := true }] } (by decide) },
    { hreq (fun x => { x with st := .ready, data := List.replicate 64 1, admitted := true }) with opened := true },
    List.replicate 64 1, false, 0, 0, 64, settled_settle _, by decide +kernel⟩, ⟨2, slept fun s => s, settled_settle _,
    by decide +kernel⟩, ⟨2, live, settled_settle _, by decide +kernel⟩, ⟨2,
    mk fun s => { s with ports := s.ports.set 2 { s.port 2 with violation := true } (by decide) }, settled_settle _,
    by decide +kernel⟩⟩

theorem witness_BlockRequests :
    (∃ (port : PortId) (s : State) (b : Breq) (rest : List Breq), Settled s ∧ s.platLive = true ∧ s.hasPort port = true ∧
      (s.port port).breqs = b :: rest ∧ (s.port port).outs.length < 4096 ∧ s.mustWait (s.port port) b = false ∧
      s.portsDrive = true) ∧ (∃ (port : PortId) (s : State) (b : Breq) (rest : List Breq), Settled s ∧ s.platLive = true ∧
      (s.port port).breqs = b :: rest ∧
      ((4096 ≤ (s.port port).outs.length ∨ s.mustWait (s.port port) b = true ∨ s.portsDrive = false))) ∧
      (∃ (port : PortId) (info : BitVec 24) (beats : List (BitVec 512)) (p : Bool) (s : State) (o : BreqOut),
      s.platLive = true ∧ s.hasPort port = true ∧ s.breqOut port (bits info 0 12) = some o ∧ o.dead = false) ∧
      (∃ (port : PortId) (info : BitVec 24) (beats : List (BitVec 512)) (p : Bool) (s : State) (o : BreqOut), Settled s ∧
      Quiet s ∧ s.platLive = true ∧ s.hasPort port = true ∧ s.breqOut port (bits info 0 12) = some o ∧
      ((o.dead = true ∨ o.req.purpose = .posted ∨ o.req.purpose = .t6Data))) ∧
      (∃ (port : PortId) (info : BitVec 24) (beats : List (BitVec 512)) (p : Bool) (s : State), Settled s ∧ s.platLive = true ∧
      s.hasPort port = true ∧ s.breqOut port (bits info 0 12) = none) ∧
      (∃ (port : PortId) (btag : BitVec 12) (s : State) (o : BreqOut), s.platLive = true ∧ s.breqOut port btag = some o ∧
      o.dead = false) ∧ (∃ (port : PortId) (btag : BitVec 12) (s : State) (o : BreqOut), Settled s ∧ Quiet s ∧
      s.platLive = true ∧ s.breqOut port btag = some o ∧ o.dead = false ∧
      ((o.req.purpose = .posted ∨ o.req.purpose = .t6Data))) ∧ (∃ (port : PortId) (btag : BitVec 12) (s : State) (o : BreqOut),
      Settled s ∧ s.platLive = true ∧ s.breqOut port btag = some o ∧ o.dead = true) :=
  ⟨⟨2, mk fun s => { s with ports := s.ports.set 2 { s.port 2 with breqs := [brq true .posted] } (by decide) },
    brq true .posted, [], settled_settle _, by decide +kernel⟩, ⟨2,
    slept fun s => { s with ports := s.ports.set 2 { s.port 2 with breqs := [brq false .posted] } (by decide) },
    brq false .posted, [], settled_settle _, by decide +kernel⟩, ⟨2, 3, [0], false,
    mk fun s => { s with ports := s.ports.set 2 { s.port 2 with outs := [⟨3, brq false .posted, false, mk0⟩] } (by decide) },
    ⟨3, brq false .posted, false, mk0⟩, by decide +kernel⟩, ⟨2, 3, [0], false,
    mk fun s => { s with ports := s.ports.set 2 { s.port 2 with outs := [⟨3, brq false .t6Data, false, mk0⟩] } (by decide) },
    ⟨3, brq false .t6Data, false, mk0⟩, settled_settle _, by unfold Quiet; decide +kernel, by decide +kernel⟩, ⟨2, 3, [0],
    false, live, settled_settle _, by decide +kernel⟩, ⟨2, 3,
    mk fun s => { s with ports := s.ports.set 2 { s.port 2 with outs := [⟨3, brq false .posted, false, mk0⟩] } (by decide) },
    ⟨3, brq false .posted, false, mk0⟩, by decide +kernel⟩, ⟨2, 3,
    mk fun s => { s with ports := s.ports.set 2 { s.port 2 with outs := [⟨3, brq false .posted, false, mk0⟩] } (by decide) },
    ⟨3, brq false .posted, false, mk0⟩, settled_settle _, by unfold Quiet; decide +kernel, by decide +kernel⟩, ⟨2, 3,
    mk fun s => { s with ports := s.ports.set 2 { s.port 2 with outs := [⟨3, brq false .posted, true, mk0⟩] } (by decide) },
    ⟨3, brq false .posted, true, mk0⟩, settled_settle _, by decide +kernel⟩⟩

theorem witness_TransactionsMove :
    (∃ (port : PortId) (s : State) (x : Txn) (d : Dest) (rest : List Txn) (n : Nat) (i : Nat) (r : Route) (u : State),
      routeTo d.phys s = (r, u) ∧ s.platLive = true ∧ s.msh.mig.st = .idle ∧ s.linkOpen = true ∧
      (s.port port).issue = x :: rest ∧ x.owner = .host port n i ∧ x.dest = some d ∧ ((opReads x.op = true →
      ((s.req port n).bind fun q => q.segs[i]?).map (·.admitted) = some true)) ∧ s.reachable d.phys = true ∧
      s.lnk.trackMask.getLsbD r.track = true ∧ s.room r.track = true ∧ ((x.tag = none → s.canAlloc (.port port) = true))) ∧
      (∃ (track : BitVec 3) (hdr : BitVec 256) (data : List Byte) (flits : Nat) (s : State), Settled s ∧ s.functional = true ∧
      badRequest s.own track (THdr.ofBits hdr) data flits = true) ∧
      (∃ (track : BitVec 3) (hdr : BitVec 256) (data : List Byte) (flits : Nat) (s : State), Settled s ∧ s.functional = true ∧
      badRequest s.own track (THdr.ofBits hdr) data flits = false ∧ (THdr.ofBits hdr).dest ≠ s.own) ∧
      (∃ (track : BitVec 3) (hdr : BitVec 256) (data : List Byte) (flits : Nat) (s : State) (h : THdr) (st : Byte), Quiet s ∧
      h = THdr.ofBits hdr ∧ s.functional = true ∧ badRequest s.own track h data flits = false ∧ h.dest = s.own ∧ h.fwd = 0 ∧
      s.canAlloc .served = true ∧ s.linkOpen = true ∧ s.lnk.trackMask.getLsbD 2 = true ∧ s.room 2 = true ∧
      (((h.gen ≠ bGen (s.bindOf h.ldest) ∧ st = 0x08) ∨ (h.gen = bGen (s.bindOf h.ldest) ∧ s.boundTo h.ldest = false ∧
      st = 0x06)))) ∧ (∃ (track : BitVec 3) (hdr : BitVec 256) (data : List Byte) (flits : Nat) (s : State) (h : THdr),
      Quiet s ∧ h = THdr.ofBits hdr ∧ s.functional = true ∧ badRequest s.own track h data flits = false ∧ h.dest = s.own ∧
      h.fwd = 0 ∧ ((h.op = 0x01 ∨ h.op = 0x02)) ∧ s.canAlloc .served = true ∧ h.gen = bGen (s.bindOf h.ldest) ∧
      s.boundTo h.ldest = true ∧ (∀ r ∈ s.localRecs h.addr (h.len.toNat + 1), s.candidate r = false) ∧ ((h.op = 0x01 →
      s.assembling + (h.len.toNat + 1) ≤ 65536))) ∧ (∃ (s : State) (p : RxPacket) (ps : List RxPacket), Settled s ∧
      s.functional = true ∧ s.linkOpen = true ∧ s.lnk.trackMask.getLsbD 4 = true ∧ s.mnf.fwd = p :: ps ∧ s.room 4 = true) :=
  ⟨⟨2,
    mk fun s => { s with ports := s.ports.set 2 { s.port 2 with reqs := [hreq fun x => { x with admitted := true }], issue := [{ owner := .host 2 0 0, op := 1, dest := some { phys := 0x0085, ldest := 3, gen := 0, cver := 0, pool := 0, addr := 0x2000 }, len := 64, data := [], attempt := 0, tag := none, admitted := true, avoid := none }] } (by decide) },
    { owner := .host 2 0 0, op := 1, dest := some { phys := 0x0085, ldest := 3, gen := 0, cver := 0, pool := 0, addr := 0x2000 }, len := 64, data := [], attempt := 0, tag := none, admitted := true, avoid := none },
    { phys := 0x0085, ldest := 3, gen := 0, cver := 0, pool := 0, addr := 0x2000 }, [], 0, 0,
    (routeTo 0x0085 (mk fun s => { s with ports := s.ports.set 2 { s.port 2 with reqs := [hreq fun x => { x with admitted := true }], issue := [{ owner := .host 2 0 0, op := 1, dest := some { phys := 0x0085, ldest := 3, gen := 0, cver := 0, pool := 0, addr := 0x2000 }, len := 64, data := [], attempt := 0, tag := none, admitted := true, avoid := none }] } (by decide) })).1,
    (routeTo 0x0085 (mk fun s => { s with ports := s.ports.set 2 { s.port 2 with reqs := [hreq fun x => { x with admitted := true }], issue := [{ owner := .host 2 0 0, op := 1, dest := some { phys := 0x0085, ldest := 3, gen := 0, cver := 0, pool := 0, addr := 0x2000 }, len := 64, data := [], attempt := 0, tag := none, admitted := true, avoid := none }] } (by decide) })).2,
    rfl, by decide +kernel⟩, ⟨1,
    (THdr.toBits { addr := 0x2000, cver := 0, gen := 0, ldest := 3, tag := 6, src := 0x0081, dest := 0x0085, via := 0, len := 63, pool := 0, attempt := 0, fwd := 0, status := 0, op := 9, poison := 0, vsite := 0, rsv := 0 }),
    [], 1, live, settled_settle _, by decide +kernel⟩, ⟨3,
    (THdr.toBits { addr := 0x2000, cver := 0, gen := 0, ldest := 3, tag := 6, src := 0x0081, dest := 0x0085, via := 1, len := 63, pool := 0, attempt := 0, fwd := 0, status := 0, op := 1, poison := 0, vsite := 1, rsv := 0 }),
    [], 1, live, settled_settle _, by decide +kernel⟩, ⟨1,
    (THdr.toBits { addr := 0x2000, cver := 0, gen := 0, ldest := 3, tag := 6, src := 0x0085, dest := 0x0081, via := 0, len := 63, pool := 0, attempt := 0, fwd := 0, status := 0, op := 1, poison := 0, vsite := 0, rsv := 0 }),
    [], 1, live,
    THdr.ofBits ((THdr.toBits { addr := 0x2000, cver := 0, gen := 0, ldest := 3, tag := 6, src := 0x0085, dest := 0x0081, via := 0, len := 63, pool := 0, attempt := 0, fwd := 0, status := 0, op := 1, poison := 0, vsite := 0, rsv := 0 })),
    6, by unfold Quiet; decide +kernel, rfl, by decide +kernel⟩, ⟨1,
    (THdr.toBits { addr := 0x2000, cver := 0, gen := 0, ldest := 3, tag := 6, src := 0x0085, dest := 0x0081, via := 0, len := 63, pool := 0, attempt := 0, fwd := 0, status := 0, op := 1, poison := 0, vsite := 0, rsv := 0 }),
    [], 1, mk fun s => { s with msh := { s.msh with bind := [(3, bind0 0x0081)] } },
    THdr.ofBits ((THdr.toBits { addr := 0x2000, cver := 0, gen := 0, ldest := 3, tag := 6, src := 0x0085, dest := 0x0081, via := 0, len := 63, pool := 0, attempt := 0, fwd := 0, status := 0, op := 1, poison := 0, vsite := 0, rsv := 0 })),
    by unfold Quiet; decide +kernel, rfl, by decide +kernel⟩,
    ⟨mk fun s => { s with mnf := { s.mnf with fwd := [⟨3, (THdr.toBits { addr := 0x2000, cver := 0, gen := 0, ldest := 3, tag := 6, src := 0x0081, dest := 0x0085, via := 1, len := 63, pool := 0, attempt := 0, fwd := 0, status := 0, op := 1, poison := 0, vsite := 1, rsv := 0 }), [], []⟩] } },
    ⟨3,
    (THdr.toBits { addr := 0x2000, cver := 0, gen := 0, ldest := 3, tag := 6, src := 0x0081, dest := 0x0085, via := 1, len := 63, pool := 0, attempt := 0, fwd := 0, status := 0, op := 1, poison := 0, vsite := 1, rsv := 0 }),
    [], []⟩, [], settled_settle _, by decide +kernel⟩⟩

theorem witness_EntriesEnd :
    (∃ (hdr : BitVec 256) (data : List Byte) (flits : Nat) (s : State), Settled s ∧ s.functional = true ∧
      (THdr.ofBits hdr).op = 0x82 ∧ (THdr.ofBits hdr).rsv = 0 ∧ data = [] ∧ flits = 1 ∧
      cellsGet (THdr.ofBits hdr).tag.toNat s.mnf.entries = none) ∧
      (∃ (hdr : BitVec 256) (s : State) (o : Orig) (port : PortId) (n : Nat) (i : Nat), Quiet s ∧ s.functional = true ∧
      (THdr.ofBits hdr).op = 0x82 ∧ (THdr.ofBits hdr).rsv = 0 ∧ (THdr.ofBits hdr).status = 0 ∧ (THdr.ofBits hdr).src = s.own ∧
      cellsGet (THdr.ofBits hdr).tag.toNat s.mnf.entries = some (.orig o) ∧ o.owner = .host port n i ∧ o.op = 0x02 ∧
      o.quarantined = false ∧ o.withdrawn = false ∧ s.queuedAgain (THdr.ofBits hdr).tag.toNat = false ∧
      (THdr.ofBits hdr).dest = o.dest.phys ∧ (THdr.ofBits hdr).attempt.toNat = o.attempt) ∧
      (∃ (s : State) (tag : Nat) (o : Orig) (port : PortId) (n : Nat) (i : Nat), Quiet s ∧ s.functional = true ∧
      s.mnf.entries = [(tag, .orig o)] ∧ o.owner = .host port n i ∧ o.op = 0x02 ∧ o.quarantined = false ∧ 3 ≤ o.sweeps ∧
      s.queuedAgain tag = false) ∧ (∃ (s : State) (tag : Nat) (o : Orig) (port : PortId) (n : Nat) (i : Nat), Quiet s ∧
      s.functional = true ∧ s.mnf.entries = [(tag, .orig o)] ∧ o.owner = .host port n i ∧ o.quarantined = false ∧
      o.withdrawn = false ∧ 3 ≤ o.sweeps ∧ s.queuedAgain tag = false ∧ s.retries o port 0x02 = true ∧
      s.flag F.MSH_CTRL.EN = false) ∧ (∃ (s : State) (tag : Nat) (o : Orig), Quiet s ∧ s.functional = true ∧
      s.mnf.entries = [(tag, .orig o)] ∧ ((o.quarantined = true ∨ o.sweeps < 3)) ∧ s.queuedAgain tag = false) ∧
      (∃ (tag : BitVec 18) (s : State) (o : Orig), Quiet s ∧ s.functional = true ∧
      cellsGet tag.toNat s.mnf.entries = some (.orig o) ∧ o.quarantined = true ∧ 4 ≤ o.sweeps) ∧
      (∃ (tag : BitVec 18) (s : State) (o : Orig), Settled s ∧ s.functional = true ∧
      cellsGet tag.toNat s.mnf.entries = some (.orig o) ∧ ((o.quarantined = false ∨ o.sweeps < 4))) :=
  ⟨⟨(THdr.toBits { addr := 0x2000, cver := 0, gen := 0, ldest := 3, tag := 6, src := 0x0081, dest := 0x0085, via := 0, len := 63, pool := 0, attempt := 0, fwd := 0, status := 0, op := 130, poison := 0, vsite := 0, rsv := 0 }),
    [], 1, live, settled_settle _, by decide +kernel⟩,
    ⟨(THdr.toBits { addr := 0x2000, cver := 0, gen := 0, ldest := 3, tag := 6, src := 0x0081, dest := 0x0085, via := 0, len := 63, pool := 0, attempt := 0, fwd := 0, status := 0, op := 130, poison := 0, vsite := 0, rsv := 0 }),
    mk fun s => { s with mnf := { s.mnf with entries := [(6, .orig ⟨.host 2 0 0, 2, ⟨0x0085, 3, 0, 0, 0, 0x2000⟩, 64, 0, 0, false, false, false⟩)] } },
    ⟨.host 2 0 0, 2, ⟨0x0085, 3, 0, 0, 0, 0x2000⟩, 64, 0, 0, false, false, false⟩, 2, 0, 0, by unfold Quiet; decide +kernel,
    by decide +kernel, by decide +kernel⟩,
    ⟨mk fun s => { s with mnf := { s.mnf with entries := [(6, .orig ⟨.host 2 0 0, 2, ⟨0x0085, 3, 0, 0, 0, 0x2000⟩, 64, 0, 3, false, false, false⟩)] } },
    6, ⟨.host 2 0 0, 2, ⟨0x0085, 3, 0, 0, 0, 0x2000⟩, 64, 0, 3, false, false, false⟩, 2, 0, 0, by unfold Quiet; decide +kernel,
    by decide +kernel⟩,
    ⟨mk fun s => { s.setFld F.MSH_CTRL.EN 0 with mnf := { s.mnf with entries := [(6, .orig { owner := .host 2 0 0, op := 1, dest := { phys := 0x0085, ldest := 3, gen := 0, cver := 0, pool := 0, addr := 0x2000 }, len := 64, attempt := 0, sweeps := 3, quarantined := false, withdrawn := false, valiant := false })] }, ports := s.ports.set 2 { s.port 2 with reqs := [hreq fun x => { x with st := .sent, admitted := true }] } (by decide) },
    6,
    { owner := .host 2 0 0, op := 1, dest := { phys := 0x0085, ldest := 3, gen := 0, cver := 0, pool := 0, addr := 0x2000 }, len := 64, attempt := 0, sweeps := 3, quarantined := false, withdrawn := false, valiant := false },
    2, 0, 0, by unfold Quiet; decide +kernel, by decide +kernel⟩,
    ⟨mk fun s => { s with mnf := { s.mnf with entries := [(6, .orig { owner := .host 2 0 0, op := 1, dest := { phys := 0x0085, ldest := 3, gen := 0, cver := 0, pool := 0, addr := 0x2000 }, len := 64, attempt := 0, sweeps := 3, quarantined := true, withdrawn := false, valiant := false })] } },
    6,
    { owner := .host 2 0 0, op := 1, dest := { phys := 0x0085, ldest := 3, gen := 0, cver := 0, pool := 0, addr := 0x2000 }, len := 64, attempt := 0, sweeps := 3, quarantined := true, withdrawn := false, valiant := false },
    by unfold Quiet; decide +kernel, by decide +kernel⟩, ⟨6,
    mk fun s => { s with mnf := { s.mnf with entries := [(6, .orig { owner := .host 2 0 0, op := 1, dest := { phys := 0x0085, ldest := 3, gen := 0, cver := 0, pool := 0, addr := 0x2000 }, len := 64, attempt := 0, sweeps := 4, quarantined := true, withdrawn := false, valiant := false })] } },
    { owner := .host 2 0 0, op := 1, dest := { phys := 0x0085, ldest := 3, gen := 0, cver := 0, pool := 0, addr := 0x2000 }, len := 64, attempt := 0, sweeps := 4, quarantined := true, withdrawn := false, valiant := false },
    by unfold Quiet; decide +kernel, by decide +kernel⟩, ⟨6,
    mk fun s => { s with mnf := { s.mnf with entries := [(6, .orig { owner := .host 2 0 0, op := 1, dest := { phys := 0x0085, ldest := 3, gen := 0, cver := 0, pool := 0, addr := 0x2000 }, len := 64, attempt := 0, sweeps := 3, quarantined := true, withdrawn := false, valiant := false })] } },
    { owner := .host 2 0 0, op := 1, dest := { phys := 0x0085, ldest := 3, gen := 0, cver := 0, pool := 0, addr := 0x2000 }, len := 64, attempt := 0, sweeps := 3, quarantined := true, withdrawn := false, valiant := false },
    settled_settle _, by decide +kernel⟩⟩

theorem witness_LanesFail :
    (∃ (lane : LaneNo) (s : State) (c : Instr),
      ((c = .lossOfSignal lane ∨ c = .phaseTrackerLimit lane ∨ c = .stuckLevels lane)) ∧ lane.toNat < 72 ∧
      s.functional = true ∧ s.listens (slvOf lane) = true ∧ (s.slv .down (slvOf lane)).failed.getLsbD (placeOf lane) = false ∧
      s.seam.retired.getLsbD (slvOf lane).toNat = false) ∧ (∃ (lane : LaneNo) (s : State), 72 ≤ lane.toNat) ∧
      (∃ (k : SleeveNo) (s : State), s.functional = true ∧ s.listens k = true ∧ (s.slv .down k).clkFail = false ∧
      s.seam.retired.getLsbD k.toNat = false) :=
  ⟨⟨71, live, .stuckLevels 71, by decide +kernel⟩, ⟨72, live, by decide +kernel⟩, ⟨7, live, by decide +kernel⟩⟩

set_option maxRecDepth 100000 in
theorem witness_StationRequestsAnswered :
    (∃ (slv : SleeveNo) (line : BitVec 2304) (p : BitVec 1920) (ans : BitVec 1920) (c : SeamCtl) (v : Slv) (m : Bool) (s : State),
      Ctl slv line p c s ∧ Settled s ∧ (∀ q, s.seam.answered ≠ some (0x01, c.xid, q)) ∧ c.malformed = false ∧ c.type = 0x01 ∧
      v = s.slv .up c.sleeve ∧ m = s.mendable.getLsbD c.sleeve.toNat ∧ (((m = false ∧ ans = nakFlit c.xid 0x02) ∨ (m = true ∧
      c.reason = 0 ∧ s.flag F.SEAM_CTRL.DARN_EN = false ∧ ans = nakFlit c.xid 0x07) ∨ (m = true ∧ (c.reason = 0 →
      s.flag F.SEAM_CTRL.DARN_EN = true) ∧ ((c.reason = 0 ∧ (v.spareState = 0 ∨ v.spareState = 2)) ∨ (c.reason = 1 ∧
      v.spareState = 0) ∨ (c.reason = 2 ∧ v.spareState = 2 ∧ v.spareLane = c.lane)) ∧
      ans = ctlFlit 0x02 c.xid c.sleeve c.lane c.reason 0 0 s.switchAfter) ∨ (m = true ∧ (c.reason = 0 →
      s.flag F.SEAM_CTRL.DARN_EN = true) ∧ ¬((c.reason = 0 ∧ (v.spareState = 0 ∨ v.spareState = 2)) ∨ (c.reason = 1 ∧
      v.spareState = 0) ∨ (c.reason = 2 ∧ v.spareState = 2 ∧ v.spareLane = c.lane)) ∧ ans = nakFlit c.xid 0x06)))) ∧
      (∃ (slv : SleeveNo) (line : BitVec 2304) (p : BitVec 1920) (ans : BitVec 1920) (c : SeamCtl) (s : State),
      Ctl slv line p c s ∧ Settled s ∧ (∀ q, s.seam.answered ≠ some (0x03, c.xid, q)) ∧ c.malformed = false ∧ c.type = 0x03 ∧
      ans = (if s.flag F.SEAM_CTRL.RETIRE_EN = false then nakFlit c.xid 0x07 else if s.seam.retired.getLsbD c.sleeve.toNat then nakFlit c.xid 0x02 else ctlFlit 0x04 c.xid c.sleeve 0 0 0 0 s.switchAfter)) ∧
      (∃ (slv : SleeveNo) (line : BitVec 2304) (p : BitVec 1920) (c : SeamCtl) (s : State), Ctl slv line p c s ∧ Settled s ∧
      (∀ q, s.seam.answered ≠ some (0x05, c.xid, q)) ∧ c.malformed = false ∧ c.type = 0x05 ∧ s.seam.width = none) ∧
      (∃ (slv : SleeveNo) (line : BitVec 2304) (p : BitVec 1920) (q : BitVec 1920) (c : SeamCtl) (i : Instr) (s : State),
      Ctl slv line p c s ∧ Settled s ∧ c.malformed = false ∧ (((i = .substReq ⟨slv, line⟩ ∧
      c.type = 0x01) ∨ (i = .retireReq ⟨slv, line⟩ ∧ c.type = 0x03) ∨ (i = .widthReq ⟨slv, line⟩ ∧ c.type = 0x05))) ∧
      s.seam.answered = some (c.type, c.xid, q)) ∧
      (∃ (slv : SleeveNo) (line : BitVec 2304) (p : BitVec 1920) (i : Instr) (s : State), Brings 4 slv line p s ∧ Settled s ∧
      ((i = .substReq ⟨slv, line⟩ ∨ i = .retireReq ⟨slv, line⟩ ∨ i = .widthReq ⟨slv, line⟩ ∨ i = .substAck ⟨slv,
      line⟩ ∨ i = .retireAck ⟨slv, line⟩ ∨ i = .widthAck ⟨slv, line⟩ ∨ i = .widthCfm ⟨slv, line⟩ ∨ i = .seamNak ⟨slv, line⟩)) ∧
      s.seam.ctlSeen = some (s.seam.dnSlot, p)) ∧
      (∃ (slv : SleeveNo) (line : BitVec 2304) (p : BitVec 1920) (c : SeamCtl) (i : Instr) (s : State), Ctl slv line p c s ∧
      Settled s ∧ ((i = .substReq ⟨slv, line⟩ ∨ i = .retireReq ⟨slv, line⟩ ∨ i = .widthReq ⟨slv, line⟩ ∨ i = .substAck ⟨slv,
      line⟩ ∨ i = .retireAck ⟨slv, line⟩ ∨ i = .widthAck ⟨slv, line⟩ ∨ i = .widthCfm ⟨slv, line⟩ ∨ i = .seamNak ⟨slv, line⟩)) ∧
      c.malformed = true) :=
  ⟨⟨0, flitTo 0 4 (ctl 1 9 7 0 0 3 0), ctl 1 9 7 0 0 3 0, ctlFlit 0x02 9 7 3 0 0 0 live.switchAfter,
    SeamCtl.ofBits (ctl 1 9 7 0 0 3 0), live.slv .up 7, true, mk (·.setFld F.SEAM_CTRL.DARN_EN 1),
    ⟨brings_of (f := sealFlit (DHdr.toBits { dh0 with kind := 4 }) (ctl 1 9 7 0 0 3 0)) (by decide +kernel) (by decide +kernel),
    by decide +kernel⟩, settled_settle _, (fun q h => by cases h), by decide +kernel⟩, ⟨0, flitTo 0 4 (ctl 3 9 7 0 0 0 0),
    ctl 3 9 7 0 0 0 0, ctlFlit 0x04 9 7 0 0 0 0 live.switchAfter, SeamCtl.ofBits (ctl 3 9 7 0 0 0 0),
    mk (·.setFld F.SEAM_CTRL.RETIRE_EN 1),
    ⟨brings_of (f := sealFlit (DHdr.toBits { dh0 with kind := 4 }) (ctl 3 9 7 0 0 0 0)) (by decide +kernel) (by decide +kernel),
    by decide +kernel⟩, settled_settle _, (fun q h => by cases h), by decide +kernel⟩, ⟨0, flitTo 0 4 (ctl 5 9 0 0x0F 0 0 0),
    ctl 5 9 0 0x0F 0 0 0, SeamCtl.ofBits (ctl 5 9 0 0x0F 0 0 0), live,
    ⟨brings_of (f := sealFlit (DHdr.toBits { dh0 with kind := 4 }) (ctl 5 9 0 0x0F 0 0 0)) (by decide +kernel) (by decide +kernel),
    by decide +kernel⟩, settled_settle _, (fun q h => by cases h), by decide +kernel⟩, ⟨0, flitTo 0 4 (ctl 3 9 7 0 0 0 0),
    ctl 3 9 7 0 0 0 0, 5, SeamCtl.ofBits (ctl 3 9 7 0 0 0 0), .retireReq ⟨0, flitTo 0 4 (ctl 3 9 7 0 0 0 0)⟩,
    mk fun s => { s with seam := { s.seam with answered := some (3, 9, 5) } },
    ⟨brings_of (f := sealFlit (DHdr.toBits { dh0 with kind := 4 }) (ctl 3 9 7 0 0 0 0)) (by decide +kernel) (by decide +kernel),
    by decide +kernel⟩, settled_settle _, by decide +kernel⟩, ⟨0, flitTo 0 4 (ctl 3 9 7 0 0 0 0), ctl 3 9 7 0 0 0 0,
    .retireReq ⟨0, flitTo 0 4 (ctl 3 9 7 0 0 0 0)⟩,
    mk fun s => { s with seam := { s.seam with ctlSeen := some (0, ctl 3 9 7 0 0 0 0) } },
    brings_of (f := sealFlit (DHdr.toBits { dh0 with kind := 4 }) (ctl 3 9 7 0 0 0 0)) (by decide +kernel) (by decide +kernel),
    settled_settle _, by decide +kernel⟩, ⟨0, flitTo 0 4 (ctl 9 9 7 0 0 0 0), ctl 9 9 7 0 0 0 0,
    SeamCtl.ofBits (ctl 9 9 7 0 0 0 0), .seamNak ⟨0, flitTo 0 4 (ctl 9 9 7 0 0 0 0)⟩, live,
    ⟨brings_of (f := sealFlit (DHdr.toBits { dh0 with kind := 4 }) (ctl 9 9 7 0 0 0 0)) (by decide +kernel) (by decide +kernel),
    by decide +kernel⟩, settled_settle _, by decide +kernel⟩⟩

set_option maxRecDepth 100000 in
theorem witness_StationAnswersFixSlots :
    (∃ (slv : SleeveNo) (line : BitVec 2304) (p : BitVec 1920) (c : SeamCtl) (s : State) (x : Exch) (k : SleeveNo) (lane : BitVec 4) (reason : BitVec 2),
      Ctl slv line p c s ∧ Settled s ∧ c.malformed = false ∧ c.type = 0x02 ∧ s.seam.mine = some x ∧ x.xid = c.xid ∧
      x.kind = .subst k lane reason) ∧
      (∃ (slv : SleeveNo) (line : BitVec 2304) (p : BitVec 1920) (c : SeamCtl) (s : State) (x : Exch) (k : SleeveNo),
      Ctl slv line p c s ∧ Settled s ∧ c.malformed = false ∧ c.type = 0x04 ∧ s.seam.mine = some x ∧ x.xid = c.xid ∧
      x.kind = .retire k) ∧
      (∃ (slv : SleeveNo) (line : BitVec 2304) (p : BitVec 1920) (c : SeamCtl) (s : State) (x : Exch) (m : Byte) (w : WidthChange),
      Ctl slv line p c s ∧ Settled s ∧ c.malformed = false ∧ c.type = 0x06 ∧ s.seam.mine = some x ∧ x.xid = c.xid ∧
      x.kind = .width m ∧ s.seam.width = some w ∧ w.mine = true) ∧
      (∃ (slv : SleeveNo) (line : BitVec 2304) (p : BitVec 1920) (c : SeamCtl) (s : State) (w : WidthChange),
      Ctl slv line p c s ∧ Settled s ∧ c.malformed = false ∧ c.type = 0x07 ∧ s.seam.width = some w ∧ w.mine = false ∧
      w.acked = true ∧ w.xid = c.xid) :=
  ⟨⟨0, flitTo 0 4 (ctl 2 9 7 0 0 3 0), ctl 2 9 7 0 0 3 0, SeamCtl.ofBits (ctl 2 9 7 0 0 3 0),
    mk fun s => { s with seam := { s.seam with mine := some (ex0 (.subst 7 3 0)) } }, ex0 (.subst 7 3 0), 7, 3, 0,
    ⟨brings_of (f := sealFlit (DHdr.toBits { dh0 with kind := 4 }) (ctl 2 9 7 0 0 3 0)) (by decide +kernel) (by decide +kernel),
    by decide +kernel⟩, settled_settle _, by decide +kernel⟩, ⟨0, flitTo 0 4 (ctl 4 9 7 0 0 0 0), ctl 4 9 7 0 0 0 0,
    SeamCtl.ofBits (ctl 4 9 7 0 0 0 0), mk fun s => { s with seam := { s.seam with mine := some (ex0 (.retire 7)) } },
    ex0 (.retire 7), 7,
    ⟨brings_of (f := sealFlit (DHdr.toBits { dh0 with kind := 4 }) (ctl 4 9 7 0 0 0 0)) (by decide +kernel) (by decide +kernel),
    by decide +kernel⟩, settled_settle _, by decide +kernel⟩, ⟨0, flitTo 0 4 (ctl 6 9 0 1 0 0 0), ctl 6 9 0 1 0 0 0,
    SeamCtl.ofBits (ctl 6 9 0 1 0 0 0),
    mk fun s => { s with seam := { s.seam with mine := some (ex0 (.width 1)), width := some wch } }, ex0 (.width 1), 1, wch,
    ⟨brings_of (f := sealFlit (DHdr.toBits { dh0 with kind := 4 }) (ctl 6 9 0 1 0 0 0)) (by decide +kernel) (by decide +kernel),
    by decide +kernel⟩, settled_settle _, by decide +kernel⟩, ⟨0, flitTo 0 4 (ctl 7 9 0 1 0 0 0), ctl 7 9 0 1 0 0 0,
    SeamCtl.ofBits (ctl 7 9 0 1 0 0 0),
    mk fun s => { s with seam := { s.seam with width := some { wch with mine := false, acked := true, upSlot := some 5 } } },
    { wch with mine := false, acked := true, upSlot := some 5 },
    ⟨brings_of (f := sealFlit (DHdr.toBits { dh0 with kind := 4 }) (ctl 7 9 0 1 0 0 0)) (by decide +kernel) (by decide +kernel),
    by decide +kernel⟩, settled_settle _, by decide +kernel⟩⟩

set_option maxRecDepth 100000 in
theorem witness_ExchangesTakeEffect :
    (∃ (slv : SleeveNo) (line : BitVec 2304) (p : BitVec 1920) (c : SeamCtl) (s : State) (x : Exch) (k : SleeveNo),
      Ctl slv line p c s ∧ Settled s ∧ c.malformed = false ∧ c.type = 0x08 ∧ s.seam.mine = some x ∧ x.xid = c.xid ∧
      x.renew = false ∧ x.sends < 3 ∧ x.kind = .retire k ∧ c.nak ≠ 0x07) ∧
      (∃ (slv : SleeveNo) (line : BitVec 2304) (p : BitVec 1920) (c : SeamCtl) (s : State) (x : Exch) (k : SleeveNo) (lane : BitVec 4),
      Ctl slv line p c s ∧ Settled s ∧ c.malformed = false ∧ c.type = 0x08 ∧ s.seam.mine = some x ∧ x.xid = c.xid ∧
      x.renew = false ∧ ((x.kind = .retire k ∨ x.kind = .subst k lane 0)) ∧ c.nak = 0x07) ∧
      (∃ (slv : SleeveNo) (line : BitVec 2304) (p : BitVec 1920) (c : SeamCtl) (s : State) (x : Exch) (k : SleeveNo) (lane : BitVec 4),
      Ctl slv line p c s ∧ Settled s ∧ c.malformed = false ∧ c.type = 0x08 ∧ s.seam.mine = some x ∧ x.xid = c.xid ∧
      x.renew = false ∧ x.kind = .subst k lane 0 ∧ c.nak = 0x06 ∧ s.flag F.SEAM_CTRL.RETIRE_EN = true ∧
      s.seam.retired.getLsbD k.toNat = false ∧ .retire k ∉ s.seam.refused) ∧
      (∃ (slv : SleeveNo) (line : BitVec 2304) (p : BitVec 1920) (c : SeamCtl) (s : State) (x : Exch) (k : SleeveNo) (lane : BitVec 4) (reason : BitVec 2),
      Ctl slv line p c s ∧ c.malformed = false ∧ c.type = 0x08 ∧ s.seam.mine = some x ∧ x.xid = c.xid ∧ x.renew = false ∧
      x.kind = .subst k lane reason ∧ reason ≠ 0 ∧ ((c.nak = 0x06 ∨ c.nak = 0x07))) ∧
      (∃ (slv : SleeveNo) (line : BitVec 2304) (p : BitVec 1920) (c : SeamCtl) (s : State) (x : Exch) (m : Byte) (w : WidthChange),
      Ctl slv line p c s ∧ c.malformed = false ∧ c.type = 0x08 ∧ s.seam.mine = some x ∧ x.xid = c.xid ∧ x.renew = false ∧
      x.kind = .width m ∧ s.seam.width = some w ∧ w.mine = true) ∧ (∃ (s : State) (x : Exch), Settled s ∧ s.functional = true ∧
      s.talks = true ∧ s.seam.mine = some x ∧ s.seam.ctlOut.contains (reqFlit x.kind x.xid) = false ∧ s.mayAsk x.kind = true ∧
      x.sends < 3) ∧ (∃ (s : State) (x : Exch) (m : Byte) (w : WidthChange), s.functional = true ∧ s.talks = true ∧
      s.seam.mine = some x ∧ s.seam.ctlOut.contains (reqFlit x.kind x.xid) = false ∧ 3 ≤ x.sends ∧ x.kind = .width m ∧
      s.seam.width = some w ∧ w.mine = true) ∧ (∃ (s : State) (k : SleeveNo) (x : SubstSw) (d : Dir), s.functional = true ∧
      (s.seam.subst.find? fun y => y.dir == d && y.slv == k) = some x ∧ x.reason = 0 ∧
      (((s.slv d k).spareState = 0 ∨ (s.slv d k).spareState = 2))) ∧ (∃ (s : State) (k : SleeveNo) (x : SubstSw) (d : Dir),
      Settled s ∧ s.functional = true ∧ (s.seam.subst.find? fun y => y.dir == d && y.slv == k) = some x ∧ x.reason = 1 ∧
      (s.slv d k).spareState = 0) ∧ (∃ (s : State) (k : SleeveNo), s.functional = true ∧
      (s.seam.retireAt.any fun y => y.1 == k) = true ∧ s.seam.retired.getLsbD k.toNat = false) ∧
      (∃ (s : State) (w : WidthChange) (d : Dir), s.functional = true ∧ s.seam.width = some w ∧ ((d = .down → w.upDone = true ∧
      w.dnDone = false ∧ w.dnSlot.isSome = true)) ∧ ((d = .up → w.dnDone = true ∧ w.upDone = false ∧ w.upSlot.isSome = true))) :=
  ⟨⟨0, flitTo 0 4 (ctl 8 9 0 0 2 0 0), ctl 8 9 0 0 2 0 0, SeamCtl.ofBits (ctl 8 9 0 0 2 0 0),
    mk fun s => { s with seam := { s.seam with mine := some (ex0 (.retire 7)) } }, ex0 (.retire 7), 7,
    ⟨brings_of (f := sealFlit (DHdr.toBits { dh0 with kind := 4 }) (ctl 8 9 0 0 2 0 0)) (by decide +kernel) (by decide +kernel),
    by decide +kernel⟩, settled_settle _, by decide +kernel⟩, ⟨0, flitTo 0 4 (ctl 8 9 0 0 7 0 0), ctl 8 9 0 0 7 0 0,
    SeamCtl.ofBits (ctl 8 9 0 0 7 0 0), mk fun s => { s with seam := { s.seam with mine := some (ex0 (.subst 7 3 0)) } },
    ex0 (.subst 7 3 0), 7, 3,
    ⟨brings_of (f := sealFlit (DHdr.toBits { dh0 with kind := 4 }) (ctl 8 9 0 0 7 0 0)) (by decide +kernel) (by decide +kernel),
    by decide +kernel⟩, settled_settle _, by decide +kernel⟩, ⟨0, flitTo 0 4 (ctl 8 9 0 0 6 0 0), ctl 8 9 0 0 6 0 0,
    SeamCtl.ofBits (ctl 8 9 0 0 6 0 0),
    mk fun s => { s.setFld F.SEAM_CTRL.RETIRE_EN 1 with seam := { s.seam with mine := some (ex0 (.subst 7 3 0)) } },
    ex0 (.subst 7 3 0), 7, 3,
    ⟨brings_of (f := sealFlit (DHdr.toBits { dh0 with kind := 4 }) (ctl 8 9 0 0 6 0 0)) (by decide +kernel) (by decide +kernel),
    by decide +kernel⟩, settled_settle _, by decide +kernel⟩, ⟨0, flitTo 0 4 (ctl 8 9 0 0 7 0 0), ctl 8 9 0 0 7 0 0,
    SeamCtl.ofBits (ctl 8 9 0 0 7 0 0), mk fun s => { s with seam := { s.seam with mine := some (ex0 (.subst 7 3 1)) } },
    ex0 (.subst 7 3 1), 7, 3, 1,
    ⟨brings_of (f := sealFlit (DHdr.toBits { dh0 with kind := 4 }) (ctl 8 9 0 0 7 0 0)) (by decide +kernel) (by decide +kernel),
    by decide +kernel⟩, by decide +kernel⟩, ⟨0, flitTo 0 4 (ctl 8 9 0 0 3 0 0), ctl 8 9 0 0 3 0 0,
    SeamCtl.ofBits (ctl 8 9 0 0 3 0 0),
    mk fun s => { s with seam := { s.seam with mine := some (ex0 (.width 1)), width := some wch } }, ex0 (.width 1), 1, wch,
    ⟨brings_of (f := sealFlit (DHdr.toBits { dh0 with kind := 4 }) (ctl 8 9 0 0 3 0 0)) (by decide +kernel) (by decide +kernel),
    by decide +kernel⟩, by decide +kernel⟩, ⟨mk fun s => { s with seam := { s.seam with mine := some (ex0 (.subst 7 3 1)) } },
    ex0 (.subst 7 3 1), settled_settle _, by decide +kernel⟩,
    ⟨mk fun s => { s with seam := { s.seam with mine := some { ex0 (.width 1) with sends := 3 }, width := some wch } },
    { ex0 (.width 1) with sends := 3 }, 1, wch, by decide +kernel⟩,
    ⟨mk fun s => { s with seam := { s.seam with subst := [⟨.up, 7, 3, 0, 5⟩] } }, 7, ⟨.up, 7, 3, 0, 5⟩, .up,
    by decide +kernel⟩, ⟨mk fun s => { s with seam := { s.seam with subst := [⟨.down, 7, 3, 1, 5⟩] } }, 7, ⟨.down, 7, 3, 1, 5⟩,
    .down, settled_settle _, by decide +kernel⟩,
    ⟨mk fun s => { s with seam := { s.seam with retireAt := [(7, some 5, none)] } }, 7, by decide +kernel⟩,
    ⟨mk fun s => { s with seam := { s.seam with width := some { wch with upDone := true, upSlot := some 5, dnSlot := some 6 } } },
    { wch with upDone := true, upSlot := some 5, dnSlot := some 6 }, .down, by decide +kernel⟩⟩

theorem witness_WidthChanges :
    (∃ (data : Word) (s : State), s.functional = true ∧ s.regOn R.SEAM_WIDTH_CTRL = true ∧ data.getLsbD 8 = true ∧
      s.seam.width = none ∧ s.widthRefusal (fld data 0 4) (data.getLsbD 4) = 0 ∧ s.maskFor (fld data 0 4) ≠ s.seam.usable) ∧
      (∃ (data : Word) (s : State) (w : WidthChange), s.functional = true ∧ s.regOn R.SEAM_WIDTH_CTRL = true ∧
      data.getLsbD 8 = true ∧ s.seam.width = some w) ∧ (∃ (s : State) (q : QueuedGo), s.functional = true ∧
      s.seam.queued = some q ∧ s.seam.width = none ∧ s.widthRefusal q.target.toNat q.force = 0 ∧
      s.maskFor q.target.toNat ≠ s.seam.usable) ∧ (∃ (s : State) (w : WidthChange), Settled s ∧ s.functional = true ∧
      s.seam.width = some w ∧ w.ready = false ∧ (∀ k ∈ sleevesOf w.added, s.phased w k = true)) ∧
      (∃ (s : State) (w : WidthChange) (k : SleeveNo) (j : Nat), Settled s ∧ s.functional = true ∧ s.seam.width = some w ∧
      k ∈ sleevesOf w.added ∧ j < 8 ∧ w.slots (laneOf k j) < 4) ∧
      (∃ (s : State) (w : WidthChange) (k : SleeveNo) (line : BitVec 2304) (j : Nat), Settled s ∧ s.platLive = true ∧
      s.seam.width = some w ∧ w.ready = false ∧ w.added.getLsbD k.toNat = true ∧ s.seam.usable.getLsbD k.toNat = false ∧
      j < 8) ∧ (∃ (s : State) (w : WidthChange), Settled s ∧ s.functional = true ∧ s.seam.width = some w ∧ w.ready = false ∧
      w.mine = false ∧ s.pcm.joining = false) ∧ (∃ (s : State) (w : WidthChange), s.functional = true ∧ s.seam.width = some w ∧
      w.ready = false ∧ w.mine = true) ∧ (∃ (s : State), Settled s ∧ s.functional = true) :=
  ⟨⟨0x106, live, by decide +kernel⟩, ⟨0x114, mk fun s => { s with seam := { s.seam with width := some wch } }, wch,
    by decide +kernel⟩, ⟨mk fun s => { s with seam := { s.seam with queued := some ⟨4, false⟩ } }, ⟨4, false⟩,
    by decide +kernel⟩,
    ⟨mk fun s => { s with seam := { s.seam with usable := 0x7F, width := some { wch with target := 0xFF, added := 0x80, ready := false, phase := (List.range 32).map fun i => (BitVec.ofNat 7 (63 + i / 4), BitVec.ofNat 32 i) } } },
    { wch with target := 0xFF, added := 0x80, ready := false, phase := (List.range 32).map fun i => (BitVec.ofNat 7 (63 + i / 4), BitVec.ofNat 32 i) },
    settled_settle _, by decide +kernel⟩,
    ⟨mk fun s => { s with seam := { s.seam with usable := 0x7F, width := some { wch with target := 0xFF, added := 0x80, ready := false } } },
    { wch with target := 0xFF, added := 0x80, ready := false }, 7, 2, settled_settle _, by decide +kernel⟩,
    ⟨mk fun s => { s with seam := { s.seam with usable := 0x7F, width := some { wch with target := 0xFF, added := 0x80, ready := false } } },
    { wch with target := 0xFF, added := 0x80, ready := false }, 7, lineOfLanes fun j => laneUp 7 j 0 0, 2, settled_settle _,
    by decide +kernel⟩,
    ⟨mk fun s => { s with seam := { s.seam with usable := 0x7F, width := some { wch with target := 0xFF, added := 0x80, ready := false, mine := false } } },
    { wch with target := 0xFF, added := 0x80, ready := false, mine := false }, settled_settle _, by decide +kernel⟩,
    ⟨mk fun s => { s with seam := { s.seam with usable := 0x7F, width := some { wch with target := 0xFF, added := 0x80, ready := false } } },
    { wch with target := 0xFF, added := 0x80, ready := false }, by decide +kernel⟩, ⟨live, settled_settle _,
    by decide +kernel⟩⟩

theorem witness_TestModes :
    (∃ (data : Word) (s : State), s.up = true ∧ s.wrapped = true ∧ s.testing = false ∧ data.getLsbD 31 = true) ∧
      (∃ (data : Word) (s : State), s.up = true ∧ s.wrapped = true ∧ s.testing = true ∧ data.getLsbD 31 = false) ∧
      (∃ (msg : BitVec 32) (s : State), s.up = true ∧ s.slp.lock = true ∧ s.seam.test.waiting = true ∧
      fld msg 0 3 = s.fld F.SEAM_TEST_CTRL.SLEEVE) ∧ (∃ (s : State), Settled s ∧ s.up = true ∧ s.seam.test.waiting = true ∧
      s.seam.test.sends < 3) ∧ (∃ (s : State), s.up = true ∧ s.seam.test.waiting = true ∧ 3 ≤ s.seam.test.sends) ∧
      (∃ (w : Nat) (i : Nat) (y : BitVec 31), i + 31 < w) ∧
      (∃ (lane : BitVec 4) (got : BitVec 1055) (b : BitVec 1055) (mode : Nat) (s : State), Settled s ∧ lane.toNat < 9 ∧
      s.up = true ∧ s.checks lane = true ∧ s.seam.test.locked.getLsbD lane.toNat = false ∧ mode = s.fld F.SEAM_TEST_CTRL.MODE ∧
      b = (if mode = 3 then seqTake 1055 (s.seam.test.gens.toList.getD lane.toNat 0) else if mode = 2 then ~~~got else got)) ∧
      (∃ (lane : BitVec 4) (first : BitVec 512) (second : BitVec 512) (b : BitVec 1024) (mode : Nat) (wrong : Nat) (s : State),
      Settled s ∧ lane.toNat < 9 ∧ s.up = true ∧ s.checks lane = true ∧ s.seam.test.locked.getLsbD lane.toNat = true ∧
      mode = s.fld F.SEAM_TEST_CTRL.MODE ∧
      b = (if mode = 3 then seqTake 1024 (s.seam.test.gens.toList.getD lane.toNat 0) else if mode = 2 then ~~~(second ++
      first) else second ++ first) ∧ wrong = wrongBits b (seqTake 1024 (s.seam.test.checks.toList.getD lane.toNat 0))) ∧
      (∃ (lane : BitVec 4) (s : State) (a : BitVec 1055) (b : BitVec 512) (c : BitVec 512), 9 ≤ lane.toNat) :=
  ⟨⟨0x80000017, mk fun s => { s with wrapped := true }, by decide +kernel⟩, ⟨0,
    mk fun s => { s with wrapped := true, regs := [(R.SEAM_TEST_CTRL, 0x80101FF7)], seam := { s.seam with test := { s.seam.test with running := true } } },
    by decide +kernel⟩, ⟨7,
    mk fun s => { s with wrapped := true, regs := [(R.SEAM_TEST_CTRL, 0x80311FF7)], seam := { s.seam with test := { s.seam.test with waiting := true } } },
    by decide +kernel⟩,
    ⟨mk fun s => { s with wrapped := true, regs := [(R.SEAM_TEST_CTRL, 0x80101FF7)], seam := { s.seam with test := { s.seam.test with waiting := true, sends := 2 } } },
    settled_settle _, by decide +kernel⟩,
    ⟨mk fun s => { s with wrapped := true, regs := [(R.SEAM_TEST_CTRL, 0x80311FF7)], seam := { s.seam with test := { s.seam.test with waiting := true, sends := 3 } } },
    by decide +kernel⟩, ⟨1024, 992, 5, by decide +kernel⟩, ⟨8, seqTake 1055 5, seqTake 1055 5, 1,
    mk fun s => { s with wrapped := true, regs := [(R.SEAM_TEST_CTRL, 0x80311FF7)], seam := { s.seam with test := { s.seam.test with running := true } } },
    settled_settle _, by decide +kernel⟩, ⟨8, 0, 0, 0, 1, wrongBits 0 (seqTake 1024 (1#31)),
    mk fun s => { s with wrapped := true, regs := [(R.SEAM_TEST_CTRL, 0x80311FF7)], seam := { s.seam with test := { s.seam.test with running := true, locked := 0x100, checks := Vector.replicate 9 1 } } },
    settled_settle _, by decide +kernel⟩, ⟨9, live, 0, 0, 0, by decide +kernel⟩⟩

theorem witness_PassesStartAndEnd :
    (∃ (lane : LaneNo) (offset : BitVec 5) (s : State), Settled s ∧ lane.toNat < 72 ∧ s.functional = true ∧
      (((-8 < offset.toInt ∧ offset.toInt < 8) ∨ (8 ≤ offset.toInt ∧ fld (s.inUse lane) 0 6 = 63) ∨ (offset.toInt ≤ -8 ∧
      fld (s.inUse lane) 0 6 = 0)))) ∧ (∃ (lane : LaneNo) (offset : BitVec 5) (s : State), Settled s ∧ lane.toNat < 72 ∧
      s.functional = true ∧ 8 ≤ offset.toInt ∧ fld (s.inUse lane) 0 6 < 63) ∧
      (∃ (lane : LaneNo) (offset : BitVec 5) (s : State), Settled s ∧ lane.toNat < 72 ∧ s.functional = true ∧
      offset.toInt ≤ -8 ∧ 0 < fld (s.inUse lane) 0 6) ∧ (∃ (k : SleeveNo) (j : Nat) (s : State), Settled s ∧
      s.functional = true ∧ s.rolls = true ∧ s.seam.usable.getLsbD k.toNat = true ∧ s.passIn k = none ∧
      (s.slv .down k).spareState ≠ 2 ∧
      s.flag (if (s.slv .down k).spareState = 0 then F.TLR_CTRL.ROLL_EN else F.TLR_CTRL.DARNED_EN) = true ∧
      s.nextLane k (s.tlr.turn.toList.getD k.toNat 0).val 9 = some j) ∧ (∃ (k : SleeveNo) (j : Nat) (s : State), Settled s ∧
      s.functional = true ∧ s.rolls = true ∧ s.seam.usable.getLsbD k.toNat = true ∧ s.passIn k = none ∧
      (s.slv .down k).spareState = 0 ∧ s.flag F.TLR_CTRL.ROLL_EN = true ∧ s.tlr.starvedMask.getLsbD k.toNat = true ∧
      s.nextLane k (s.tlr.turn.toList.getD k.toNat 0).val 9 = some j) ∧ (∃ (lane : LaneNo) (p : Pass) (s : State),
      lane.toNat < 72 ∧ s.functional = true ∧ s.passIn (slvOf lane) = some p ∧ p.lane = lane) :=
  ⟨⟨71, 7, live, settled_settle _, by decide +kernel⟩, ⟨71, 8,
    mk fun s => { s with tlr := { s.tlr with rx := Vector.replicate 72 { act := 20, shd := 20, tracker := 0, qual := 0, passes := 0, commits := 0, starved := 0, time := 0 } } },
    settled_settle _, by decide +kernel⟩, ⟨71, -8,
    mk fun s => { s with tlr := { s.tlr with rx := Vector.replicate 72 { act := 20, shd := 20, tracker := 0, qual := 0, passes := 0, commits := 0, starved := 0, time := 0 } } },
    settled_settle _, by decide +kernel⟩, ⟨7, 0,
    mk fun s => { (s.setFld F.TLR_CTRL.DARNED_EN 1) with seam := { s.seam with dn := Vector.replicate 8 { clkFail := false, spareState := 1, spareLane := 8, failed := 0 } } },
    settled_settle _, by decide +kernel⟩, ⟨7, 0,
    mk fun s => { s.setFld F.TLR_CTRL.ROLL_EN 1 with tlr := { s.tlr with starvedMask := 0x80 } }, settled_settle _,
    by decide +kernel⟩, ⟨71, pas .opening, mk fun s => { s with tlr := { s.tlr with passes := [(7, pas .opening)] } },
    by decide +kernel⟩⟩

theorem witness_PassesMeasure :
    (∃ (lane : LaneNo) (h : Histogram) (s : State), lane.toNat < 72 ∧ s.functional = true ∧ s.tlr.measuring = some lane) ∧
      (∃ (lane : LaneNo) (h : Histogram) (s : State), lane.toNat < 72 ∧ s.functional = true ∧ s.tlr.measuring = some lane ∧
      s.fitsIn s.tlr.measureFrom h = true ∧ s.eyeLow (s.histEye h) = true ∧
      s.fld F.SEAM_DET_CFG.DEGRADE_COUNT ≤ ((s.seam.lowEye.find? (·.1 == lane)).map (·.2)).getD 0 + 1 ∧
      s.seam.retired.getLsbD (slvOf lane).toNat = false) ∧ (∃ (lane : LaneNo) (h : Histogram) (p : Pass) (s : State),
      lane.toNat < 72 ∧ s.functional = true ∧ s.tlr.measuring ≠ some lane ∧ s.passIn (slvOf lane) = some p ∧
      s.passOn lane = some p ∧ s.live p = true ∧ s.gathered p = true ∧ p.ffeWait = false ∧ s.fitsIn p.since h = false) ∧
      (∃ (lane : LaneNo) (h : Histogram) (p : Pass) (s : State), Settled s ∧ lane.toNat < 72 ∧ s.functional = true ∧
      s.tlr.measuring ≠ some lane ∧ s.passOn lane = some p ∧ p.train = true ∧ s.gathered p = true ∧ p.ffeWait = false ∧
      s.fitsIn p.since h = false) ∧
      (∃ (lane : LaneNo) (h : Histogram) (p : Pass) (i : Nat) (best : Nat) (steps : Nat) (up : Bool) (r : BitVec 128) (s : State),
      Settled s ∧ lane.toNat < 72 ∧ s.functional = true ∧ s.tlr.measuring ≠ some lane ∧ s.passOn lane = some p ∧
      s.live p = true ∧ s.gathered p = true ∧ p.ffeWait = false ∧ s.fitsIn p.since h = true ∧
      p.step = .attempt i up best steps ∧ best < s.histEye h ∧ peerSetting i = false ∧ steps + 1 < s.fld F.TLR_CFG2.MAX_STEPS ∧
      stepSetting i true (s.rx lane).shd = some r) ∧ (∃ (lane : LaneNo) (h : Histogram) (p : Pass) (s : State),
      lane.toNat < 72 ∧ s.functional = true ∧ s.tlr.measuring ≠ some lane ∧ s.passIn (slvOf lane) = some p ∧
      s.passOn lane = some p ∧ s.live p = true ∧ s.gathered p = true ∧ p.ffeWait = false ∧ p.step = .closing ∧
      s.fitsIn p.since h = true) ∧ (∃ (lane : LaneNo) (s : State), lane.toNat < 72 ∧ s.functional = true ∧
      s.tlr.measuring = some lane) ∧ (∃ (lane : LaneNo) (p : Pass) (s : State), lane.toNat < 72 ∧ s.functional = true ∧
      s.tlr.measuring ≠ some lane ∧ s.passIn (slvOf lane) = some p ∧ s.passOn lane = some p ∧
      ((s.live p = true ∨ p.full = false))) :=
  ⟨⟨71, hist 0x100000, mk fun s => { s with tlr := { s.tlr with measuring := some 71, measureFrom := mk0 } },
    by decide +kernel⟩, ⟨71, hist 0x100000,
    mk fun s => { s.setFld F.SEAM_DET_CFG.EYE_MIN_PCT 255 with tlr := { s.tlr with measuring := some 71, measureFrom := mk0 }, seam := { s.seam with lowEye := [(71, 9)] } },
    by decide +kernel⟩, ⟨71, hist 1, pas .opening, mk fun s => { s with tlr := { s.tlr with passes := [(7, pas .opening)] } },
    by decide +kernel⟩, ⟨71, hist 1, { pas .coarse with train := true },
    mk fun s => { s with tlr := { s.tlr with mode := .training, passes := [(7, { pas .coarse with train := true })] } },
    settled_settle _, by decide +kernel⟩, ⟨71, hist 0x100000, pas (.attempt 0 true 1 0), 0, 1, 0, true,
    (stepSetting 0 true 20).getD 0,
    mk fun s => { s with tlr := { s.tlr with rx := Vector.replicate 72 { act := 20, shd := 20, tracker := 0, qual := 0, passes := 0, commits := 0, starved := 0, time := 0 }, passes := [(7, pas (.attempt 0 true 1 0))] } },
    settled_settle _, by decide +kernel, by decide +kernel⟩, ⟨71, hist 0x100000, pas .closing,
    mk fun s => { s with tlr := { s.tlr with passes := [(7, pas .closing)] } }, by decide +kernel⟩, ⟨71,
    mk fun s => { s with tlr := { s.tlr with measuring := some 71 } }, by decide +kernel⟩, ⟨71, pas .opening,
    mk fun s => { s with tlr := { s.tlr with passes := [(7, pas .opening)] } }, by decide +kernel⟩⟩

theorem witness_FfeIsExchanged :
    (∃ (msg : BitVec 96) (s : State), Settled s ∧ s.functional = true ∧ s.slp.lock = true ∧ fld msg 0 7 < 72 ∧
      s.ffeOpen (bits msg 0 7) = true ∧ fld msg 16 5 ≤ 23) ∧ (∃ (msg : BitVec 96) (st : Byte) (s : State), Settled s ∧
      s.functional = true ∧ s.slp.lock = true ∧ (((72 ≤ fld msg 0 7 ∧ st = 2) ∨ (fld msg 0 7 < 72 ∧
      s.ffeOpen (bits msg 0 7) = false ∧ st = 1) ∨ (fld msg 0 7 < 72 ∧ s.ffeOpen (bits msg 0 7) = true ∧ 23 < fld msg 16 5 ∧
      st = 2)))) ∧ (∃ (lane : LaneNo) (msg : BitVec 96) (s : State), Settled s ∧ lane.toNat < 72 ∧ s.functional = true ∧
      s.freezing = false ∧ s.tlr.ffeDue.find? (·.1 == lane) = some (lane, msg)) ∧ (∃ (lane : LaneNo) (s : State), Settled s ∧
      lane.toNat < 72 ∧ s.functional = true ∧ s.freezing = true) ∧ (∃ (msg : BitVec 96) (p : Pass) (s : State), Settled s ∧
      ((fld msg 64 8 = 0 ∨ ∀ i up best steps, p.step ≠ .attempt i up best steps)) ∧ s.functional = true ∧ s.slp.lock = true ∧
      fld msg 0 7 < 72 ∧ s.passOn (bits msg 0 7) = some p ∧ p.ffeWait = true) :=
  ⟨⟨((0#8 ++ 5#24 ++ 100#32 ++ 0#8 ++ 23#8 ++ 15#8 ++ 71#8)), mk fun s => { s with tlr := { s.tlr with mode := .training } },
    settled_settle _, by decide +kernel⟩, ⟨((0#8 ++ 5#24 ++ 100#32 ++ 0#8 ++ 23#8 ++ 15#8 ++ 72#8)), 2, live, settled_settle _,
    by decide +kernel⟩, ⟨71, ((0#8 ++ 5#24 ++ 100#32 ++ 0#8 ++ 23#8 ++ 15#8 ++ 71#8)),
    mk fun s => { s with tlr := { s.tlr with ffeDue := [(71, ((0#8 ++ 5#24 ++ 100#32 ++ 0#8 ++ 23#8 ++ 15#8 ++ 71#8)))] } },
    settled_settle _, by decide +kernel⟩, ⟨71,
    mk fun s => { s with tlr := { s.tlr with ffeDue := [(71, ((0#8 ++ 5#24 ++ 100#32 ++ 0#8 ++ 23#8 ++ 15#8 ++ 71#8)))], frozenHost := true } },
    settled_settle _, by decide +kernel⟩, ⟨((0#32 ++ 0#32 ++ 0#24 ++ 71#8)),
    { pas (.attempt 7 true 10 0) with ffeWait := true },
    mk fun s => { s with tlr := { s.tlr with passes := [(7, { pas (.attempt 7 true 10 0) with ffeWait := true })] } },
    settled_settle _, .inl (by decide +kernel), by decide +kernel⟩⟩

theorem witness_SnapshotAndManual :
    (∃ (data : Word) (s : State), s.functional = true ∧ s.regOn R.TLR_CTRL = true ∧ bit data 9 = true ∧ bit data 8 = false ∧
      bit data 3 = false ∧ fld data 16 7 < 72 ∧ bit data 24 = false ∧ s.tlr.measuring = none) ∧ (∃ (data : Word) (s : State),
      Settled s ∧ s.functional = true ∧ s.regOn R.TLR_CTRL = true ∧ bit data 8 = true ∧ bit data 9 = false ∧
      bit data 3 = true ∧ fld data 16 7 < 72 ∧ bit data 24 = false ∧ s.tlr.passes = [] ∧ s.freezing = false ∧
      rxOk (s.rx (bits data 16 7)).shd = true) ∧ (∃ (data : Word) (r : TlrLane) (s : State), s.functional = true ∧
      s.regOn R.TLR_CTRL = true ∧ bit data 8 = true ∧ bit data 9 = false ∧ bit data 3 = true ∧ bit data 24 = true ∧
      s.tlr.passes = [] ∧ s.freezing = false ∧ s.tlr.tx[fld data 16 7]? = some r ∧ txOk (bits r.shd 0 32) = true) ∧
      (∃ (data : Word) (s : State), s.functional = true ∧ s.regOn R.TLR_SNAP_CTRL = true ∧ bit data 0 = true ∧
      bit data 2 = false ∧ s.freezing = false ∧ s.sbx.ready = true) ∧ (∃ (data : Word) (s : State), s.functional = true ∧
      s.regOn R.TLR_SNAP_CTRL = true ∧ bit data 0 = false ∧ bit data 2 = false ∧ s.tlr.frozenHost = true ∧
      s.tlr.frozenBrown = false ∧ s.sbx.ready = true) ∧ (∃ (data : Word) (s : State), s.functional = true ∧
      s.regOn R.TLR_SNAP_CTRL = true ∧ bit data 2 = true ∧ bit data 0 = s.tlr.frozenHost ∧ s.loadable = true) ∧
      (∃ (cause : BitVec 2) (s : State), s.functional = true ∧ s.tlr.rebuild = some cause) :=
  ⟨⟨0x00470200, live, by decide +kernel⟩, ⟨0x00470108, live, settled_settle _, by decide +kernel⟩, ⟨0x01470108,
    (live.tlr.tx[71]), live, by decide +kernel⟩, ⟨1, live, by decide +kernel⟩, ⟨0,
    mk fun s => { s with tlr := { s.tlr with frozenHost := true } }, by decide +kernel⟩, ⟨4, starting 5 fun s => s,
    by decide +kernel⟩, ⟨1, mk fun s => { s with tlr := { s.tlr with rebuild := some 1, frozenHost := true } },
    by decide +kernel⟩⟩

theorem witness_TrainingEnds :
    (∃ (lanes : List LaneReport) (s : State), s.functional = true ∧ s.tlr.mode = .training ∧ s.pcm.st ≠ .waking ∧
      s.boot.peerMask.isSome = true) ∧ (∃ (lanes : List LaneReport) (s : State), s.functional = true ∧ s.tlr.mode = .training ∧
      s.pcm.st = .waking) ∧ (∃ (lanes : List LaneReport) (s : State), s.functional = true ∧ s.tlr.mode ≠ .training ∧
      s.tlr.leftOut ≠ 0) ∧ (∃ (lanes : List LaneReport) (s : State), s.functional = true ∧ s.tlr.mode = .restoring ∧
      s.boot.peerMask.isSome = true) ∧ (∃ (lanes : List LaneReport) (r : Retrain) (s : State), s.functional = true ∧
      s.lnk.retraining = some r ∧ r.tailored = false) :=
  ⟨⟨[{ lane := 71, arrival := 0, hist := hist 0x100000 }],
    starting 7 fun s => { s with tlr := { s.tlr with mode := .training }, boot := { s.boot with ownMask := 0xFF, peerMask := some 0xFF } },
    by decide +kernel⟩, ⟨[],
    mk fun s => { s with tlr := { s.tlr with mode := .training }, pcm := { s.pcm with st := .waking } }, by decide +kernel⟩,
    ⟨[], mk fun s => { s with tlr := { s.tlr with leftOut := 0x80 } }, by decide +kernel⟩, ⟨[],
    starting 7 fun s => { s with tlr := { s.tlr with mode := .restoring }, boot := { s.boot with ownMask := 0xFF, peerMask := some 0xFF } },
    by decide +kernel⟩, ⟨[], { rtr with tailored := false },
    mk fun s => { s with lnk := { s.lnk with st := .retrain, retraining := some { rtr with tailored := false } } },
    by decide +kernel⟩⟩

theorem witness_FlitSlots :
    (∃ (s : State), s.platLive = true ∧ s.seam.counting = true) ∧ (∃ (s : State), s.platLive = true ∧
      s.seam.counting = false) ∧ (∃ (s : State) (k : SleeveNo), s.platLive = true ∧ s.seam.counting = true ∧
      s.ttb.st ≠ .running ∧ sleevesOf (s.seam.usable &&& ~~~s.ttb.upMask &&& ~~~s.grantedMask) = [k] ∧ s.seam.ctlOut = [] ∧
      s.ctlReady = true) ∧ (∃ (s : State) (k : SleeveNo) (f : SideFlit), s.platLive = true ∧ s.seam.counting = true ∧
      s.ttb.st ≠ .running ∧ sleevesOf (s.seam.usable &&& ~~~s.ttb.upMask &&& ~~~s.grantedMask) = [k] ∧ s.seam.ctlOut = [] ∧
      s.ctlReady = false ∧ s.lnk.st = .up ∧ s.lnk.siding.find? (·.again) = some f ∧ retrainAt (f.replays + 1) = false ∧
      f.replays ≠ 15) ∧
      (∃ (s : State) (k : SleeveNo) (tr : Nat) (left : Nat) (turn : Fin 4) (f : OutFlit) (rest : List OutFlit) (i : Option (Fin 6)) (shared : Bool),
      s.platLive = true ∧ s.seam.counting = true ∧ s.ttb.st ≠ .running ∧
      sleevesOf (s.seam.usable &&& ~~~s.ttb.upMask &&& ~~~s.grantedMask) = [k] ∧ s.seam.ctlOut = [] ∧ s.ctlReady = false ∧
      s.lnk.st = .up ∧ s.lnk.siding.find? (·.again) = none ∧ s.span < s.spanLimit ∧ (passTurn s).nextTrack = some (tr, turn,
      left) ∧ s.lnk.outq.toList.getD tr [] = f :: rest ∧ s.ticketFor (BitVec.ofNat 3 tr) = some (i, shared)) ∧
      (∃ (s : State) (k : SleeveNo) (p : BitVec 1920) (ps : List (BitVec 1920)), s.platLive = true ∧ s.seam.counting = true ∧
      s.ttb.st ≠ .running ∧ sleevesOf (s.seam.usable &&& ~~~s.ttb.upMask &&& ~~~s.grantedMask) = [k] ∧
      s.seam.ctlOut = p :: ps ∧ s.lnk.st = .up) :=
  ⟨⟨live, by decide +kernel⟩, ⟨starting 7 fun s => { s with seam := { s.seam with counting := false } }, by decide +kernel⟩,
    ⟨mk fun s => { s with seam := { s.seam with usable := 1 }, lnk := { s.lnk with ctlDue := true } }, 0, by decide +kernel⟩,
    ⟨mk fun s => { s with seam := { s.seam with usable := 1 }, lnk := { s.lnk with nextSeq := 1, siding := [{ sf 0 with again := true }] } },
    0, { sf 0 with again := true }, by decide +kernel⟩,
    ⟨mk fun s => { s with seam := { s.seam with usable := 1 }, lnk := { s.lnk with outq := s.lnk.outq.set 1 [of1] (by decide) } },
    0, 1, 3, 3, of1, [], some 1, false, by decide +kernel⟩,
    ⟨mk fun s => { s with seam := { s.seam with usable := 1, ctlOut := [5, 6] } }, 0, 5, [6], by decide +kernel⟩⟩

set_option maxRecDepth 100000 in
theorem witness_DataFlitsArrive :
    (∃ (k : SleeveNo) (line : BitVec 2304) (p : BitVec 1920) (s : State) (h : DHdr), Brings 1 k line p s ∧
      h = DHdr.ofBits (bits (s.slotOf k line) 0 64) ∧ s.platLive = true ∧ s.lnk.st = .up ∧ h.track.toNat < 6 ∧
      s.lnk.trackMask.getLsbD h.track.toNat = true ∧ h.seq = s.lnk.lastAcc + 1 ∧ s.lnk.reorder = [] ∧ ((∀ i,
      (rxFlitOf h (s.slotOf k line)).kind = some i → s.poolUsed i < s.poolSize i))) ∧
      (∃ (k : SleeveNo) (line : BitVec 2304) (p : BitVec 1920) (s : State) (h : DHdr), Brings 1 k line p s ∧
      h = DHdr.ofBits (bits (s.slotOf k line) 0 64) ∧ s.platLive = true ∧ s.lnk.st = .up ∧
      (s.lnk.lastAcc - h.seq).toNat < 2048) ∧ (∃ (k : SleeveNo) (line : BitVec 2304) (p : BitVec 1920) (s : State) (h : DHdr),
      Brings 1 k line p s ∧ h = DHdr.ofBits (bits (s.slotOf k line) 0 64) ∧ s.platLive = true ∧ s.lnk.st = .up ∧
      h.track.toNat < 6 ∧ s.lnk.trackMask.getLsbD h.track.toNat = true ∧ 2048 ≤ (s.lnk.lastAcc - h.seq).toNat ∧
      h.seq ≠ s.lnk.lastAcc + 1 ∧ s.lnk.selective = false) ∧
      (∃ (k : SleeveNo) (line : BitVec 2304) (p : BitVec 1920) (s : State) (h : DHdr), Brings 1 k line p s ∧
      h = DHdr.ofBits (bits (s.slotOf k line) 0 64) ∧ s.platLive = true ∧ s.lnk.st = .up ∧ h.track.toNat < 6 ∧
      s.lnk.trackMask.getLsbD h.track.toNat = true ∧ 2048 ≤ (s.lnk.lastAcc - h.seq).toNat ∧ h.seq ≠ s.lnk.lastAcc + 1 ∧
      s.lnk.selective = true ∧ (h.seq - s.lnk.lastAcc).toNat ≤ 256 ∧ s.lnk.reorder = [] ∧ ((∀ i,
      (rxFlitOf h (s.slotOf k line)).kind = some i → s.poolUsed i < s.poolSize i))) ∧
      (∃ (k : SleeveNo) (line : BitVec 2304) (f : BitVec 2048) (s : State), Comes k line f s ∧ s.platLive = true ∧
      s.lnk.st = .up ∧ kindOf f = 1 ∧ crcOk f = false) ∧ (∃ (k : SleeveNo) (line : BitVec 2304) (f : BitVec 2048) (s : State),
      Settled s ∧ Comes k line f s ∧ s.platLive = true ∧ 5 ≤ kindOf f) ∧ (∃ (k : SleeveNo) (line : BitVec 2304) (s : State),
      Settled s ∧ s.platLive = true ∧ bits (s.slotOf k line) 0 64 = 0#64) :=
  ⟨⟨7, lineTo 7 (sealFlit (DHdr.toBits { dh0 with seq := 0 }) 5), 5, live, { dh0 with seq := 0 },
    brings_of (f := sealFlit (DHdr.toBits { dh0 with seq := 0 }) 5) (by decide +kernel) (by decide +kernel), by
      rw [slot_to (by decide +kernel)]
      decide +kernel,
    by decide +kernel⟩, ⟨7, lineTo 7 (sealFlit (DHdr.toBits { dh0 with seq := 0xFFF }) 5), 5, live, { dh0 with seq := 0xFFF },
    brings_of (f := sealFlit (DHdr.toBits { dh0 with seq := 0xFFF }) 5) (by decide +kernel) (by decide +kernel), by
      rw [slot_to (by decide +kernel)]
      decide +kernel,
    by decide +kernel⟩, ⟨7, lineTo 7 (sealFlit (DHdr.toBits { dh0 with seq := 3 }) 5), 5, live, { dh0 with seq := 3 },
    brings_of (f := sealFlit (DHdr.toBits { dh0 with seq := 3 }) 5) (by decide +kernel) (by decide +kernel), by
      rw [slot_to (by decide +kernel)]
      decide +kernel,
    by decide +kernel⟩, ⟨7, lineTo 7 (sealFlit (DHdr.toBits { dh0 with seq := 3 }) 5), 5,
    mk fun s => { s with lnk := { s.lnk with selective := true } }, { dh0 with seq := 3 },
    brings_of (f := sealFlit (DHdr.toBits { dh0 with seq := 3 }) 5) (by decide +kernel) (by decide +kernel), by
      rw [slot_to (by decide +kernel)]
      decide +kernel,
    by decide +kernel⟩, ⟨7, lineTo 7 ((sealFlit (DHdr.toBits dh0) 5) ^^^ (1#2048 <<< 2047)),
    (sealFlit (DHdr.toBits dh0) 5) ^^^ (1#2048 <<< 2047), live, comes_of (by decide +kernel) (by decide +kernel),
    by decide +kernel⟩, ⟨7, lineTo 7 (sealFlit (DHdr.toBits { dh0 with kind := 5 }) 5),
    sealFlit (DHdr.toBits { dh0 with kind := 5 }) 5, live, settled_settle _, comes_of (by decide +kernel) (by decide +kernel),
    by decide +kernel⟩, ⟨7, lineTo 7 0, live, settled_settle _, by decide +kernel⟩⟩

set_option maxRecDepth 100000 in
theorem witness_ControlFlitsArrive :
    (∃ (k : SleeveNo) (line : BitVec 2304) (p : BitVec 1920) (s : State), Brings 3 k line p s ∧ s.platLive = true ∧
      s.lnk.st = .notUp ∧ s.boot.step = 8 ∧ (LinkCtl.ofBits p).retrain = false) ∧
      (∃ (k : SleeveNo) (line : BitVec 2304) (p : BitVec 1920) (s : State) (h : DHdr), Brings 3 k line p s ∧
      h = DHdr.ofBits (bits (s.slotOf k line) 0 64) ∧ s.platLive = true ∧ s.lnk.st = .up ∧ (LinkCtl.ofBits p).retrain = false ∧
      (h.ack - s.lnk.acked).toNat ≤ (s.lnk.nextSeq - 1 - s.lnk.acked).toNat) ∧
      (∃ (k : SleeveNo) (line : BitVec 2304) (p : BitVec 1920) (s : State), Brings 3 k line p s ∧ s.platLive = true ∧
      ((s.lnk.st = .up ∨ s.lnk.st = .grace)) ∧ (LinkCtl.ofBits p).retrain = true ∧ s.lnk.retraining = none) ∧
      (∃ (k : SleeveNo) (line : BitVec 2304) (f : BitVec 2048) (s : State), Comes k line f s ∧ s.platLive = true ∧
      kindOf f = 3 ∧ crcOk f = false) ∧ (∃ (k : SleeveNo) (place : BitVec 5) (line : BitVec 2304) (s : State),
      s.platLive = true ∧ s.lnk.st = .up ∧ bits (s.slotOf k line) 0 64 ≠ 0#64 ∧ s.seam.usable.getLsbD k.toNat = true ∧
      s.seam.lastRetired ≠ some (k, s.seam.dnSlot)) ∧ (∃ (k : SleeveNo) (place : BitVec 5) (line : BitVec 2304) (s : State),
      s.platLive = true ∧ s.lnk.st = .up ∧ bits (s.slotOf k line) 0 64 ≠ 0#64 ∧ s.seam.lastRetired = some (k, s.seam.dnSlot)) ∧
      (∃ (k : SleeveNo) (place : BitVec 5) (line : BitVec 2304) (s : State), Settled s ∧ s.platLive = true ∧
      bits (s.slotOf k line) 0 64 = 0#64) :=
  ⟨⟨0, lineTo 0 (sealFlit (DHdr.toBits { dh0 with kind := 3 }) (LinkCtl.toBits ⟨0, Vector.replicate 6 0, false⟩)),
    (LinkCtl.toBits ⟨0, Vector.replicate 6 0, false⟩), starting 8 fun s => s,
    brings_of (f := sealFlit (DHdr.toBits { dh0 with kind := 3 }) (LinkCtl.toBits ⟨0, Vector.replicate 6 0,
    false⟩)) (by decide +kernel) (by decide +kernel), by decide +kernel⟩, ⟨0,
    lineTo 0 (sealFlit (DHdr.toBits { dh0 with kind := 3, ack := 3 }) (LinkCtl.toBits ⟨0, Vector.replicate 6 0, false⟩)),
    (LinkCtl.toBits ⟨0, Vector.replicate 6 0, false⟩),
    mk fun s => { s with lnk := { s.lnk with nextSeq := 5, siding := [sf 0, sf 4] } }, { dh0 with kind := 3, ack := 3 },
    brings_of (f := sealFlit (DHdr.toBits { dh0 with kind := 3, ack := 3 }) (LinkCtl.toBits ⟨0, Vector.replicate 6 0,
    false⟩)) (by decide +kernel) (by decide +kernel), by
      rw [slot_to (by decide +kernel)]
      decide +kernel,
    by decide +kernel⟩, ⟨0, lineTo 0 (sealFlit (DHdr.toBits { dh0 with kind := 3 }) (LinkCtl.toBits ⟨0, Vector.replicate 6 0,
    true⟩)), (LinkCtl.toBits ⟨0, Vector.replicate 6 0, true⟩), mk fun s => { s with lnk := { s.lnk with st := .grace } },
    brings_of (f := sealFlit (DHdr.toBits { dh0 with kind := 3 }) (LinkCtl.toBits ⟨0, Vector.replicate 6 0,
    true⟩)) (by decide +kernel) (by decide +kernel), by decide +kernel⟩, ⟨0,
    lineTo 0 ((sealFlit (DHdr.toBits { dh0 with kind := 3 }) 5) ^^^ (1#2048 <<< 2047)),
    (sealFlit (DHdr.toBits { dh0 with kind := 3 }) 5) ^^^ (1#2048 <<< 2047), live,
    comes_of (by decide +kernel) (by decide +kernel), by decide +kernel⟩, ⟨7, 0, lineTo 7 5, live, by decide +kernel⟩, ⟨7, 0,
    lineTo 7 5, mk fun s => { s with seam := { s.seam with lastRetired := some (7, 0) } }, by decide +kernel⟩, ⟨7, 0,
    lineTo 7 0, live, settled_settle _, by decide +kernel⟩⟩

theorem witness_LinkTimers :
    (∃ (f : SideFlit) (fs : List SideFlit) (s : State), Settled s ∧ s.platLive = true ∧ s.lnk.st = .up ∧
      s.lnk.siding = f :: fs) ∧ (∃ (s : State), Settled s ∧ s.platLive = true ∧ s.lnk.st = .up ∧ s.lnk.siding = []) ∧
      (∃ (s : State), Settled s ∧ s.platLive = true ∧ s.lnk.st = .up ∧ s.lnk.ackDirty = true) ∧ (∃ (s : State), Settled s ∧
      s.platLive = true ∧ s.lnk.st = .up) ∧ (∃ (s : State), Settled s ∧ s.platLive = true ∧ s.lnk.st = .up ∧ s.lnk.gap = true ∧
      retrainAt (s.lnk.rxCount + 1) = false ∧ s.lnk.rxCount ≠ 15) ∧ (∃ (s : State), s.platLive = true ∧ s.lnk.st = .up ∧
      s.lnk.gap = true ∧ retrainAt (s.lnk.rxCount + 1) = true ∧ s.lnk.retraining = none) ∧ (∃ (s : State), s.platLive = true ∧
      s.lnk.st = .up ∧ s.lnk.gap = true ∧ s.lnk.rxCount = 15 ∧ s.lnk.retraining = none) :=
  ⟨⟨sf 0, [], mk fun s => { s with lnk := { s.lnk with nextSeq := 1, siding := [sf 0], replayFrom := mk0 } }, settled_settle _,
    by decide +kernel⟩, ⟨live, settled_settle _, by decide +kernel⟩,
    ⟨mk fun s => { s with lnk := { s.lnk with ackDirty := true, dirtyFrom := mk0 } }, settled_settle _, by decide +kernel⟩,
    ⟨live, settled_settle _, by decide +kernel⟩,
    ⟨mk fun s => { s with lnk := { s.lnk with gap := true, rxCount := 2, gapFrom := mk0 } }, settled_settle _,
    by decide +kernel⟩, ⟨mk fun s => { s with lnk := { s.lnk with gap := true, rxCount := 3, gapFrom := mk0 } },
    by decide +kernel⟩, ⟨mk fun s => { s with lnk := { s.lnk with gap := true, rxCount := 15, gapFrom := mk0 } },
    by decide +kernel⟩⟩

theorem witness_Retrains :
    (∃ (data : Word) (s : State), s.functional = true ∧ s.regOn R.LNK_CTRL = true ∧ bit data 2 = true ∧ bit data 3 = false ∧
      s.lnk.st = .up ∧ s.lnk.retraining = none) ∧ (∃ (s : State), s.functional = true ∧ s.slp.lock = true ∧ s.boot.step ≠ 7 ∧
      ((s.lnk.st = .up ∨ s.lnk.st = .grace)) ∧ s.lnk.retraining = none) ∧ (∃ (s : State), s.functional = true ∧
      s.slp.lock = true ∧ s.boot.step = 7 ∧ s.boot.trainSends < 10) ∧ (∃ (msg : BitVec 64) (r : Retrain) (s : State),
      Settled s ∧ s.functional = true ∧ s.slp.lock = true ∧ s.boot.step ≠ 7 ∧ s.lnk.retraining = some r) ∧
      (∃ (msg : BitVec 64) (s : State), Settled s ∧ s.functional = true ∧ s.slp.lock = true ∧ s.boot.step = 7 ∧
      s.boot.ownUsable.isSome = true ∧ s.boot.peerUsable.isSome = true ∧ s.seam.usable ≠ 0) ∧
      (∃ (s : State) (r : Retrain) (u : BitVec 32) (d : BitVec 32), s.platLive = true ∧ s.lnk.retraining = some r ∧
      r.resume = some (u, d) ∧ r.tailored = true ∧ r.downAfter = false ∧ s.seam.usable ≠ 0) ∧ (∃ (s : State) (r : Retrain),
      Settled s ∧ s.platLive = true ∧ s.lnk.retraining = some r ∧ ((r.tailored = false ∨ r.resume = none))) ∧
      (∃ (s : State) (r : Retrain), s.platLive = true ∧ s.lnk.retraining = some r ∧ s.lnk.st = .retrain) ∧
      (∃ (s : State) (r : Retrain), s.platLive = true ∧ s.lnk.retraining = some r ∧ s.lnk.st = .grace) ∧ (∃ (s : State),
      s.platLive = true ∧ s.lnk.st = .grace) :=
  ⟨⟨4, live, by decide +kernel⟩, ⟨live, by decide +kernel⟩, ⟨starting 7 fun s => s, by decide +kernel⟩, ⟨0x900000007,
    { rtr with tailored := false, resume := none },
    mk fun s => { s with lnk := { s.lnk with st := .retrain, retraining := some { rtr with tailored := false, resume := none } } },
    settled_settle _, by decide +kernel⟩, ⟨0,
    starting 7 fun s => { s with boot := { s.boot with ownUsable := some 1, peerUsable := some 1 } }, settled_settle _,
    by decide +kernel⟩,
    ⟨mk fun s => { s with lnk := { s.lnk with st := .retrain, retraining := some rtr, nextSeq := 1, siding := [sf 0] } }, rtr,
    7, 9, by decide +kernel⟩,
    ⟨mk fun s => { s with lnk := { s.lnk with st := .retrain, retraining := some { rtr with tailored := false, resume := none } } },
    { rtr with tailored := false, resume := none }, settled_settle _, by decide +kernel⟩,
    ⟨mk fun s => { s with lnk := { s.lnk with st := .retrain, retraining := some rtr, retrainFails := 2 } }, rtr,
    by decide +kernel⟩,
    ⟨mk fun s => { s with lnk := { s.lnk with st := .grace, retraining := some { rtr with inGrace := true } } },
    { rtr with inGrace := true }, by decide +kernel⟩,
    ⟨mk fun s => { s with lnk := { s.lnk with st := .grace, graceFrom := mk0 } }, by decide +kernel⟩⟩

theorem witness_HoldFlushRestart :
    (∃ (msg : BitVec 32) (s : State), s.functional = true ∧ s.slp.lock = true ∧ s.boot.step ≠ 7 ∧
      ((s.lnk.st = .up ∨ s.lnk.st = .retrain))) ∧ (∃ (s : State), s.platLive = true ∧ s.lnk.st = .grace ∧
      s.canResume = false) ∧ (∃ (s : State), s.platLive = true ∧ s.lnk.st = .grace ∧ s.canResume = true ∧ ((∀ r,
      s.lnk.retraining = some r → r.downAfter = false))) ∧ (∃ (data : Word) (s : State), s.functional = true ∧
      s.regOn R.LNK_CTRL = true ∧ bit data 1 = true ∧ bit data 3 = false ∧ s.lnk.st = .grace) ∧ (∃ (data : Word) (s : State),
      s.functional = true ∧ s.regOn R.LNK_CTRL = true ∧ bit data 3 = true ∧ s.lnk.st = .flushed) :=
  ⟨⟨4, live, by decide +kernel⟩, ⟨mk fun s => { s with lnk := { s.lnk with st := .grace } }, by decide +kernel⟩,
    ⟨mk fun s => { s with lnk := { s.lnk with st := .grace, retraining := some { rtr with inGrace := true } }, seam := { s.seam with upSlot := 7 } },
    by decide +kernel⟩, ⟨2, mk fun s => { s with lnk := { s.lnk with st := .grace } }, by decide +kernel⟩, ⟨8,
    mk fun s => { s with lnk := { s.lnk with st := .flushed } }, by decide +kernel⟩⟩

theorem witness_TimeSets :
    (∃ (s : State), Settled s ∧ s.functional = true ∧ s.rwt.inSet = false ∧ 7 ≤ s.boot.reached.toNat) ∧ (∃ (s : State),
      Settled s ∧ s.functional = true ∧ s.rwt.inSet = true ∧ s.rwt.exch.length < 8) ∧
      (∃ (msg : BitVec 160) (x : TimeExch) (xs : List TimeExch) (s : State), Settled s ∧ s.functional = true ∧
      s.slp.lock = true ∧ s.rwt.inSet = true ∧ s.rwt.exch = xs ++ [x] ∧ x.mseq = bits msg 152 8 ∧ (∀ y ∈ xs,
      y.mseq ≠ bits msg 152 8) ∧ x.got = none ∧ x.dead = false ∧ (s.now : Int) ≤ x.t1 + 10000) ∧ (∃ (x : TimeExch) (s : State),
      Settled s ∧ s.functional = true ∧ (s.rwt.exch.find? fun x => x.got.isNone && !x.dead) = some x) ∧ (∃ (s : State),
      s.functional = true ∧ s.rwt.inSet = true ∧ bestExch (s.rwt.exch.filterMap (·.got)) = none) ∧
      (∃ (d : Int) (o : Int) (q : BitVec 2) (s : State), s.functional = true ∧ s.rwt.inSet = true ∧
      bestExch (s.rwt.exch.filterMap (·.got)) = some (d, o, q)) ∧ (∃ (data : Word) (s : State), Settled s ∧
      s.functional = true ∧ s.regOn R.RWT_CTRL = true ∧ bit data 0 = true ∧ s.ttb.st ≠ .running ∧ s.ttb.st ≠ .startArmed) :=
  ⟨⟨live, settled_settle _, by decide +kernel⟩,
    ⟨mk fun s => { s with rwt := { s.rwt with inSet := true, exch := [⟨7, 999000, none, false⟩] } }, settled_settle _,
    by decide +kernel⟩, ⟨(7#8 ++ 0#8 ++ 0#16 ++ 999500#64 ++ 999400#64), ⟨7, 999000, none, false⟩, [],
    mk fun s => { s with rwt := { s.rwt with inSet := true, exch := [⟨7, 999000, none, false⟩] } }, settled_settle _,
    by decide +kernel⟩, ⟨⟨7, 999000, none, false⟩,
    mk fun s => { s with rwt := { s.rwt with inSet := true, exch := [⟨7, 999000, none, false⟩] } }, settled_settle _,
    by decide +kernel⟩, ⟨mk fun s => { s with rwt := { s.rwt with inSet := true } }, by decide +kernel⟩, ⟨40, 3, 1,
    mk fun s => { s with rwt := { s.rwt with inSet := true, st := .locked, exch := [⟨7, 999000, some (40, 3, 1), false⟩] } },
    by decide +kernel⟩, ⟨1, live, settled_settle _, by decide +kernel⟩⟩

set_option maxRecDepth 100000 in
theorem witness_Loads :
    (∃ (data : Word) (s : State), s.functional = true ∧ s.regOn R.TTB_LOAD_CTRL = true ∧ bit data 0 = true ∧
      s.ttb.load = none ∧ (s.pair R.TTB_LOAD_ADDR_LO).toNat % 4096 = 0) ∧ (∃ (data : Word) (s : State), s.functional = true ∧
      s.regOn R.TTB_LOAD_CTRL = true ∧ bit data 0 = true ∧ s.ttb.load = none ∧ (s.pair R.TTB_LOAD_ADDR_LO).toNat % 4096 ≠ 0) ∧
      (∃ (data : Word) (s : State), s.functional = true ∧ s.regOn R.TTB_LOAD_CTRL = true ∧ bit data 0 = true ∧
      s.ttb.load.isSome = true) ∧ (∃ (fetched : Bool) (image : List Byte) (ld : Load) (s : State), s.platLive = true ∧
      s.ttb.load = some ld ∧ ld.bank = none ∧ s.hasPort ld.port = true ∧ ((fetched = true ∨ 128 ≤ image.length)) ∧
      hdrChecks image ld s.own s.freeEntries ≠ 0) ∧ (∃ (image : List Byte) (ld : Load) (s : State), s.platLive = true ∧
      s.ttb.load = some ld ∧ ld.bank = none ∧
      ((s.hasPort ld.port = false ∨ image.length < 128 ∨ hdrChecks image ld s.own s.freeEntries = 0))) ∧
      (∃ (image : List Byte) (ld : Load) (s : State), s.platLive = true ∧ s.ttb.load = some ld ∧ ld.bank = none ∧
      s.hasPort ld.port = true ∧ hdrChecks image ld s.own s.freeEntries = 0 ∧ s.structureOk image ld = true ∧
      imgBytes image (leAt image 64 8) (leAt image 72 4) = []) ∧
      (∃ (hdr : BitVec 128) (flits : Nat) (p : Prog) (ld : Load) (b : Bank) (s : State), s.functional = true ∧
      s.mgmtBad (MHdr.ofBits hdr) 1 flits = false ∧ (MHdr.ofBits hdr).op = 0x66 ∧
      (s.vtx.progs.find? fun p => p.rtags.contains (MHdr.ofBits hdr).rtag) = some p ∧ p.what = .load ∧ s.ttb.load = some ld ∧
      ld.bank = some b ∧ p.rtags = [(MHdr.ofBits hdr).rtag]) ∧
      (∃ (hdr : BitVec 128) (flits : Nat) (p : Prog) (ld : Load) (b : Bank) (s : State), s.functional = true ∧
      s.mgmtBad (MHdr.ofBits hdr) 1 flits = false ∧ (MHdr.ofBits hdr).op = 0x66 ∧
      (s.vtx.progs.find? fun p => p.rtags.contains (MHdr.ofBits hdr).rtag) = some p ∧ p.what = .load ∧ s.ttb.load = some ld ∧
      ld.bank = some b) ∧ (∃ (p : Prog) (ps : List Prog) (s : State), s.functional = true ∧ s.vtx.progs = p :: ps ∧
      p.what = .load ∧ s.ttb.load.isSome = true) :=
  ⟨⟨1, live, by decide +kernel⟩, ⟨1, mk (·.setReg R.TTB_LOAD_ADDR_LO 0xFFF), by decide +kernel⟩, ⟨1,
    mk fun s => { s with ttb := { s.ttb with load := some (ldr none) } }, by decide +kernel⟩, ⟨false, List.replicate 128 0,
    ldr none, mk fun s => { s with ttb := { s.ttb with load := some (ldr none) } }, by decide +kernel⟩, ⟨[], ldr none,
    mk fun s => { s with ttb := { s.ttb with load := some (ldr none) } }, by decide +kernel⟩, ⟨image0, ldr none,
    mk fun s => { s with ttb := { s.ttb with load := some (ldr none) } }, by decide +kernel⟩, ⟨mh 0x66 1 8, 1, pg .load,
    ldr (some bnk), bnk,
    mk fun s => { s with ttb := { s.ttb with load := some (ldr (some bnk)) }, vtx := { s.vtx with progs := [pg .load] } },
    by decide +kernel⟩, ⟨mh 0x66 1 8, 1, pg .load, ldr (some bnk), bnk,
    mk fun s => { s with ttb := { s.ttb with load := some (ldr (some bnk)) }, vtx := { s.vtx with progs := [pg .load] } },
    by decide +kernel⟩, ⟨pg .load, [],
    mk fun s => { s with ttb := { s.ttb with load := some (ldr (some bnk)) }, vtx := { s.vtx with progs := [pg .load] } },
    by decide +kernel⟩⟩

theorem witness_StartsHaltsSwitches :
    (∃ (data : Word) (s : State), s.functional = true ∧ s.regOn R.TTB_CTRL = true ∧ bit data 0 = true ∧ bit data 4 = false ∧
      bit data 1 = false) ∧ (∃ (data : Word) (s : State), s.functional = true ∧ s.regOn R.TTB_CTRL = true ∧ bit data 4 = true ∧
      bit data 0 = false ∧ bit data 1 = false) ∧ (∃ (data : Word) (s : State), s.functional = true ∧
      s.regOn R.TTB_CTRL = true ∧ bit data 1 = true ∧ bit data 0 = false ∧ bit data 4 = false) ∧ (∃ (data : Word) (s : State),
      s.functional = true ∧ s.regOn R.TTB_SWITCH = true ∧ bit data 16 = true ∧ bit data 17 = false) ∧
      (∃ (data : Word) (s : State), s.functional = true ∧ s.regOn R.TTB_SWITCH = true ∧ bit data 17 = true ∧
      bit data 16 = false ∧ s.ttb.standby = .armed) :=
  ⟨⟨1, mk fun s => { (s.setReg R.TTB_START_LO 20000) with ttb := { s.ttb with standby := .ready } }, by decide +kernel⟩, ⟨0x10,
    mk fun s => { (s.setReg R.TTB_START_LO 20000) with ttb := { s.ttb with st := .stopped, banks := Vector.replicate 2 (some bnk) } },
    by decide +kernel⟩, ⟨2,
    mk fun s => { s with ttb := { s.ttb with st := .running, banks := Vector.replicate 2 (some bnk) } }, by decide +kernel⟩,
    ⟨0x10002,
    mk fun s => { s with ttb := { s.ttb with st := .running, banks := Vector.replicate 2 (some bnk), cycleG := 20000, path := 20000, standby := .ready } },
    by decide +kernel⟩, ⟨0x20000, mk fun s => { s with ttb := { s.ttb with standby := .armed } }, by decide +kernel⟩⟩

theorem witness_PathBoundaries :
    (∃ (b : Bank) (s : State), s.platLive = true ∧ s.ttb.st = .startArmed ∧ s.ttb.recv = [] ∧ s.ttb.due = [] ∧
      s.ttb.stops = [] ∧ s.ttb.g0 ≤ s.nextPath ∧ s.bank = some b ∧ s.bankChecks b true = 0 ∧ b.filled = true) ∧
      (∃ (x : Stop) (s : State), s.platLive = true ∧ s.ttb.st = .running ∧
      s.ttb.stops.find? (fun x => decide (x.atG ≤ s.ttb.path + 1)) = some x) ∧ (∃ (s : State), s.platLive = true ∧
      s.ttb.st = .running ∧ s.ttb.stops = [] ∧ s.ttb.standby ≠ .armed ∧ s.msh.release = none ∧
      s.ttb.cycleG + s.cyclePaths ≤ s.ttb.path + 1) ∧ (∃ (s : State), s.platLive = true ∧ s.ttb.st = .running ∧
      s.ttb.stops = [] ∧ s.ttb.path + 1 < s.ttb.cycleG + s.cyclePaths) ∧ (∃ (msg : BitVec 96) (s : State),
      s.functional = true ∧ s.slp.lock = true) :=
  ⟨⟨bnk,
    mk fun s => { s with ttb := { s.ttb with banks := Vector.replicate 2 (some bnk), st := .startArmed, g0 := 15000, path := 14999 } },
    by decide +kernel⟩, ⟨⟨15001, 1, 0, 0⟩,
    mk fun s => { s with ttb := { s.ttb with banks := Vector.replicate 2 (some bnk), st := .running, path := 15000, stops := [⟨15001, 1, 0, 0⟩], cycleG := 15000 } },
    by decide +kernel⟩,
    ⟨mk fun s => { s with ttb := { s.ttb with banks := Vector.replicate 2 (some bnk), st := .running, path := 15000, cycleG := 14873 } },
    by decide +kernel⟩,
    ⟨mk fun s => { s with ttb := { s.ttb with banks := Vector.replicate 2 (some bnk), st := .running, path := 15000, cycleG := 15000 } },
    by decide +kernel⟩, ⟨(1000999#64 ++ 0x0085#32),
    mk fun s => { (s.setFld F.TTB_CTRL.AUTO_N1 1) with ttb := { s.ttb with banks := Vector.replicate 2 (some bnk), st := .running, path := 15000 } },
    by decide +kernel⟩⟩

theorem witness_ContributionsCount :
    (∃ (hdr : BitVec 256) (data : List Byte) (flits : Nat) (s : State) (h : JHdr) (g : JGroup) (m : Member),
      h = JHdr.ofBits hdr ∧ GoodT5 0x40 hdr data flits s ∧ Takes h g m s ∧ s.functional = true ∧ g.sums = true ∧
      runOk g h.format.toNat h.elemOff.toNat (h.elems.toNat + 1) data.length = true ∧
      (((g.leaves.drop h.elemOff.toNat).take (h.elems.toNat + 1)).any fun c => decide (2 ^ 20 < c + (if isPartial h.format.toNat then h.weight.toNat else 1))) = false) ∧
      (∃ (hdr : BitVec 256) (data : List Byte) (flits : Nat) (s : State) (h : JHdr) (g : JGroup) (m : Member),
      h = JHdr.ofBits hdr ∧ GoodT5 0x42 hdr data flits s ∧ Takes h g m s ∧ s.functional = true ∧ g.sums = true ∧
      formatOk h.format.toNat = true ∧ elemBytes h.format.toNat (h.elems.toNat + 1) = data.length ∧
      h.elemOff.toNat + (h.elems.toNat + 1) ≤ g.elems) ∧
      (∃ (hdr : BitVec 256) (data : List Byte) (flits : Nat) (s : State) (h : JHdr) (g : JGroup) (m : Member),
      h = JHdr.ofBits hdr ∧ GoodT5 0x43 hdr data flits s ∧ Takes h g m s ∧ s.functional = true ∧ g.operation = 2) ∧
      (∃ (hdr : BitVec 256) (data : List Byte) (flits : Nat) (s : State) (h : JHdr), Settled s ∧ h = JHdr.ofBits hdr ∧
      GoodT5 0x44 hdr data flits s ∧ s.functional = true) ∧
      (∃ (hdr : BitVec 256) (data : List Byte) (flits : Nat) (s : State) (c : Instr), Settled s ∧ s.functional = true ∧
      ((c = .contrib hdr data flits ∨ c = .ready hdr data flits ∨ c = .result hdr data flits ∨ c = .a2aData hdr data flits ∨ c = .mcastData hdr data flits ∨ c = .mcastDone hdr data flits ∨ c = .abort hdr data flits)) ∧
      ((t5Data (JHdr.ofBits hdr) ≠ some data.length ∨ (JHdr.ofBits hdr).rsv ≠ 0 ∨ flits ≠ flitsOf (32 + data.length) ∨ 4096 < data.length))) ∧
      (∃ (hdr : BitVec 256) (data : List Byte) (flits : Nat) (s : State) (h : JHdr), Settled s ∧ h = JHdr.ofBits hdr ∧
      GoodT5 0x40 hdr data flits s ∧ s.functional = true ∧ s.group h.group = none) ∧
      (∃ (hdr : BitVec 256) (data : List Byte) (flits : Nat) (s : State) (h : JHdr) (g : JGroup) (m : Member), Settled s ∧
      h = JHdr.ofBits hdr ∧ GoodT5 0x40 hdr data flits s ∧ s.functional = true ∧ s.group h.group = some g ∧ g.live = true ∧
      s.flag F.JCT_CTRL.EN = true ∧ g.members[h.member.toNat]? = some m ∧ m.phys ≠ h.src) :=
  ⟨⟨jh 0x40 0x0085 127 31 0, List.replicate 128 0, 1, mk fun s => { s with jct := { s.jct with groups := [grp] } },
    JHdr.ofBits (jh 0x40 0x0085 127 31 0), grp, ⟨0x0085, 0, 0, false, false, false⟩, rfl, by unfold GoodT5; decide +kernel,
    by unfold Takes; decide +kernel, by decide +kernel⟩, ⟨jh 0x42 0x0085 127 31 0, List.replicate 128 0, 1,
    mk fun s => { s with jct := { s.jct with groups := [grp] } }, JHdr.ofBits (jh 0x42 0x0085 127 31 0), grp, ⟨0x0085, 0, 0,
    false, false, false⟩, rfl, by unfold GoodT5; decide +kernel, by unfold Takes; decide +kernel, by decide +kernel⟩,
    ⟨jh 0x43 0x0085 127 31 0, List.replicate 128 0, 1,
    mk fun s => { s with jct := { s.jct with groups := [{ grp with operation := 2 }] } },
    JHdr.ofBits (jh 0x43 0x0085 127 31 0), { grp with operation := 2 }, ⟨0x0085, 0, 0, false, false, false⟩, rfl,
    by unfold GoodT5; decide +kernel, by unfold Takes; decide +kernel, by decide +kernel⟩, ⟨jh 0x44 0x0085 127 31 0,
    List.replicate 128 0, 1, live, JHdr.ofBits (jh 0x44 0x0085 127 31 0), settled_settle _, rfl,
    by unfold GoodT5; decide +kernel, by decide +kernel⟩, ⟨jh 0x40 0x0085 126 31 0, List.replicate 128 0, 1, live,
    .contrib (jh 0x40 0x0085 126 31 0) (List.replicate 128 0) (1), settled_settle _, by decide +kernel⟩,
    ⟨jh 0x40 0x0085 127 31 0, List.replicate 128 0, 1, live, JHdr.ofBits (jh 0x40 0x0085 127 31 0), settled_settle _, rfl,
    by unfold GoodT5; decide +kernel, by decide +kernel⟩, ⟨jh 0x40 0x0087 127 31 0, List.replicate 128 0, 1,
    mk fun s => { s with jct := { s.jct with groups := [grp] } }, JHdr.ofBits (jh 0x40 0x0087 127 31 0), grp, ⟨0x0085, 0, 0,
    false, false, false⟩, settled_settle _, rfl, by unfold GoodT5; decide +kernel, by decide +kernel⟩⟩

theorem witness_GroupsEnd :
    (∃ (hdr : BitVec 256) (flits : Nat) (s : State) (h : JHdr) (g : JGroup), h = JHdr.ofBits hdr ∧ GoodT5 0x41 hdr [] flits s ∧
      s.functional = true ∧ s.group h.group = some g ∧ g.live = true ∧ g.outKind = .parent ∧ g.parent = h.src ∧
      g.ready = none) ∧ (∃ (hdr : BitVec 256) (flits : Nat) (s : State) (h : JHdr), h = JHdr.ofBits hdr ∧
      GoodT5 0x41 hdr [] flits s ∧ Settled s ∧ s.functional = true ∧ (∀ g ∈ s.jct.groups, g.parent ≠ h.src) ∧
      ((∀ g ∈ s.jct.groups, g.num = h.group → g.heeds h.src = false)) ∧ (∀ m ∈ s.asp.mems, m.dest ≠ h.src)) ∧
      (∃ (hdr : BitVec 256) (flits : Nat) (s : State) (h : JHdr) (g : JGroup), h = JHdr.ofBits hdr ∧
      GoodT5 0x41 hdr [] flits s ∧ Settled s ∧ s.functional = true ∧ g ∈ s.jct.groups ∧ g.live = true ∧ g.num = h.group ∧
      g.heeds h.src = true ∧ ((∀ x ∈ s.jct.groups, x.num = h.group → x.parent ≠ h.src))) ∧
      (∃ (hdr : BitVec 256) (data : List Byte) (flits : Nat) (s : State) (h : JHdr) (g : JGroup), h = JHdr.ofBits hdr ∧
      GoodT5 0x45 hdr data flits s ∧ s.functional = true ∧ s.group h.group = some g ∧ g.live = true ∧ g.started = true ∧
      g.operation = 3 ∧ h.tree = g.tree) ∧
      (∃ (hdr : BitVec 256) (data : List Byte) (flits : Nat) (s : State) (h : JHdr) (g : JGroup), h = JHdr.ofBits hdr ∧
      GoodT5 0x45 hdr data flits s ∧ s.functional = true ∧ s.group h.group = some g ∧ g.live = true ∧ g.started = true ∧
      g.sums = true ∧ g.t6 = false ∧ h.tree = g.tree) ∧
      (∃ (hdr : BitVec 256) (flits : Nat) (s : State) (h : JHdr) (g : JGroup), h = JHdr.ofBits hdr ∧
      GoodT5 0x46 hdr [] flits s ∧ s.functional = true ∧ s.group g.num = some g ∧
      (s.jct.groups.find? fun g => g.live && ((g.num == h.group && g.members.any (·.phys == h.src)) || (g.outKind == .parent && g.parent == h.src && (g.ready.map (·.1)).getD g.num == h.group))) = some g) ∧
      (∃ (num : BitVec 12) (s : State) (g : JGroup), s.functional = true ∧ s.group num = some g ∧ g.live = true ∧
      g.operation = 3 ∧ g.started = true) ∧ (∃ (num : BitVec 12) (s : State) (g : JGroup), s.functional = true ∧
      s.group num = some g ∧ g.live = true ∧ g.t6 = false ∧ g.fallback = false) ∧ (∃ (data : Word) (s : State),
      s.functional = true ∧ s.regOn R.JCT_CTRL = true ∧ bit data 1 = true ∧ (s.jct.groups.map (·.num)).Nodup) :=
  ⟨⟨jh 0x41 0x0083 0 0 9, 1, mk fun s => { s with jct := { s.jct with groups := [{ grp with outKind := .parent }] } },
    JHdr.ofBits (jh 0x41 0x0083 0 0 9), { grp with outKind := .parent }, rfl, by unfold GoodT5; decide +kernel,
    by decide +kernel⟩, ⟨jh 0x41 0x0083 0 0 9, 1, live, JHdr.ofBits (jh 0x41 0x0083 0 0 9), rfl,
    by unfold GoodT5; decide +kernel, settled_settle _, by decide +kernel⟩, ⟨jh 0x41 0x0085 0 0 9, 1,
    mk fun s => { s with jct := { s.jct with groups := [{ grp with operation := 2 }] } }, JHdr.ofBits (jh 0x41 0x0085 0 0 9),
    { grp with operation := 2 }, rfl, by unfold GoodT5; decide +kernel, settled_settle _, by decide +kernel⟩,
    ⟨jh 0x45 0x0085 31 0 0, List.replicate 32 0, 1,
    mk fun s => { s with jct := { s.jct with groups := [{ grp with operation := 3, started := true }] } },
    JHdr.ofBits (jh 0x45 0x0085 31 0 0), { grp with operation := 3, started := true }, rfl, by unfold GoodT5; decide +kernel,
    by decide +kernel⟩, ⟨jh 0x45 0x0085 31 0 0, List.replicate 32 0, 1,
    mk fun s => { s with jct := { s.jct with groups := [{ grp with outKind := .branch, started := true }] } },
    JHdr.ofBits (jh 0x45 0x0085 31 0 0), { grp with outKind := .branch, started := true }, rfl,
    by unfold GoodT5; decide +kernel, by decide +kernel⟩, ⟨jh 0x46 0x0085 0 0 0, 1,
    mk fun s => { s with jct := { s.jct with groups := [grp] } }, JHdr.ofBits (jh 0x46 0x0085 0 0 0), grp, rfl,
    by unfold GoodT5; decide +kernel, by decide +kernel⟩, ⟨5,
    mk fun s => { s with jct := { s.jct with groups := [{ grp with operation := 3, started := true }] } },
    { grp with operation := 3, started := true }, by decide +kernel⟩, ⟨5,
    mk fun s => { s with jct := { s.jct with groups := [grp] } }, grp, by decide +kernel⟩, ⟨2,
    mk fun s => { s with jct := { s.jct with groups := [grp] } }, by decide +kernel⟩⟩

theorem witness_AnalogGroups :
    (∃ (msg : BitVec 96) (m : AspMem) (s : State), Settled s ∧ s.functional = true ∧ s.slp.lock = true ∧ s.lnk.gen = 3 ∧
      fld msg 17 3 < 4 ∧ (s.asp.mems.find? fun m => m.num == bits msg 0 12 && m.contrib == fld msg 12 5) = some m ∧
      ((fld msg 17 3 ≠ 3 ∨ m.ended = true ∨ s.ttb.st = .running))) ∧ (∃ (msg : BitVec 96) (m : AspMem) (s : State), Settled s ∧
      s.functional = true ∧ s.slp.lock = true ∧ s.lnk.gen = 3 ∧ fld msg 17 3 < 4 ∧
      (s.asp.mems.find? fun m => m.num == bits msg 0 12 && m.contrib == fld msg 12 5) = some m ∧ fld msg 17 3 = 3 ∧
      m.ended = false ∧ s.ttb.st ≠ .running) ∧ (∃ (msg : BitVec 32) (s : State), Settled s ∧ s.functional = true ∧
      s.slp.lock = true) ∧ (∃ (g : BitVec 12) (j : BitVec 5) (c : CtlOut) (s : State), Settled s ∧ s.functional = true ∧
      (s.asp.ctls.find? fun c => c.group == g && c.contrib == j.toNat) = some c ∧ c.sends < 3) ∧
      (∃ (g : BitVec 12) (j : BitVec 5) (c : CtlOut) (s : State) (d : AspDest) (k : Contrib), Settled s ∧ s.functional = true ∧
      (s.asp.ctls.find? fun c => c.group == g && c.contrib == j.toNat) = some c ∧ 3 ≤ c.sends ∧ s.aspDest g = some d ∧
      d.cons[j.toNat]? = some k ∧ k.state = 1) ∧
      (∃ (num : BitVec 12) (d : AspDest) (due : Nat) (rest : List Nat) (g : JGroup) (s : State), s.functional = true ∧
      s.aspDest num = some d ∧ d.fbDue = due :: rest ∧ s.group d.fbGroup = some g ∧ g.fallback = true ∧ g.live = true ∧
      g.sums = true ∧ g.hasLocal = false) ∧ (∃ (num : BitVec 12) (d : AspDest) (s : State), Settled s ∧ s.functional = true ∧
      s.aspDest num = some d ∧ d.fbDue = []) ∧ (∃ (num : BitVec 12) (d : AspDest) (s : State), s.functional = true ∧
      s.aspDest num = some d ∧ d.st = .fallback ∧ d.autoReturn = true) :=
  ⟨⟨((0#8 ++ 8#8 ++ 3#16 ++ 2#16 ++ 5#16 ++ 4#16 ++ 4102#16 : BitVec 96)), amem,
    mk fun s => { s with asp := { s.asp with mems := [amem] } }, settled_settle _, by decide +kernel⟩, ⟨((0#8 ++ 8#8 ++ 3#16 ++
    2#16 ++ 5#16 ++ 6#16 ++ 4102#16 : BitVec 96)), amem, mk fun s => { s with asp := { s.asp with mems := [amem] } },
    settled_settle _, by decide +kernel⟩, ⟨((9#8 ++ 0#8 ++ 0x1006#16)),
    mk fun s => { s with asp := { s.asp with dests := [adst], ctls := [cto 1] } }, settled_settle _, by decide +kernel⟩, ⟨6, 1,
    cto 2, mk fun s => { s with asp := { s.asp with dests := [adst], ctls := [cto 2] } }, settled_settle _, by decide +kernel⟩,
    ⟨6, 1, cto 3, mk fun s => { s with asp := { s.asp with dests := [adst], ctls := [cto 3] } }, adst, con 0x0086,
    settled_settle _, by decide +kernel⟩, ⟨6, { adst with fbDue := [2000000], st := .fallback }, 2000000, [],
    { grp with fallback := true },
    mk fun s => { s with asp := { s.asp with dests := [{ adst with fbDue := [2000000], st := .fallback }] }, jct := { s.jct with groups := [{ grp with fallback := true }] } },
    by decide +kernel⟩, ⟨6, adst, mk fun s => { s with asp := { s.asp with dests := [adst] } }, settled_settle _,
    by decide +kernel⟩, ⟨6, { adst with st := .fallback },
    mk fun s => { s with asp := { s.asp with dests := [{ adst with st := .fallback }] } }, by decide +kernel⟩⟩

theorem witness_MarshallingGoesOn :
    (∃ (r : Nat) (s : State), Settled s ∧ s.platLive = true ∧ s.running? = false ∧ s.msh.release = some (.time r) ∧
      s.msh.hasStage = true ∧ (s.msh.staged.map (·.lid)).Nodup) ∧
      (∃ (msg : BitVec 96) (l : BitVec 16) (e : BitVec 64) (s : State), s.functional = true ∧ s.slp.lock = true ∧
      s.flag F.MSH_CTRL.AUTO_PAIR = true ∧ s.msh.staged = [] ∧ s.msh.fences = [] ∧ s.msh.release = none ∧
      (s.msh.bind.map (·.1)).Nodup ∧ (∀ x ∈ s.msh.bind, x.1 < 65536) ∧ cellsGet l.toNat s.msh.bind = some e ∧
      bPhys e = bits msg 0 14) ∧ (∃ (words : List Word) (i : Nat) (s : State), Settled s ∧ ((∀ j, i < j →
      j < min (fld (words.headD 0) 0 8) (2 * (words.length - 1)) → ((beaconItem words s.now j).tile,
      (beaconItem words s.now j).num) ≠ ((beaconItem words s.now i).tile, (beaconItem words s.now i).num))) ∧
      s.platLive = true ∧ s.slp.lock = true ∧ i < min (fld (words.headD 0) 0 8) (2 * (words.length - 1))) ∧ (∃ (s : State),
      Settled s ∧ s.platLive = true) ∧ (∃ (tile : Bool) (num : BitVec 7) (b : Beacon) (s : State), Settled s ∧
      s.platLive = true ∧ (s.msh.beacons.find? fun b => b.tile == tile && b.num == num) = some b ∧ b.stale = false) ∧
      (∃ (s : State), s.platLive = true) ∧ (∃ (hdr : BitVec 128) (data : List Byte) (flits : Nat) (o : DirRec) (s : State),
      Settled s ∧ GoodT0 0x62 hdr data flits s ∧ s.platLive = true ∧ data.length = 64 ∧ recFormOk data = true ∧
      s.recAt (recOf data).base = some o) ∧ (∃ (hdr : BitVec 128) (data : List Byte) (flits : Nat) (o : DirRec) (s : State),
      GoodT0 0x63 hdr data flits s ∧ s.platLive = true ∧ data.length = 68 ∧ recFormOk (data.take 64) = true ∧
      s.recAt (recOf (data.take 64)).base = some o) ∧
      (∃ (hdr : BitVec 128) (data : List Byte) (flits : Nat) (o : DirRec) (s : State), Settled s ∧
      GoodT0 0x64 hdr data flits s ∧ s.platLive = true ∧ data.length = 8 ∧ s.recAt (leWord 64 data 0 8) = some o) ∧
      (∃ (n : BitVec 6) (data : Word) (r : Ring) (s : State), Settled s ∧ s.functional = true ∧
      s.regOn (R.MSH_RING_CONS + 4 * n.toNat) = true ∧ s.msh.rings[n.toNat]! = some r) :=
  ⟨⟨2000000,
    mk fun s => { s with msh := { s.msh with release := some (.time 2000000), hasStage := true, staged := [⟨0xFFFF, 5, true⟩, ⟨3, 7, true⟩] } },
    settled_settle _, by decide +kernel⟩, ⟨(3000000#64 ++ 0x0085#32), 3, mkBind 0 2 false 0x0085 4,
    mk fun s => { s.setFld F.MSH_CTRL.AUTO_PAIR 1 with msh := { s.msh with bind := [(3, mkBind 0 2 false 0x0085 4)] } },
    by decide +kernel⟩, ⟨[2, 0xFF05FF04], 1, live, settled_settle _,
    fun j h k => absurd (Nat.lt_of_lt_of_le k (Nat.min_le_right _ _)) (Nat.not_lt.mpr h), by decide +kernel⟩, ⟨live,
    settled_settle _, by decide +kernel⟩, ⟨true, 0x7F, ⟨true, 0x7F, 9, 5, false⟩,
    mk fun s => { s with msh := { s.msh with beacons := [⟨true, 0x7F, 9, 5, false⟩] } }, settled_settle _, by decide +kernel⟩,
    ⟨mk fun s => { s with msh := { s.msh with heat := [⟨2, 5, []⟩] } }, by decide +kernel⟩, ⟨mh 0x62 64 8, recBytes0 0x11, 1,
    rec0, mk fun s => { s with msh := { s.msh with dir := [rec0] } }, settled_settle _, by unfold GoodT0; decide +kernel,
    by decide +kernel⟩, ⟨mh 0x63 68 8, recBytes0 1 ++ [0, 0, 0, 0], 1, rec0,
    mk fun s => { s with msh := { s.msh with dir := [rec0] } }, by unfold GoodT0; decide +kernel, by decide +kernel⟩,
    ⟨mh 0x64 8 8, leBytes 8 0x100000, 1, rec0, mk fun s => { s with msh := { s.msh with dir := [rec0] } }, settled_settle _,
    by unfold GoodT0; decide +kernel, by decide +kernel⟩, ⟨63, 0, ⟨5, 12, 4, 0x1000, 16, 3, 0⟩,
    mk fun s => { s with msh := { s.msh with rings := s.msh.rings.set 63 (some ⟨5, 12, 4, 0x1000, 16, 3, 0⟩) (by decide) } },
    settled_settle _, by decide +kernel⟩⟩

theorem witness_CommandsAreTaken :
    (∃ (data : Word) (s : State), s.functional = true ∧ s.regOn R.SBX_VTX_CTRL = true ∧ bit data 8 = true) ∧
      (∃ (data : Word) (s : State), s.functional = true ∧ s.regOn R.SBX_RING_PROD = true) ∧ (∃ (data : Word) (s : State),
      Settled s ∧ s.functional = true ∧ s.regOn R.SBX_RING_BASE_LO = true) ∧ (∃ (c : List Byte) (s : State), Fits c s ∧
      s.functional = true ∧ s.sbx.ready = true ∧ s.sbx.quiesce = false ∧ s.ctlOn = true ∧ (((s.vtx.mbxGo = true ∧
      c = s.mailbox) ∨ (s.vtx.mbxGo = false ∧ s.vtx.remoteReady = [] ∧ s.vtx.fetched = some c ∧ s.vtx.fetchBusy = false)))) ∧
      (∃ (x : Slot) (s : State), s.functional = true ∧ s.sbx.ready = true ∧ s.sbx.quiesce = false ∧ s.ctlOn = true ∧
      s.vtx.mbxGo = true ∧ s.slot (cmdTag s.mailbox) = some x ∧ x.st = .running) ∧
      (∃ (n : BitVec 5) (ns : List (BitVec 5)) (x : Ctx) (s : State), s.functional = true ∧ s.sbx.ready = true ∧
      s.sbx.quiesce = false ∧ s.ctlOn = true ∧ s.vtx.mbxGo = false ∧ s.vtx.remoteReady = n :: ns ∧ s.ctx n = some x ∧
      x.running = true) ∧ (∃ (x : Slot) (s : State), s.functional = true ∧ s.regOn R.SBX_RPL_HDR = true ∧
      s.sbx.takeover = none ∧ s.rplSlot = some x ∧ x.st = .unread) ∧ (∃ (data : Word) (x : Slot) (s : State), Settled s ∧
      s.functional = true ∧ s.regOn R.SBX_RPL_ACK = true ∧ s.slot (bits data 0 16) = some x) ∧
      (∃ (g : BitVec 16) (gs : List (BitVec 16)) (s : State), Settled s ∧ s.functional = true ∧ s.regOn R.SBX_CPL_FIFO = true ∧
      s.vtx.cpl = g :: gs) :=
  ⟨⟨0x106, mk (·.setFld F.SBX_VTX_CTRL.RING_EN 1), by decide +kernel⟩, ⟨1, mk (·.setFld F.SBX_VTX_CTRL.RING_EN 1),
    by decide +kernel⟩, ⟨0x1000, mk fun s => { s with vtx := { s.vtx with prod := 1, fetched := some [] } }, settled_settle _,
    by decide +kernel⟩, ⟨cmd 0x0101 4 [], mk fun s => { s with vtx := { s.vtx with fetched := some (cmd 0x0101 4 []) } },
    .inl ⟨by decide +kernel, by decide +kernel⟩, by decide +kernel⟩, ⟨{ slot4 0x0101 [] with tag := 0 },
    mk fun s => { s with vtx := { s.vtx with mbxGo := true, slots := [{ slot4 0x0101 [] with tag := 0 }] } },
    by decide +kernel⟩, ⟨31, [], ⟨31, 0x0085, 8, true, cmd 0x0101 4 [], 0, [], 0, false, 0, false⟩,
    mk fun s => { s with vtx := { s.vtx with remoteReady := [31], ctxs := [⟨31, 0x0085, 8, true, cmd 0x0101 4 [], 0, [], 0, false, 0, false⟩] } },
    by decide +kernel⟩, ⟨{ slot4 0x0101 [] with st := .unread, status := 5 },
    mk fun s => { (s.setFld F.SBX_RPL_TAG.TAG 4) with vtx := { s.vtx with slots := [{ slot4 0x0101 [] with st := .unread, status := 5 }] } },
    by decide +kernel⟩, ⟨4, { slot4 0x0101 [] with st := .unread, status := 5 },
    mk fun s => { s with vtx := { s.vtx with slots := [{ slot4 0x0101 [] with st := .unread, status := 5 }] } },
    settled_settle _, by decide +kernel⟩, ⟨4, [], mk fun s => { s with vtx := { s.vtx with cpl := [4] } }, settled_settle _,
    by decide +kernel⟩⟩

theorem witness_RemoteCommands :
    (∃ (hdr : BitVec 128) (data : List Byte) (flits : Nat) (h : MHdr) (n : BitVec 5) (s : State), h = MHdr.ofBits hdr ∧
      GoodT0 0x60 hdr data flits s ∧ s.platLive = true ∧ s.sbx.ready = true ∧ 16 ≤ data.length ∧ (∀ x ∈ s.vtx.ctxs, (x.src,
      x.rtag) ≠ (h.src, h.rtag)) ∧ s.freeCtx = some n) ∧
      (∃ (hdr : BitVec 128) (data : List Byte) (flits : Nat) (h : MHdr) (x : Ctx) (s : State), Settled s ∧
      h = MHdr.ofBits hdr ∧ GoodT0 0x60 hdr data flits s ∧ s.platLive = true ∧
      (s.vtx.ctxs.find? fun x => x.src == h.src && x.rtag == h.rtag) = some x ∧ x.running = true) ∧
      (∃ (hdr : BitVec 128) (data : List Byte) (flits : Nat) (h : MHdr) (s : State), h = MHdr.ofBits hdr ∧
      GoodT0 0x61 hdr data flits s ∧ s.platLive = true ∧ (∃ f ∈ s.vtx.fwds, f.rtag = h.rtag ∧ f.dest = h.src)) ∧
      (∃ (hdr : BitVec 128) (data : List Byte) (flits : Nat) (s : State), Settled s ∧ s.platLive = true ∧
      s.mgmtBad (MHdr.ofBits hdr) data.length flits = true) ∧ (∃ (rtag : BitVec 16) (f : Fwd) (s : State), Settled s ∧
      s.functional = true ∧ s.vtx.fwds.find? (·.rtag == rtag) = some f ∧ f.sends < 4) ∧
      (∃ (rtag : BitVec 16) (f : Fwd) (s : State), s.functional = true ∧ s.vtx.fwds.find? (·.rtag == rtag) = some f) :=
  ⟨⟨mh 0x60 16 8, cmd 0x0101 4 [], 1, MHdr.ofBits (mh 0x60 16 8), 0, live, rfl, by unfold GoodT0; decide +kernel,
    by decide +kernel⟩, ⟨mh 0x60 16 8, cmd 0x0101 4 [], 1, MHdr.ofBits (mh 0x60 16 8), ⟨31, 0x0085, 8, true, cmd 0x0101 4 [],
    0, [], 0, false, 0, false⟩,
    mk fun s => { s with vtx := { s.vtx with ctxs := [⟨31, 0x0085, 8, true, cmd 0x0101 4 [], 0, [], 0, false, 0, false⟩] } },
    settled_settle _, rfl, by unfold GoodT0; decide +kernel, by decide +kernel⟩, ⟨mh 0x61 16 8, List.replicate 16 0, 1,
    MHdr.ofBits (mh 0x61 16 8), mk fun s => { s with vtx := { s.vtx with fwds := [fw1] } }, rfl,
    by unfold GoodT0; decide +kernel, by decide +kernel⟩, ⟨mh 0x67 16 8, List.replicate 16 0, 1, live, settled_settle _,
    by decide +kernel⟩, ⟨8, fw1, mk fun s => { s with vtx := { s.vtx with fwds := [fw1] } }, settled_settle _,
    by decide +kernel⟩, ⟨8, fw1, mk fun s => { s with vtx := { s.vtx with fwds := [fw1] } }, by decide +kernel⟩⟩

theorem witness_ReadingCommands :
    (∃ (ref : CmdRef) (p : List Byte) (s : State), Settled s ∧ Starts ref 0x0101 p s) ∧
      (∃ (ref : CmdRef) (p : List Byte) (s : State), Settled s ∧ Starts ref 0x0203 p s ∧ leAt p 0 2 % 4 = 0 ∧
      leAt p 2 2 % 4 = 0 ∧ 4 ≤ leAt p 2 2 ∧ leAt p 2 2 ≤ 1000 ∧ leAt p 0 2 + leAt p 2 2 ≤ 1576 ∧ s.tlr.frozen = true) ∧
      (∃ (ref : CmdRef) (p : List Byte) (s : State), Settled s ∧ Starts ref 0x0306 p s) ∧
      (∃ (ref : CmdRef) (p : List Byte) (s : State) (r : DirRec), Settled s ∧ Starts ref 0x0603 p s ∧
      s.recAt (leWord 64 p 0 8) = some r) ∧ (∃ (ref : CmdRef) (p : List Byte) (s : State), Settled s ∧ Starts ref 0x0623 p s ∧
      leAt p 2 1 ≤ 120 ∧ leAt p 3 1 = 0 ∧ leAt p 0 2 + leAt p 2 1 ≤ 65536) ∧ (∃ (ref : CmdRef) (p : List Byte) (s : State),
      Settled s ∧ Starts ref 0x0701 p s) ∧ (∃ (ref : CmdRef) (p : List Byte) (s : State), Settled s ∧ Starts ref 0x0802 p s) ∧
      (∃ (ref : CmdRef) (p : List Byte) (s : State), Settled s ∧ Starts ref 0x0901 p s) ∧
      (∃ (ref : CmdRef) (p : List Byte) (s : State), Settled s ∧ Starts ref 0x0904 p s) ∧
      (∃ (ref : CmdRef) (p : List Byte) (s : State), Settled s ∧ Starts ref 0x0A02 p s ∧ s.seam.test.everRun = true) ∧
      (∃ (ref : CmdRef) (p : List Byte) (s : State), Settled s ∧ Starts ref 0x0A04 p s ∧ leAt p 0 2 ≤ 1023 ∧ 1 ≤ leAt p 2 1 ∧
      leAt p 2 1 ≤ 31) ∧ (∃ (ref : CmdRef) (p : List Byte) (s : State), Settled s ∧ Starts ref 0x0A05 p s ∧ 1 ≤ leAt p 0 1 ∧
      leAt p 0 1 ≤ 64 ∧ (∀ i < leAt p 0 1, leAt p (4 + 4 * i) 4 < 2 ^ 24 ∧ leAt p (4 + 4 * i) 4 % 4 = 0)) :=
  ⟨⟨.tag 4, [], taken 0x0101 ([]) fun s => s, settled_settle _, ⟨⟨by decide +kernel, by decide +kernel, by decide +kernel, _,
    _, rfl, rfl, by decide +kernel, by decide +kernel, by decide +kernel⟩, by decide +kernel⟩⟩, ⟨.tag 4, leBytes 2 1572 ++
    leBytes 2 4, taken 0x0203 (leBytes 2 1572 ++ leBytes 2 4) (fun s => { s with tlr := { s.tlr with frozen := true } }),
    settled_settle _, ⟨⟨by decide +kernel, by decide +kernel, by decide +kernel, _, _, rfl, rfl, by decide +kernel,
    by decide +kernel, by decide +kernel⟩, by decide +kernel⟩, by decide +kernel⟩, ⟨.tag 4, [], taken 0x0306 ([]) fun s => s,
    settled_settle _, ⟨⟨by decide +kernel, by decide +kernel, by decide +kernel, _, _, rfl, rfl, by decide +kernel,
    by decide +kernel, by decide +kernel⟩, by decide +kernel⟩⟩, ⟨.tag 4, leBytes 8 0x100000,
    taken 0x0603 (leBytes 8 0x100000) (fun s => { s with msh := { s.msh with dir := [rec0] } }), rec0, settled_settle _,
    ⟨⟨by decide +kernel, by decide +kernel, by decide +kernel, _, _, rfl, rfl, by decide +kernel, by decide +kernel,
    by decide +kernel⟩, by decide +kernel⟩, by decide +kernel⟩, ⟨.tag 4, leBytes 2 65416 ++ [120, 0, 0, 0, 0, 0],
    taken 0x0623 (leBytes 2 65416 ++ [120, 0, 0, 0, 0, 0]) fun s => s, settled_settle _, ⟨⟨by decide +kernel,
    by decide +kernel, by decide +kernel, _, _, rfl, rfl, by decide +kernel, by decide +kernel, by decide +kernel⟩,
    by decide +kernel⟩, by decide +kernel⟩, ⟨.tag 4, [], taken 0x0701 ([]) fun s => s, settled_settle _, ⟨⟨by decide +kernel,
    by decide +kernel, by decide +kernel, _, _, rfl, rfl, by decide +kernel, by decide +kernel, by decide +kernel⟩,
    by decide +kernel⟩⟩, ⟨.tag 4, [], taken 0x0802 ([]) fun s => s, settled_settle _, ⟨⟨by decide +kernel, by decide +kernel,
    by decide +kernel, _, _, rfl, rfl, by decide +kernel, by decide +kernel, by decide +kernel⟩, by decide +kernel⟩⟩, ⟨.tag 4,
    [], taken 0x0901 ([]) fun s => s, settled_settle _, ⟨⟨by decide +kernel, by decide +kernel, by decide +kernel, _, _, rfl,
    rfl, by decide +kernel, by decide +kernel, by decide +kernel⟩, by decide +kernel⟩⟩, ⟨.tag 4, [],
    taken 0x0904 ([]) fun s => s, settled_settle _, ⟨⟨by decide +kernel, by decide +kernel, by decide +kernel, _, _, rfl, rfl,
    by decide +kernel, by decide +kernel, by decide +kernel⟩, by decide +kernel⟩⟩, ⟨.tag 4, [],
    taken 0x0A02 ([]) (fun s => { s with seam := { s.seam with test := { s.seam.test with everRun := true } } }),
    settled_settle _, ⟨⟨by decide +kernel, by decide +kernel, by decide +kernel, _, _, rfl, rfl, by decide +kernel,
    by decide +kernel, by decide +kernel⟩, by decide +kernel⟩, by decide +kernel⟩, ⟨.tag 4, leBytes 2 1023 ++ [31, 0],
    taken 0x0A04 (leBytes 2 1023 ++ [31, 0]) fun s => s, settled_settle _, ⟨⟨by decide +kernel, by decide +kernel,
    by decide +kernel, _, _, rfl, rfl, by decide +kernel, by decide +kernel, by decide +kernel⟩, by decide +kernel⟩,
    by decide +kernel⟩, ⟨.tag 4, [1, 0, 0, 0] ++ leBytes 4 0xFFFFFC, taken 0x0A05 ([1, 0, 0, 0] ++
    leBytes 4 0xFFFFFC) fun s => s, settled_settle _, ⟨⟨by decide +kernel, by decide +kernel, by decide +kernel, _, _, rfl,
    rfl, by decide +kernel, by decide +kernel, by decide +kernel⟩, by decide +kernel⟩, by decide +kernel⟩⟩

set_option maxRecDepth 100000 in
theorem witness_ActingCommands :
    (∃ (ref : CmdRef) (p : List Byte) (s : State), Settled s ∧ Starts ref 0x0106 p s ∧ leAt p 0 1 ≤ 1) ∧
      (∃ (ref : CmdRef) (p : List Byte) (s : State), Settled s ∧ Starts ref 0x0304 p s ∧ s.ttb.standby = .armed) ∧
      (∃ (ref : CmdRef) (p : List Byte) (s : State) (kind : OutKind) (q : BitVec 14) (ids : List (BitVec 16)) (g : JGroup),
      Settled s ∧ Starts ref 0x0401 p s ∧ s.flag F.JCT_CTRL.EN = true ∧ s.flag F.MSH_CTRL.EN = true ∧
      s.group (BitVec.ofNat 12 (leAt p 0 2)) = none ∧ leAt p 2 1 ≤ 3 ∧ outKindOf (leAt p 3 1 / 8 % 4) = some kind ∧
      ((leAt p 2 1 < 2 → formatsBad (leWord 32 p 12 4) (leAt p 16 1) (leAt p 33 1) ((leAt p 3 1).testBit 2) = false ∧
      elemsBad (leWord 32 p 12 4) (leAt p 16 1) (leAt p 4 4) = false)) ∧ ((2 ≤ leAt p 2 1 → leAt p 4 4 = 0)) ∧
      ids = (List.range (leAt p 34 2)).map (fun i => leWord 16 p (56 + 2 * i) 2) ∧ 1 ≤ ids.length ∧ ids.length ≤ 256 ∧
      ((s.lnk.gen = 3 ∨ (leAt p 3 1).testBit 0 = true)) ∧ leAt p 17 1 ≤ 1 ∧ leAt p 18 1 ≤ 1 ∧ leAt p 52 2 < 4096 ∧
      s.jct.groups.length < 4096 ∧ s.membersUsed + ids.length ≤ 32768 ∧ (if kind = .parent ∧
      leAt p 2 1 < 2 then s.physOf (leWord 16 p 50 2) = some q else q = 0) ∧ (ids.filterMap s.physOf).length = ids.length ∧
      g = groupOf p (ids.filterMap s.physOf) q kind s ∧ ((g.t6 = true → leAt p 2 1 < 2 →
      s.accClash g.accBase g.elems = false)) ∧ ((g.t6 = false → g.chunks ≤ s.freeChunks)) ∧ ((g.hasLocal = true →
      s.hasPort g.localPort = true)) ∧ ((kind = .parent → ∀ x ∈ s.jct.readies, x.1 ≠ q))) ∧
      (∃ (ref : CmdRef) (p : List Byte) (s : State) (g : JGroup), Settled s ∧ Starts ref 0x0403 p s ∧ paramGroup p s = some g ∧
      ((g.live = false ∨ (g.t6 = true ∧ s.running? = false)))) ∧ (∃ (ref : CmdRef) (p : List Byte) (s : State) (g : JGroup),
      Settled s ∧ Starts ref 0x0404 p s ∧ paramGroup p s = some g ∧ g.live = true) ∧
      (∃ (ref : CmdRef) (p : List Byte) (s : State) (g : JGroup), Settled s ∧ Starts ref 0x0410 p s ∧ paramGroup p s = some g ∧
      g.live = true ∧ g.sums = false ∧ g.started = false ∧ s.hasPort g.localPort = true ∧ g.chunk ≠ 0) ∧
      (∃ (ref : CmdRef) (p : List Byte) (s : State) (d : AspDest), Settled s ∧ Starts ref 0x0502 p s ∧
      (s.asp.dests.find? fun d => d.num.toNat == leAt p 0 2) = some d) ∧
      (∃ (ref : CmdRef) (p : List Byte) (s : State) (m : AspMem), Settled s ∧ Starts ref 0x0502 p s ∧ m ∈ s.asp.mems ∧
      (∀ d ∈ s.asp.dests, d.num.toNat ≠ leAt p 0 2) ∧ m.num.toNat = leAt p 0 2) ∧
      (∃ (ref : CmdRef) (p : List Byte) (s : State) (d : AspDest), Settled s ∧ Starts ref 0x0503 p s ∧
      (s.asp.dests.find? fun d => d.num.toNat == leAt p 0 2) = some d ∧ ((d.st = .analog ∨ d.st = .fallback))) ∧
      (∃ (ref : CmdRef) (p : List Byte) (s : State) (d : AspDest), Settled s ∧ Starts ref 0x0504 p s ∧
      (s.asp.dests.find? fun d => d.num.toNat == leAt p 0 2) = some d ∧ ((d.st = .analog ∨ d.st = .recal))) ∧
      (∃ (ref : CmdRef) (p : List Byte) (s : State) (bs : List (List Byte)), Settled s ∧ Starts ref 0x0601 p s ∧
      s.flag F.MSH_CTRL.EN = true ∧ 1 ≤ leAt p 0 1 ∧ leAt p 0 1 ≤ 16 ∧
      bs = (List.range (leAt p 0 1)).map (fun i => slice p (8 + 64 * i) 64) ∧ s.dirSetStatus bs = 0) ∧
      (∃ (ref : CmdRef) (p : List Byte) (s : State) (r : DirRec), Settled s ∧ Starts ref 0x0602 p s ∧
      s.flag F.MSH_CTRL.EN = true ∧ s.recAt (leWord 64 p 0 8) = some r ∧ r.migrating = false) ∧
      (∃ (ref : CmdRef) (p : List Byte) (s : State), Settled s ∧ Starts ref 0x0610 p s ∧ s.flag F.MSH_CTRL.EN = true ∧
      leAt p 0 2 ≤ 4095 ∧ leAt p 2 1 ≤ 16 ∧
      ((s.msh.pools.filter fun x => x.num.toNat != leAt p 0 2).map (·.members.length)).foldl (· + ·) 0 + leAt p 2 1 ≤ 16384) ∧
      (∃ (ref : CmdRef) (p : List Byte) (s : State), Settled s ∧ Starts ref 0x0611 p s ∧ s.flag F.MSH_CTRL.EN = true ∧
      leAt p 0 1 ≤ 63 ∧ leAt p 1 1 = 1 ∧ leAt p 2 2 ≤ 4095 ∧ 12 ≤ leAt p 4 1 ∧ leAt p 4 1 ≤ 24 ∧ 1 ≤ leAt p 5 1 ∧
      leAt p 5 1 ≤ 16 ∧ leAt p 8 8 % 4096 = 0 ∧ ((∀ r, s.msh.rings[leAt p 0 1]! = some r → r.prod = r.cons ∧ r.taken = 0))) ∧
      (∃ (ref : CmdRef) (p : List Byte) (s : State), Settled s ∧ Starts ref 0x0620 p s ∧ s.flag F.MSH_CTRL.EN = true ∧
      1 ≤ leAt p 0 2 ∧ leAt p 0 2 ≤ 256 ∧ (∀ i < leAt p 0 2, stageOk p i = true) ∧ s.msh.release = none) ∧
      (∃ (ref : CmdRef) (p : List Byte) (s : State), Settled s ∧ Starts ref 0x0621 p s ∧ s.flag F.MSH_CTRL.EN = true ∧
      leAt p 0 1 = 1 ∧ s.msh.hasStage = true ∧ s.msh.release = none ∧ s.now < leAt p 8 8) ∧
      (∃ (ref : CmdRef) (p : List Byte) (s : State), Settled s ∧ Starts ref 0x0622 p s ∧ s.flag F.MSH_CTRL.EN = true ∧
      s.msh.hasStage = true) ∧ (∃ (ref : CmdRef) (p : List Byte) (s : State) (r : DirRec), Settled s ∧ Starts ref 0x0630 p s ∧
      s.flag F.MSH_CTRL.EN = true ∧ s.recAt (leWord 64 p 0 8) = some r ∧ s.rec? r.slot = some r ∧ 1 ≤ leAt p 8 1 ∧
      leAt p 8 1 < r.holders.length ∧ s.migrating = false ∧ s.owns r = true ∧ r.migrating = false ∧ 1 ≤ r.pages) ∧
      (∃ (ref : CmdRef) (p : List Byte) (s : State), Settled s ∧ Starts ref 0x0702 p s ∧ leAt p 0 1 ≤ 2) ∧
      (∃ (ref : CmdRef) (p : List Byte) (s : State) (chain : List Byte) (c : List Byte), Settled s ∧ Starts ref 0x0803 p s ∧
      c = slice chain 0 (leAt p 10 2) ∧ 1 ≤ leAt p 10 2 ∧ leAt p 10 2 ≤ 8192 ∧ leAt p 8 1 ≤ 7 ∧
      s.hasPort (leWord 3 p 8 1) = true) ∧ (∃ (ref : CmdRef) (p : List Byte) (s : State), Settled s ∧ Starts ref 0x0A03 p s ∧
      s.testing = true) ∧ (∃ (ref : CmdRef) (p : List Byte) (s : State) (c : Instr) (op : Nat), Settled s ∧ Taken ref op p s ∧
      (c, op) ∈ ([(.widthSet ref, 0x0102), (.linkRetrain ref, 0x0103), (.linkFlush ref, 0x0104), (.linkRestart ref, 0x0105),
      (.tlrMeasure ref, 0x0201), (.ttbLoad ref, 0x0301), (.ttbStart ref, 0x0302), (.ttbArm ref, 0x0303), (.ttbCancel ref,
      0x0304), (.ttbHalt ref, 0x0305), (.jctGroupOpen ref, 0x0401), (.jctGroupWait ref, 0x0402), (.jctGroupClose ref, 0x0403),
      (.jctGroupAbort ref, 0x0404), (.jctStart ref, 0x0410), (.jctBranchSet ref, 0x0420), (.aspGroupOpen ref, 0x0501),
      (.aspGroupClose ref, 0x0502), (.aspRecalibrate ref, 0x0503), (.aspFallback ref, 0x0504), (.aspGroupWait ref, 0x0505),
      (.mshDirSet ref, 0x0601), (.mshDirDelete ref, 0x0602), (.mshPoolSet ref, 0x0610), (.mshRingSet ref, 0x0611),
      (.mshBindStage ref, 0x0620), (.mshBindCommit ref, 0x0621), (.mshBindCancel ref, 0x0622), (.mshMigrate ref, 0x0630),
      (.pcmPolicySet ref, 0x0702), (.pcmWake ref, 0x0703), (.pcmSleep ref, 0x0704), (.spdmExchange ref, 0x0801),
      (.idnKeyGet ref, 0x0802), (.vtxForward ref, 0x0905)] : List (Instr × Nat)) ∧ s.stepPassed op = false) ∧
      (∃ (ref : CmdRef) (p : List Byte) (s : State), Settled s ∧ Starts ref 0x0401 p s ∧ s.lnk.gen.toNat < 3 ∧
      (leAt p 3 1).testBit 0 = false) ∧ (∃ (ref : CmdRef) (p : List Byte) (s : State) (c : Instr) (op : Nat), Settled s ∧
      Starts ref op p s ∧ (c, op) ∈ ([(.mshDirSet ref, 0x0601), (.mshDirDelete ref, 0x0602), (.mshPoolSet ref, 0x0610),
      (.mshRingSet ref, 0x0611), (.mshBindStage ref, 0x0620), (.mshBindCommit ref, 0x0621), (.mshBindCancel ref, 0x0622),
      (.mshMigrate ref, 0x0630)] : List (Instr × Nat)) ∧ s.flag F.MSH_CTRL.EN = false) :=
  ⟨⟨.tag 4, [1, 0, 0, 0], taken 0x0106 ([1, 0, 0, 0]) fun s => s, settled_settle _, ⟨⟨by decide +kernel, by decide +kernel,
    by decide +kernel, _, _, rfl, rfl, by decide +kernel, by decide +kernel, by decide +kernel⟩, by decide +kernel⟩,
    by decide +kernel⟩, ⟨.tag 4, [], taken 0x0304 ([]) (fun s => { s with ttb := { s.ttb with standby := .armed } }),
    settled_settle _, ⟨⟨by decide +kernel, by decide +kernel, by decide +kernel, _, _, rfl, rfl, by decide +kernel,
    by decide +kernel, by decide +kernel⟩, by decide +kernel⟩, by decide +kernel⟩, ⟨.tag 4, openParams,
    taken 0x0401 (openParams) served, .host, 0, [3, 4], groupOf openParams [0x0085,
    0x0086] 0 .host (taken 0x0401 (openParams) served), settled_settle _, ⟨⟨by decide +kernel, by decide +kernel,
    by decide +kernel, _, _, rfl, rfl, by decide +kernel, by decide +kernel, by decide +kernel⟩, by decide +kernel⟩,
    by decide +kernel, by decide +kernel, by decide +kernel, by decide +kernel, by decide +kernel, by decide +kernel,
    by decide +kernel, by decide +kernel, by decide +kernel, by decide +kernel, by decide +kernel, by decide +kernel⟩, ⟨.tag 4,
    leBytes 4 5,
    taken 0x0403 (leBytes 4 5) (fun s => { served s with jct := { s.jct with groups := [{ grp with st := .ended }] } }),
    { grp with st := .ended }, settled_settle _, ⟨⟨by decide +kernel, by decide +kernel, by decide +kernel, _, _, rfl, rfl,
    by decide +kernel, by decide +kernel, by decide +kernel⟩, by decide +kernel⟩, by decide +kernel⟩, ⟨.tag 4, leBytes 4 5,
    taken 0x0404 (leBytes 4 5) (fun s => { served s with jct := { s.jct with groups := [grp] } }), grp, settled_settle _,
    ⟨⟨by decide +kernel, by decide +kernel, by decide +kernel, _, _, rfl, rfl, by decide +kernel, by decide +kernel,
    by decide +kernel⟩, by decide +kernel⟩, by decide +kernel⟩, ⟨.tag 4, leBytes 4 5,
    taken 0x0410 (leBytes 4 5) (fun s => { served s with jct := { s.jct with groups := [{ grp with operation := 3 }] } }),
    { grp with operation := 3 }, settled_settle _, ⟨⟨by decide +kernel, by decide +kernel, by decide +kernel, _, _, rfl, rfl,
    by decide +kernel, by decide +kernel, by decide +kernel⟩, by decide +kernel⟩, by decide +kernel⟩, ⟨.tag 4, leBytes 4 6,
    taken 0x0502 (leBytes 4 6) (fun s => { served s with asp := { s.asp with dests := [{ adst with st := .analog }] } }),
    { adst with st := .analog }, settled_settle _, ⟨⟨by decide +kernel, by decide +kernel, by decide +kernel, _, _, rfl, rfl,
    by decide +kernel, by decide +kernel, by decide +kernel⟩, by decide +kernel⟩, by decide +kernel⟩, ⟨.tag 4, leBytes 4 6,
    taken 0x0502 (leBytes 4 6) (fun s => { served s with asp := { s.asp with mems := [amem] } }), amem, settled_settle _,
    ⟨⟨by decide +kernel, by decide +kernel, by decide +kernel, _, _, rfl, rfl, by decide +kernel, by decide +kernel,
    by decide +kernel⟩, by decide +kernel⟩, by decide +kernel⟩, ⟨.tag 4, leBytes 4 6,
    taken 0x0503 (leBytes 4 6) (fun s => { served s with asp := { s.asp with dests := [{ adst with st := .fallback }] } }),
    { adst with st := .fallback }, settled_settle _, ⟨⟨by decide +kernel, by decide +kernel, by decide +kernel, _, _, rfl, rfl,
    by decide +kernel, by decide +kernel, by decide +kernel⟩, by decide +kernel⟩, by decide +kernel⟩, ⟨.tag 4, leBytes 4 6,
    taken 0x0504 (leBytes 4 6) (fun s => { served s with asp := { s.asp with dests := [{ adst with st := .recal }] } }),
    { adst with st := .recal }, settled_settle _, ⟨⟨by decide +kernel, by decide +kernel, by decide +kernel, _, _, rfl, rfl,
    by decide +kernel, by decide +kernel, by decide +kernel⟩, by decide +kernel⟩, by decide +kernel⟩, ⟨.tag 4, [1, 0, 0, 0, 0,
    0, 0, 0] ++ recBytes0 1, taken 0x0601 ([1, 0, 0, 0, 0, 0, 0, 0] ++ recBytes0 1) served, [recBytes0 1], settled_settle _,
    ⟨⟨by decide +kernel, by decide +kernel, by decide +kernel, _, _, rfl, rfl, by decide +kernel, by decide +kernel,
    by decide +kernel⟩, by decide +kernel⟩, by decide +kernel⟩, ⟨.tag 4, leBytes 8 0x100000,
    taken 0x0602 (leBytes 8 0x100000) (fun s => { served s with msh := { (served s).msh with dir := [rec0] } }), rec0,
    settled_settle _, ⟨⟨by decide +kernel, by decide +kernel, by decide +kernel, _, _, rfl, rfl, by decide +kernel,
    by decide +kernel, by decide +kernel⟩, by decide +kernel⟩, by decide +kernel⟩, ⟨.tag 4, leBytes 2 4095 ++ [16, 0] ++
    leBytes 4 64 ++ List.replicate 32 1, taken 0x0610 (leBytes 2 4095 ++ [16, 0] ++ leBytes 4 64 ++
    List.replicate 32 1) served, settled_settle _, ⟨⟨by decide +kernel, by decide +kernel, by decide +kernel, _, _, rfl, rfl,
    by decide +kernel, by decide +kernel, by decide +kernel⟩, by decide +kernel⟩, by decide +kernel⟩, ⟨.tag 4, [63, 1] ++
    leBytes 2 4095 ++ [24, 16, 0, 0] ++ leBytes 8 0x1000, taken 0x0611 ([63, 1] ++ leBytes 2 4095 ++ [24, 16, 0, 0] ++
    leBytes 8 0x1000) served, settled_settle _, ⟨⟨by decide +kernel, by decide +kernel, by decide +kernel, _, _, rfl, rfl,
    by decide +kernel, by decide +kernel, by decide +kernel⟩, by decide +kernel⟩, by decide +kernel⟩, ⟨.tag 4, leBytes 2 1 ++
    List.replicate 6 0 ++ leBytes 4 0xFFFF ++ leBytes 8 (bind0 0x85).toNat, taken 0x0620 (leBytes 2 1 ++ List.replicate 6 0 ++
    leBytes 4 0xFFFF ++ leBytes 8 (bind0 0x85).toNat) served, settled_settle _, ⟨⟨by decide +kernel, by decide +kernel,
    by decide +kernel, _, _, rfl, rfl, by decide +kernel, by decide +kernel, by decide +kernel⟩, by decide +kernel⟩,
    by decide +kernel⟩, ⟨.tag 4, [1, 0, 0, 0, 0, 0, 0, 0] ++ leBytes 8 2000000, taken 0x0621 ([1, 0, 0, 0, 0, 0, 0, 0] ++
    leBytes 8 2000000) (fun s => { served s with msh := { (served s).msh with hasStage := true } }), settled_settle _,
    ⟨⟨by decide +kernel, by decide +kernel, by decide +kernel, _, _, rfl, rfl, by decide +kernel, by decide +kernel,
    by decide +kernel⟩, by decide +kernel⟩, by decide +kernel⟩, ⟨.tag 4, [],
    taken 0x0622 ([]) (fun s => { served s with msh := { (served s).msh with hasStage := true } }), settled_settle _,
    ⟨⟨by decide +kernel, by decide +kernel, by decide +kernel, _, _, rfl, rfl, by decide +kernel, by decide +kernel,
    by decide +kernel⟩, by decide +kernel⟩, by decide +kernel⟩, ⟨.tag 4, leBytes 8 0x100000 ++ [1, 0, 0, 0, 0, 0, 0, 0],
    taken 0x0630 (leBytes 8 0x100000 ++ [1, 0, 0, 0, 0, 0, 0,
    0]) (fun s => { served s with msh := { (served s).msh with dir := [{ rec0 with flags := 5, holders := [9, 3] }], bind := [(3, bind0 0x85), (9, bind0 0x81)] } }),
    { rec0 with flags := 5, holders := [9, 3] }, settled_settle _, ⟨⟨by decide +kernel, by decide +kernel, by decide +kernel,
    _, _, rfl, rfl, by decide +kernel, by decide +kernel, by decide +kernel⟩, by decide +kernel⟩, by decide +kernel⟩, ⟨.tag 4,
    [2, 0, 0, 0], taken 0x0702 ([2, 0, 0, 0]) fun s => s, settled_settle _, ⟨⟨by decide +kernel, by decide +kernel,
    by decide +kernel, _, _, rfl, rfl, by decide +kernel, by decide +kernel, by decide +kernel⟩, by decide +kernel⟩,
    by decide +kernel⟩, ⟨.tag 4, leBytes 8 0x1000 ++ [7, 0] ++ leBytes 2 8192 ++ leBytes 4 0 ++ List.replicate 128 0,
    taken 0x0803 (leBytes 8 0x1000 ++ [7, 0] ++ leBytes 2 8192 ++ leBytes 4 0 ++ List.replicate 128 0) fun s => s, [],
    slice [] 0 8192, settled_settle _, ⟨⟨by decide +kernel, by decide +kernel, by decide +kernel, _, _, rfl, rfl,
    by decide +kernel, by decide +kernel, by decide +kernel⟩, by decide +kernel⟩, by decide +kernel⟩, ⟨.tag 4, [],
    taken 0x0A03 ([]) (fun s => { s with seam := { s.seam with test := { s.seam.test with running := true } } }),
    settled_settle _, ⟨⟨by decide +kernel, by decide +kernel, by decide +kernel, _, _, rfl, rfl, by decide +kernel,
    by decide +kernel, by decide +kernel⟩, by decide +kernel⟩, by decide +kernel⟩, ⟨.tag 4, leBytes 8 0x85,
    taken 0x0905 (leBytes 8 0x85) (fun s => { s with boot := { s.boot with reached := 9 } }), .vtxForward (.tag 4), 0x0905,
    settled_settle _, ⟨by decide +kernel, by decide +kernel, by decide +kernel, _, _, rfl, rfl, by decide +kernel,
    by decide +kernel, by decide +kernel⟩, by decide +kernel⟩, ⟨.tag 4, openParams,
    taken 0x0401 (openParams) (fun s => { served s with lnk := { s.lnk with gen := 2 } }), settled_settle _,
    ⟨⟨by decide +kernel, by decide +kernel, by decide +kernel, _, _, rfl, rfl, by decide +kernel, by decide +kernel,
    by decide +kernel⟩, by decide +kernel⟩, by decide +kernel⟩, ⟨.tag 4, [], taken 0x0622 ([]) (·.setFld F.MSH_CTRL.EN 0),
    .mshBindCancel (.tag 4), 0x0622, settled_settle _, ⟨⟨by decide +kernel, by decide +kernel, by decide +kernel, _, _, rfl,
    rfl, by decide +kernel, by decide +kernel, by decide +kernel⟩, by decide +kernel⟩, by decide +kernel⟩⟩

theorem witness_WaitingCommands :
    (∃ (ref : CmdRef) (p : List Byte) (s : State), Settled s ∧ Starts ref 0x0102 p s ∧ s.seam.width = none ∧
      s.widthRefusal (leAt p 0 1) ((leAt p 1 1).testBit 0) = 0 ∧ s.maskFor (leAt p 0 1) ≠ s.seam.usable) ∧
      (∃ (ref : CmdRef) (p : List Byte) (s : State), Settled s ∧ Starts ref 0x0102 p s ∧ s.seam.width.isSome = true ∧
      leAt p 0 1 < 16) ∧ (∃ (ref : CmdRef) (p : List Byte) (s : State), Settled s ∧ Starts ref 0x0102 p s ∧
      s.seam.width = none ∧ s.widthRefusal (leAt p 0 1) ((leAt p 1 1).testBit 0) ≠ 0) ∧
      (∃ (ref : CmdRef) (p : List Byte) (s : State), Settled s ∧ Starts ref 0x0102 p s ∧ s.seam.width.isSome = true ∧
      16 ≤ leAt p 0 1) ∧ (∃ (ref : CmdRef) (p : List Byte) (s : State), Settled s ∧ Starts ref 0x0103 p s ∧ s.lnk.st = .up ∧
      s.lnk.retraining = none) ∧ (∃ (ref : CmdRef) (p : List Byte) (s : State), Settled s ∧ Starts ref 0x0104 p s ∧
      s.lnk.st = .grace) ∧ (∃ (ref : CmdRef) (p : List Byte) (s : State), Settled s ∧ Starts ref 0x0105 p s ∧
      s.lnk.st = .flushed) ∧ (∃ (ref : CmdRef) (p : List Byte) (s : State), Settled s ∧ Starts ref 0x0201 p s ∧
      leAt p 0 1 ≤ 71 ∧ s.tlr.mode = .service ∧ s.flag F.TLR_CTRL.MANUAL = false ∧ s.freezing = false ∧
      s.tlr.measuring = none) ∧ (∃ (ref : CmdRef) (p : List Byte) (s : State), Settled s ∧ Starts ref 0x0202 p s ∧
      leAt p 0 1 = 1 ∧ s.tlr.frozen = false) ∧ (∃ (ref : CmdRef) (p : List Byte) (s : State), Settled s ∧
      Starts ref 0x0202 p s ∧ leAt p 0 1 = 0 ∧ s.tlr.frozenBrown = false) ∧
      (∃ (ref : CmdRef) (p : List Byte) (s : State) (image : List Byte), Settled s ∧ Starts ref 0x0204 p s ∧ leAt p 8 1 ≤ 7 ∧
      s.loadable = true ∧ s.hasPort (leWord 3 p 8 1) = true ∧ s.boot.physValid = false) ∧
      (∃ (ref : CmdRef) (p : List Byte) (s : State), Settled s ∧ Starts ref 0x0301 p s ∧ s.ttb.load = none ∧ leAt p 8 1 ≤ 7 ∧
      leAt p 0 8 % 4096 = 0) ∧ (∃ (ref : CmdRef) (p : List Byte) (s : State), Settled s ∧ Starts ref 0x0301 p s ∧
      s.ttb.load.isSome = true) ∧ (∃ (ref : CmdRef) (p : List Byte) (s : State), Settled s ∧ Starts ref 0x0302 p s ∧
      leAt p 0 8 < 2 ^ 58 ∧ leAt p 8 1 = 0 ∧ s.startOk (leAt p 0 8) false = true) ∧
      (∃ (ref : CmdRef) (p : List Byte) (s : State), Settled s ∧ Starts ref 0x0303 p s ∧ s.armResult (leWord 16 p 0 2) = 0) ∧
      (∃ (ref : CmdRef) (p : List Byte) (s : State), Settled s ∧ Starts ref 0x0305 p s ∧ leAt p 0 1 ≤ 1 ∧
      s.ttb.st = .running) ∧ (∃ (ref : CmdRef) (p : List Byte) (s : State) (g : JGroup), Settled s ∧ Starts ref 0x0402 p s ∧
      paramGroup p s = some g) ∧ (∃ (ref : CmdRef) (p : List Byte) (s : State), Settled s ∧ Starts ref 0x0420 p s ∧
      leAt p 0 2 < 4096 ∧ p.length = 8 + 2 * (leAt p 4 1 + 1) ∧ s.jct.branches.length < 4096 ∧ s.flag F.MSH_CTRL.EN = true ∧
      (∀ i < leAt p 4 1 + 1, (s.physOf (leWord 16 p (8 + 2 * i) 2)).isSome = true)) ∧
      (∃ (ref : CmdRef) (p : List Byte) (s : State) (ids : List (BitVec 16)), Settled s ∧ Starts ref 0x0501 p s ∧ (∀ l ∈ ids,
      ∃ x, s.physOf l = some x ∧ tileOf x = tileOf s.own) ∧ s.lnk.gen = 3 ∧ aspParamBad p = false ∧ leAt p 2 1 = 0 ∧
      p.length = 40 + 2 * leAt p 3 1 ∧ s.flag F.ASP_CTRL.EN = true ∧ s.flag F.MSH_CTRL.EN = true ∧
      ids = (List.range (leAt p 3 1)).map (fun i => leWord 16 p (40 + 2 * i) 2) ∧ (∀ d ∈ s.asp.dests,
      d.num.toNat ≠ leAt p 0 2) ∧ s.asp.dests.length < 64 ∧ (leAt p 12 4 + 1023) / 1024 ≤ s.freeChunks) ∧
      (∃ (ref : CmdRef) (p : List Byte) (s : State) (d : BitVec 14), Settled s ∧ Starts ref 0x0501 p s ∧ s.lnk.gen = 3 ∧
      aspParamBad p = false ∧ leAt p 2 1 = 1 ∧ p.length = 40 ∧ s.flag F.ASP_CTRL.EN = true ∧ s.flag F.MSH_CTRL.EN = true ∧
      s.physOf (leWord 16 p 38 2) = some d ∧ tileOf d = tileOf s.own ∧ (∀ m ∈ s.asp.mems, m.num.toNat ≠ leAt p 0 2) ∧
      s.asp.mems.length < 256) ∧ (∃ (ref : CmdRef) (p : List Byte) (s : State) (d : AspDest), Settled s ∧
      Starts ref 0x0505 p s ∧ (s.asp.dests.find? fun d => d.num.toNat == leAt p 0 2) = some d) ∧
      (∃ (ref : CmdRef) (p : List Byte) (s : State) (m : AspMem), Settled s ∧ Starts ref 0x0505 p s ∧ (∀ d ∈ s.asp.dests,
      d.num.toNat ≠ leAt p 0 2) ∧ (s.asp.mems.find? fun m => m.num.toNat == leAt p 0 2) = some m) ∧
      (∃ (ref : CmdRef) (p : List Byte) (s : State), Settled s ∧ Starts ref 0x0703 p s ∧ WakesNow s) ∧
      (∃ (ref : CmdRef) (p : List Byte) (s : State), Settled s ∧ Starts ref 0x0703 p s ∧ s.pcm.st = .awake ∧
      s.seam.usable = s.permitted) ∧ (∃ (ref : CmdRef) (p : List Byte) (s : State), Settled s ∧ Starts ref 0x0704 p s ∧
      SleepsNow s) ∧ (∃ (ref : CmdRef) (p : List Byte) (s : State), Settled s ∧ Starts ref 0x0704 p s ∧ s.asleep = true) ∧
      (∃ (ref : CmdRef) (p : List Byte) (s : State) (peer : SpdmPeer) (a : SpdmAnswer), Settled s ∧ Starts ref 0x0801 p s ∧
      a = spdmAnswer ((s.idn.conns.find? (·.peer == peer)).getD (SpdmConn.fresh peer)) p s ∧
      peer = (match ref with | .tag _ => SpdmPeer.host | .context n => SpdmPeer.remote (((s.ctx n).map (·.src)).getD 0))) ∧
      (∃ (ref : CmdRef) (p : List Byte) (s : State), Settled s ∧ Starts ref 0x0902 p s ∧ s.standsBy = true ∧
      s.sbx.wantHand = false) ∧ (∃ (ref : CmdRef) (p : List Byte) (s : State), Settled s ∧ Starts ref 0x0903 p s ∧
      leAt p 0 8 % 4096 = 0 ∧ leAt p 8 1 ≤ 7) ∧ (∃ (ref : CmdRef) (p : List Byte) (s : State), Settled s ∧
      Starts ref 0x0905 p s ∧ s.reachable (leWord 14 p 0 2) = true) ∧ (∃ (ref : CmdRef) (p : List Byte) (s : State),
      Settled s ∧ Starts ref 0x0A01 p s ∧ leAt p 0 1 ≤ 7 ∧ 1 ≤ leAt p 1 1 ∧ leAt p 1 1 ≤ 5 ∧ leAt p 2 1 ≤ 3 ∧
      s.testing = false ∧ s.seam.usable.getLsbD (leAt p 0 1) = false) :=
  ⟨⟨.tag 4, [4, 1, 0, 0], taken 0x0102 ([4, 1, 0, 0]) fun s => s, settled_settle _, ⟨⟨by decide +kernel, by decide +kernel,
    by decide +kernel, _, _, rfl, rfl, by decide +kernel, by decide +kernel, by decide +kernel⟩, by decide +kernel⟩,
    by decide +kernel⟩, ⟨.tag 4, [8, 0, 0, 0], taken 0x0102 ([8, 0, 0,
    0]) (fun s => { s with seam := { s.seam with width := some wch } }), settled_settle _, ⟨⟨by decide +kernel,
    by decide +kernel, by decide +kernel, _, _, rfl, rfl, by decide +kernel, by decide +kernel, by decide +kernel⟩,
    by decide +kernel⟩, by decide +kernel⟩, ⟨.tag 4, [3, 0, 0, 0], taken 0x0102 ([3, 0, 0, 0]) fun s => s, settled_settle _,
    ⟨⟨by decide +kernel, by decide +kernel, by decide +kernel, _, _, rfl, rfl, by decide +kernel, by decide +kernel,
    by decide +kernel⟩, by decide +kernel⟩, by decide +kernel⟩, ⟨.tag 4, [16, 0, 0, 0], taken 0x0102 ([16, 0, 0,
    0]) (fun s => { s with seam := { s.seam with width := some wch } }), settled_settle _, ⟨⟨by decide +kernel,
    by decide +kernel, by decide +kernel, _, _, rfl, rfl, by decide +kernel, by decide +kernel, by decide +kernel⟩,
    by decide +kernel⟩, by decide +kernel⟩, ⟨.tag 4, [], taken 0x0103 ([]) fun s => s, settled_settle _, ⟨⟨by decide +kernel,
    by decide +kernel, by decide +kernel, _, _, rfl, rfl, by decide +kernel, by decide +kernel, by decide +kernel⟩,
    by decide +kernel⟩, by decide +kernel⟩, ⟨.tag 4, [],
    taken 0x0104 ([]) (fun s => { s with lnk := { s.lnk with st := .grace } }), settled_settle _, ⟨⟨by decide +kernel,
    by decide +kernel, by decide +kernel, _, _, rfl, rfl, by decide +kernel, by decide +kernel, by decide +kernel⟩,
    by decide +kernel⟩, by decide +kernel⟩, ⟨.tag 4, [],
    taken 0x0105 ([]) (fun s => { s with lnk := { s.lnk with st := .flushed } }), settled_settle _, ⟨⟨by decide +kernel,
    by decide +kernel, by decide +kernel, _, _, rfl, rfl, by decide +kernel, by decide +kernel, by decide +kernel⟩,
    by decide +kernel⟩, by decide +kernel⟩, ⟨.tag 4, [71, 0, 0, 0], taken 0x0201 ([71, 0, 0, 0]) fun s => s, settled_settle _,
    ⟨⟨by decide +kernel, by decide +kernel, by decide +kernel, _, _, rfl, rfl, by decide +kernel, by decide +kernel,
    by decide +kernel⟩, by decide +kernel⟩, by decide +kernel⟩, ⟨.tag 4, [1, 0, 0, 0], taken 0x0202 ([1, 0, 0, 0]) fun s => s,
    settled_settle _, ⟨⟨by decide +kernel, by decide +kernel, by decide +kernel, _, _, rfl, rfl, by decide +kernel,
    by decide +kernel, by decide +kernel⟩, by decide +kernel⟩, by decide +kernel⟩, ⟨.tag 4, [0, 0, 0, 0], taken 0x0202 ([0, 0,
    0, 0]) (fun s => { s with tlr := { s.tlr with frozenHost := true } }), settled_settle _, ⟨⟨by decide +kernel,
    by decide +kernel, by decide +kernel, _, _, rfl, rfl, by decide +kernel, by decide +kernel, by decide +kernel⟩,
    by decide +kernel⟩, by decide +kernel⟩, ⟨.tag 4, leBytes 8 0x1000 ++ [7, 0, 0, 0], taken 0x0204 (leBytes 8 0x1000 ++ [7, 0,
    0, 0]) (fun s => { s with boot := { s.boot with step := 5, reached := 5, physValid := false } }), [], settled_settle _,
    ⟨⟨by decide +kernel, by decide +kernel, by decide +kernel, _, _, rfl, rfl, by decide +kernel, by decide +kernel,
    by decide +kernel⟩, by decide +kernel⟩, by decide +kernel⟩, ⟨.tag 4, leBytes 8 0x1000 ++ [7, 1, 0, 0],
    taken 0x0301 (leBytes 8 0x1000 ++ [7, 1, 0, 0]) fun s => s, settled_settle _, ⟨⟨by decide +kernel, by decide +kernel,
    by decide +kernel, _, _, rfl, rfl, by decide +kernel, by decide +kernel, by decide +kernel⟩, by decide +kernel⟩,
    by decide +kernel⟩, ⟨.tag 4, leBytes 8 0x1000 ++ [7, 1, 0, 0], taken 0x0301 (leBytes 8 0x1000 ++ [7, 1, 0,
    0]) (fun s => { s with ttb := { s.ttb with load := some ⟨0x1000, 0, false, false, none⟩ } }), settled_settle _,
    ⟨⟨by decide +kernel, by decide +kernel, by decide +kernel, _, _, rfl, rfl, by decide +kernel, by decide +kernel,
    by decide +kernel⟩, by decide +kernel⟩, by decide +kernel⟩, ⟨.tag 4, leBytes 8 20000 ++ [0, 0, 0, 0],
    taken 0x0302 (leBytes 8 20000 ++ [0, 0, 0, 0]) (fun s => { s with ttb := { s.ttb with standby := .ready } }),
    settled_settle _, ⟨⟨by decide +kernel, by decide +kernel, by decide +kernel, _, _, rfl, rfl, by decide +kernel,
    by decide +kernel, by decide +kernel⟩, by decide +kernel⟩, by decide +kernel⟩, ⟨.tag 4, leBytes 4 2,
    taken 0x0303 (leBytes 4 2) (fun s => { s with ttb := { s.ttb with banks := Vector.replicate 2 (some bnk), st := .running, cycleG := 20000, path := 20000, standby := .ready } }),
    settled_settle _, ⟨⟨by decide +kernel, by decide +kernel, by decide +kernel, _, _, rfl, rfl, by decide +kernel,
    by decide +kernel, by decide +kernel⟩, by decide +kernel⟩, by decide +kernel⟩, ⟨.tag 4, [1, 0, 0, 0], taken 0x0305 ([1, 0,
    0, 0]) (fun s => { s with ttb := { s.ttb with banks := Vector.replicate 2 (some bnk), st := .running, path := 15000 } }),
    settled_settle _, ⟨⟨by decide +kernel, by decide +kernel, by decide +kernel, _, _, rfl, rfl, by decide +kernel,
    by decide +kernel, by decide +kernel⟩, by decide +kernel⟩, by decide +kernel⟩, ⟨.tag 4, leBytes 4 5,
    taken 0x0402 (leBytes 4 5) (fun s => { served s with jct := { s.jct with groups := [grp] } }), grp, settled_settle _,
    ⟨⟨by decide +kernel, by decide +kernel, by decide +kernel, _, _, rfl, rfl, by decide +kernel, by decide +kernel,
    by decide +kernel⟩, by decide +kernel⟩, by decide +kernel⟩, ⟨.tag 4, leBytes 4 7 ++ leBytes 4 1 ++ leBytes 2 3 ++
    leBytes 2 4, taken 0x0420 (leBytes 4 7 ++ leBytes 4 1 ++ leBytes 2 3 ++ leBytes 2 4) served, settled_settle _,
    ⟨⟨by decide +kernel, by decide +kernel, by decide +kernel, _, _, rfl, rfl, by decide +kernel, by decide +kernel,
    by decide +kernel⟩, by decide +kernel⟩, by decide +kernel⟩, ⟨.tag 4, aspParams 0 (leBytes 2 3 ++ leBytes 2 4),
    taken 0x0501 (aspParams 0 (leBytes 2 3 ++ leBytes 2 4)) served, [3, 4], settled_settle _, ⟨⟨by decide +kernel,
    by decide +kernel, by decide +kernel, _, _, rfl, rfl, by decide +kernel, by decide +kernel, by decide +kernel⟩,
    by decide +kernel⟩, by
      intro l h
      rcases (by simpa using h : l = 3 ∨ l = 4) with rfl | rfl
      exacts [⟨0x0085,
    by decide +kernel, by decide +kernel⟩, ⟨0x0086, by decide +kernel, by decide +kernel⟩], by decide +kernel⟩, ⟨.tag 4,
    aspParams 1 [], taken 0x0501 (aspParams 1 []) served, 0x0085, settled_settle _, ⟨⟨by decide +kernel, by decide +kernel,
    by decide +kernel, _, _, rfl, rfl, by decide +kernel, by decide +kernel, by decide +kernel⟩, by decide +kernel⟩,
    by decide +kernel⟩, ⟨.tag 4, leBytes 4 6,
    taken 0x0505 (leBytes 4 6) (fun s => { served s with asp := { s.asp with dests := [{ adst with st := .analog }] } }),
    { adst with st := .analog }, settled_settle _, ⟨⟨by decide +kernel, by decide +kernel, by decide +kernel, _, _, rfl, rfl,
    by decide +kernel, by decide +kernel, by decide +kernel⟩, by decide +kernel⟩, by decide +kernel⟩, ⟨.tag 4, leBytes 4 6,
    taken 0x0505 (leBytes 4 6) (fun s => { served s with asp := { s.asp with mems := [amem] } }), amem, settled_settle _,
    ⟨⟨by decide +kernel, by decide +kernel, by decide +kernel, _, _, rfl, rfl, by decide +kernel, by decide +kernel,
    by decide +kernel⟩, by decide +kernel⟩, by decide +kernel⟩, ⟨.tag 4, [],
    taken 0x0703 ([]) (fun s => { s with pcm := { s.pcm with st := .held }, seam := { s.seam with usable := 0, powered := 0 } }),
    settled_settle _, ⟨⟨by decide +kernel, by decide +kernel, by decide +kernel, _, _, rfl, rfl, by decide +kernel,
    by decide +kernel, by decide +kernel⟩, by decide +kernel⟩, by unfold WakesNow; decide +kernel⟩, ⟨.tag 4, [],
    taken 0x0703 ([]) fun s => s, settled_settle _, ⟨⟨by decide +kernel, by decide +kernel, by decide +kernel, _, _, rfl, rfl,
    by decide +kernel, by decide +kernel, by decide +kernel⟩, by decide +kernel⟩, by decide +kernel⟩, ⟨.tag 4, [],
    taken 0x0704 ([]) fun s => s, settled_settle _, ⟨⟨by decide +kernel, by decide +kernel, by decide +kernel, _, _, rfl, rfl,
    by decide +kernel, by decide +kernel, by decide +kernel⟩, by decide +kernel⟩, by unfold SleepsNow; decide +kernel⟩,
    ⟨.tag 4, [],
    taken 0x0704 ([]) (fun s => { s with pcm := { s.pcm with st := .held }, seam := { s.seam with usable := 0, powered := 0 } }),
    settled_settle _, ⟨⟨by decide +kernel, by decide +kernel, by decide +kernel, _, _, rfl, rfl, by decide +kernel,
    by decide +kernel, by decide +kernel⟩, by decide +kernel⟩, by decide +kernel⟩, ⟨.tag 4, [0x10, 0x84, 0, 0],
    taken 0x0801 ([0x10, 0x84, 0, 0]) fun s => s, .host, spdmAnswer (SpdmConn.fresh .host) ([0x10, 0x84, 0,
    0]) (taken 0x0801 ([0x10, 0x84, 0, 0]) fun s => s), settled_settle _, ⟨⟨by decide +kernel, by decide +kernel,
    by decide +kernel, _, _, rfl, rfl, by decide +kernel, by decide +kernel, by decide +kernel⟩, by decide +kernel⟩, rfl,
    by decide +kernel⟩, ⟨.tag 4, [], taken 0x0902 ([]) fun s => s, settled_settle _, ⟨⟨by decide +kernel, by decide +kernel,
    by decide +kernel, _, _, rfl, rfl, by decide +kernel, by decide +kernel, by decide +kernel⟩, by decide +kernel⟩,
    by decide +kernel⟩, ⟨.tag 4, leBytes 8 0x1000 ++ [7, 0, 0, 0] ++ leBytes 4 64, taken 0x0903 (leBytes 8 0x1000 ++ [7, 0, 0,
    0] ++ leBytes 4 64) fun s => s, settled_settle _, ⟨⟨by decide +kernel, by decide +kernel, by decide +kernel, _, _, rfl,
    rfl, by decide +kernel, by decide +kernel, by decide +kernel⟩, by decide +kernel⟩, by decide +kernel⟩, ⟨.tag 4,
    leBytes 2 0x85 ++ List.replicate 6 0 ++ cmd 0x0101 5 [], taken 0x0905 (leBytes 2 0x85 ++ List.replicate 6 0 ++
    cmd 0x0101 5 []) fun s => s, settled_settle _, ⟨⟨by decide +kernel, by decide +kernel, by decide +kernel, _, _, rfl, rfl,
    by decide +kernel, by decide +kernel, by decide +kernel⟩, by decide +kernel⟩, by decide +kernel⟩, ⟨.tag 4, [7, 5, 3, 0] ++
    List.replicate 8 0, taken 0x0A01 ([7, 5, 3, 0] ++
    List.replicate 8 0) (fun s => { s with seam := { s.seam with usable := 1, powered := 1 } }), settled_settle _,
    ⟨⟨by decide +kernel, by decide +kernel, by decide +kernel, _, _, rfl, rfl, by decide +kernel, by decide +kernel,
    by decide +kernel⟩, by decide +kernel⟩, by decide +kernel⟩⟩

theorem witness_SignalBoxes :
    (∃ (s : State), Settled s ∧ s.functional = true ∧ s.sbx.sending = true ∧ s.sbx.ready = true) ∧ (∃ (s : State), Backed s ∧
      s.ctlOn = true) ∧ (∃ (cause : BitVec 4) (s : State), Backed s ∧ 2 ≤ cause.toNat ∧ cause.toNat ≤ 5) ∧
      (∃ (cause : BitVec 4) (s : State), Settled s ∧ s.functional = true ∧ s.sbx.held = true ∧ s.sbx.tie = true ∧
      (s.box s.sbx.holder).st = .active ∧ 2 ≤ cause.toNat ∧ cause.toNat ≤ 5) ∧
      (∃ (cause : BitVec 4) (b : Box) (lone : Bool) (s : State), s.functional = true ∧ s.sbx.takeover = some (cause, b, lone) ∧
      (s.box s.sbx.holder).st = .active ∧ (s.vtx.slots.map (·.tag)).Nodup) ∧ (∃ (r : HealthRpt) (s : State), Settled s ∧
      s.functional = true ∧ s.ctlOn = true ∧ s.reports = true ∧ ¬ s.sbx.healthErr < r.errors) ∧ (∃ (s : State), Settled s ∧
      s.functional = true ∧ s.ctlOn = true ∧ s.reports = true ∧ s.sbx.missed < 2) ∧ (∃ (c : Instr) (s : State),
      (((∃ r : HealthRpt, c = .healthReport (some r) ∧ s.sbx.healthErr < r.errors) ∨ (c = .healthReport none ∧
      2 ≤ s.sbx.missed) ∨ c = .selfTestPass false)) ∧ s.functional = true ∧ s.ctlOn = true ∧ s.reports = true) ∧
      (∃ (s : State), Settled s ∧ s.functional = true ∧ s.ctlOn = true ∧ s.reports = true) ∧ (∃ (s : State),
      s.functional = true ∧ s.sbx.held = true ∧
      (((s.box (mate s.sbx.holder)).st = .standby ∨ (s.box (mate s.sbx.holder)).st = .resync)) ∧
      (s.box s.sbx.holder).st ≠ .standby) ∧ (∃ (s : State), Settled s ∧ s.functional = true ∧ s.sbx.held = true ∧
      (s.box (mate s.sbx.holder)).st = .isolated) ∧ (∃ (s : State), s.functional = true ∧ s.sbx.ready = true ∧
      (s.box (mate s.sbx.holder)).st = .resync) ∧ (∃ (s : State), Settled s ∧ s.functional = true ∧ s.sbx.held = true ∧
      s.sbx.tokenOk = true ∧ s.sbx.takeover = none) ∧ (∃ (msg : BitVec 32) (s : State), s.functional = true ∧
      s.slp.lock = true ∧ s.sbx.tie = true ∧ s.sbx.deferred = none) ∧ (∃ (s : State), Settled s ∧ s.functional = true ∧
      s.sbx.tie = true ∧ s.slp.lock = true) ∧ (∃ (s : State), s.functional = true ∧ s.sbx.tie = true ∧ s.sbx.deferred = none) ∧
      (∃ (f : Nat) (s : State), s.functional = true ∧ s.sbx.holdFrom = some f ∧ s.flag F.SBX_CTRL.TAKEBACK_EN = true ∧
      s.standsBy = true ∧ s.sbx.wantHand = false) ∧ (∃ (s : State), s.functional = true ∧ s.sbx.wantHand = true ∧
      s.sbx.quiesce = true ∧ s.standsBy = true ∧ s.quiescent = true ∧ s.sbx.tie = false) ∧ (∃ (s : State),
      s.functional = true ∧ s.sbx.wantHand = true ∧ s.sbx.quiesce = true) ∧ (∃ (s : State), s.functional = true ∧
      s.sbx.wantHand = true ∧ s.sbx.quiesce = false) ∧ (∃ (data : Word) (s : State), Settled s ∧ s.functional = true ∧
      s.regOn R.SBX_CTRL = true ∧ bit data 2 = true ∧ s.standsBy = true ∧ s.sbx.wantHand = false) ∧
      (∃ (box : Box) (image : List Byte) (s : State), s.functional = true ∧ (s.box box).st = .loading ∧
      s.hasPort (BitVec.ofNat 3 (s.fld F.SBX_FW_CFG.PORT)) = true) ∧ (∃ (s : State), s.functional = true ∧
      s.sbx.a.st = .selfTest ∧ s.sbx.held = false) ∧ (∃ (s : State), s.functional = true ∧ s.sbx.b.st = .selfTest ∧
      s.sbx.held = false ∧ s.sbx.a.st ≠ .rejected ∧ s.sbx.a.st ≠ .failed) ∧ (∃ (box : Box) (s : State), s.functional = true ∧
      (s.box box).st = .selfTest ∧ s.sbx.held = true) ∧ (∃ (box : Box) (s : State), s.functional = true ∧
      (s.box box).st = .selfTest) ∧ (∃ (data : Word) (s : State), s.functional = true ∧ s.regOn R.SBX_FW_ADDR_HI = true ∧
      s.pins.platRstN = true ∧ s.boot.step = 1 ∧ s.boot.reached ≠ 0 ∧ s.idn.key ≠ .failed) :=
  ⟨⟨mk fun s => { s with sbx := { s.sbx with sending := true } }, settled_settle _, by decide +kernel⟩,
    ⟨mk (·.setFld F.SBX_CTRL.AUTO_FAILOVER 1), by unfold Backed; decide +kernel, by decide +kernel⟩, ⟨5,
    mk (·.setFld F.SBX_CTRL.AUTO_FAILOVER 1), by unfold Backed; decide +kernel, by decide +kernel⟩, ⟨2,
    mk fun s => { s with sbx := { s.sbx with tie := true, tokenOk := false } }, settled_settle _, by decide +kernel⟩, ⟨2, .b,
    false, mk fun s => { s with sbx := { s.sbx with ready := false, takeover := some (2, .b, false) } }, by decide +kernel⟩,
    ⟨⟨3, 0⟩, live, settled_settle _, by decide +kernel⟩, ⟨live, settled_settle _, by decide +kernel⟩, ⟨.selfTestPass false,
    live, .inr (.inr rfl), by decide +kernel⟩, ⟨live, settled_settle _, by decide +kernel⟩, ⟨live, by decide +kernel⟩,
    ⟨mk fun s => { s with sbx := { s.sbx with b := { s.sbx.b with st := .isolated } } }, settled_settle _, by decide +kernel⟩,
    ⟨mk fun s => { s with sbx := { s.sbx with b := { s.sbx.b with st := .resync } } }, by decide +kernel⟩, ⟨live,
    settled_settle _, by decide +kernel⟩, ⟨1, mk fun s => { s with sbx := { s.sbx with tie := true, tokenOk := false } },
    by decide +kernel⟩, ⟨mk fun s => { s with sbx := { s.sbx with tie := true } }, settled_settle _, by decide +kernel⟩,
    ⟨mk fun s => { s with sbx := { s.sbx with tie := true, tokenOk := false } }, by decide +kernel⟩, ⟨5,
    mk fun s => { (s.setFld F.SBX_CTRL.TAKEBACK_EN 1) with sbx := { s.sbx with holdFrom := some 5 } }, by decide +kernel⟩,
    ⟨mk fun s => { s with sbx := { s.sbx with wantHand := true, quiesce := true } }, by decide +kernel⟩,
    ⟨mk fun s => { s with sbx := { s.sbx with wantHand := true, quiesce := true } }, by decide +kernel⟩,
    ⟨mk fun s => { s with sbx := { s.sbx with wantHand := true } }, by decide +kernel⟩, ⟨4, live, settled_settle _,
    by decide +kernel⟩, ⟨.b, [], mk fun s => { s with sbx := { s.sbx with b := { s.sbx.b with st := .loading } } },
    by decide +kernel⟩,
    ⟨mk fun s => { s with sbx := { s.sbx with held := false, ready := false, a := { s.sbx.a with st := .selfTest } } },
    by decide +kernel⟩,
    ⟨mk fun s => { s with sbx := { s.sbx with held := false, ready := false, a := { s.sbx.a with st := .loading }, b := { s.sbx.b with st := .selfTest } } },
    by decide +kernel⟩, ⟨.b, mk fun s => { s with sbx := { s.sbx with b := { s.sbx.b with st := .selfTest } } },
    by decide +kernel⟩, ⟨.b, mk fun s => { s with sbx := { s.sbx with b := { s.sbx.b with st := .selfTest } } },
    by decide +kernel⟩, ⟨0, starting 1 fun s => { s with sbx := Sbx.reset, idn := Idn.reset }, by decide +kernel⟩⟩

theorem witness_IdentityUnit :
    (∃ (data : Word) (s : State), Settled s ∧ s.functional = true ∧ s.regOn R.IDN_CTRL = true ∧ bit data 0 = true ∧
      bit data 2 = false ∧ bit data 3 = false ∧ s.idn.key = .absent) ∧ (∃ (data : Word) (s : State), Settled s ∧
      s.functional = true ∧ s.regOn R.IDN_CTRL = true ∧ bit data 1 = true ∧ bit data 0 = false ∧ bit data 2 = false ∧
      bit data 3 = false ∧ s.idn.key = .absent) ∧ (∃ (data : Word) (s : State), Settled s ∧ s.functional = true ∧
      s.regOn R.IDN_CTRL = true ∧ bit data 2 = true ∧ bit data 0 = false ∧ bit data 1 = false ∧ bit data 3 = false ∧
      s.idn.locked0 = false) ∧ (∃ (s : State), s.functional = true ∧ s.idn.key = .underway ∧ s.idn.enrolling = false) ∧
      (∃ (s : State), s.functional = true ∧ s.idn.key = .underway ∧ s.idn.enrolling = true) ∧
      (∃ (words : List Word) (a : SpdmAnswer) (s : State), Settled s ∧
      a = spdmAnswer ((s.idn.conns.find? (·.peer == .station)).getD (SpdmConn.fresh .station)) (wordsBytes words) s ∧
      s.functional = true ∧ s.slp.lock = true ∧ s.ctlOn = true ∧ s.idn.key = .ready ∧ words ≠ [] ∧ words.length ≤ 255 ∧
      (leAt (wordsBytes words) 1 1).testBit 7 = true) ∧ (∃ (words : List Word) (s : State), s.functional = true ∧
      s.slp.lock = true ∧ s.ctlOn = true ∧ words ≠ [] ∧ words.length ≤ 255 ∧ s.boot.step = 5 ∧
      leAt (wordsBytes words) 1 1 = 0x7F) ∧ (∃ (x : Signing) (xs : List Signing) (s : State), Settled s ∧ s.functional = true ∧
      s.idn.signing = x :: xs ∧ x.ref = none ∧ s.boot.step ≠ 5) ∧
      (∃ (x : Signing) (xs : List Signing) (ref : CmdRef) (c : List Byte) (s : State), Settled s ∧ s.functional = true ∧
      s.idn.signing = x :: xs ∧ x.ref = some ref ∧ s.running ref = some c ∧ s.sbx.ready = true) :=
  ⟨⟨1, mk fun s => { s with idn := { s.idn with key := .absent } }, settled_settle _, by decide +kernel⟩, ⟨2,
    mk fun s => { s with idn := { s.idn with key := .absent } }, settled_settle _, by decide +kernel⟩, ⟨4, live,
    settled_settle _, by decide +kernel⟩, ⟨mk fun s => { s with idn := { s.idn with key := .underway } }, by decide +kernel⟩,
    ⟨mk fun s => { s with idn := { s.idn with key := .underway, enrolling := true } }, by decide +kernel⟩, ⟨[0x00008410],
    spdmAnswer (SpdmConn.fresh .station) (wordsBytes ([0x00008410])) live, live, settled_settle _, rfl, by decide +kernel⟩,
    ⟨[0x00007F12], starting 5 fun s => s, by decide +kernel⟩, ⟨⟨none, [1], 5⟩, [],
    mk fun s => { s with idn := { s.idn with signing := [⟨none, [1], 5⟩] } }, settled_settle _, by decide +kernel⟩,
    ⟨⟨some (.tag 4), [1], 5⟩, [], .tag 4, cmd 0x0801 4 [],
    taken 0x0801 ([]) (fun s => { s with idn := { s.idn with signing := [⟨some (.tag 4), [1], 5⟩] } }), settled_settle _,
    by decide +kernel⟩⟩

theorem witness_StartUp :
    (∃ (msg : BitVec 128) (s : State), s.functional = true ∧ s.slp.lock = true ∧ s.boot.step = 6 ∧ s.tlr.restoreDue = false ∧
      agreeCode msg s = 0 ∧ hex4 s.idn.serial = some (fld msg 16 14)) ∧ (∃ (msg : BitVec 128) (s : State), Settled s ∧
      s.functional = true ∧ s.slp.lock = true ∧ s.boot.step = 6 ∧ agreeCode msg s ≠ 0) ∧ (∃ (s : State), s.functional = true ∧
      s.boot.step = 6 ∧ s.boot.offers < 10) ∧ (∃ (s : State), s.functional = true ∧ s.boot.step = 6 ∧ 10 ≤ s.boot.offers) ∧
      (∃ (msg : BitVec 32) (s : State), s.functional = true ∧ s.slp.lock = true ∧ s.boot.step = 7 ∧ s.boot.peerMask = none) ∧
      (∃ (msg : BitVec 32) (a : Byte) (m : Byte) (s : State), s.functional = true ∧ s.slp.lock = true ∧ s.boot.step = 7 ∧
      s.boot.peerUsable = none ∧ s.boot.ownUsable = some a ∧ m = a &&& bits msg 0 8 &&& s.permitted) ∧
      (∃ (msg : BitVec 32) (s : State), Settled s ∧ s.functional = true ∧ s.slp.lock = true ∧ s.boot.step = 7 ∧
      s.boot.peerUsable = none ∧ s.boot.ownUsable = none) ∧ (∃ (s : State), Settled s ∧ s.functional = true ∧ s.boot.step = 7 ∧
      s.boot.peerMask = none ∧ s.boot.trainSends < 10) ∧ (∃ (s : State), Settled s ∧ s.functional = true ∧ s.boot.step = 7 ∧
      s.boot.peerMask = none ∧ 10 ≤ s.boot.trainSends) ∧ (∃ (p : Byte) (u : Byte) (s : State), Settled s ∧
      s.functional = true ∧ s.boot.step = 7 ∧ s.boot.peerMask = some p ∧ s.boot.ownUsable = some u ∧ s.boot.peerUsable = none ∧
      s.boot.trainSends < 10) ∧ (∃ (p : Byte) (u : Byte) (s : State), Settled s ∧ s.functional = true ∧ s.boot.step = 7 ∧
      s.boot.peerMask = some p ∧ s.boot.ownUsable = some u ∧ s.boot.peerUsable = none ∧ 10 ≤ s.boot.trainSends) ∧
      (∃ (blocks : List (BitVec 34)) (s : State), Settled s ∧ ((∀ b ∈ blocks, bits b 32 2 = 1#2 ∨ bits b 32 2 = 2#2)) ∧
      s.functional = true ∧ s.slp.lock = true ∧ slips s.slp.heads = false) :=
  ⟨⟨((56#8 ++ 0#8 ++ 32#8 ++ 32#8 ++ 32#8 ++ 32#8 ++ 32#8 ++ 32#8 ++ 0#12 ++ 1000#20 ++ 0x81#16 ++ 3#4 ++ 0#9 ++
    3#3 : BitVec 128)),
    starting 6 fun s => { s with idn := { s.idn with serial := [48, 48, 56, 49] }, boot := { s.boot with offerGrace := 1000 } },
    by decide +kernel⟩, ⟨0, starting 6 fun s => s, settled_settle _, by decide +kernel⟩, ⟨starting 6 fun s => s,
    by decide +kernel⟩, ⟨starting 6 fun s => { s with boot := { s.boot with offers := 10 } }, by decide +kernel⟩, ⟨0xFF,
    starting 7 fun s => s, by decide +kernel⟩, ⟨0xFF, 0x0F, 0x0F,
    starting 7 fun s => { s with boot := { s.boot with ownUsable := some 0x0F } }, by decide +kernel⟩, ⟨0xFF,
    starting 7 fun s => s, settled_settle _, by decide +kernel⟩, ⟨starting 7 fun s => s, settled_settle _, by decide +kernel⟩,
    ⟨starting 7 fun s => { s with boot := { s.boot with trainSends := 10 } }, settled_settle _, by decide +kernel⟩, ⟨0xFF,
    0x0F,
    starting 7 fun s => { s with boot := { s.boot with peerMask := some 0xFF, ownUsable := some 0x0F, trainSends := 9 } },
    settled_settle _, by decide +kernel⟩, ⟨0xFF, 0x0F,
    starting 7 fun s => { s with boot := { s.boot with peerMask := some 0xFF, ownUsable := some 0x0F, trainSends := 10 } },
    settled_settle _, by decide +kernel⟩, ⟨[0x100000000, 0x200000000], starting 6 fun s => s, settled_settle _,
    (List.forall_mem_cons.mpr ⟨by decide +kernel, List.forall_mem_cons.mpr ⟨by decide +kernel, fun _ h => nomatch h⟩⟩),
    by decide +kernel⟩⟩

end Sys2Proof.Tests
end

section
/-!
SUPPORT. Frames: how a guarded command runs, how the frames of operations compose, and the frame of each shared operation.
-/
namespace Sys2Proof.Machine

/-! ## Running a guarded meaning -/

/-- Out of AO reset a guarded meaning runs to its settled state. -/
theorem runs_of_whenUp {c : Instr} {s : State} {k : State → State} {P : State → Prop} (e : exec c s = whenUp s k)
    (hup : s.up = true) (h : P (settle (k s))) : Runs c s P :=
  ⟨settle (k s), by simp [e, whenUp, hup], h⟩

/-- In functional operation a guarded meaning runs to its settled state. -/
theorem runs_of_whenFunctional {c : Instr} {s : State} {k : State → State} {P : State → Prop}
    (e : exec c s = whenFunctional s k) (hf : s.functional = true) (h : P (settle (k s))) : Runs c s P :=
  ⟨settle (k s), by simp [e, whenFunctional, hf], h⟩

theorem State.up_of_functional {s : State} (h : s.functional = true) : s.up = true := by
  simp only [State.functional, Bool.and_eq_true] at h
  exact h.1

/-! ## Frames compose -/

theorem Part.same_trans (p : Part) {s t u : State} (h : p.same s t) (k : p.same t u) : p.same s u := by
  cases p <;> exact Eq.trans k h

/-- What changes over two changes is what the first or the second changes. -/
theorem OnlyChanges.trans {ps qs : List Part} {s t u : State} (h : OnlyChanges ps s t) (k : OnlyChanges qs t u) :
    OnlyChanges (ps ++ qs) s u := by
  intro p hp
  rw [List.mem_append, not_or] at hp
  exact p.same_trans (h p hp.1) (k p hp.2)

theorem OnlyChanges.mono {ps qs : List Part} {s t : State} (h : OnlyChanges qs s t) (sub : qs ⊆ ps) : OnlyChanges ps s t :=
  fun p hp => h p fun hq => hp (sub hq)

/-! ## The frame of each shared operation -/

theorem onlyChanges_setReg (a : Nat) (v : Word) (s : State) : OnlyChanges [.regs] s (s.setReg a v) := by
  intro p hp
  cases p <;> simp_all [Part.same]

theorem onlyChanges_modFlt (f : Flt → Flt) (s : State) : OnlyChanges [.flt] s (modFlt f s) := by
  intro p hp
  cases p <;> simp_all [Part.same]

theorem onlyChanges_raise (c : Cause) (d : BitVec 80) (s : State) : OnlyChanges [.regs, .flt] s (raise c d s) := by
  intro p hp
  cases p <;> simp_all [Part.same]

theorem onlyChanges_answer (err : Bool) (s : State) : OnlyChanges [.outs] s (s.answer err) := by
  intro p hp
  cases p <;> simp_all [Part.same]

theorem onlyChanges_answerRead (v : Word) (err : Bool) (s : State) : OnlyChanges [.outs] s (s.answerRead v err) := by
  intro p hp
  cases p <;> simp_all [Part.same]

/-- With no message waiting, the end of a meaning sends nothing. -/
theorem out_settle {s : State} (h : s.slp.queue = []) : (settle s).out = s.out := by
  simp [settle, slpOrder, slpEmit, h]

theorem onlyChanges_settle {s : State} (h : s.slp.queue = []) : OnlyChanges [.outs, .slp] s (settle s) := by
  intro p hp
  cases p <;> simp_all [Part.same, out_settle]

/-- A meaning that leaves the Sleeper lane alone changes, from a settled state, what it changes itself and the outputs. -/
theorem onlyChanges_settle_of {ps : List Part} {s t : State} (h : OnlyChanges ps s t) (hs : Settled s) (slp : .slp ∉ ps) :
    OnlyChanges (ps ++ [.outs, .slp]) s (settle t) :=
  h.trans (onlyChanges_settle (by rw [h .slp slp]; exact hs.2))

/-! ## The registers that an operation leaves -/

theorem regsBut_setReg (a : Nat) (v : Word) (s : State) : RegsBut [a] s (s.setReg a v) :=
  fun b hb => reg_setReg_other s a b v (by simpa using hb)

theorem regsBut_raise (c : Cause) (d : BitVec 80) (s : State) : RegsBut c.regs s (raise c d s) := by
  intro a ha
  simp only [Cause.regs, List.mem_cons, List.not_mem_nil, or_false, not_or] at ha
  rw [reg_raise, reg_setCause_other c s a ha.1 ha.2]

@[simp] theorem reg_answer (err : Bool) (s : State) (a : Nat) : (s.answer err).reg a = s.reg a := rfl

@[simp] theorem reg_answerRead (v : Word) (err : Bool) (s : State) (a : Nat) : (s.answerRead v err).reg a = s.reg a := rfl

end Sys2Proof.Machine
end

section
/-!
SUPPORT. The causes in the register map, and what a cause that occurs leaves set (R15, R420).
-/
namespace Sys2Proof.Machine

/-! ## The causes' rows of the register map -/

/-- Every W1C flag of the register map is the flag of a cause. -/
theorem w1c_flags_have_cause :
    ∀ r ∈ regRows, ∀ i < 32, r.w1c.getLsbD i = true → ∃ c ∈ causes, c.evt = r.lo ∧ c.bitNo = i := by
  decide +kernel

theorem causes_cnt_nodup : (causes.map Cause.cnt).Nodup := by decide +kernel

theorem causes_evt_ne_cnt : ∀ c ∈ causes, ∀ d ∈ causes, c.evt ≠ d.cnt := by decide +kernel

/-- The event register of a cause has no RW field and is no half of a pair. -/
theorem causes_evt_row : ∀ c ∈ causes, c.evt % 4 = 0 ∧ (regRow c.evt).map RegRow.rw = some 0#32 ∧
    isPairLo c.evt = false ∧ isPairHi c.evt = false := by
  decide +kernel

/-- The counter of a cause is cleared by a read and is no half of a pair. -/
theorem causes_cnt_row : ∀ c ∈ causes, c.cnt % 4 = 0 ∧ (regRow c.cnt).map RegRow.rc = some 0xFFFF#32 ∧
    isPairLo c.cnt = false ∧ isPairHi c.cnt = false := by
  decide +kernel

/-- A write of an event register has no effect of its own: each register in turn is none of those that have one. -/
theorem causes_evt_plain : ∀ c ∈ causes, PlainAddr c.evt := by
  simp only [causes, causes0, causes1, causes2, causes3, causes4, List.forall_mem_append, List.forall_mem_cons, List.not_mem_nil,
    false_imp_iff, implies_true, and_true]
  repeat' apply And.intro
  all_goals exact fun _ _ _ => ⟨rfl, rfl⟩

/-- A counter reads as it is stored: each in turn is none of the registers that show other state. -/
theorem causes_cnt_view : ∀ c ∈ causes, ∀ s : State, s.view c.cnt = s.reg c.cnt := by
  simp only [causes, causes0, causes1, causes2, causes3, causes4, List.forall_mem_append, List.forall_mem_cons, List.not_mem_nil,
    false_imp_iff, implies_true, and_true]
  repeat' apply And.intro
  all_goals exact fun _ => rfl

/-! ## A cause that occurs -/

theorem raised_raise_self {c : Cause} (hc : c ∈ causes) (d : BitVec 80) (s : State) : Raised c (raise c d s) := by
  obtain ⟨ne, lt⟩ := causes_sound c hc
  rw [Raised, reg_raise]
  exact flag_setCause c s ne lt

/-- A flag that is set stays set when another cause occurs, or the same again. -/
theorem raised_setCause {c d : Cause} {s : State} (h : Raised c s) (hc : c ∈ causes) (hd : d ∈ causes) :
    Raised c (setCause d s) := by
  have ne : c.evt ≠ d.cnt := causes_evt_ne_cnt c hc d hd
  unfold Raised at *
  by_cases e : c.evt = d.evt
  · rw [e] at h ⊢
    rw [reg_setCause_evt d s (causes_sound d hd).1, BitVec.getLsbD_or, h, Bool.true_or]
  · rwa [reg_setCause_other d s c.evt e ne]

theorem raised_raise {c d : Cause} {s : State} (h : Raised c s) (hc : c ∈ causes) (hd : d ∈ causes) (x : BitVec 80) :
    Raised c (raise d x s) := by
  have := raised_setCause h hc hd
  rwa [Raised, ← reg_raise d x s] at this

/-- Of the fault log a cause that occurs touches the pending occurrences alone. -/
@[simp] theorem flt_raise_frame (c : Cause) (d : BitVec 80) (s : State) :
    (raise c d s).flt.intake = s.flt.intake ∧ (raise c d s).flt.ring = s.flt.ring ∧ (raise c d s).flt.seq = s.flt.seq ∧
    (raise c d s).flt.unread = s.flt.unread ∧ (raise c d s).flt.lost = s.flt.lost := by
  rw [raise, flt_raiseAs]
  split <;> repeat' constructor

/-- Settles O18: the counters of the register map tell the causes apart, and a cause that occurs sets its flag and counts. -/
theorem causesCount : Obligations.CausesCount := by
  refine ⟨w1c_flags_have_cause, fun c hc d hd e => List.inj_on_of_nodup_map causes_cnt_nodup hc hd e, fun c d s hc => ?_⟩
  refine ⟨raised_raise_self hc d s, ?_, regsBut_raise c d s⟩
  rw [reg_raise, reg_setCause_cnt c s (causes_sound c hc).1]

end Sys2Proof.Machine
end

section
/-!
SUPPORT. The register port on event registers and counters (R14, R15, R48).
-/
namespace Sys2Proof.Machine

/-! ## The register port -/

theorem writeReg_plain {a : Nat} (h : PlainAddr a) (lo : isPairLo a = false) (hi : isPairHi a = false) (who : Requester)
    (data : Word) (s : State) : writeReg who a data s = plainWrite a data s := by
  simp [writeReg, h who data s, lo, hi]

theorem portWriteReg_on {a : Nat} {s : State} (al : a % 4 = 0) (row : (regRow a).isSome = true) (on : s.regOn a = true)
    (data : Word) : portWriteReg a data s = (writeReg .port a data s).answer false := by
  simp [portWriteReg, al, on, Option.isSome_iff_ne_none.mp row]

theorem portRead_on {a : Nat} {s : State} (al : a % 4 = 0) (row : (regRow a).isSome = true) (on : s.regOn a = true) :
    portRead a s = (readEffect .port a s).answerRead (s.readValue .port a) false := by
  simp [portRead, al, on, Option.isSome_iff_ne_none.mp row]

/-- A write of a register without RW fields clears the W1C flags written with 1. -/
theorem plainWrite_w1c {a : Nat} {r : RegRow} (row : regRow a = some r) (rw0 : r.rw = 0#32) (data : Word) (s : State) :
    plainWrite a data s = s.setReg a (s.reg a &&& ~~~(r.w1c &&& data)) := by
  simp only [plainWrite, row, rw0, BitVec.not_zero, BitVec.and_allOnes, BitVec.and_zero, BitVec.or_zero]

/-- A read of a cause's counter clears its RC bits. -/
theorem readEffect_cnt {c : Cause} (hc : c ∈ causes) (s : State) :
    readEffect .port c.cnt s = s.setReg c.cnt (s.reg c.cnt &&& ~~~0xFFFF#32) := by
  obtain ⟨-, rc, lo, -⟩ := causes_cnt_row c hc
  have ne : c.cnt ≠ R.SBX_RPL_HDR ∧ c.cnt ≠ R.SBX_CPL_FIFO ∧ c.cnt ≠ R.TLR_TEMP := by
    refine ⟨?_, ?_, ?_⟩ <;> (intro e; rw [e] at rc; exact absurd rc (by decide +kernel))
  simp [readEffect, ne, lo, rcBits, rc]

theorem getLsbD_and_not_and (x w d : Word) (i : Nat) :
    (x &&& ~~~(w &&& d)).getLsbD i = (x.getLsbD i && !(d.getLsbD i && w.getLsbD i)) := by
  by_cases hi : i < 32
  · simp [hi, Bool.and_comm]
  · simp [BitVec.getLsbD_of_ge x i (by omega)]

theorem low16_cleared (x : Word) : bits (x &&& ~~~0xFFFF#32) 0 16 = 0 := by
  apply BitVec.eq_of_getLsbD_eq
  intro i hi
  have ones : ∀ i < 16, (0xFFFF#32).getLsbD i = true := by decide
  rw [bits, BitVec.getLsbD_extractLsb', Nat.zero_add, BitVec.getLsbD_and, BitVec.getLsbD_not, ones i hi]
  simp

/-- A write of an event register that can be reached clears the flags written with 1 (R14). -/
theorem runs_eventClear {c : Cause} {addr : BitVec 24} {s : State} (hc : c ∈ causes) (ha : addr.toNat = c.evt)
    (hf : s.functional = true) (hs : Settled s) (on : s.regOn c.evt = true) (data : Word) :
    Runs (.eventClear addr data) s fun t =>
      (∀ i, (t.reg c.evt).getLsbD i = ((s.reg c.evt).getLsbD i &&
        !(data.getLsbD i && (((regRow c.evt).map RegRow.w1c).getD 0).getLsbD i))) ∧
      t.outs.regAck = true ∧ t.outs.regErr = false ∧ OnlyChanges [.regs, .outs, .slp] s t ∧ RegsBut [c.evt] s t := by
  obtain ⟨al, rw0, lo, hi⟩ := causes_evt_row c hc
  obtain ⟨r, row, rw0⟩ := Option.map_eq_some_iff.mp rw0
  have eq : portWriteReg addr.toNat data s = (s.setReg c.evt (s.reg c.evt &&& ~~~(r.w1c &&& data))).answer false := by
    rw [ha, portWriteReg_on al (by simp [row]) on, writeReg_plain (causes_evt_plain c hc) lo hi, plainWrite_w1c row rw0]
  refine runs_of_whenUp rfl (State.up_of_functional hf) ?_
  rw [eq]
  refine ⟨fun i => ?_, rfl, rfl, ?_, regsBut_setReg _ _ _⟩
  · rw [reg_settle, reg_answer, reg_setReg_same, getLsbD_and_not_and, row, Option.map_some, Option.getD_some]
  · exact (onlyChanges_settle_of ((onlyChanges_setReg _ _ _).trans (onlyChanges_answer _ _)) hs (by decide)).mono (by decide)

/-- A read of a counter that can be reached returns its count and clears it (R14, R15). -/
theorem runs_counterRead {c : Cause} {addr : BitVec 24} {s : State} (hc : c ∈ causes) (ha : addr.toNat = c.cnt)
    (hf : s.functional = true) (hs : Settled s) (on : s.regOn c.cnt = true) :
    Runs (.counterRead addr) s fun t =>
      t.outs.regRdata = s.reg c.cnt ∧ t.outs.regAck = true ∧ t.outs.regErr = false ∧ bits (t.reg c.cnt) 0 16 = 0 ∧
        OnlyChanges [.regs, .outs, .slp] s t ∧ RegsBut [c.cnt] s t := by
  obtain ⟨al, rc, -, hi⟩ := causes_cnt_row c hc
  obtain ⟨r, row, -⟩ := Option.map_eq_some_iff.mp rc
  have eq : portRead addr.toNat s = (s.setReg c.cnt (s.reg c.cnt &&& ~~~0xFFFF#32)).answerRead (s.reg c.cnt) false := by
    rw [ha, portRead_on al (by simp [row]) on, readEffect_cnt hc, State.readValue, hi, if_neg Bool.false_ne_true,
      causes_cnt_view c hc]
  refine runs_of_whenUp rfl (State.up_of_functional hf) ?_
  rw [eq]
  refine ⟨rfl, rfl, rfl, ?_, ?_, regsBut_setReg _ _ _⟩
  · rw [reg_settle, reg_answerRead, reg_setReg_same, low16_cleared]
  · exact (onlyChanges_settle_of ((onlyChanges_setReg _ _ _).trans (onlyChanges_answerRead _ _ _)) hs (by decide)).mono (by decide)

end Sys2Proof.Machine
end

section
/-!
SUPPORT. The fault log: entries, intake and read index (R423, R426).
-/
namespace Sys2Proof.Machine

/-! ## Entries of the ring -/

/-- The log with an occurrence as its next entry, over the oldest unread one when 1,024 are unread, before a cause of that is raised
(R423). -/
def fltPut (o : Occ) (s : State) : State :=
  modFlt (fun f => { f with
    ring := (if f.ring.length < 1024 then f.ring else f.ring.drop 1) ++ [⟨f.seq, o⟩]
    seq := f.seq + 1
    unread := if 1024 ≤ f.unread then f.unread else f.unread + 1 }) s

/-- The ring holds 1,024 entries at most, and one more with each (R423). -/
theorem length_ring_fltPut (o : Occ) {s : State} (h : s.flt.ring.length ≤ 1024) :
    (fltPut o s).flt.ring.length = min 1024 (s.flt.ring.length + 1) := by
  by_cases short : s.flt.ring.length < 1024
  · simp [fltPut, modFlt, short]
  · simp [fltPut, modFlt, short]
    omega

/-- An entry is put into the ring and raises OVERWRITTEN when 1,024 are unread, and else at most HIGH_WATER. -/
theorem fltAppend_cases (o : Occ) (s : State) :
    (1024 ≤ s.flt.unread ∧ ∃ d, fltAppend o s = raise C.FLT.OVERWRITTEN d (fltPut o s)) ∨
    (s.flt.unread < 1024 ∧ ((∃ d, fltAppend o s = raise C.FLT.HIGH_WATER d (fltPut o s)) ∨ fltAppend o s = fltPut o s)) := by
  by_cases full : 1024 ≤ s.flt.unread
  · exact .inl ⟨full, at80 0 (s.flt.seq - 1024).toNat ||| at80 64 s.flt.unread, by simp [fltAppend, fltPut, modFlt, full]⟩
  · have put : fltPut o s = modFlt (fun f => { f with
        ring := (if s.flt.ring.length < 1024 then s.flt.ring else s.flt.ring.drop 1) ++ [⟨s.flt.seq, o⟩]
        seq := f.seq + 1
        unread := s.flt.unread + 1 }) s := by simp [fltPut, modFlt, full]
    refine .inr ⟨by omega, ?_⟩
    simp only [fltAppend, ge_iff_le, full, if_false, ← put]
    split
    · exact .inl ⟨_, rfl⟩
    · exact .inr rfl

/-- Of the fault log, an entry touches what its place in the ring touches, and the pending occurrences. -/
theorem flt_fltAppend (o : Occ) (s : State) :
    (fltAppend o s).flt.ring = (fltPut o s).flt.ring ∧ (fltAppend o s).flt.seq = s.flt.seq + 1 ∧
    (fltAppend o s).flt.unread = (fltPut o s).flt.unread ∧ (fltAppend o s).flt.lost = s.flt.lost := by
  rcases fltAppend_cases o s with ⟨-, d, e⟩ | ⟨-, ⟨d, e⟩ | e⟩ <;> simp [e, fltPut]

theorem onlyChanges_fltAppend (o : Occ) (s : State) : OnlyChanges [.flt, .regs] s (fltAppend o s) := by
  have put : OnlyChanges [.flt] s (fltPut o s) := onlyChanges_modFlt _ s
  rcases fltAppend_cases o s with ⟨-, d, e⟩ | ⟨-, ⟨d, e⟩ | e⟩ <;> rw [e]
  · exact (put.trans (onlyChanges_raise _ _ _)).mono (by decide)
  · exact (put.trans (onlyChanges_raise _ _ _)).mono (by decide)
  · exact put.mono (by decide)

/-- An entry over the oldest unread one raises OVERWRITTEN (R423). -/
theorem raised_overwritten_fltAppend {s : State} (full : 1024 ≤ s.flt.unread) (o : Occ) :
    Raised C.FLT.OVERWRITTEN (fltAppend o s) := by
  rcases fltAppend_cases o s with ⟨-, d, e⟩ | ⟨room, -⟩
  · rw [e]; exact raised_raise_self (by decide) d _
  · omega

theorem raised_fltAppend {c : Cause} {s : State} (h : Raised c s) (hc : c ∈ causes) (o : Occ) : Raised c (fltAppend o s) := by
  have put : Raised c (fltPut o s) := h
  rcases fltAppend_cases o s with ⟨-, d, e⟩ | ⟨-, ⟨d, e⟩ | e⟩ <;> rw [e]
  · exact raised_raise put hc (by decide) d
  · exact raised_raise put hc (by decide) d
  · exact put

/-- Entries written leave the flags that are set. -/
theorem raised_fltWrite {c : Cause} (hc : c ∈ causes) (n : Nat) (os : List Occ) :
    ∀ {s : State}, Raised c s → Raised c (fltWrite n os s).2 := by
  induction os generalizing n with
  | nil => intro s h; simpa [fltWrite] using h
  | cons o os ih =>
    intro s h
    unfold fltWrite
    split
    next ring _ => exact ih n h
    next =>
      cases n with
      | zero => exact h
      | succ n => exact ih n (raised_fltAppend h hc o)

/-- Entries written leave the count of occurrences lost. -/
theorem lost_fltWrite (n : Nat) (os : List Occ) (s : State) : (fltWrite n os s).2.flt.lost = s.flt.lost := by
  induction os generalizing n s with
  | nil => simp [fltWrite]
  | cons o os ih =>
    unfold fltWrite
    split
    next => simp [ih]
    next =>
      cases n with
      | zero => rfl
      | succ n => simp [ih, flt_fltAppend]

/-! ## One AO cycle of the log -/

/-- The merge rule sees the ring and FLT_CTRL alone. -/
theorem merged_congr {s t : State} (hr : t.flt.ring = s.flt.ring) (hc : t.reg R.FLT_CTRL = s.reg R.FLT_CTRL) (o : Occ) :
    t.merged o = s.merged o := by
  have hm : t.fld F.FLT_CTRL.MERGE_US = s.fld F.FLT_CTRL.MERGE_US := by
    simp only [State.fld, show F.FLT_CTRL.MERGE_US.reg = R.FLT_CTRL from rfl, hc]
  simp only [State.merged, hr, hm]

/-- The log with nothing pending and these occurrences in its intake. -/
def fltIntake (os : List Occ) (s : State) : State := modFlt (fun f => { f with pend := [], intake := os }) s

/-- A lone occurrence that merges with no entry goes through an empty intake into the ring. -/
theorem fltCycle_single {o : Occ} {s : State} (hp : s.flt.pend = [o]) (hi : s.flt.intake = []) (hl : s.flt.lost = none)
    (hm : s.merged o = none) : fltCycle s = modFlt (fun f => { f with intake := [] }) (fltAppend o (fltIntake [o] s)) := by
  have take : intakeTake (modFlt (fun f => { f with pend := [] }) s) o = fltIntake [o] s := by
    simp [intakeTake, fltIntake, modFlt, hi]
  have lost : (fltIntake [o] s).flt.lost = none := hl
  have intake : (fltIntake [o] s).flt.intake = [o] := rfl
  have apart : (fltIntake [o] s).merged o = none := (merged_congr rfl rfl o).trans hm
  simp [fltCycle, occOrder, occInsert, hp, take, lost, intake, fltWrite, apart]

/-- An occurrence that finds the intake full is lost, and no entry tells of it while the intake is full (R426). -/
theorem fltCycle_full {o : Occ} {s : State} (hp : s.flt.pend = [o]) (hi : s.flt.intake.length = 64) :
    ∃ rest, fltCycle s = modFlt (fun f => { f with intake := rest })
      (fltWrite 2 s.flt.intake (intakeLost o (fltIntake s.flt.intake s))).2 := by
  have take : intakeTake (modFlt (fun f => { f with pend := [] }) s) o = intakeLost o (fltIntake s.flt.intake s) := by
    simp [intakeTake, hi, fltIntake, modFlt]
  obtain ⟨l, lost⟩ : ∃ l, (intakeLost o (fltIntake s.flt.intake s)).flt.lost = some l := ⟨_, rfl⟩
  have intake : (intakeLost o (fltIntake s.flt.intake s)).flt.intake = s.flt.intake := rfl
  refine ⟨(fltWrite 2 s.flt.intake (intakeLost o (fltIntake s.flt.intake s))).1, ?_⟩
  simp [fltCycle, occOrder, occInsert, hp, take, lost, intake, hi]

/-- A lone occurrence becomes the log's next entry in the AO cycle that takes it (R423, R426). -/
theorem runs_faultLogIntake_single {o : Occ} {s : State} (hup : s.up = true) (hs : Settled s) (hp : s.flt.pend = [o])
    (hi : s.flt.intake = []) (hl : s.flt.lost = none) (hm : s.merged o = none) :
    Runs .faultLogIntake s fun t =>
      (∃ es, t.flt.ring = es ++ [⟨s.flt.seq, o⟩]) ∧ t.flt.intake = [] ∧
        (s.flt.ring.length ≤ 1024 → t.flt.ring.length = min 1024 (s.flt.ring.length + 1)) ∧
        t.flt.seq = s.flt.seq + 1 ∧ (s.flt.unread < 1024 → t.flt.unread = s.flt.unread + 1) ∧
        (1024 ≤ s.flt.unread → t.flt.unread = s.flt.unread ∧ Raised C.FLT.OVERWRITTEN t) ∧
        OnlyChanges [.flt, .regs, .outs, .slp] s t := by
  have taken : OnlyChanges [.flt] s (fltIntake [o] s) := onlyChanges_modFlt _ s
  have frame := (taken.trans (onlyChanges_fltAppend o _)).trans (onlyChanges_modFlt (fun f => { f with intake := [] }) _)
  obtain ⟨ring, seq, unread, -⟩ := flt_fltAppend o (fltIntake [o] s)
  refine runs_of_whenUp rfl hup ?_
  rw [fltCycle_single hp hi hl hm]
  refine ⟨⟨_, ring⟩, rfl, ?len, seq, ?room, ?full, (onlyChanges_settle_of frame hs (by decide)).mono (by decide)⟩
  case len => exact fun len => (congrArg List.length ring).trans (length_ring_fltPut o len)
  case room => exact fun room => unread.trans (if_neg (Nat.not_le.mpr room))
  case full => exact fun full => ⟨unread.trans (if_pos full), raised_overwritten_fltAppend (s := fltIntake [o] s) full o⟩

/-- An occurrence that finds the intake full is lost, with INTAKE_LOST (R426). -/
theorem runs_faultLogIntake_full {o : Occ} {s : State} (hup : s.up = true) (hp : s.flt.pend = [o])
    (hi : s.flt.intake.length = 64) (hl : s.flt.lost = none) :
    Runs .faultLogIntake s fun t => Raised C.FLT.INTAKE_LOST t ∧ t.flt.lost.map (·.count) = some 1 := by
  obtain ⟨rest, e⟩ := fltCycle_full hp hi
  have raised : Raised C.FLT.INTAKE_LOST (intakeLost o (fltIntake s.flt.intake s)) :=
    flag_setCause C.FLT.INTAKE_LOST _ (by decide) (by decide)
  have count : (intakeLost o (fltIntake s.flt.intake s)).flt.lost.map (·.count) = some 1 := by
    have none_lost : (fltIntake s.flt.intake s).flt.lost = none := hl
    simp [intakeLost, none_lost]
  refine runs_of_whenUp rfl hup ?_
  rw [e]
  exact ⟨raised_fltWrite (by decide) 2 s.flt.intake raised, (congrArg (Option.map _) (lost_fltWrite ..)).trans count⟩

/-! ## The read index -/

/-- With `d` entries fewer unread, the read index stands `d` places further in the ring. -/
theorem rdIdx_advance {s : State} {d : Nat} (hd : d ≤ s.flt.unread) (h : s.flt.unread ≤ 1024) :
    (modFlt (fun f => { f with unread := s.flt.unread - d }) s).rdIdx = (s.rdIdx + d) % 1024 := by
  simp only [State.rdIdx, modFlt]
  omega

/-- A write of FLT_RD that can be reached moves the read index on, or is ignored where it would raise UNREAD (R423). -/
theorem runs_fltRdWrite {d : Nat} {data : Word} {s : State} (hf : s.functional = true) (hs : Settled s)
    (on : s.regOn R.FLT_RD = true) (hd : d = (fld data 0 10 + 1024 - s.rdIdx) % 1024) :
    Runs (.fltRdWrite data) s fun t =>
      t.flt = { s.flt with unread := if d ≤ s.flt.unread then s.flt.unread - d else s.flt.unread } ∧
        (d ≤ s.flt.unread → s.flt.unread ≤ 1024 → t.rdIdx = fld data 0 10) ∧ t.outs.regAck = true ∧ t.outs.regErr = false ∧
        OnlyChanges [.flt, .outs, .slp] s t := by
  have write : fltRdWrite data s =
      modFlt (fun f => { f with unread := if d ≤ s.flt.unread then s.flt.unread - d else s.flt.unread }) s := by
    by_cases moves : d ≤ s.flt.unread <;> simp [fltRdWrite, ← hd, moves, modFlt]
  have idx : fld data 0 10 < 1024 := BitVec.isLt _
  have rd : s.rdIdx < 1024 := Nat.mod_lt _ (by decide)
  refine runs_of_whenFunctional rfl hf ?_
  simp only [portWrite, if_true, on, write]
  refine ⟨rfl, fun moves le => ?_, rfl, rfl,
    (onlyChanges_settle_of ((onlyChanges_modFlt _ _).trans (onlyChanges_answer _ _)) hs (by decide)).mono (by decide)⟩
  rw [if_pos moves]
  refine (rdIdx_advance moves le).trans ?_
  omega

/-- Settles O17: EVENT_CLEAR, COUNTER_READ, FAULT_LOG_INTAKE (an occurrence taken, and one lost) and FLT_RD_WRITE each run to their
effect. -/
theorem eventsCountersAndFaultLog : Obligations.EventsCountersAndFaultLog :=
  ⟨fun _ _ data _ hc ha hf hs on => runs_eventClear hc ha hf hs on data,
    fun _ _ _ hc ha hf hs on => runs_counterRead hc ha hf hs on,
    fun _ _ hup hs hp hi hl hm => runs_faultLogIntake_single hup hs hp hi hl hm,
    fun _ _ hup hp hi hl => runs_faultLogIntake_full hup hp hi hl,
    fun _ _ _ hf hs on hd => runs_fltRdWrite hf hs on hd⟩

end Sys2Proof.Machine
end

section
/-!
SUPPORT. The guard that each command runs under, and what follows of every step from the guards alone (R51, R52, R58, R63, R382, R406).
-/
namespace Sys2Proof.Machine

/-! ## Guards -/

/-- What a command waits for before it acts: the block out of AO reset, in functional operation, its PLAT domain live, the Sleeper
receiver in lock, or a lane that exists. `other` commands act on the pins and the test access, whatever the state. -/
inductive Guard where
  | up | functional | plat | msg | lane (n : LaneNo) | testLane (n : BitVec 4) | slot | other

/-- The guard of a command. -/
def guardOf : Instr → Guard
  | .coldReset | .coldResetRelease | .aoClockLoss | .aoClockReturn | .platReset | .platResetRelease | .tapReset | .tapInstruction _
  | .pcmHostReqChange _ => .other
  | .testEnable _ | .testDisable _ | .testAck _ | .testReqTimeout | .faultLogIntake | .regReset | .wrapperInstruction _
  | .registerWrite _ _ | .eventClear _ _ | .counterRead _ | .pairLoRead _ _ | .pairLoWrite _ _ _ | .pairHiWrite _ _ _ => .up
  | .aspCtl _ | .aspCtlAck _ | .timeResp _ | .fenceNotice _ | .spdmMessage _ | .ffeSet _ | .ffeDone _ | .negAgree _ | .trainStart _
  | .trainDone _ | .sleeperMessageDiscard _ | .loadBeacon _ | .boxTieResp _ | .sleeperLinkRetrain | .linkReady _ | .sleeperLinkDown _
  | .stationWake | .wakeAck | .wakeReady _ | .brownoutWarn _ | .brownoutEnd _ => .msg
  | .ttbLoadFetchDone _ _ | .bindingRelease | .loadReportTimer | .beaconStale _ _ | .heatWindowEnd | .migBegin _ _ _ | .migDone _ _ _
  | .migAbort _ _ _ | .vtxCmd _ _ _ | .vtxReply _ _ _ | .managementPacketDiscard _ _ _ | .blockResponse _ _ _ _ | .breqTimeout _ _
  | .btagRelease _ _ | .dataFlitReceive _ _ | .linkControlReceive _ _ | .t6FlitReceive _ _ | .replayTimer | .ackTimer | .keepaliveTimer
  | .receiverReplayPeriod | .linkResume | .retrainTimeout | .graceRetrainTimer | .graceExpiry | .pathBoundary | .policyWindowEnd
  | .useHigh | .sleeperIdleTimeout | .sleeperPreferredIdle | .hostRequestPacket _ _ _ | .transactionIssue _ | .segmentAdmit _
  | .responsePacketOpen _ | .responseBeatTransfer _ | .replySinkViolation _ | .replySinkRecover _ | .blockRequestIssue _ => .plat
  | .lossOfSignal n | .phaseTrackerLimit n | .stuckLevels n | .phaseTrackerShift n _ | .histogramDone n _ | .populationTimeout n
  | .passLimitTimeout n | .ffeApply n => .lane n
  | .prbsLock got => .testLane got.lane
  | .prbsLoss n _ _ => .testLane n
  | .flitSlotSend => .slot
  | _ => .functional

/-- The answer of a guarded meaning. A flit slot comes under the wrapper out of AO reset, else with the PLAT domain live. -/
def Guard.run (s : State) (k : State → State) : Guard → Host.Outcome State Fault Refusal
  | .up => whenUp s k
  | .functional => whenFunctional s k
  | .plat => whenPlat s k
  | .msg => whenMsg s k
  | .lane n => whenLane n s k
  | .testLane n => whenTestLane n s k
  | .slot => if s.wrapped then whenUp s k else whenPlat s k
  | .other => .next (k s)

/-- Every command is its meaning under its guard. -/
theorem exec_guard (c : Instr) (s : State) : ∃ k : State → State, exec c s = (guardOf c).run s k := by
  cases c
  case flitSlotSend =>
    by_cases w : s.wrapped = true
    · exact ⟨_, (if_pos w).trans (if_pos (c := s.wrapped = true) w).symm⟩
    · exact ⟨_, (if_neg w).trans (if_neg (c := s.wrapped = true) w).symm⟩
  case coldReset | coldResetRelease | aoClockLoss | aoClockReturn | platReset | platResetRelease | tapReset | tapInstruction
      | pcmHostReqChange =>
    exact ⟨fun _ => _, rfl⟩
  all_goals exact ⟨_, rfl⟩

/-- The guard lets a meaning act. -/
def Guard.opens (s : State) : Guard → Bool
  | .up | .testLane _ => s.up
  | .functional | .lane _ => s.functional
  | .plat => s.platLive
  | .msg => s.functional && s.slp.lock
  | .slot => if s.wrapped then s.up else s.platLive
  | .other => true

/-- A guard that lets a meaning act answers its settled state; one that does not leaves the state. -/
theorem Guard.run_next {g : Guard} {s t : State} {k : State → State} (own : g ≠ .other) (h : g.run s k = .next t) :
    (g.opens s = true ∧ t = settle (k s)) ∨ t = s := by
  cases g with
  | up => exact (whenUp_next h).imp_right And.right
  | functional => exact (whenFunctional_next h).imp_right And.right
  | plat => exact (whenPlat_next h).imp_right And.right
  | msg => exact (whenMsg_next h).imp_right And.right
  | lane n =>
    by_cases ok : n.toNat < 72
    · exact (whenFunctional_next ((whenLane_ok s k ok).symm.trans h)).imp_right And.right
    · exact nomatch (whenLane_bad s k (Nat.le_of_not_lt ok)).symm.trans h
  | testLane n =>
    by_cases ok : n.toNat < 9
    · exact (whenUp_next ((if_pos ok).symm.trans h)).imp_right And.right
    · exact nomatch (if_neg ok).symm.trans h
  | slot =>
    by_cases w : s.wrapped = true
    · simp only [Guard.run, Guard.opens, w, if_true] at h ⊢
      exact (whenUp_next h).imp_right And.right
    · simp only [Guard.run, Guard.opens, w] at h ⊢
      exact (whenPlat_next h).imp_right And.right
  | other => exact absurd rfl own

theorem State.functional_of_platLive {s : State} (h : s.platLive = true) : s.functional = true := by
  simp only [State.platLive, Bool.and_eq_true] at h
  exact h.1.1

/-- In AO reset no guard opens (R52). -/
theorem Guard.up_of_opens {g : Guard} {s : State} (own : g ≠ .other) (h : g.opens s = true) : s.up = true := by
  cases g with
  | up | testLane => exact h
  | functional | lane => exact State.up_of_functional h
  | plat => exact State.up_of_functional (State.functional_of_platLive h)
  | msg => exact State.up_of_functional (Bool.and_eq_true_iff.mp h).1
  | slot =>
    simp only [Guard.opens] at h
    split at h
    · exact h
    · exact State.up_of_functional (State.functional_of_platLive h)
  | other => exact absurd rfl own

/-- The commands that act on the pins and the test access whatever the state. -/
theorem guardOf_other {c : Instr} (h : guardOf c = .other) :
    c = .coldReset ∨ c = .coldResetRelease ∨ c = .aoClockLoss ∨ c = .aoClockReturn ∨ c = .platReset ∨ c = .platResetRelease ∨
      c = .tapReset ∨ (∃ load, c = .tapInstruction load) ∨ ∃ v, c = .pcmHostReqChange v := by
  cases c
  case coldReset | coldResetRelease | aoClockLoss | aoClockReturn | platReset | platResetRelease | tapReset => simp
  case tapInstruction load => simp
  case pcmHostReqChange v => simp
  all_goals exact nomatch h

/-- Settles O5: no guard opens in AO reset, so that only the commands on the pins and the test access have an effect. -/
theorem aoResetHoldsTheBlock : Obligations.AoResetHoldsTheBlock := by
  intro c s t hup h
  by_cases own : guardOf c = .other
  · obtain e | e | e | e | e | e | e | ⟨⟨ir, tdi⟩, e⟩ | ⟨v, e⟩ := guardOf_other own <;> simp [e]
  · obtain ⟨k, e⟩ := exec_guard c s
    refine .inl ((Guard.run_next own (e.symm.trans h)).resolve_left fun act => ?_)
    rw [Guard.up_of_opens own act.1] at hup
    exact nomatch hup

/-- A lane that a command names, and that the block has not, is what makes the command ill-formed (R64, R102). -/
theorem wellFormed_of_guard_lane {c : Instr} {n : LaneNo} (h : guardOf c = .lane n) : c.wellFormed = laneOk n := by
  cases c
  case lossOfSignal | phaseTrackerLimit | stuckLevels | phaseTrackerShift | histogramDone | populationTimeout | passLimitTimeout
      | ffeApply =>
    cases h
    rfl
  all_goals exact nomatch h

theorem wellFormed_of_guard_testLane {c : Instr} {n : BitVec 4} (h : guardOf c = .testLane n) :
    c.wellFormed = decide (n.toNat ≤ 8) := by
  cases c
  case prbsLock | prbsLoss =>
    cases h
    rfl
  all_goals exact nomatch h

/-- Settles O7: every guard but those on lanes always answers a next state, and a guard on a lane faults where there is no such lane. -/
theorem everyCommandIsModelled : Obligations.EveryCommandIsModelled := by
  intro c s
  obtain ⟨k, e⟩ := exec_guard c s
  rw [e]
  match g : guardOf c with
  | .lane n =>
    by_cases ok : n.toNat < 72
    · exact .inl ⟨_, whenLane_ok s k ok⟩
    · have wf := wellFormed_of_guard_lane g
      exact .inr ⟨by rw [wf, laneOk, decide_eq_false ok], .inl ⟨n, whenLane_bad s k (Nat.le_of_not_lt ok), Nat.le_of_not_lt ok⟩⟩
  | .testLane n =>
    by_cases ok : n.toNat < 9
    · exact .inl ⟨_, if_pos ok⟩
    · have wf := wellFormed_of_guard_testLane g
      exact .inr ⟨by rw [wf, decide_eq_false (by omega)], .inr ⟨n, if_neg ok, by omega⟩⟩
  | .slot =>
    by_cases w : s.wrapped = true
    · exact .inl ⟨_, if_pos w⟩
    · exact .inl ⟨_, if_neg w⟩
  | .up | .functional | .plat | .msg | .other => exact .inl ⟨_, rfl⟩

/-! ## The state at the end of a command -/

/-- What the outputs and the Sleeper transmitter see of the state: nothing of the queue, the test access and the draws. -/
theorem Settled.congr {s t : State} (hs : Settled s) (outs : t.outs = s.outs) (slp : t.slp = s.slp) (of : outsOf t = outsOf s) :
    Settled t :=
  ⟨outs.trans (hs.1.trans of.symm), slp ▸ hs.2⟩

theorem settled_settle (s : State) : Settled (settle s) := settle_settled s

theorem onlyChanges_access (a : Access) (n : Nat) (s : State) : OnlyChanges [.access, .free] s { s with access := a, free := n } := by
  intro p hp
  cases p <;> simp_all [Part.same]

/-- A scan changes the test access and the count of draws alone. -/
theorem onlyChanges_wrapperScan (wsi : List Bool) (s : State) : OnlyChanges [.access, .free] s (wrapperScan wsi s) := by
  dsimp only [wrapperScan]
  split <;> exact onlyChanges_access _ _ s

theorem onlyChanges_tapScan (tdi : List Bool) (s : State) : OnlyChanges [.access, .free] s (tapScan tdi s) := by
  unfold tapScan
  cases s.tap with
  | wspSelect => exact onlyChanges_wrapperScan tdi s
  | bypass | idcode | sample | preload | extest => exact onlyChanges_access _ _ s

/-- The outputs see nothing of the test access and the draws. -/
theorem outsOf_of_access {s t : State} (h : OnlyChanges [.access, .free] s t) : outsOf t = outsOf s := by
  have hpar := h .par (by decide)
  have hpins := h .pins (by decide)
  have houts := h .outs (by decide)
  have hwrapped := h .wrapped (by decide)
  have hregs := h .regs (by decide)
  have hseam := h .seam (by decide)
  have htlr := h .tlr (by decide)
  have hlnk := h .lnk (by decide)
  have hpcm := h .pcm (by decide)
  have hboot := h .boot (by decide)
  cases s
  cases t
  simp only [Part.same] at *
  subst_vars
  rfl

theorem settled_tapScan {s : State} (hs : Settled s) (tdi : List Bool) (i : TapInstr) :
    Settled (tapScan tdi { s with tap := i }) := by
  have h := onlyChanges_tapScan tdi { s with tap := i }
  exact hs.congr (h .outs (by decide)) (h .slp (by decide)) ((outsOf_of_access h).trans rfl)

/-- The commands on the pins and the test access leave a settled state. -/
theorem settled_of_guard_other {c : Instr} {s t : State} (hs : Settled s) (own : guardOf c = .other) (h : exec c s = .next t) :
    Settled t := by
  obtain rfl | rfl | rfl | rfl | rfl | rfl | rfl | ⟨load, rfl⟩ | ⟨v, rfl⟩ := guardOf_other own <;>
    obtain rfl := Host.Outcome.next.inj h
  · exact settled_settle _
  · split
    · exact hs
    · dsimp only; split <;> exact settled_settle _
  · split
    · exact settled_settle _
    · exact hs
  · split
    · exact hs
    · dsimp only; split <;> exact settled_settle _
  · split <;> exact settled_settle _
  · split <;> exact settled_settle _
  · exact hs.congr rfl rfl rfl
  · exact settled_tapScan hs _ _
  · split <;> exact settled_settle _

theorem settled_exec {c : Instr} {s t : State} (hs : Settled s) (h : exec c s = .next t) : Settled t := by
  by_cases own : guardOf c = .other
  · exact settled_of_guard_other hs own h
  · obtain ⟨k, e⟩ := exec_guard c s
    obtain ⟨-, rfl⟩ | rfl := Guard.run_next own (e.symm.trans h)
    · exact settled_settle _
    · exact hs

theorem settled_tick {s : State} (hs : Settled s) : Settled (tick s) := by
  unfold tick
  split
  · exact hs
  · exact settled_settle _

/-- Settles O3: a tick and every command answer the settled state of some meaning, or change nothing that the outputs see. -/
theorem everyStepSettles : Obligations.EveryStepSettles := by
  intro s t hs h
  unfold step at h
  split at h
  case h_1 => cases h; exact settled_tick hs
  case h_2 c rest _ =>
    have rest_settled : Settled { s with pending := rest } := hs.congr rfl rfl rfl
    exact settled_exec rest_settled h

/-- In AO reset the lines are at 0, pcm_state_o at 0b000, and the ports are not ready (R51, R58). -/
theorem outsOf_of_down {s : State} (hup : s.up = false) :
    outsOf s = { s.outs with
      irqFault := false, irqCmpl := false, irqInfo := false, aoRefClk := s.pins.aoClk, aoClkOk := s.pins.aoClk, pcmState := 0#3,
      portsReady := false, brownout := false } := by
  simp [outsOf, State.pcmStateO, State.portsReady, State.platLive, State.functional, hup]

theorem outs_reset : State.reset.outs = outsOf State.reset := (outsOf_of_down (s := State.reset) rfl).symm

theorem settled_reset : Settled State.reset := ⟨outs_reset, rfl⟩

/-- Settles O4: the block at reset is in AO reset, with every line at 0 and no message. -/
theorem resetIsSettled : Obligations.ResetIsSettled := ⟨settled_reset, rfl⟩

end Sys2Proof.Machine
end

section
/-!
SUPPORT. Out of functional operation: no operation that can still run returns the block to service (R63).
-/
namespace Sys2Proof.Machine

/-! ## Operations that leave the block in or out of functional operation as it is -/

theorem wrapped_foldl {α : Type} {f : State → α → State} (h : ∀ s x, (f s x).wrapped = s.wrapped) (l : List α) (s : State) :
    (l.foldl f s).wrapped = s.wrapped := by
  induction l generalizing s with
  | nil => rfl
  | cons x xs ih => rw [List.foldl_cons, ih, h]

@[simp] theorem wrapped_settle (s : State) : (settle s).wrapped = s.wrapped := rfl

@[simp] theorem wrapped_answer (err : Bool) (s : State) : (s.answer err).wrapped = s.wrapped := rfl

@[simp] theorem wrapped_answerRead (v : Word) (err : Bool) (s : State) : (s.answerRead v err).wrapped = s.wrapped := rfl

@[simp] theorem wrapped_draw (s : State) : s.draw.wrapped = s.wrapped := rfl

@[simp] theorem wrapped_reach (t : Nat) (s : State) : (s.reach t).wrapped = s.wrapped := by
  unfold State.reach
  split <;> rfl

@[simp] theorem wrapped_lapse (m : Mark) (ns : Nat) (s : State) : (s.lapse m ns).wrapped = s.wrapped := by
  unfold State.lapse
  split
  · rfl
  · exact wrapped_reach _ _

/-! ## The end of a command -/

@[simp] theorem wrapped_authFail (c : List Byte) (status : BitVec 16) (s : State) : (authFail c status s).wrapped = s.wrapped := by
  unfold authFail
  split <;> simp

@[simp] theorem wrapped_cplPush (t : BitVec 16) (s : State) : (cplPush t s).wrapped = s.wrapped := by
  unfold cplPush
  split <;> simp

@[simp] theorem wrapped_dropWait (r : CmdRef) (s : State) : (dropWait r s).wrapped = s.wrapped := rfl

@[simp] theorem wrapped_commitNow (s : State) : (commitNow s).wrapped = s.wrapped := rfl

@[simp] theorem wrapped_queuePacket (t : Nat) (bs : List Byte) (s : State) : (queuePacket t bs s).wrapped = s.wrapped := by
  obtain e | e := queuePacket_cases t bs s <;> rw [e]

@[simp] theorem wrapped_sendReply (c : Ctx) (s : State) : (sendReply c s).wrapped = s.wrapped := by
  by_cases ticket : s.t0Ticket = true <;> simp [sendReply, sendT0, ticket]

@[simp] theorem wrapped_completeNow (r : CmdRef) (status : BitVec 16) (data : List Byte) (s : State) :
    (completeNow r status data s).wrapped = s.wrapped := by
  cases r with
  | tag t =>
    simp only [completeNow]
    split
    · split <;> simp
    · rfl
  | context n =>
    simp only [completeNow]
    split
    · split <;> simp
    · rfl

@[simp] theorem wrapped_complete (r : CmdRef) (status : BitVec 16) (data : List Byte) (s : State) :
    (complete r status data s).wrapped = s.wrapped := by
  unfold complete
  split <;> simp

@[simp] theorem wrapped_wake (w : Wait) (status : BitVec 16) (data : List Byte) (s : State) :
    (wake w status data s).wrapped = s.wrapped :=
  wrapped_foldl (fun s (x : CmdRef × Wait) => wrapped_complete x.1 status data s) _ s

/-! ## Tests -/

@[simp] theorem wrapped_runTest (s : State) : (runTest s).wrapped = s.wrapped := by simp [runTest, modTest]

@[simp] theorem wrapped_releaseSleeve (s : State) : (releaseSleeve s).wrapped = s.wrapped := by simp [releaseSleeve, modTest]

@[simp] theorem wrapped_sendTestReq (mode : Nat) (s : State) : (sendTestReq mode s).wrapped = s.wrapped := by simp [sendTestReq]

@[simp] theorem wrapped_stopTest (s : State) : (stopTest s).wrapped = s.wrapped := by simp [stopTest]

@[simp] theorem wrapped_failTest (s : State) : (failTest s).wrapped = s.wrapped := by simp [failTest]

@[simp] theorem wrapped_discardShadow (n : LaneNo) (s : State) : (discardShadow n s).wrapped = s.wrapped := by
  simp [discardShadow, modRx, sendFfe, apply_ite State.wrapped]

@[simp] theorem wrapped_abandonPass (k : SleeveNo) (s : State) : (abandonPass k s).wrapped = s.wrapped := by
  unfold abandonPass
  cases h : s.passIn k with
  | none => rfl
  | some p => simp [raiseLane, dropPass, h, endPass]

@[simp] theorem wrapped_startTest (s : State) : (startTest s).wrapped = s.wrapped := by
  simp [startTest, modTest, apply_ite State.wrapped]

@[simp] theorem wrapped_testCtrlWrite (data : Word) (s : State) : (testCtrlWrite data s).wrapped = s.wrapped := by
  simp [testCtrlWrite, apply_ite State.wrapped]

@[simp] theorem wrapped_testBits {w : Nat} (lane : BitVec 4) (got : BitVec w) (s : State) :
    (testBits lane got s).2.wrapped = s.wrapped := by
  unfold testBits
  dsimp only
  split <;> simp [modTest]

/-! ## The fault log -/

@[simp] theorem wrapped_fltAppend (o : Occ) (s : State) : (fltAppend o s).wrapped = s.wrapped :=
  onlyChanges_fltAppend o s .wrapped (by decide)

@[simp] theorem wrapped_fltWrite (n : Nat) (os : List Occ) (s : State) : (fltWrite n os s).2.wrapped = s.wrapped := by
  induction os generalizing n s with
  | nil => simp [fltWrite]
  | cons o os ih =>
    unfold fltWrite
    split
    · simp [ih]
    · cases n with
      | zero => rfl
      | succ n => simp [ih]

@[simp] theorem wrapped_intakeTake (s : State) (o : Occ) : (intakeTake s o).wrapped = s.wrapped := by
  unfold intakeTake intakeLost
  split <;> simp

@[simp] theorem wrapped_fltCycle (s : State) : (fltCycle s).wrapped = s.wrapped := by
  unfold fltCycle
  dsimp only
  split
  · split <;> simp [wrapped_foldl wrapped_intakeTake]
  · simp [wrapped_foldl wrapped_intakeTake]

/-! ## The register port out of functional operation -/

theorem functional_of_wrapped {s : State} (h : s.wrapped = true) : s.functional = false := by simp [State.functional, h]

theorem platLive_of_wrapped {s : State} (h : s.wrapped = true) : s.platLive = false := by
  simp [State.platLive, functional_of_wrapped h]

/-- Out of functional operation no register can be reached as in service (R63, R432). -/
theorem regOn_of_wrapped {s : State} (h : s.wrapped = true) (a : Nat) : s.regOn a = false := by
  unfold State.regOn
  split <;> simp [functional_of_wrapped h, platLive_of_wrapped h]

/-- A write then reaches SEAM_TEST_CTRL alone (R63, R100). -/
theorem wrapped_portWriteReg {s : State} (h : s.wrapped = true) (a : Nat) (data : Word) : (portWriteReg a data s).wrapped = true := by
  unfold portWriteReg
  split
  · exact h
  split
  · exact h
  split
  · next reach =>
    have test : a = R.SEAM_TEST_CTRL := by simpa [regOn_of_wrapped h, h] using reach
    subst test
    exact (wrapped_testCtrlWrite data s).trans h
  · exact h

theorem wrapped_portRead {s : State} (h : s.wrapped = true) (a : Nat) : (portRead a s).wrapped = true := by
  unfold portRead
  split
  · exact h
  split
  · exact h
  · rw [if_pos (by simp [regOn_of_wrapped h])]
    exact h

theorem wrapped_gatedWrite {s : State} (h : s.wrapped = true) (who : Requester) (a : Nat) (data : Word) :
    (gatedWrite who a data s).wrapped = true := by
  cases who with
  | port => exact wrapped_portWriteReg h a data
  | box x =>
    simp only [gatedWrite, regOn_of_wrapped h, Bool.not_false, Bool.or_true, if_true]
    split
    · simp [raiseBox, h]
    · exact h

/-! ## Commands out of functional operation -/

theorem wrapped_of_run_up {o : Host.Outcome State Fault Refusal} {s t : State} {k : State → State} (e : o = Guard.up.run s k)
    (h : o = .next t) (hw : s.wrapped = true) (keeps : (k s).wrapped = true) : t.wrapped = true := by
  obtain ⟨-, rfl⟩ | ⟨-, rfl⟩ := whenUp_next (e.symm.trans h)
  · exact keeps
  · exact hw

/-- The commands that act out of AO reset, in functional operation or not. -/
theorem guardOf_up {c : Instr} (h : guardOf c = .up) :
    (∃ d, c = .testEnable d) ∨ (∃ d, c = .testDisable d) ∨ (∃ m, c = .testAck m) ∨ c = .testReqTimeout ∨ c = .faultLogIntake ∨
      c = .regReset ∨ (∃ load, c = .wrapperInstruction load) ∨ (∃ a d, c = .registerWrite a d) ∨ (∃ a d, c = .eventClear a d) ∨
      (∃ a, c = .counterRead a) ∨ (∃ who a, c = .pairLoRead who a) ∨ (∃ who a d, c = .pairLoWrite who a d) ∨
      ∃ who a d, c = .pairHiWrite who a d := by
  cases c
  case testEnable | testDisable | testAck | testReqTimeout | faultLogIntake | regReset | wrapperInstruction | registerWrite | eventClear
      | counterRead | pairLoRead | pairLoWrite | pairHiWrite => simp
  all_goals exact nomatch h

theorem wrapped_of_guard_up {c : Instr} {s t : State} (hw : s.wrapped = true) (g : guardOf c = .up) (h : exec c s = .next t) :
    t.wrapped = true := by
  obtain ⟨d, rfl⟩ | ⟨d, rfl⟩ | ⟨m, rfl⟩ | rfl | rfl | rfl | ⟨load, rfl⟩ | ⟨a, d, rfl⟩ | ⟨a, d, rfl⟩ | ⟨a, rfl⟩ | ⟨who, a, rfl⟩ |
    ⟨who, a, d, rfl⟩ | ⟨who, a, d, rfl⟩ := guardOf_up g <;>
    refine wrapped_of_run_up (o := exec _ s) rfl h hw ?_
  · simp [hw, apply_ite State.wrapped]
  · simp [hw, apply_ite State.wrapped]
  · simp [hw, apply_ite State.wrapped]
  · simp [hw, apply_ite State.wrapped, modTest]
  · simp [hw]
  · simp [hw]
  · split
    · exact (onlyChanges_wrapperScan _ _ .wrapped (by decide)).trans (by simp [hw])
    · exact hw
  · exact wrapped_portWriteReg hw _ _
  · exact wrapped_portWriteReg hw _ _
  · exact wrapped_portRead hw _
  · cases who with
    | port => simp [hw, apply_ite State.wrapped, wrapped_portRead hw]
    | box x => simp [hw, regOn_of_wrapped hw]
  · simp [hw, apply_ite State.wrapped, wrapped_gatedWrite hw]
  · simp [hw, apply_ite State.wrapped, wrapped_gatedWrite hw]

theorem whenTestLane_next {n : BitVec 4} {s t : State} {k : State → State} (h : whenTestLane n s k = .next t) :
    whenUp s k = .next t := by
  unfold whenTestLane at h
  split at h
  · exact h
  · exact nomatch h

/-- The checkers of a test run under the wrapper too (R63, R102). -/
theorem wrapped_of_guard_testLane {c : Instr} {n : BitVec 4} {s t : State} (hw : s.wrapped = true) (g : guardOf c = .testLane n)
    (h : exec c s = .next t) : t.wrapped = true := by
  cases c
  case prbsLock got =>
    refine wrapped_of_run_up rfl (whenTestLane_next h) hw ?_
    simp [hw, modTest, apply_ite State.wrapped]
  case prbsLoss lane first second =>
    refine wrapped_of_run_up rfl (whenTestLane_next h) hw ?_
    simp [hw, modTest, apply_ite State.wrapped]
  all_goals exact nomatch g

theorem wrapped_flitSlotSend {s t : State} (hw : s.wrapped = true) (h : exec .flitSlotSend s = .next t) : t.wrapped = true := by
  refine wrapped_of_run_up (if_pos hw) h hw ?_
  simp [driveLines, hw, apply_ite State.wrapped]

/-- Of the commands on the pins and the test access, a cold reset and a loss of the AO clock alone end the wrapper's hold. -/
theorem wrapped_of_guard_other {c : Instr} {s t : State} (hw : s.wrapped = true) (own : guardOf c = .other) (h : exec c s = .next t)
    (cold : c ≠ .coldReset) (loss : c ≠ .aoClockLoss) : t.wrapped = true := by
  obtain rfl | rfl | rfl | rfl | rfl | rfl | rfl | ⟨load, rfl⟩ | ⟨v, rfl⟩ := guardOf_other own <;>
    obtain rfl := Host.Outcome.next.inj h
  · exact absurd rfl cold
  · simp [aoStart, hw, apply_ite State.wrapped]
  · exact absurd rfl loss
  · simp [aoStart, hw, apply_ite State.wrapped]
  · simp [State.functional, hw]
  · simp [State.functional, hw]
  · exact hw
  · exact (onlyChanges_tapScan _ _ .wrapped (by decide)).trans hw
  · simp [State.functional, hw]

/-- Out of functional operation a command leaves the block out of it, but for a cold reset and a loss of the AO clock (R63). -/
theorem wrapped_exec {c : Instr} {s t : State} (hw : s.wrapped = true) (h : exec c s = .next t) (cold : c ≠ .coldReset)
    (loss : c ≠ .aoClockLoss) : t.wrapped = true := by
  have held {g : Guard} (e : guardOf c = g) (own : g ≠ .other) (shut : g.opens s = false) : t.wrapped = true := by
    obtain ⟨k, run⟩ := exec_guard c s
    rw [e] at run
    obtain ⟨opens, -⟩ | rfl := Guard.run_next own (run.symm.trans h)
    · exact nomatch shut.symm.trans opens
    · exact hw
  match g : guardOf c with
  | .functional => exact held g nofun (functional_of_wrapped hw)
  | .plat => exact held g nofun (platLive_of_wrapped hw)
  | .msg => exact held g nofun (by simp [Guard.opens, functional_of_wrapped hw])
  | .lane n => exact held g nofun (functional_of_wrapped hw)
  | .up => exact wrapped_of_guard_up hw g h
  | .testLane n => exact wrapped_of_guard_testLane hw g h
  | .slot =>
    cases c
    case flitSlotSend => exact wrapped_flitSlotSend hw h
    all_goals exact nomatch g
  | .other => exact wrapped_of_guard_other hw g h cold loss

/-- Settles O6: the state stays settled, and pcm_state_o of a block out of functional operation is 0b000 (R58, R63). -/
theorem wrapperHoldsTheBlock : Obligations.WrapperHoldsTheBlock := by
  intro c s t hw hs h cold loss
  have out := wrapped_exec hw h cold loss
  refine ⟨out, ?_⟩
  rw [(settled_exec hs h).1]
  simp [outsOf, State.pcmStateO, functional_of_wrapped out]

end Sys2Proof.Machine
end

section
/-!
SUPPORT. The register port on plain registers and on domains that are off (R14, R48, R49), and cold resets and starts (R52, R382, R387,
R412).
-/
namespace Sys2Proof.Machine

/-! ## The register port -/

theorem State.wrapped_of_functional {s : State} (h : s.functional = true) : s.wrapped = false := by
  simp only [State.functional, Bool.and_eq_true, Bool.not_eq_true'] at h
  exact h.2

/-- A write of a register whose domain is off is refused (R49). -/
theorem portWriteReg_off {a : Nat} {s : State} (hf : s.functional = true) (al : a % 4 = 0) (row : (regRow a).isSome = true)
    (off : s.regOn a = false) (data : Word) : portWriteReg a data s = s.answer true := by
  simp [portWriteReg, al, off, Option.isSome_iff_ne_none.mp row, State.wrapped_of_functional hf]

theorem portRead_off {a : Nat} {s : State} (al : a % 4 = 0) (row : (regRow a).isSome = true) (off : s.regOn a = false) :
    portRead a s = s.answerRead 0 true := by
  simp [portRead, al, off, Option.isSome_iff_ne_none.mp row]

/-- Settles O20: an access to a register whose domain is off is answered with an error, and nothing else changes. -/
theorem offDomainAccess : Obligations.OffDomainAccess := by
  intro addr data s hf hs al row off
  have hup := State.up_of_functional hf
  constructor
  · refine runs_of_whenUp rfl hup ?_
    rw [portWriteReg_off hf al row off]
    exact ⟨rfl, rfl, (onlyChanges_settle_of (onlyChanges_answer _ _) hs (by decide)).mono (by decide)⟩
  · refine runs_of_whenUp rfl hup ?_
    rw [portRead_off al row off]
    exact ⟨rfl, rfl, rfl, (onlyChanges_settle_of (onlyChanges_answerRead _ _ _) hs (by decide)).mono (by decide)⟩

/-- A plain write: RW fields take the data, W1C flags written with 1 clear, and nothing else changes (R14). -/
theorem runs_registerWrite_plain {addr : BitVec 24} {s : State} {r : RegRow} (hf : s.functional = true) (hs : Settled s)
    (al : addr.toNat % 4 = 0) (row : regRow addr.toNat = some r) (on : s.regOn addr.toNat = true) (plain : PlainAddr addr.toNat)
    (lo : isPairLo addr.toNat = false) (hi : isPairHi addr.toNat = false) (data : Word) :
    Runs (.registerWrite addr data) s fun t =>
      t.reg addr.toNat = ((s.reg addr.toNat &&& ~~~r.rw &&& ~~~(r.w1c &&& data)) ||| (data &&& r.rw)) ∧
        t.outs.regAck = true ∧ t.outs.regErr = false ∧ OnlyChanges [.regs, .outs, .slp] s t ∧ RegsBut [addr.toNat] s t := by
  refine runs_of_whenUp rfl (State.up_of_functional hf) ?_
  rw [portWriteReg_on al (by simp [row]) on, writeReg_plain plain lo hi, plainWrite, row]
  refine ⟨?_, rfl, rfl, ?_, regsBut_setReg _ _ _⟩
  · rw [reg_settle, reg_answer, reg_setReg_same]
  · exact (onlyChanges_settle_of ((onlyChanges_setReg _ _ _).trans (onlyChanges_answer _ _)) hs (by decide)).mono (by decide)

/-- Settles O16: a register that can be reached is written and read without an error, and a plain one takes its fields alone. -/
theorem registerWriteIsPlain : Obligations.RegisterWriteIsPlain := by
  refine ⟨fun _ data _ _ hf hs al row on plain lo hi => runs_registerWrite_plain hf hs al row on plain lo hi data,
    fun addr data s hf al row on => ⟨?_, ?_⟩⟩
  · refine runs_of_whenUp rfl (State.up_of_functional hf) ?_
    rw [portWriteReg_on al row on]
    exact ⟨rfl, rfl⟩
  · refine runs_of_whenUp rfl (State.up_of_functional hf) ?_
    rw [portRead_on al row on]
    exact ⟨rfl, rfl, rfl⟩

/-! ## Cold resets and starts -/

/-- Every register of the block in AO reset reads its reset value (R382). -/
theorem reg_aoReset (rstN clk : Bool) (s : State) (a : Nat) : (aoReset rstN clk s).reg a = regReset s.par a := rfl

theorem runs_coldReset (s : State) : Runs .coldReset s fun t => t = aoReset false s.pins.aoClk s := ⟨_, rfl, rfl⟩

theorem onlyChanges_aoStart {s : State} (h : s.slp.queue = []) : OnlyChanges [.boot, .slp, .outs] s (aoStart s) := by
  have start : OnlyChanges [.boot, .slp] s { s with boot := { s.boot with step := 1 }, slp := { s.slp with txActive := true } } := by
    intro p hp
    cases p <;> simp_all [Part.same]
  exact (start.trans (onlyChanges_settle h)).mono (by decide)

theorem onlyChanges_pins (v : Pins) (s : State) : OnlyChanges [.pins] s { s with pins := v } := by
  intro p hp
  cases p <;> simp_all [Part.same]

/-- The pins change and the outputs follow: what a release of the block begins with. -/
theorem onlyChanges_settle_pins {s : State} (hs : Settled s) (v : Pins) :
    OnlyChanges [.pins, .outs, .slp] s (settle { s with pins := v }) :=
  (onlyChanges_settle_of (onlyChanges_pins v s) hs (by decide)).mono (by decide)

theorem runs_coldResetRelease {s : State} (down : s.pins.aoRstN = false) (clk : s.pins.aoClk = true) (hs : Settled s) :
    Runs .coldResetRelease s fun t =>
      t.up = true ∧ t.boot.step = 1 ∧ t.slp.txActive = true ∧ OnlyChanges [.pins, .boot, .slp, .outs] s t := by
  refine ⟨aoStart (settle { s with pins := { s.pins with aoRstN := true } }), congrArg Host.Outcome.next ?_, ?_⟩
  · rw [if_neg (by simp [down])]
    exact if_pos clk
  exact ⟨clk, rfl, rfl, ((onlyChanges_settle_pins hs _).trans (onlyChanges_aoStart rfl)).mono (by decide)⟩

theorem onlyChanges_setFld (f : Field) (v : Nat) (s : State) : OnlyChanges [.regs] s (s.setFld f v) := onlyChanges_setReg _ _ s

theorem regsBut_setFld (f : Field) (v : Nat) (s : State) : RegsBut [f.reg] s (s.setFld f v) := regsBut_setReg _ _ s

theorem RegsBut.trans {as : List Nat} {s t u : State} (h : RegsBut as s t) (k : RegsBut as t u) : RegsBut as s u :=
  fun a ha => (k a ha).trans (h a ha)

/-- PCM_RST_CAUSE as a cold start after a loss of the AO clock leaves it (R387). -/
def clockLossCause (s : State) : State := (s.setFld F.PCM_RST_CAUSE.COLD 0).setFld F.PCM_RST_CAUSE.AO_CLK_LOSS 1

/-- A one-bit field that is written, and the bits beside it. -/
theorem getLsbD_putField_one (x : Word) (lo v : Nat) {i : Nat} (hi : i < 32) :
    (putField x lo 1 v).getLsbD i = if i = lo then v.testBit 0 else x.getLsbD i := by
  have one (k : Nat) : (1#32).getLsbD k = decide (k = 0) := by cases k <;> simp [BitVec.getLsbD_one]
  have val (k : Nat) : (BitVec.ofNat 32 (v % 2)).getLsbD k = (decide (k = 0) && v.testBit 0) := by
    rcases Nat.mod_two_eq_zero_or_one v with e | e <;> simp [Nat.testBit_zero, e, one]
  simp only [putField, BitVec.getLsbD_or, BitVec.getLsbD_and, BitVec.getLsbD_not, BitVec.getLsbD_shiftLeft, Nat.pow_one, one, val,
    Nat.add_one_sub_one, hi, decide_true, Bool.true_and]
  by_cases below : i < lo
  · simp [below, Nat.ne_of_lt below]
  · by_cases e : i = lo
    · simp [e]
    · have : i - lo ≠ 0 := by omega
      simp [below, e, this]

theorem flag_setFld_same (s : State) {f : Field} (n : f.n = 1) (lo : f.lo < 32) (v : Nat) : (s.setFld f v).flag f = v.testBit 0 := by
  rw [State.flag, reg_setFld_same, n]
  exact (getLsbD_putField_one _ _ _ lo).trans (if_pos rfl)

theorem flag_setFld_beside (s : State) {f g : Field} (n : f.n = 1) (reg : g.reg = f.reg) (lo : g.lo < 32) (ne : g.lo ≠ f.lo) (v : Nat) :
    (s.setFld f v).flag g = s.flag g := by
  rw [State.flag, State.flag, reg, reg_setFld_same, n]
  exact (getLsbD_putField_one _ _ _ lo).trans (if_neg ne)

theorem flags_clockLossCause (s : State) :
    (clockLossCause s).flag F.PCM_RST_CAUSE.AO_CLK_LOSS = true ∧ (clockLossCause s).flag F.PCM_RST_CAUSE.COLD = false := by
  have loss : (clockLossCause s).flag F.PCM_RST_CAUSE.AO_CLK_LOSS = Nat.testBit 1 0 :=
    flag_setFld_same (s.setFld F.PCM_RST_CAUSE.COLD 0) rfl (by decide) 1
  have beside : (clockLossCause s).flag F.PCM_RST_CAUSE.COLD = (s.setFld F.PCM_RST_CAUSE.COLD 0).flag F.PCM_RST_CAUSE.COLD :=
    flag_setFld_beside (f := F.PCM_RST_CAUSE.AO_CLK_LOSS) (g := F.PCM_RST_CAUSE.COLD)
      (s.setFld F.PCM_RST_CAUSE.COLD 0) rfl rfl (by decide) (by decide) 1
  have cold : (s.setFld F.PCM_RST_CAUSE.COLD 0).flag F.PCM_RST_CAUSE.COLD = Nat.testBit 0 0 :=
    flag_setFld_same s rfl (by decide) 0
  exact ⟨loss.trans rfl, beside.trans (cold.trans rfl)⟩

theorem runs_aoClockReturn {s : State} (rst : s.pins.aoRstN = true) (clk : s.pins.aoClk = false) (hs : Settled s) :
    Runs .aoClockReturn s fun t =>
      t.up = true ∧ t.outs.aoClkOk = true ∧ t.outs.aoRefClk = true ∧ t.boot.step = 1 ∧ t.slp.txActive = true ∧
        t.flag F.PCM_RST_CAUSE.AO_CLK_LOSS = true ∧ t.flag F.PCM_RST_CAUSE.COLD = false ∧
        OnlyChanges [.pins, .regs, .boot, .slp, .outs] s t ∧ RegsBut [R.PCM_RST_CAUSE] s t := by
  have present := onlyChanges_settle_pins hs { s.pins with aoClk := true }
  generalize up : settle { s with pins := { s.pins with aoClk := true } } = u at present
  have cause : OnlyChanges [.regs] u (clockLossCause u) :=
    ((onlyChanges_setFld _ _ _).trans (onlyChanges_setFld _ _ _)).mono (by decide)
  have quiet : (clockLossCause u).slp.queue = [] := by rw [cause .slp (by decide), ← up]; rfl
  have pins : (clockLossCause u).pins = { s.pins with aoClk := true } := by rw [cause .pins (by decide), ← up]; rfl
  refine ⟨aoStart (clockLossCause u), congrArg Host.Outcome.next ?_, ?_⟩
  · rw [if_neg (by simp [clk]), ← up]
    exact if_pos rst
  refine ⟨?_, congrArg Pins.aoClk pins, congrArg Pins.aoClk pins, rfl, rfl, (flags_clockLossCause u).1, (flags_clockLossCause u).2,
    ((present.trans cause).trans (onlyChanges_aoStart quiet)).mono (by decide), ?_⟩
  · have : (aoStart (clockLossCause u)).pins = { s.pins with aoClk := true } := pins
    simp [State.up, this, rst]
  · have regs : RegsBut [R.PCM_RST_CAUSE] u (clockLossCause u) :=
      (regsBut_setFld F.PCM_RST_CAUSE.COLD 0 u).trans (regsBut_setFld F.PCM_RST_CAUSE.AO_CLK_LOSS 1 _)
    have same : RegsBut [R.PCM_RST_CAUSE] s u := fun a _ => by rw [← up]; rfl
    exact same.trans regs

/-- Settles O9: a cold reset leaves the state of `State.cold` but for the queue, what has been sent and the draws, and a start begins
AO_UP. -/
theorem coldResetsAndStarts : Obligations.ColdResetsAndStarts := by
  refine ⟨fun s => (runs_coldReset s).imp fun _ h => ?_, fun s clk => ?_, fun s down clk hs => runs_coldResetRelease down clk hs,
    fun s rst clk hs => runs_aoClockReturn rst clk hs⟩
  · obtain ⟨e, rfl⟩ := h
    exact ⟨e, rfl, rfl, rfl, rfl, rfl, rfl, rfl, fun _ => rfl, rfl, rfl, rfl, rfl, rfl, rfl, rfl, rfl, rfl, rfl, rfl, rfl, rfl, rfl, rfl,
      rfl, rfl⟩
  · refine ⟨aoReset s.pins.aoRstN false s, congrArg Host.Outcome.next (if_pos clk), ?_⟩
    exact ⟨rfl, rfl, rfl, rfl, fun _ => rfl, rfl, rfl, rfl⟩

end Sys2Proof.Machine
end

section
/-!
SUPPORT. Host requests: how one enters its port's table, and how one fails (R37, R38, R39, R161, R169, R170).
-/
namespace Sys2Proof.Machine

/-! ## Running a meaning of the PLAT domain -/

theorem runs_of_whenPlat {c : Instr} {s : State} {k : State → State} {P : State → Prop}
    (e : exec c s = Guard.plat.run s k) (hl : s.platLive = true) (h : P (settle (k s))) : Runs c s P :=
  ⟨settle (k s), by simp [e, Guard.run, whenPlat, hl], h⟩

/-- The end of a meaning that has changed nothing changes nothing: no message waits, and the outputs are those of the state. -/
theorem settle_eq_self {s : State} (hs : Settled s) : settle s = s := by
  obtain ⟨outs, queue⟩ := hs
  calc settle s = { s with slp := { s.slp with queue := [], mseq := s.slp.mseq + 0#8 }, outs := outsOf s } := by
        unfold settle
        rw [queue]
        rfl
    _ = s := by rw [← outs, ← queue, BitVec.add_zero]

/-! ## Frames -/

theorem OnlyChanges.refl (s : State) : OnlyChanges [] s s := by
  intro p _
  cases p <;> rfl

theorem onlyChanges_foldl {α : Type} {ps : List Part} {f : State → α → State} (h : ∀ s x, OnlyChanges ps s (f s x)) (l : List α)
    (s : State) : OnlyChanges ps s (l.foldl f s) := by
  induction l generalizing s with
  | nil => exact (OnlyChanges.refl s).mono (List.nil_subset _)
  | cons x xs ih => exact ((h s x).trans (ih _)).mono (by simp)

theorem onlyChanges_modPort (p : PortId) (f : Port → Port) (s : State) : OnlyChanges [.ports] s (s.modPort p f) := by
  intro q hq
  cases q <;> simp_all [Part.same]

theorem onlyChanges_modReq (p : PortId) (n : Nat) (f : HostReq → HostReq) (s : State) : OnlyChanges [.ports] s (modReq p n f s) :=
  onlyChanges_modPort p _ s

theorem onlyChanges_mnf (m : Mnf) (s : State) : OnlyChanges [.mnf] s { s with mnf := m } := by
  intro p hp
  cases p <;> simp_all [Part.same]

theorem onlyChanges_noteFull (s : State) : OnlyChanges [.mnf, .regs, .flt] s (noteFull s) := by
  dsimp only [noteFull]
  split
  · exact (onlyChanges_mnf _ s).trans (onlyChanges_raise _ _ _)
  · exact (onlyChanges_mnf _ s).mono (by decide)

theorem onlyChanges_freeEntry (tag : Nat) (s : State) : OnlyChanges [.mnf, .regs, .flt] s (freeEntry tag s) :=
  ((onlyChanges_mnf _ s).trans (onlyChanges_noteFull _)).mono (by decide)

@[simp] theorem port_settle (s : State) (p : PortId) : (settle s).port p = s.port p := rfl

/-- A part of the state that holds the ports as they were holds each port as it was. -/
theorem OnlyChanges.port {ps : List Part} {s t : State} (h : OnlyChanges ps s t) (hp : .ports ∉ ps) (p : PortId) :
    t.port p = s.port p := by
  have ports : t.ports = s.ports := h .ports hp
  simp [State.port, ports]

/-! ## A request enters its port's table -/

/-- The state with the request that a packet's command and beats bring in its port's table. -/
def State.entered (s : State) (port : PortId) (cmd : BitVec 128) (beats : List Beat) : State :=
  let c := HostCmd.ofBits cmd
  enterRequest port c (beatData c.addr.toNat c.len (beats.map (·.data))) s

/-- The request that enters, and as many transactions as it has segments (R169, R170). -/
theorem port_entered (s : State) (p : PortId) (cmd : BitVec 128) (beats : List Beat) :
    ∃ (r : HostReq) (ts : List Txn), (s.entered p cmd beats).port p =
        { s.port p with
          reqs := (s.port p).reqs ++ [r], nextSerial := (s.port p).nextSerial + 1, issue := (s.port p).issue ++ ts, waiting := false } ∧
      r.serial = (s.port p).nextSerial ∧ r.addr = bits cmd 64 64 ∧ r.dest = bits cmd 48 16 ∧ r.len = fld cmd 24 24 + 1 ∧
      r.htag = bits cmd 8 16 ∧ r.op = bits cmd 0 8 ∧ r.finished = false ∧ ts.length = r.segs.length :=
  ⟨_, _, port_modPort_same s p _, rfl, rfl, rfl, rfl, rfl, rfl, rfl, by simp⟩

theorem onlyChanges_entered (s : State) (p : PortId) (cmd : BitVec 128) (beats : List Beat) :
    OnlyChanges [.ports] s (s.entered p cmd beats) := onlyChanges_modPort p _ s

/-! ## A request fails -/

/-- A request that ends leaves one response beat with its tag and the status (R39). -/
theorem beats_endReq {p : PortId} {n : Nat} {s : State} {r : HostReq} (h : s.req p n = some r) (status : Byte) :
    ((endReq p n status s).port p).beats = (s.port p).beats ++ [(r.htag, status)] := by
  unfold endReq
  rw [h]
  exact congrArg Port.beats (port_modPort_same s p _)

theorem onlyChanges_endReq (p : PortId) (n : Nat) (status : Byte) (s : State) : OnlyChanges [.ports, .mnf] s (endReq p n status s) := by
  unfold endReq
  split
  · exact (OnlyChanges.refl s).mono (by decide)
  · exact (onlyChanges_modPort p _ s).trans (onlyChanges_mnf _ _)

/-- The entries of a request that wait to be sent again are freed before it ends. -/
def freeResending (p : PortId) (n : Nat) (s : State) : State := (s.resending p n).foldl (fun s t => freeEntry t s) s

theorem failReq_eq (p : PortId) (n : Nat) (status : Byte) (s : State) :
    failReq p n status s = if status = 0x05 then
      raise C.MNF.NO_ROUTE (detTxn 0 p.toNat false 0 5 0 0) (endReq p n status (freeResending p n s))
      else endReq p n status (freeResending p n s) := rfl

theorem onlyChanges_freeResending (p : PortId) (n : Nat) (s : State) : OnlyChanges [.mnf, .regs, .flt] s (freeResending p n s) :=
  onlyChanges_foldl (fun s t => onlyChanges_freeEntry t s) _ s

theorem onlyChanges_failReq (p : PortId) (n : Nat) (status : Byte) (s : State) :
    OnlyChanges [.ports, .mnf, .regs, .flt] s (failReq p n status s) := by
  have ends := (onlyChanges_freeResending p n s).trans (onlyChanges_endReq p n status _)
  rw [failReq_eq]
  split
  · exact (ends.trans (onlyChanges_raise _ _ _)).mono (by decide)
  · exact ends.mono (by decide)

theorem beats_failReq {p : PortId} {n : Nat} {s : State} {r : HostReq} (h : s.req p n = some r) (status : Byte) :
    ((failReq p n status s).port p).beats = (s.port p).beats ++ [(r.htag, status)] := by
  have same : (freeResending p n s).port p = s.port p := (onlyChanges_freeResending p n s).port (by decide) p
  have found : (freeResending p n s).req p n = some r := by rw [State.req, same]; exact h
  have ends := beats_endReq found status
  rw [same] at ends
  rw [failReq_eq]
  split
  · rw [(onlyChanges_raise _ _ _).port (by decide)]; exact ends
  · exact ends

/-- The request of a serial, in a table that it has just entered: its own tag where no other request has the serial. -/
theorem req_entered (s : State) (p : PortId) (cmd : BitVec 128) (beats : List Beat) :
    ∃ r, (s.entered p cmd beats).req p (s.port p).nextSerial = some r ∧
      ((∀ x ∈ (s.port p).reqs, x.serial ≠ (s.port p).nextSerial) → r.htag = bits cmd 8 16) := by
  obtain ⟨r, ts, port, serial, -, -, -, htag, -⟩ := port_entered s p cmd beats
  rw [State.req, port, List.find?_append]
  have last : [r].find? (·.serial == (s.port p).nextSerial) = some r := by simp [serial]
  rw [last]
  cases first : (s.port p).reqs.find? (·.serial == (s.port p).nextSerial) with
  | none => exact ⟨r, rfl, fun _ => htag⟩
  | some x =>
    refine ⟨x, rfl, fun none_else => absurd ?_ (none_else x (List.mem_of_find?_eq_some first))⟩
    simpa using List.find?_some first

/-! ## HOST_REQUEST_PACKET -/

/-- A request that is taken enters, and then fails, is resolved or waits. -/
theorem runs_hostRequestPacket {port : PortId} {cmd : BitVec 128} {beats : List Beat} {s : State} {P : State → Prop}
    (hl : s.platLive = true) (present : s.hasPort port = true) (ready : s.portsReady = true) (room : (s.port port).reqs.length < 256)
    (h : P (settle (
      if (HostCmd.ofBits cmd).malformed beats.length then failReq port (s.port port).nextSerial 0x01 (s.entered port cmd beats)
      else if !s.linkOpen then failReq port (s.port port).nextSerial 0x03 (s.entered port cmd beats)
      else if s.flag F.MSH_CTRL.EN then resolveReq port (s.port port).nextSerial (s.entered port cmd beats)
      else s.entered port cmd beats))) : Runs (.hostRequestPacket port cmd beats) s P := by
  refine runs_of_whenPlat rfl hl ?_
  rw [if_neg (by simp [present, ready, room])]
  exact h

/-- A request that fails as it is taken leaves a single beat with the status. -/
theorem failed_entered (port : PortId) (cmd : BitVec 128) (beats : List Beat) {s : State} (hs : Settled s) (status : Byte) :
    (∃ tag, ((settle (failReq port (s.port port).nextSerial status (s.entered port cmd beats))).port port).beats =
        (s.port port).beats ++ [(tag, status)] ∧
      ((∀ r ∈ (s.port port).reqs, r.serial ≠ (s.port port).nextSerial) → tag = bits cmd 8 16)) ∧
    OnlyChanges [.ports, .mnf, .regs, .flt, .outs, .slp] s
      (settle (failReq port (s.port port).nextSerial status (s.entered port cmd beats))) := by
  obtain ⟨r, found, own⟩ := req_entered s port cmd beats
  obtain ⟨_, _, entered, -⟩ := port_entered s port cmd beats
  refine ⟨⟨r.htag, ?_, own⟩, ?_⟩
  · rw [port_settle, beats_failReq found, entered]
  · exact (onlyChanges_settle_of ((onlyChanges_entered s port cmd beats).trans (onlyChanges_failReq port _ status _)) hs
      (by decide)).mono (by decide)

/-- Settles O22: a request enters whole, ends in one beat, or is not taken. -/
theorem hostRequestsTaken : Obligations.HostRequestsTaken := by
  refine ⟨fun port cmd beats s hl hs present ready room good link off => ?_,
    fun port cmd beats s hl present ready room hs bad => ?_, fun port cmd beats s hl present ready room hs good link => ?_,
    fun port cmd beats s hl hs present full => ?_⟩
  · refine runs_hostRequestPacket hl present ready room ?_
    rw [if_neg (by simp [good]), if_neg (by simp [link]), if_neg (by simp [off]), port_settle]
    obtain ⟨r, ts, entered, -, addr, dest, len, htag, op, finished, count⟩ := port_entered s port cmd beats
    rw [entered]
    exact ⟨⟨r, rfl, addr, dest, len, htag, op, finished, by rw [← count, List.length_append]⟩, rfl,
      (onlyChanges_settle_of (onlyChanges_entered s port cmd beats) hs (by decide)).mono (by decide)⟩
  · refine runs_hostRequestPacket hl present ready room ?_
    rw [if_pos bad]
    exact failed_entered port cmd beats hs 0x01
  · refine runs_hostRequestPacket hl present ready room ?_
    rw [if_neg (by simp [good]), if_pos (by simp [link])]
    exact failed_entered port cmd beats hs 0x03
  · refine runs_of_whenPlat rfl hl ?_
    rw [if_pos (by simpa [present] using full)]
    exact settle_eq_self hs

end Sys2Proof.Machine
end

section
/-!
SUPPORT. Host responses: admission, packets opened, beats sent, and the reply-sink obligation (R34 to R36, R39, R45 to R47, R176, R177).
-/
namespace Sys2Proof.Machine

/-! ## A request changed in its port's table -/

theorem port_modReq (p : PortId) (n : Nat) (f : HostReq → HostReq) (s : State) :
    (modReq p n f s).port p = { s.port p with reqs := mapIf (·.serial == n) f (s.port p).reqs } := port_modPort_same s p _

/-- A request of the serial stands in the table as changed. -/
theorem mem_mapIf {α : Type} {q : α → Bool} {f : α → α} {l : List α} {x : α} (h : x ∈ l) (hx : q x = true) : f x ∈ mapIf q f l :=
  List.mem_map.mpr ⟨x, h, if_pos hx⟩

theorem onlyChanges_emit (e : Emit) (s : State) : OnlyChanges [.out] s (s.emit e) := by
  intro p hp
  cases p <;> simp_all [Part.same]

/-! ## SEGMENT_ADMIT -/

/-- The oldest unadmitted segment is one of a request in the table. -/
theorem unadmitted_some {p : Port} {n i len : Nat} (h : p.unadmitted = some (n, i, len)) :
    ∃ r ∈ p.reqs, r.serial = n ∧ ∃ g, r.segs[i]? = some g := by
  obtain ⟨r, mem, e⟩ := List.exists_of_findSome?_eq_some h
  obtain ⟨j, -, e⟩ := Option.bind_eq_some_iff.mp e
  obtain ⟨g, at_j, e⟩ := Option.map_eq_some_iff.mp e
  obtain ⟨rfl, rfl, -⟩ : r.serial = n ∧ j = i ∧ g.len = len := by simpa using e
  exact ⟨r, (List.mem_filter.mp mem).1, rfl, g, at_j⟩

theorem runs_segmentAdmit {port : PortId} {s : State} {n i len : Nat} (hl : s.platLive = true) (hs : Settled s)
    (oldest : (s.port port).unadmitted = some (n, i, len)) (window : (s.port port).undelivered + len ≤ s.window port)
    (pace : s.paced port + len ≤ 61440) : Runs (.segmentAdmit port) s fun t =>
      (∃ r ∈ (t.port port).reqs, r.serial = n ∧ (r.segs[i]?).map (·.admitted) = some true) ∧
        (s.platCycle, len) ∈ (t.port port).pace ∧ OnlyChanges [.ports, .outs, .slp] s t := by
  refine runs_of_whenPlat rfl hl ?_
  simp only [oldest, window, pace, decide_true, Bool.and_self, if_true, port_settle, port_modPort_same, port_modReq]
  obtain ⟨r, mem, serial, g, at_i⟩ := unadmitted_some oldest
  refine ⟨⟨_, mem_mapIf mem (by simpa using serial), serial, ?_⟩, by simp, ?_⟩
  · simp [at_i]
  · exact (onlyChanges_settle_of ((onlyChanges_modReq _ _ _ _).trans (onlyChanges_modPort _ _ _)) hs (by decide)).mono (by decide)

/-! ## RESPONSE_PACKET_OPEN -/

/-- The request that opens its packet is in the table. -/
theorem firstOpen_some {rs older : List HostReq} {n : Nat} (h : firstOpen rs older = some n) : ∃ r ∈ rs, r.serial = n := by
  induction rs generalizing older with
  | nil => exact nomatch h
  | cons r rs ih =>
    unfold firstOpen at h
    split at h
    · exact ⟨r, List.mem_cons_self, Option.some.inj h⟩
    · obtain ⟨x, mem, serial⟩ := ih h
      exact ⟨x, List.mem_cons_of_mem _ mem, serial⟩

theorem runs_responsePacketOpen {port : PortId} {s : State} {n : Nat} (hl : s.platLive = true) (hs : Settled s)
    (shut : ∀ r ∈ (s.port port).reqs, r.opened = true → r.finished = true) (single : (s.port port).beats = [] ∨ s.portsDrive = false)
    (first : firstOpen (s.port port).reqs [] = some n) : Runs (.responsePacketOpen port) s fun t =>
      (∃ r ∈ (t.port port).reqs, r.serial = n ∧ r.opened = true) ∧ OnlyChanges [.ports, .outs, .slp] s t := by
  have none_open : (s.port port).reqs.any (fun r => r.opened && !r.finished) = false := by simpa [List.any_eq_false] using shut
  have none_single : (s.portsDrive && (s.port port).beats != []) = false := by rcases single with e | e <;> simp [e]
  refine runs_of_whenPlat rfl hl ?_
  rw [if_neg (by simp only [none_open, none_single]; decide), first, port_settle, port_modReq]
  obtain ⟨r, mem, serial⟩ := firstOpen_some first
  exact ⟨⟨_, mem_mapIf mem (by simpa using serial), serial, rfl⟩,
    (onlyChanges_settle_of (onlyChanges_modReq _ _ _ _) hs (by decide)).mono (by decide)⟩

/-! ## RESPONSE_BEAT_TRANSFER -/

/-- What an emitted output and a changed port leave, from a settled state. -/
theorem onlyChanges_settle_emit {s t : State} {ps : List Part} (e : Emit) (h : OnlyChanges ps (s.emit e) t) (hs : Settled s)
    (slp : .slp ∉ ps) : OnlyChanges (.out :: ps ++ [.outs, .slp]) s (settle t) :=
  onlyChanges_settle_of ((onlyChanges_emit e s).trans h) hs (by simpa using slp)

theorem out_settle_of {s t : State} {ps : List Part} {e : Emit} (h : OnlyChanges ps (s.emit e) t) (hs : Settled s) (slp : .slp ∉ ps)
    (out : .out ∉ ps) : (settle t).out = e :: s.out := by
  rw [out_settle (by rw [h .slp slp]; exact hs.2), h .out out]
  rfl

/-- With no packet open the oldest single beat goes (R39). -/
theorem runs_singleBeat {port : PortId} {s : State} {tag : BitVec 16} {st : Byte} {rest : List (BitVec 16 × Byte)}
    (hl : s.platLive = true) (hs : Settled s) (drive : s.portsDrive = true)
    (shut : ∀ r ∈ (s.port port).reqs, r.opened = true → r.finished = true) (beats : (s.port port).beats = (tag, st) :: rest) :
    Runs (.responseBeatTransfer port) s fun t =>
      t.out = .rspBeat port (0#8 ++ st ++ tag) 0 true true false :: s.out ∧ (t.port port).beats = rest ∧
        OnlyChanges [.ports, .out, .outs, .slp] s t := by
  have none_open : (s.port port).reqs.find? (fun r => r.opened && !r.finished) = none := by simpa [List.find?_eq_none] using shut
  refine runs_of_whenPlat rfl hl ?_
  rw [if_neg (by simp [drive]), none_open, beats]
  have ports := onlyChanges_modPort port (fun q => { q with
    beats := rest
    reqs := q.reqs.filter fun r => some r.serial != ((s.port port).reqs.find? (fun r => r.finished && r.htag == tag)).map (·.serial) })
    (s.emit (.rspBeat port (rspInfo st tag) 0 true true false))
  exact ⟨out_settle_of ports hs (by decide) (by decide), congrArg Port.beats (port_modPort_same _ _ _),
    (onlyChanges_settle_emit _ ports hs (by decide)).mono (by decide)⟩

/-- The next beat of the open packet goes, and the request leaves with its last (R34 to R36, R177, R178). -/
theorem runs_packetBeat {port : PortId} {s : State} {r : HostReq} {bs : List Byte} {poison : Bool} {front lo n : Nat}
    (hl : s.platLive = true) (hs : Settled s) (drive : s.portsDrive = true)
    (opened : (s.port port).reqs.find? (fun r => r.opened && !r.finished) = some r)
    (hfront : front = (if r.sent = 0 then r.addr.toNat % 64 else 0)) (hlo : lo = 64 * r.sent - r.addr.toNat % 64)
    (hn : n = min (64 - front) (r.len - lo)) (bytes : readBytes r lo n = some (bs, poison)) :
    Runs (.responseBeatTransfer port) s fun t =>
      t.out = .rspBeat port (0#8 ++ 0x00#8 ++ r.htag) (BitVec.ofNat 512 (leNat (List.replicate front 0 ++ bs))) (r.sent == 0)
          (lo + n == r.len) poison :: s.out ∧
        (lo + n = r.len → ∀ x ∈ (t.port port).reqs, x.serial ≠ r.serial) ∧
        (lo + n ≠ r.len → ∃ x ∈ (t.port port).reqs, x.serial = r.serial ∧ x.sent = r.sent + 1) ∧
        (t.port port).beats = (s.port port).beats ∧ OnlyChanges [.ports, .out, .outs, .slp] s t := by
  refine runs_of_whenPlat rfl hl ?_
  simp only [drive, opened, ← hfront, ← hlo, ← hn, bytes, Bool.not_true, Bool.false_eq_true, if_false]
  by_cases last : lo + n = r.len
  · simp only [last, BEq.rfl, if_true]
    have ports := onlyChanges_modPort port (fun q => { q with reqs := q.reqs.filter (·.serial != r.serial) })
      (s.emit (.rspBeat port (rspInfo 0 r.htag) (BitVec.ofNat 512 (leNat (List.replicate front 0 ++ bs))) (r.sent == 0) true poison))
    refine ⟨out_settle_of ports hs (by decide) (by decide), fun _ => ?_, fun more => absurd rfl more,
      by rw [port_settle, port_modPort_same]; rfl, (onlyChanges_settle_emit _ ports hs (by decide)).mono (by decide)⟩
    intro x mem
    rw [port_settle, port_modPort_same] at mem
    simpa using (List.mem_filter.mp mem).2
  · simp only [beq_eq_false_iff_ne.mpr last, Bool.false_eq_true, if_false]
    have ports := onlyChanges_modReq port r.serial (fun r => { r with sent := r.sent + 1 })
      (s.emit (.rspBeat port (rspInfo 0 r.htag) (BitVec.ofNat 512 (leNat (List.replicate front 0 ++ bs))) (r.sent == 0) false poison))
    refine ⟨out_settle_of ports hs (by decide) (by decide), fun done => absurd done last, fun _ => ?_,
      by rw [port_settle, port_modReq]; rfl, (onlyChanges_settle_emit _ ports hs (by decide)).mono (by decide)⟩
    rw [port_settle, port_modReq]
    exact ⟨_, mem_mapIf (List.mem_of_find?_eq_some opened) BEq.rfl, rfl, rfl⟩

/-! ## The reply-sink obligation -/

theorem raised_settle {c : Cause} {s : State} : Raised c (settle s) ↔ Raised c s := Iff.rfl

theorem RegsBut.settle {as : List Nat} {s t : State} (h : RegsBut as s t) : RegsBut as s (settle t) := h

/-- A change of other parts than the registers leaves every register. -/
theorem OnlyChanges.regsBut {ps : List Part} {s t : State} (h : OnlyChanges ps s t) (regs : .regs ∉ ps) (par : .par ∉ ps)
    (as : List Nat) : RegsBut as s t := fun a _ => reg_congr (h .par par) (h .regs regs) a

theorem runs_replySinkViolation {port : PortId} {s : State} (hl : s.platLive = true) (hs : Settled s)
    (calm : (s.port port).violation = false) : Runs (.replySinkViolation port) s fun t =>
      (t.port port).violation = true ∧ Raised C.MNF.REPLY_SINK t ∧ OnlyChanges [.ports, .regs, .flt, .outs, .slp] s t ∧
        RegsBut C.MNF.REPLY_SINK.regs s t := by
  refine runs_of_whenPlat rfl hl ?_
  rw [if_neg (by simp [calm])]
  refine ⟨?_, raised_settle.mpr (raised_raise_self (by decide) _ _), ?_,
    (((onlyChanges_modPort _ _ s).regsBut (by decide) (by decide) _).trans (regsBut_raise _ _ _)).settle⟩
  · rw [port_settle, (onlyChanges_raise _ _ _).port (by decide), port_modPort_same]
  · exact (onlyChanges_settle_of ((onlyChanges_modPort _ _ _).trans (onlyChanges_raise _ _ _)) hs (by decide)).mono (by decide)

theorem runs_replySinkRecover {port : PortId} {s : State} (hl : s.platLive = true) (hs : Settled s) :
    Runs (.replySinkRecover port) s fun t => (t.port port).violation = false ∧ OnlyChanges [.ports, .outs, .slp] s t := by
  refine runs_of_whenPlat rfl hl ⟨?_, (onlyChanges_settle_of (onlyChanges_modPort _ _ _) hs (by decide)).mono (by decide)⟩
  rw [port_settle, port_modPort_same]

/-- Settles O23: the responses of a port go in the order and in the beats that R34 to R39 give them. -/
theorem responsesGo : Obligations.ResponsesGo := by
  refine ⟨fun _ _ _ _ _ hl hs oldest window pace => runs_segmentAdmit hl hs oldest window pace,
    fun _ _ _ hl hs shut single first => runs_responsePacketOpen hl hs shut single first,
    fun _ _ _ _ _ hl hs drive shut beats => runs_singleBeat hl hs drive shut beats,
    fun _ _ _ _ _ _ _ _ hl hs drive opened hfront hlo hn bytes => runs_packetBeat hl hs drive opened hfront hlo hn bytes,
    fun port s hl hs still => ?_, fun _ _ hl hs calm => runs_replySinkViolation hl hs calm,
    fun _ _ hl hs => runs_replySinkRecover hl hs⟩
  refine runs_of_whenPlat rfl hl ?_
  rw [if_pos (by simp [still])]
  exact settle_eq_self hs

end Sys2Proof.Machine
end

section
/-!
SUPPORT. Block requests: the BTAG and the beats under which one leaves, its response, its timeout and the release of its BTAG (R35, R36,
R41 to R43, R47, R187).
-/
namespace Sys2Proof.Machine

/-! ## BTAGs -/

/-- No outstanding request has the BTAG. -/
def BtagFree (outs : List BreqOut) (t : BitVec 12) : Prop := ∀ o ∈ outs, o.btag ≠ t

theorem any_btag_eq_false {outs : List BreqOut} {t : BitVec 12} : outs.any (fun o => o.btag == t) = false ↔ BtagFree outs t := by
  simp [BtagFree]

/-- The search ends at a free BTAG where one of those that it tries is free. -/
theorem btagFree_freeBtag {outs : List BreqOut} {t : BitVec 12} {n k : Nat} (le : k ≤ n) (free : BtagFree outs (t + BitVec.ofNat 12 k)) :
    BtagFree outs (freeBtag outs t n) := by
  induction n generalizing t k with
  | zero =>
    obtain rfl : k = 0 := by omega
    simpa [freeBtag] using free
  | succ n ih =>
    unfold freeBtag
    split
    next used =>
      cases k with
      | zero =>
        have : BtagFree outs t := by simpa using free
        rw [any_btag_eq_false.mpr this] at used
        exact nomatch used
      | succ k =>
        have next : t + BitVec.ofNat 12 (k + 1) = t + 1 + BitVec.ofNat 12 k := by
          rw [BitVec.ofNat_add, BitVec.add_comm (BitVec.ofNat 12 k), BitVec.add_assoc]
          rfl
        exact ih (by omega) (next ▸ free)
    next unused => exact any_btag_eq_false.mp (Bool.not_eq_true _ ▸ unused)

theorem btag_add_injective {t : BitVec 12} {i j : Nat} (hi : i < 4096) (hj : j < 4096)
    (h : t + BitVec.ofNat 12 i = t + BitVec.ofNat 12 j) : i = j := by
  have := congrArg BitVec.toNat (BitVec.add_right_inj t |>.mp h)
  simpa [Nat.mod_eq_of_lt hi, Nat.mod_eq_of_lt hj] using this

/-- With fewer than 4,096 outstanding, the BTAG taken is one that no outstanding request has: of `n + 1` BTAGs, `n` requests leave one
free (R41). -/
theorem btagFree_of_length {outs : List BreqOut} (room : outs.length < 4096) (t : BitVec 12) :
    BtagFree outs (freeBtag outs t outs.length) := by
  by_contra taken
  have all_used : ∀ k ≤ outs.length, ¬ BtagFree outs (t + BitVec.ofNat 12 k) := fun k le free => taken (btagFree_freeBtag le free)
  have nodup : ((List.range (outs.length + 1)).map fun k => t + BitVec.ofNat 12 k).Nodup := by
    refine List.Nodup.map_on (fun i hi j hj h => ?_) List.nodup_range
    rw [List.mem_range] at hi hj
    exact btag_add_injective (by omega) (by omega) h
  have within : ((List.range (outs.length + 1)).map fun k => t + BitVec.ofNat 12 k) ⊆ outs.map (·.btag) := by
    intro b hb
    obtain ⟨k, hk, rfl⟩ := List.mem_map.mp hb
    have used := all_used k (by simpa [Nat.lt_succ_iff] using hk)
    simp only [BtagFree, not_forall, not_not] at used
    obtain ⟨o, mem, e⟩ := used
    exact List.mem_map.mpr ⟨o, mem, e⟩
  have := (nodup.subperm within).length_le
  simp at this

/-! ## Beats -/

theorem length_breqBeats (port : PortId) (cmd : BitVec 96) (b : Breq) :
    (breqBeats port cmd b).length = if b.write then (b.addr.toNat % 64 + b.len + 63) / 64 else 1 := by
  unfold breqBeats
  split <;> simp [beatCount]

/-- The first beat goes with sop, the last with eop (R35). -/
theorem breqBeats_getElem? {port : PortId} {cmd : BitVec 96} {b : Breq} {i : Nat} {x : Emit} (h : (breqBeats port cmd b)[i]? = some x) :
    ∃ p c d e, x = .breqBeat p c d e (i == 0) (i + 1 == (breqBeats port cmd b).length) := by
  rw [length_breqBeats]
  unfold breqBeats at h
  by_cases write : b.write = true
  · simp only [write, if_true, List.getElem?_map, Option.map_eq_some_iff] at h ⊢
    obtain ⟨k, at_i, rfl⟩ := h
    obtain rfl : i = k := by simpa using (List.getElem?_eq_some_iff.mp at_i).2
    exact ⟨_, _, _, _, rfl⟩
  · simp only [write, Bool.false_eq_true, if_false, List.getElem?_singleton] at h ⊢
    split at h
    next first =>
      obtain rfl := Option.some.inj h
      exact ⟨_, _, _, _, by rw [first]; rfl⟩
    next => exact nomatch h

/-! ## BLOCK_REQUEST_ISSUE -/

theorem onlyChanges_out (l : List Emit) (s : State) : OnlyChanges [.out] s { s with out := l } := by
  intro p hp
  cases p <;> simp_all [Part.same]

theorem runs_blockRequestIssue {port : PortId} {s : State} {b : Breq} {rest : List Breq} (hl : s.platLive = true) (hs : Settled s)
    (present : s.hasPort port = true) (queue : (s.port port).breqs = b :: rest) (room : (s.port port).outs.length < 4096)
    (may : s.mustWait (s.port port) b = false) (drive : s.portsDrive = true) :
    Runs (.blockRequestIssue port) s fun t =>
      (∃ (btag : BitVec 12) (beats : List Emit), (∀ o ∈ (s.port port).outs, o.btag ≠ btag) ∧
        beats = breqBeats port (b.addr ++ BitVec.ofNat 12 (b.len - 1) ++ btag ++ (if b.write then 0x02#8 else 0x01#8)) b ∧
        beats.length = (if b.write then (b.addr.toNat % 64 + b.len + 63) / 64 else 1) ∧
        (∀ i x, beats[i]? = some x → ∃ p c d e, x = Emit.breqBeat p c d e (i == 0) (i + 1 == beats.length)) ∧
        t.out = beats.reverse ++ s.out ∧ (t.port port).outs = (s.port port).outs ++ [⟨btag, b, false, s.mark⟩]) ∧
        (t.port port).breqs = rest ∧ OnlyChanges [.ports, .out, .outs, .slp] s t := by
  refine runs_of_whenPlat rfl hl ?_
  have go : (decide (4096 ≤ (s.port port).outs.length) || s.mustWait (s.port port) b || !s.hasPort port || !s.portsDrive) = false := by
    simp [room, may, present, drive]
  simp only [queue, go, Bool.false_eq_true, if_false]
  have sent (l : List Emit) (f : Port → Port) : OnlyChanges [.out, .ports] s ({ s with out := l }.modPort port f) :=
    (onlyChanges_out l s).trans (onlyChanges_modPort port f _)
  refine ⟨⟨_, _, btagFree_of_length room (s.port port).nextBtag, rfl, length_breqBeats _ _ _, fun i x h => breqBeats_getElem? h, ?_, ?_⟩,
    ?_, (onlyChanges_settle_of (sent _ _) hs (by decide)).mono (ps := [.ports, .out, .outs, .slp]) (by decide)⟩
  · exact out_settle ((sent _ _ .slp (by decide)).symm ▸ hs.2)
  · rw [port_settle, port_modPort_same]; rfl
  · rw [port_settle, port_modPort_same]

/-- With 4,096 outstanding, behind an earlier write, or while the block drives no beats, the request waits (R41, R47, R187). -/
theorem runs_blockRequestIssue_waits {port : PortId} {s : State} {b : Breq} {rest : List Breq} (hl : s.platLive = true)
    (hs : Settled s) (queue : (s.port port).breqs = b :: rest)
    (held : 4096 ≤ (s.port port).outs.length ∨ s.mustWait (s.port port) b = true ∨ s.portsDrive = false) :
    Runs (.blockRequestIssue port) s fun t => t = s := by
  refine runs_of_whenPlat rfl hl ?_
  simp only [queue]
  rw [if_pos (by rcases held with e | e | e <;> simp [e])]
  exact settle_eq_self hs

/-! ## The end of a block request -/

/-- How a block request ends with its response: with its data, or as a failure (R42). -/
def respEnd (status : Byte) (b : Breq) (beats : List (BitVec 512)) (poison : Bool) : BreqEnd :=
  if status = 0 then
    match respData b beats with
    | some d => .ok d poison
    | none => .error
  else .error

@[simp] theorem length_leBytes (n v : Nat) : (leBytes n v).length = n := by
  induction n generalizing v with
  | zero => rfl
  | succ n ih => simp [leBytes, ih]

theorem length_bvBytes {w : Nat} (x : BitVec w) : (bvBytes x).length = w / 8 := length_leBytes _ _

theorem slice_of_le {bs : List Byte} {off n : Nat} (h : off + n ≤ bs.length) : slice bs off n = (bs.drop off).take n := by
  simp [slice]
  omega

theorem respEnd_failed {status : Byte} (h : status ≠ 0) (b : Breq) (beats : List (BitVec 512)) (poison : Bool) :
    respEnd status b beats poison = .error := if_neg h

theorem respEnd_write {b : Breq} (h : b.write = true) (beats : List (BitVec 512)) (poison : Bool) :
    respEnd 0 b beats poison = .ok [] poison := by simp [respEnd, respData, h]

theorem respEnd_read {b : Breq} {beats : List (BitVec 512)} (h : b.write = false) (enough : b.addr.toNat % 64 + b.len ≤ 64 * beats.length)
    (poison : Bool) :
    respEnd 0 b beats poison = .ok (slice (beats.flatMap fun x => bvBytes x) (b.addr.toNat % 64) b.len) poison := by
  have length : (beats.flatMap fun x => bvBytes x).length = 64 * beats.length := by
    simp [List.length_flatMap, length_bvBytes, Nat.mul_comm]
  rw [slice_of_le (by omega)]
  simp [respEnd, respData, h, length, enough]

/-- Where nothing waits for the end of a block request, it changes nothing (R217, R245, R247, R270). -/
theorem breqDone_silent {b : Breq} (h : b.purpose = .posted ∨ b.purpose = .t6Data) (port : PortId) (e : BreqEnd) (s : State) :
    breqDone port b e s = s := by
  rcases h with h | h <;> cases e <;> simp [breqDone, endData, h]

/-- Nothing goes on after a block request where nothing waits for room and no migration runs. -/
theorem breqAfter_of_quiet {s : State} (h : Quiet s) : breqAfter s = s := by
  obtain ⟨ready, waiting, idle⟩ := h
  have served : pumpMnf s = s := by simp [pumpMnf, ready, waiting, handReplies, serveWaiting, serveTrack]
  rw [breqAfter, served]
  unfold pumpMig
  split
  · rfl
  · simp [idle]

theorem OnlyChanges.quiet {ps : List Part} {s t : State} (h : OnlyChanges ps s t) (mnf : .mnf ∉ ps) (msh : .msh ∉ ps) (q : Quiet s) :
    Quiet t := by
  have hmnf : t.mnf = s.mnf := h .mnf mnf
  have hmsh : t.msh = s.msh := h .msh msh
  simpa [Quiet, hmnf, hmsh] using q

/-! ## BTAGs freed -/

theorem breqOut_settle (s : State) (p : PortId) (t : BitVec 12) : (settle s).breqOut p t = s.breqOut p t := rfl

theorem onlyChanges_freeBreq (p : PortId) (t : BitVec 12) (s : State) : OnlyChanges [.ports] s (freeBreq p t s) :=
  onlyChanges_modPort p _ s

theorem breqOut_freeBreq_same (p : PortId) (t : BitVec 12) (s : State) : (freeBreq p t s).breqOut p t = none := by
  rw [State.breqOut, freeBreq, port_modPort_same]
  simp [List.find?_eq_none]

theorem breqOut_freeBreq_other (p : PortId) {t b : BitVec 12} (ne : b ≠ t) (s : State) :
    (freeBreq p t s).breqOut p b = s.breqOut p b := by
  rw [State.breqOut, freeBreq, port_modPort_same, List.find?_filter]
  refine congrArg (fun q => List.find? q (s.port p).outs) (funext fun o => ?_)
  by_cases e : o.btag = b
  · simp [e, ne]
  · simp [e]

/-! ## BLOCK_RESPONSE -/

theorem runs_blockResponse {port : PortId} {info : BitVec 24} {s : State} {o : BreqOut} (beats : List (BitVec 512)) (poison : Bool)
    (hl : s.platLive = true) (present : s.hasPort port = true) (out : s.breqOut port (bits info 0 12) = some o) (live : o.dead = false) :
    Runs (.blockResponse port info beats poison) s fun t =>
      t = settle (breqAfter (breqDone port o.req (respEnd (bits info 16 8) o.req beats poison) (freeBreq port (bits info 0 12) s))) := by
  refine runs_of_whenPlat rfl hl ?_
  simp only [present, out, live, Bool.not_true, Bool.false_eq_true, if_false]
  rfl

theorem runs_blockResponse_dead {port : PortId} {info : BitVec 24} {s : State} {o : BreqOut} (beats : List (BitVec 512)) (poison : Bool)
    (hl : s.platLive = true) (present : s.hasPort port = true) (out : s.breqOut port (bits info 0 12) = some o) (dead : o.dead = true) :
    Runs (.blockResponse port info beats poison) s fun t => t = settle (freeBreq port (bits info 0 12) s) := by
  refine runs_of_whenPlat rfl hl ?_
  simp only [present, out, dead, Bool.not_true, Bool.false_eq_true, if_false, if_true]

/-- A response that nothing waits for frees its BTAG, and nothing else changes (R42, R43). -/
theorem runs_blockResponse_silent {port : PortId} {info : BitVec 24} {s : State} {o : BreqOut} (beats : List (BitVec 512)) (poison : Bool)
    (hl : s.platLive = true) (hq : Quiet s) (present : s.hasPort port = true) (out : s.breqOut port (bits info 0 12) = some o)
    (silent : o.dead = true ∨ o.req.purpose = .posted ∨ o.req.purpose = .t6Data) :
    Runs (.blockResponse port info beats poison) s fun t => t = settle (freeBreq port (bits info 0 12) s) := by
  by_cases dead : o.dead = true
  · exact runs_blockResponse_dead beats poison hl present out dead
  · obtain ⟨t, e, rfl⟩ := runs_blockResponse beats poison hl present out (Bool.not_eq_true _ ▸ dead)
    refine ⟨_, e, ?_⟩
    rw [breqDone_silent (silent.resolve_left dead), breqAfter_of_quiet ((onlyChanges_freeBreq _ _ s).quiet (by decide) (by decide) hq)]

theorem runs_blockResponse_unknown {port : PortId} {info : BitVec 24} {s : State} (beats : List (BitVec 512)) (poison : Bool)
    (hl : s.platLive = true) (hs : Settled s) (present : s.hasPort port = true) (out : s.breqOut port (bits info 0 12) = none) :
    Runs (.blockResponse port info beats poison) s fun t =>
      Raised C.MNF.BREQ_UNKNOWN t ∧ OnlyChanges [.regs, .flt, .outs, .slp] s t ∧ RegsBut C.MNF.BREQ_UNKNOWN.regs s t := by
  refine runs_of_whenPlat rfl hl ?_
  simp only [present, out, Bool.not_true, Bool.false_eq_true, if_false]
  exact ⟨raised_settle.mpr (raised_raise_self (by decide) _ _),
    (onlyChanges_settle_of (onlyChanges_raise _ _ _) hs (by decide)).mono (by decide), (regsBut_raise _ _ _).settle⟩

/-! ## BREQ_TIMEOUT and BTAG_RELEASE -/

theorem onlyChanges_reach (t : Nat) (s : State) : OnlyChanges [.rwt, .aoCycles] s (s.reach t) := by
  intro p hp
  unfold State.reach
  split <;> cases p <;> simp_all [Part.same]

theorem onlyChanges_lapse (m : Mark) (ns : Nat) (s : State) : OnlyChanges [.rwt, .aoCycles] s (s.lapse m ns) := by
  unfold State.lapse
  split
  · intro p hp
    cases p <;> simp_all [Part.same, State.elapse]
  · exact onlyChanges_reach _ s

/-- A limit in railway time has run out when its timer's command comes. -/
theorem le_now_lapse {s : State} (h : s.byAo = false) (m : Mark) (ns : Nat) : m.rail + ns ≤ (s.lapse m ns).now := by
  rw [now_lapse m ns s h]
  exact Nat.le_max_right _ _

/-- The block request under a BTAG has timed out: it keeps its BTAG, and BREQ_TIMEOUT is raised (R43). -/
def timedOut (port : PortId) (btag : BitVec 12) (o : BreqOut) (s : State) : State :=
  raise C.MNF.BREQ_TIMEOUT (detTxn btag.toNat port.toNat true 0 0x02 0 0)
    ((s.lapse o.since s.breqNs).modPort port fun q =>
      { q with outs := mapIf (·.btag == btag) (fun x => { x with dead := true }) q.outs })

theorem onlyChanges_timedOut (port : PortId) (btag : BitVec 12) (o : BreqOut) (s : State) :
    OnlyChanges [.ports, .regs, .flt, .rwt, .aoCycles] s (timedOut port btag o s) :=
  (((onlyChanges_lapse _ _ s).trans (onlyChanges_modPort _ _ _)).trans (onlyChanges_raise _ _ _)).mono (by decide)

theorem regsBut_timedOut (port : PortId) (btag : BitVec 12) (o : BreqOut) (s : State) :
    RegsBut C.MNF.BREQ_TIMEOUT.regs s (timedOut port btag o s) :=
  (((onlyChanges_lapse _ _ s).trans (onlyChanges_modPort _ _ _)).regsBut (by decide) (by decide) _).trans (regsBut_raise _ _ _)

theorem raised_timedOut (port : PortId) (btag : BitVec 12) (o : BreqOut) (s : State) : Raised C.MNF.BREQ_TIMEOUT (timedOut port btag o s) :=
  raised_raise_self (by decide) _ _

theorem le_now_timedOut {s : State} (h : s.byAo = false) (port : PortId) (btag : BitVec 12) (o : BreqOut) :
    o.since.rail + s.breqNs ≤ (timedOut port btag o s).now := by
  have rwt : (timedOut port btag o s).rwt = (s.lapse o.since s.breqNs).rwt :=
    ((onlyChanges_modPort _ _ _).trans (onlyChanges_raise _ _ _)) .rwt (by decide)
  have := le_now_lapse h o.since s.breqNs
  rwa [State.now, ← rwt] at this

/-- The first that meets a test stays so where the change of those that meet it keeps the test. -/
theorem find?_mapIf {α : Type} {p : α → Bool} {f : α → α} (keeps : ∀ x, p (f x) = p x) (l : List α) :
    (mapIf p f l).find? p = (l.find? p).map f := by
  induction l with
  | nil => rfl
  | cons x xs ih =>
    by_cases h : p x = true
    · simp [mapIf, h, keeps]
    · simpa [mapIf, h] using ih

theorem breqOut_timedOut {port : PortId} {btag : BitVec 12} {s : State} {o : BreqOut} (out : s.breqOut port btag = some o) :
    ((timedOut port btag o s).breqOut port btag).map (·.dead) = some true := by
  have found : (timedOut port btag o s).breqOut port btag = some { o with dead := true } := by
    rw [State.breqOut, timedOut, (onlyChanges_raise _ _ _).port (by decide), port_modPort_same,
      (onlyChanges_lapse _ _ s).port (by decide)]
    exact (find?_mapIf (f := fun x : BreqOut => { x with dead := true }) (fun _ => rfl) _).trans (congrArg (Option.map _) out)
  rw [found]
  rfl

theorem runs_breqTimeout {port : PortId} {btag : BitVec 12} {s : State} {o : BreqOut} (hl : s.platLive = true)
    (out : s.breqOut port btag = some o) (live : o.dead = false) :
    Runs (.breqTimeout port btag) s fun t => t = settle (breqAfter (breqDone port o.req .timeout (timedOut port btag o s))) := by
  refine runs_of_whenPlat rfl hl ?_
  simp only [out, live, Bool.false_eq_true, if_false]
  rfl

theorem runs_breqTimeout_silent {port : PortId} {btag : BitVec 12} {s : State} {o : BreqOut} (hl : s.platLive = true) (hq : Quiet s)
    (out : s.breqOut port btag = some o) (live : o.dead = false) (silent : o.req.purpose = .posted ∨ o.req.purpose = .t6Data) :
    Runs (.breqTimeout port btag) s fun t => t = settle (timedOut port btag o s) := by
  obtain ⟨t, e, rfl⟩ := runs_breqTimeout hl out live
  refine ⟨_, e, ?_⟩
  rw [breqDone_silent silent, breqAfter_of_quiet ((onlyChanges_timedOut port btag o s).quiet (by decide) (by decide) hq)]

theorem runs_btagRelease {port : PortId} {btag : BitVec 12} {s : State} {o : BreqOut} (hl : s.platLive = true)
    (out : s.breqOut port btag = some o) (dead : o.dead = true) :
    Runs (.btagRelease port btag) s fun t => t = settle (freeBreq port btag (s.lapse o.since (2 * s.breqNs))) := by
  refine runs_of_whenPlat rfl hl ?_
  simp only [out, dead, if_true]

/-- Settles O24: a block request leaves under a free BTAG, which its response frees, or its release after a timeout. -/
theorem blockRequests : Obligations.BlockRequests := by
  refine ⟨fun _ _ _ _ hl hs present queue room may drive => runs_blockRequestIssue hl hs present queue room may drive,
    fun _ _ _ _ hl hs queue held => runs_blockRequestIssue_waits hl hs queue held,
    fun port info beats p s o hl present out live => ?_, fun port info beats p s o hl hs hq present out silent => ?_,
    fun _ _ beats p _ hl hs present out => runs_blockResponse_unknown beats p hl hs present out,
    fun port btag s o hl out live => ?_, fun port btag s o hl hs hq out live silent => ?_, fun port btag s o hl hs out dead => ?_⟩
  · obtain ⟨t, run, e⟩ := runs_blockResponse beats p hl present out live
    refine ⟨t, run, _, e, fun failed => respEnd_failed failed _ _ _, fun ok write => ?_, fun ok read enough => ?_⟩
    · rw [ok]; exact respEnd_write write _ _
    · rw [ok]; exact respEnd_read read enough _
  · obtain ⟨t, run, rfl⟩ := runs_blockResponse_silent beats p hl hq present out silent
    exact ⟨_, run, breqOut_freeBreq_same _ _ _, fun b ne => breqOut_freeBreq_other _ ne _,
      (onlyChanges_settle_of (onlyChanges_freeBreq _ _ s) hs (by decide)).mono (by decide)⟩
  · obtain ⟨t, run, e⟩ := runs_breqTimeout hl out live
    exact ⟨t, run, _, e, breqOut_timedOut out, raised_timedOut _ _ _ _, fun h => le_now_timedOut h _ _ _, onlyChanges_timedOut _ _ _ _,
      regsBut_timedOut _ _ _ _⟩
  · obtain ⟨t, run, rfl⟩ := runs_breqTimeout_silent hl hq out live silent
    refine ⟨_, run, ?_, raised_settle.mpr (raised_timedOut _ _ _ _),
      (onlyChanges_settle_of (onlyChanges_timedOut _ _ _ _) hs (by decide)).mono (by decide), (regsBut_timedOut _ _ _ _).settle⟩
    rw [breqOut_settle]
    exact breqOut_timedOut out
  · obtain ⟨t, run, rfl⟩ := runs_btagRelease hl out dead
    have lapse := onlyChanges_lapse o.since (2 * s.breqNs) s
    have freed := lapse.trans (onlyChanges_freeBreq port btag _)
    refine ⟨_, run, breqOut_freeBreq_same _ _ _, fun b ne => ?_, fun h => ?_, (onlyChanges_settle_of freed hs (by decide)).mono (by decide)⟩
    · rw [breqOut_settle, breqOut_freeBreq_other _ ne, State.breqOut, lapse.port (by decide)]
      rfl
    · exact le_now_lapse h o.since (2 * s.breqNs)

end Sys2Proof.Machine
end

section
/-!
SUPPORT. Headers and flits: a field is read from a word as it was joined into it, and a word is its fields joined (R81, R136, R137, R145,
R152, R165, R244, R324).
-/
namespace Sys2Proof.Machine

/-! ## Fields of a joined word -/

theorem bits_append_high {v w : Nat} (x : BitVec v) (y : BitVec w) {lo n : Nat} (h : w ≤ lo) :
    bits (x ++ y) lo n = bits x (lo - w) n := by
  unfold bits
  exact BitVec.extractLsb'_append_eq_of_le h

theorem bits_append_low {v w : Nat} (x : BitVec v) (y : BitVec w) {lo n : Nat} (h : lo + n ≤ w) :
    bits (x ++ y) lo n = bits y lo n := by
  unfold bits
  exact BitVec.extractLsb'_append_eq_of_add_le h

theorem bits_self {w : Nat} (x : BitVec w) : bits x 0 w = x := BitVec.extractLsb'_eq_self

theorem bits_append_bits {w : Nat} (x : BitVec w) {lo n m k : Nat} (h : k = lo + m) :
    bits x k n ++ bits x lo m = bits x lo (n + m) := by
  unfold bits
  rw [BitVec.extractLsb'_append_extractLsb'_eq_extractLsb' h]

/-! ## Headers -/

theorem tHdr_ofBits_toBits (h : THdr) : THdr.ofBits h.toBits = h := by
  simp (disch := omega) only [THdr.ofBits, THdr.toBits, bits_append_low, bits_append_high, bits_self, Nat.reduceSub]

theorem tHdr_toBits_ofBits (w : BitVec 256) : (THdr.ofBits w).toBits = w := by
  simp (disch := omega) only [THdr.ofBits, THdr.toBits, bits_append_bits]
  exact bits_self w

theorem mHdr_ofBits_toBits (h : MHdr) : MHdr.ofBits h.toBits = h := by
  simp (disch := omega) only [MHdr.ofBits, MHdr.toBits, bits_append_low, bits_append_high, bits_self, Nat.reduceSub]

theorem mHdr_toBits_ofBits (w : BitVec 128) : (MHdr.ofBits w).toBits = w := by
  simp (disch := omega) only [MHdr.ofBits, MHdr.toBits, bits_append_bits]
  exact bits_self w

theorem jHdr_ofBits_toBits (h : JHdr) : JHdr.ofBits h.toBits = h := by
  simp (disch := omega) only [JHdr.ofBits, JHdr.toBits, bits_append_low, bits_append_high, bits_self, Nat.reduceSub]

theorem jHdr_toBits_ofBits (w : BitVec 256) : (JHdr.ofBits w).toBits = w := by
  simp (disch := omega) only [JHdr.ofBits, JHdr.toBits, bits_append_bits]
  exact bits_self w

theorem dHdr_ofBits_toBits (h : DHdr) : DHdr.ofBits h.toBits = h := by
  simp (disch := omega) only [DHdr.ofBits, DHdr.toBits, bits_append_low, bits_append_high, bits_self, Nat.reduceSub]

theorem dHdr_toBits_ofBits (w : BitVec 64) : (DHdr.ofBits w).toBits = w := by
  simp (disch := omega) only [DHdr.ofBits, DHdr.toBits, bits_append_bits]
  exact bits_self w

theorem t6Hdr_ofBits_toBits (h : T6Hdr) : T6Hdr.ofBits h.toBits = h := by
  simp (disch := omega) only [T6Hdr.ofBits, T6Hdr.toBits, bits_append_low, bits_append_high, bits_self, Nat.reduceSub]

theorem t6Hdr_toBits_ofBits (w : BitVec 64) : (T6Hdr.ofBits w).toBits = w := by
  simp (disch := omega) only [T6Hdr.ofBits, T6Hdr.toBits, bits_append_bits]
  exact bits_self w

theorem seamCtl_ofBits_toBits (h : SeamCtl) : SeamCtl.ofBits h.toBits = h := by
  simp (disch := omega) only [SeamCtl.ofBits, SeamCtl.toBits, bits_append_low, bits_append_high, bits_self, Nat.reduceSub]

/-! ## Link control flits -/

theorem toNat_bits {w : Nat} (x : BitVec w) (lo n : Nat) : (bits x lo n).toNat = x.toNat / 2 ^ lo % 2 ^ n := by
  simp [bits, Nat.shiftRight_eq_div_pow]

/-- What the payload of a link control flit holds above the missing flits: the six counts and RETRAIN (R145). -/
def LinkCtl.above (c : LinkCtl) : Nat :=
  c.counts[0].toNat + 2 ^ 16 * (c.counts[1].toNat + 2 ^ 16 * (c.counts[2].toNat + 2 ^ 16 * (c.counts[3].toNat +
    2 ^ 16 * (c.counts[4].toNat + 2 ^ 16 * (c.counts[5].toNat + 2 ^ 16 * b2n c.retrain)))))

theorem linkCtl_above_lt (c : LinkCtl) : c.above < 2 ^ 97 := by
  have hr : b2n c.retrain ≤ 1 := by cases c.retrain <;> decide
  have h := fun i : Fin 6 => c.counts[i].isLt
  have h0 := h 0; have h1 := h 1; have h2 := h 2; have h3 := h 3; have h4 := h 4; have h5 := h 5
  simp only [LinkCtl.above, Fin.getElem_fin, Fin.val_zero, Fin.val_one] at *
  norm_num at *
  omega

/-- A number of `i` bits and one of `j` bits above it fit in a word of `k` bits. -/
theorem toNat_ofNat_add_two_pow_mul {m a i j k : Nat} (hm : m < 2 ^ i) (ha : a < 2 ^ j) (h : i + j ≤ k) :
    (BitVec.ofNat k (m + 2 ^ i * a)).toNat = m + 2 ^ i * a := by
  rw [BitVec.toNat_ofNat, Nat.mod_eq_of_lt]
  calc
    m + 2 ^ i * a < 2 ^ i + 2 ^ i * a := Nat.add_lt_add_right hm _
    _ = 2 ^ i * (a + 1) := by rw [Nat.mul_add, Nat.add_comm, Nat.mul_one]
    _ ≤ 2 ^ i * 2 ^ j := Nat.mul_le_mul_left _ ha
    _ = 2 ^ (i + j) := (Nat.pow_add ..).symm
    _ ≤ 2 ^ k := Nat.pow_le_pow_right (by decide) h

theorem foldl_counts (c : LinkCtl) (weight : Nat → Nat) (n : Nat) :
    (List.range 6).foldl (fun acc i => acc + (c.counts[i]!).toNat * weight i) n =
      n + c.counts[0].toNat * weight 0 + c.counts[1].toNat * weight 1 + c.counts[2].toNat * weight 2 +
        c.counts[3].toNat * weight 3 + c.counts[4].toNat * weight 4 + c.counts[5].toNat * weight 5 := by
  simp [List.range_succ]

theorem toNat_linkCtl_toBits (c : LinkCtl) : c.toBits.toNat = c.missing.toNat + 2 ^ 256 * c.above := by
  refine (congrArg (fun n => (BitVec.ofNat 1920 n).toNat) ?_).trans
    (toNat_ofNat_add_two_pow_mul c.missing.isLt (linkCtl_above_lt c) (by decide))
  refine (congrArg (· + b2n c.retrain * 2 ^ 352) (foldl_counts c (fun i => 2 ^ (256 + 16 * i)) _)).trans ?_
  simp only [show 352 = 256 + 16 * 6 from rfl, Nat.pow_add, Nat.pow_mul, LinkCtl.above]
  generalize 2 ^ 256 = p
  generalize 2 ^ 16 = q
  ring

theorem toNat_bits_linkCtl_above (c : LinkCtl) (lo n : Nat) : (bits c.toBits (256 + lo) n).toNat = c.above / 2 ^ lo % 2 ^ n := by
  rw [toNat_bits, toNat_linkCtl_toBits, Nat.pow_add, ← Nat.div_div_eq_div_mul, Nat.add_mul_div_left _ _ (Nat.two_pow_pos 256),
    Nat.div_eq_of_lt c.missing.isLt, Nat.zero_add]

theorem linkCtl_ofBits_toBits (c : LinkCtl) : LinkCtl.ofBits c.toBits = c := by
  have missing : bits c.toBits 0 256 = c.missing := by
    apply BitVec.eq_of_toNat_eq
    rw [toNat_bits, toNat_linkCtl_toBits, Nat.pow_zero, Nat.div_one, Nat.add_mul_mod_self_left, Nat.mod_eq_of_lt c.missing.isLt]
  have hr : b2n c.retrain ≤ 1 := by cases c.retrain <;> decide
  have h := fun i : Fin 6 => c.counts[i].isLt
  have h0 := h 0; have h1 := h 1; have h2 := h 2; have h3 := h 3; have h4 := h 4; have h5 := h 5
  simp only [Fin.getElem_fin] at h0 h1 h2 h3 h4 h5
  have counts : (Vector.ofFn fun i : Fin 6 => bits c.toBits (256 + 16 * i.val) 12) = c.counts := by
    ext i hi : 1
    rw [Vector.getElem_ofFn]
    apply BitVec.eq_of_toNat_eq
    rw [toNat_bits_linkCtl_above, LinkCtl.above]
    rcases i with _ | _ | _ | _ | _ | _ | i
    all_goals simp at *
    all_goals omega
  have retrain : bit c.toBits 352 = c.retrain := by
    have one : (bits c.toBits (256 + 96) 1).toNat = b2n c.retrain := by
      rw [toNat_bits_linkCtl_above, LinkCtl.above]
      norm_num at *
      omega
    have value : bits c.toBits (256 + 96) 1 = BitVec.ofBool c.retrain := by
      apply BitVec.eq_of_toNat_eq
      rw [one]
      cases c.retrain <;> rfl
    have := congrArg (fun x : BitVec 1 => x.getLsbD 0) value
    simpa [bits, bit] using this
  rw [LinkCtl.ofBits, missing, counts, retrain]

/-! ## Flits -/

/-- A sealed flit carries its header and its payload, and its trailer matches (R137). -/
theorem sealFlit_parts (hdr : BitVec 64) (p : BitVec 1920) :
    crcOk (sealFlit hdr p) = true ∧ bits (sealFlit hdr p) 0 64 = hdr ∧ payloadOf (sealFlit hdr p) = p := by
  let body : BitVec 1984 := p ++ hdr
  have low {lo n : Nat} (h : lo + n ≤ 1984) : bits (sealFlit hdr p) lo n = bits body lo n :=
    bits_append_low (crc64 (bvBytes body)) body h
  have trailer : bits (sealFlit hdr p) 1984 64 = crc64 (bvBytes body) :=
    (bits_append_high (crc64 (bvBytes body)) body (Nat.le_refl 1984)).trans (bits_self _)
  refine ⟨?_, ?_, ?_⟩
  · rw [crcOk, low (by decide), bits_self, trailer, decide_eq_true_eq]
  · rw [low (by decide)]
    exact (bits_append_low p hdr (by decide)).trans (bits_self _)
  · rw [payloadOf, low (by decide)]
    exact (bits_append_high p hdr (by decide)).trans (bits_self _)

theorem flatten_chunks240 {n : Nat} {bs : List Byte} (h : bs.length ≤ 240 * n) : (chunks240 n bs).flatten = bs := by
  induction n generalizing bs with
  | zero => simpa [chunks240] using List.eq_nil_of_length_eq_zero (by omega)
  | succ n ih =>
    have rest := ih (bs := bs.drop 240) (by simp; omega)
    simp [chunks240, rest]

theorem length_le_of_mem_chunks240 {n : Nat} {bs c : List Byte} (h : c ∈ chunks240 n bs) : c.length ≤ 240 := by
  induction n generalizing bs with
  | zero => simp [chunks240] at h
  | succ n ih =>
    rcases List.mem_cons.mp h with rfl | h
    · simp
    · exact ih h

/-- The data of a packet's flits, in order, are its bytes in runs of 240 (R136). -/
theorem map_data_pktFlits (t : Nat) (bs : List Byte) : (pktFlits t bs).map (·.data) = chunks240 (flitsOf bs.length) bs := by
  apply List.ext_getElem
  · simp [pktFlits]
  · intro i _ _
    simp [pktFlits]

/-- Settles O60: a word is its fields side by side, and a packet is its runs of 240 bytes one after another. -/
theorem headersRoundTrip : Obligations.HeadersRoundTrip := by
  refine ⟨tHdr_ofBits_toBits, tHdr_toBits_ofBits, mHdr_ofBits_toBits, mHdr_toBits_ofBits, jHdr_ofBits_toBits, jHdr_toBits_ofBits,
    dHdr_ofBits_toBits, dHdr_toBits_ofBits, t6Hdr_ofBits_toBits, t6Hdr_toBits_ofBits, seamCtl_ofBits_toBits, linkCtl_ofBits_toBits,
    sealFlit_parts, fun track bytes => ⟨?_, length_pktFlits track bytes, fun f hf => ?_⟩⟩
  · rw [List.flatMap_def, map_data_pktFlits]
    exact flatten_chunks240 (by unfold flitsOf; omega)
  · exact length_le_of_mem_chunks240 (map_data_pktFlits track bytes ▸ List.mem_map_of_mem hf)

end Sys2Proof.Machine
end

section
/-!
SUPPORT. The seam's shared operations: what each leaves, what an exchange of control flits touches, and which causes and registers an
operation keeps (R15, R80 to R87).
-/
namespace Sys2Proof.Machine

/-! ## Running a meaning

The equation of the guard is asked for every state, so that the meaning that it names is a function of the state alone. -/

theorem runs_functional {c : Instr} {s u : State} {k : State → State} {P : State → Prop} (e : ∀ s, exec c s = whenFunctional s k)
    (hf : s.functional = true) (h : k s = u) (p : P (settle u)) : Runs c s P :=
  runs_of_whenFunctional (e s) hf (by rwa [h])

theorem runs_up {c : Instr} {s u : State} {k : State → State} {P : State → Prop} (e : ∀ s, exec c s = whenUp s k)
    (hup : s.up = true) (h : k s = u) (p : P (settle u)) : Runs c s P :=
  runs_of_whenUp (e s) hup (by rwa [h])

theorem runs_lane {c : Instr} {n : LaneNo} {s u : State} {k : State → State} {P : State → Prop}
    (e : ∀ s, exec c s = whenLane n s k) (ok : n.toNat < 72) (hf : s.functional = true) (h : k s = u) (p : P (settle u)) :
    Runs c s P :=
  runs_of_whenFunctional ((e s).trans (whenLane_ok s k ok)) hf (by rwa [h])

theorem runs_plat {c : Instr} {s u : State} {k : State → State} {P : State → Prop} (e : ∀ s, exec c s = whenPlat s k)
    (hl : s.platLive = true) (h : k s = u) (p : P (settle u)) : Runs c s P :=
  runs_of_whenPlat (e s) hl (by rwa [h])

/-! ## One field of the state changed -/

theorem onlyChanges_modSeam (f : Seam → Seam) (s : State) : OnlyChanges [.seam] s (modSeam f s) := by
  intro p hp
  cases p <;> simp_all [Part.same]

theorem onlyChanges_modTlr (f : Tlr → Tlr) (s : State) : OnlyChanges [.tlr] s (modTlr f s) := by
  intro p hp
  cases p <;> simp_all [Part.same]

theorem onlyChanges_modPcm (f : Pcm → Pcm) (s : State) : OnlyChanges [.pcm] s (modPcm f s) := by
  intro p hp
  cases p <;> simp_all [Part.same]

theorem onlyChanges_sendSlp (type : Byte) (ws : List Word) (s : State) : OnlyChanges [.slp] s (sendSlp type ws s) := by
  intro p hp
  cases p <;> simp_all [Part.same]

theorem onlyChanges_draw (s : State) : OnlyChanges [.free] s s.draw := by
  intro p hp
  cases p <;> simp_all [Part.same, State.draw]

theorem onlyChanges_modSlv (d : Dir) (k : SleeveNo) (f : Slv → Slv) (s : State) : OnlyChanges [.seam] s (modSlv d k f s) := by
  cases d <;> exact onlyChanges_modSeam _ s

theorem onlyChanges_raiseAs (c : Cause) (cls cost : Byte) (d : BitVec 80) (s : State) :
    OnlyChanges [.regs, .flt] s (raiseAs c cls cost d s) := by
  intro p hp
  cases p <;> simp_all [Part.same]

theorem onlyChanges_raiseLane (c : Cause) (d : Dir) (k : SleeveNo) (j : Nat) (s : State) :
    OnlyChanges [.regs, .flt] s (raiseLane c d k j s) := onlyChanges_raise _ _ s

theorem onlyChanges_raiseSeam (c : Cause) (s : State) : OnlyChanges [.regs, .flt] s (raiseSeam c s) := onlyChanges_raise _ _ s

theorem onlyChanges_askRebuild (s : State) : OnlyChanges [.tlr] s (askRebuild s) := by
  unfold askRebuild
  split
  · exact (OnlyChanges.refl s).mono (by decide)
  · exact onlyChanges_modTlr _ s

/-- What is left of a state by an operation that has a choice. -/
theorem OnlyChanges.ite {ps : List Part} {s t u : State} {c : Prop} [Decidable c] (ht : c → OnlyChanges ps s t)
    (hu : ¬c → OnlyChanges ps s u) : OnlyChanges ps s (if c then t else u) := by
  split
  next h => exact ht h
  next h => exact hu h

/-! ## One sleeve changed -/

theorem slv_modSlv_same (d : Dir) (k : SleeveNo) (f : Slv → Slv) (s : State) : (modSlv d k f s).slv d k = f (s.slv d k) := by
  cases d <;> exact vmod_same _ _ _ _

theorem slv_modSlv_other {d e : Dir} {k j : SleeveNo} (ne : ¬(d = e ∧ k = j)) (f : Slv → Slv) (s : State) :
    (modSlv d k f s).slv e j = s.slv e j := by
  have apart : d = e → k.toNat ≠ j.toNat := fun hd hk => ne ⟨hd, BitVec.eq_of_toNat_eq hk⟩
  cases d <;> cases e
  · exact vmod_other _ _ _ _ _ (apart rfl)
  · rfl
  · rfl
  · exact vmod_other _ _ _ _ _ (apart rfl)

theorem OnlyChanges.slv {ps : List Part} {s t : State} (h : OnlyChanges ps s t) (seam : .seam ∉ ps) (d : Dir) (k : SleeveNo) :
    t.slv d k = s.slv d k := by
  have e : t.seam = s.seam := h .seam seam
  cases d <;> simp only [State.slv, e]

@[simp] theorem slv_settle (s : State) (d : Dir) (k : SleeveNo) : (settle s).slv d k = s.slv d k := by cases d <;> rfl

/-! ## The block's own exchange

Asking for an exchange, beginning the next, and ending one touch the exchange outstanding, those that wait, the XID and the control
flits that wait for a slot, and of these last they only add to the end (R80, R82). -/

/-- Nothing but the block's exchanges has changed, and control flits have only been added to those that wait. -/
def ExOnly (s t : State) : Prop := ∃ mine want out xid, t = modSeam (fun m => { m with
  mine := mine, want := want, ctlOut := m.ctlOut ++ out, nextXid := xid }) s

theorem ExOnly.refl (s : State) : ExOnly s s := ⟨s.seam.mine, s.seam.want, [], s.seam.nextXid, by simp [modSeam]⟩

theorem ExOnly.trans {s t u : State} (h : ExOnly s t) (k : ExOnly t u) : ExOnly s u := by
  obtain ⟨_, _, out, _, rfl⟩ := h
  obtain ⟨mine, want, out', xid, rfl⟩ := k
  exact ⟨mine, want, out ++ out', xid, by simp [modSeam]⟩

theorem ExOnly.onlyChanges {s t : State} (h : ExOnly s t) : OnlyChanges [.seam] s t := by
  obtain ⟨_, _, _, _, rfl⟩ := h
  exact onlyChanges_modSeam _ s

theorem ExOnly.slv {s t : State} (h : ExOnly s t) (d : Dir) (k : SleeveNo) : t.slv d k = s.slv d k := by
  obtain ⟨_, _, _, _, rfl⟩ := h
  cases d <;> rfl

theorem ExOnly.ctlOut {s t : State} (h : ExOnly s t) : ∃ more, t.seam.ctlOut = s.seam.ctlOut ++ more := by
  obtain ⟨_, _, out, _, rfl⟩ := h
  exact ⟨out, rfl⟩

theorem exOnly_queueCtl (p : BitVec 1920) (s : State) : ExOnly s (queueCtl p s) := ⟨s.seam.mine, s.seam.want, [p], s.seam.nextXid, rfl⟩

theorem exOnly_mine (f : Seam → Option Exch) (s : State) : ExOnly s (modSeam (fun m => { m with mine := f m }) s) :=
  ⟨f s.seam, s.seam.want, [], s.seam.nextXid, by simp [modSeam]⟩

theorem exOnly_want (f : Seam → List ExKind) (s : State) : ExOnly s (modSeam (fun m => { m with want := f m }) s) :=
  ⟨s.seam.mine, f s.seam, [], s.seam.nextXid, by simp [modSeam]⟩

theorem exOnly_nextEx (s : State) : ExOnly s (nextEx s) := by
  unfold nextEx
  split
  · exact ExOnly.refl s
  · split
    · exact ⟨_, _, _, _, rfl⟩
    · exact exOnly_want _ s

theorem exOnly_wantEx (k : ExKind) (s : State) : ExOnly s (wantEx k s) := by
  dsimp only [wantEx]
  split
  · exact ExOnly.refl s
  · exact (exOnly_want _ s).trans (exOnly_nextEx _)

theorem exOnly_endEx (s : State) : ExOnly s (endEx s) := (exOnly_mine _ s).trans (exOnly_nextEx _)

theorem exOnly_dropWants (k : SleeveNo) (s : State) : ExOnly s (dropWants k s) := exOnly_want _ s

theorem exOnly_wantRetire (k : SleeveNo) (s : State) : ExOnly s (wantRetire k s) := by
  unfold wantRetire
  split
  · exact (exOnly_dropWants k s).trans (exOnly_wantEx _ _)
  · exact ExOnly.refl s

/-- With no exchange waiting, none begins. -/
theorem mine_nextEx_of_want_nil {s : State} (mine : s.seam.mine = none) (want : s.seam.want = []) : (nextEx s).seam.mine = none := by
  unfold nextEx
  split
  · exact mine
  · rw [want]
    exact mine

theorem mine_endEx_of_want_nil {s : State} (want : s.seam.want = []) : (endEx s).seam.mine = none :=
  mine_nextEx_of_want_nil rfl want

/-! ## Causes and registers that an operation keeps -/

/-- The event registers and the counters of the causes. -/
def causeRegs : List Nat := causes.flatMap Cause.regs

theorem mem_causeRegs {c : Cause} (hc : c ∈ causes) : c.regs ⊆ causeRegs := fun _ ha => List.mem_flatMap.mpr ⟨c, hc, ha⟩

/-- Flags that are set stay set, and no register changes but those listed and those of causes. -/
def Notes (as : List Nat) (s t : State) : Prop := (∀ c ∈ causes, Raised c s → Raised c t) ∧ RegsBut (causeRegs ++ as) s t

theorem Notes.trans {as bs : List Nat} {s t u : State} (h : Notes as s t) (k : Notes bs t u) : Notes (as ++ bs) s u := by
  refine ⟨fun c hc r => k.1 c hc (h.1 c hc r), fun a ha => ?_⟩
  simp only [List.mem_append, not_or] at ha
  exact (k.2 a (by simp [ha])).trans (h.2 a (by simp [ha]))

theorem Notes.mono {as bs : List Nat} {s t : State} (h : Notes as s t) (sub : as ⊆ bs) : Notes bs s t :=
  ⟨h.1, fun a ha => h.2 a fun m => ha (List.append_subset.mpr
    ⟨List.subset_append_left _ _, fun _ x => List.mem_append_right _ (sub x)⟩ m)⟩

theorem OnlyChanges.notes {ps : List Part} {s t : State} (h : OnlyChanges ps s t) (regs : .regs ∉ ps) (par : .par ∉ ps) :
    Notes [] s t := by
  have same : ∀ a, t.reg a = s.reg a := reg_congr (h .par par) (h .regs regs)
  exact ⟨fun c _ r => by rwa [Raised, same], fun a _ => same a⟩

theorem Notes.refl (s : State) : Notes [] s s := (OnlyChanges.refl s).notes (by decide) (by decide)

theorem notes_setCause {c : Cause} (hc : c ∈ causes) (s : State) : Notes [] s (setCause c s) := by
  refine ⟨fun d hd r => raised_setCause r hd hc, fun a ha => ?_⟩
  rw [List.append_nil] at ha
  exact reg_setCause_other c s a (fun e => ha (mem_causeRegs hc (by simp [Cause.regs, e])))
    (fun e => ha (mem_causeRegs hc (by simp [Cause.regs, e])))

theorem notes_raiseAs {c : Cause} (hc : c ∈ causes) (cls cost : Byte) (d : BitVec 80) (s : State) :
    Notes [] s (raiseAs c cls cost d s) := by
  obtain ⟨flags, regs⟩ := notes_setCause hc s
  exact ⟨fun e he r => by rw [Raised, reg_raiseAs]; exact flags e he r, fun a ha => by rw [reg_raiseAs]; exact regs a ha⟩

theorem notes_raise {c : Cause} (hc : c ∈ causes) (d : BitVec 80) (s : State) : Notes [] s (raise c d s) := notes_raiseAs hc _ _ d s

/-- A register that is none of a cause's written. -/
theorem notes_setReg {a : Nat} (plain : a ∉ causeRegs) (v : Word) (s : State) : Notes [a] s (s.setReg a v) := by
  refine ⟨fun c hc r => ?_, fun b hb => reg_setReg_other s a b v ?_⟩
  · rwa [Raised, reg_setReg_other s a c.evt v fun e => plain (e ▸ mem_causeRegs hc (by simp [Cause.regs]))]
  · rintro rfl
    simp at hb

theorem notes_setFld {f : Field} (plain : f.reg ∉ causeRegs) (v : Nat) (s : State) : Notes [f.reg] s (s.setFld f v) :=
  notes_setReg plain _ s

/-- A field of a register that an operation does not write keeps its value. -/
theorem Notes.fld {as : List Nat} {s t : State} (h : Notes as s t) {f : Field} (plain : f.reg ∉ causeRegs) (other : f.reg ∉ as) :
    t.fld f = s.fld f := by
  simp only [State.fld, h.2 f.reg (by simp [plain, other])]

theorem Notes.flag {as : List Nat} {s t : State} (h : Notes as s t) {f : Field} (plain : f.reg ∉ causeRegs) (other : f.reg ∉ as) :
    t.flag f = s.flag f := by
  simp only [State.flag, h.2 f.reg (by simp [plain, other])]

theorem seam_ctrl_plain : R.SEAM_CTRL ∉ causeRegs := by decide +kernel

theorem seam_width_ctrl_plain : R.SEAM_WIDTH_CTRL ∉ causeRegs := by decide +kernel

theorem pcm_ctrl_plain : R.PCM_CTRL ∉ causeRegs := by decide +kernel

end Sys2Proof.Machine
end

section
/-!
SUPPORT. What an operation leaves: of the seam field by field, and of the state as a whole (R15, R80 to R96).
-/
namespace Sys2Proof.Machine

/-! ## The fields of the seam -/

/-- The fields of the seam, for frames. -/
inductive SeamPart where
  | up | dn | retired | usable | powered | upSlot | dnSlot | counting | skew | nextXid | mine | want | answered | ctlOut | ctlSeen | line
  | subst | retireAt | lastRetired | width | queued | abandoned | refused | crcWin | lowEye | test | switchFrom
deriving DecidableEq

/-- A field of one seam is the same in another. -/
def SeamPart.same (p : SeamPart) (m n : Seam) : Prop :=
  match p with
  | .up => n.up = m.up
  | .dn => n.dn = m.dn
  | .retired => n.retired = m.retired
  | .usable => n.usable = m.usable
  | .powered => n.powered = m.powered
  | .upSlot => n.upSlot = m.upSlot
  | .dnSlot => n.dnSlot = m.dnSlot
  | .counting => n.counting = m.counting
  | .skew => n.skew = m.skew
  | .nextXid => n.nextXid = m.nextXid
  | .mine => n.mine = m.mine
  | .want => n.want = m.want
  | .answered => n.answered = m.answered
  | .ctlOut => n.ctlOut = m.ctlOut
  | .ctlSeen => n.ctlSeen = m.ctlSeen
  | .line => n.line = m.line
  | .subst => n.subst = m.subst
  | .retireAt => n.retireAt = m.retireAt
  | .lastRetired => n.lastRetired = m.lastRetired
  | .width => n.width = m.width
  | .queued => n.queued = m.queued
  | .abandoned => n.abandoned = m.abandoned
  | .refused => n.refused = m.refused
  | .crcWin => n.crcWin = m.crcWin
  | .lowEye => n.lowEye = m.lowEye
  | .test => n.test = m.test
  | .switchFrom => n.switchFrom = m.switchFrom

theorem SeamPart.same_rfl (p : SeamPart) (m : Seam) : p.same m m := by cases p <;> rfl

theorem SeamPart.same_trans (p : SeamPart) {l m n : Seam} (h : p.same l m) (k : p.same m n) : p.same l n := by
  cases p <;> exact Eq.trans k h

/-- Nothing of the seam changes but the fields listed. -/
def OnlySeam (qs : List SeamPart) (s t : State) : Prop := ∀ p : SeamPart, p ∉ qs → p.same s.seam t.seam

theorem OnlySeam.trans {ps qs : List SeamPart} {s t u : State} (h : OnlySeam ps s t) (k : OnlySeam qs t u) :
    OnlySeam (ps ++ qs) s u := by
  intro p hp
  rw [List.mem_append, not_or] at hp
  exact p.same_trans (h p hp.1) (k p hp.2)

theorem OnlySeam.mono {ps qs : List SeamPart} {s t : State} (h : OnlySeam qs s t) (sub : qs ⊆ ps) : OnlySeam ps s t :=
  fun p hp => h p fun hq => hp (sub hq)

theorem OnlyChanges.onlySeam {ps : List Part} {s t : State} (h : OnlyChanges ps s t) (seam : .seam ∉ ps) : OnlySeam [] s t := by
  intro p _
  have e : t.seam = s.seam := h .seam seam
  rw [e]
  exact p.same_rfl _

theorem ExOnly.onlySeam {s t : State} (h : ExOnly s t) : OnlySeam [.mine, .want, .ctlOut, .nextXid] s t := by
  obtain ⟨_, _, _, _, rfl⟩ := h
  intro p hp
  cases p <;> simp_all [SeamPart.same]

theorem onlySeam_modSlv (d : Dir) (k : SleeveNo) (f : Slv → Slv) (s : State) : OnlySeam [.up, .dn] s (modSlv d k f s) := by
  intro p hp
  cases d <;> cases p <;> simp_all [SeamPart.same, modSlv]

/-! ## The state as a whole -/

/-- An operation changes only the parts listed, of the seam only the fields listed, and of the registers only those listed and those of
causes, whose flags it only sets. -/
structure Keeps (as : List Nat) (ps : List Part) (qs : List SeamPart) (s t : State) : Prop where
  notes : Notes as s t
  frame : OnlyChanges ps s t
  seam : OnlySeam qs s t

section
variable {as bs : List Nat} {ps ps' : List Part} {qs qs' : List SeamPart} {s t u : State}

theorem Keeps.refl (s : State) : Keeps [] [] [] s s :=
  ⟨Notes.refl s, OnlyChanges.refl s, (OnlyChanges.refl s).onlySeam (ps := []) (by decide)⟩

theorem Keeps.trans (h : Keeps as ps qs s t) (k : Keeps bs ps' qs' t u) : Keeps (as ++ bs) (ps ++ ps') (qs ++ qs') s u :=
  ⟨h.notes.trans k.notes, h.frame.trans k.frame, h.seam.trans k.seam⟩

theorem Keeps.mono (h : Keeps as ps qs s t) (ha : as ⊆ bs) (hp : ps ⊆ ps') (hq : qs ⊆ qs') : Keeps bs ps' qs' s t :=
  ⟨h.notes.mono ha, h.frame.mono hp, h.seam.mono hq⟩

/-- One change after another, of the same kind. -/
theorem Keeps.step (h : Keeps as ps qs s t) (k : Keeps as ps qs t u) : Keeps as ps qs s u :=
  (h.trans k).mono (by simp) (by simp) (by simp)

theorem Keeps.self (as : List Nat) (ps : List Part) (qs : List SeamPart) (s : State) : Keeps as ps qs s s :=
  (Keeps.refl s).mono (by simp) (by simp) (by simp)

theorem Keeps.ite {c : Prop} [Decidable c] (ht : c → Keeps as ps qs s t) (hu : ¬c → Keeps as ps qs s u) :
    Keeps as ps qs s (if c then t else u) := by
  split
  next h => exact ht h
  next h => exact hu h

theorem keeps_foldl {α : Type} {f : State → α → State} (h : ∀ s x, Keeps as ps qs s (f s x)) (l : List α) (s : State) :
    Keeps as ps qs s (l.foldl f s) := by
  induction l generalizing s with
  | nil => exact Keeps.self as ps qs s
  | cons x xs ih => exact (h s x).step (ih (f s x))

/-- An operation that writes neither a register nor the seam. -/
theorem OnlyChanges.keeps (h : OnlyChanges ps s t) (regs : .regs ∉ ps) (par : .par ∉ ps) (seam : .seam ∉ ps) : Keeps [] ps [] s t :=
  ⟨h.notes regs par, h, h.onlySeam seam⟩

/-- An operation on the seam alone. -/
theorem OnlySeam.keeps (h : OnlySeam qs s t) (frame : OnlyChanges [.seam] s t) : Keeps [] [.seam] qs s t :=
  ⟨frame.notes (by decide) (by decide), frame, h⟩

theorem ExOnly.keeps (h : ExOnly s t) : Keeps [] [.seam] [.mine, .want, .ctlOut, .nextXid] s t := h.onlySeam.keeps h.onlyChanges

end

theorem keeps_modSlv (d : Dir) (k : SleeveNo) (f : Slv → Slv) (s : State) : Keeps [] [.seam] [.up, .dn] s (modSlv d k f s) :=
  (onlySeam_modSlv d k f s).keeps (onlyChanges_modSlv d k f s)

theorem keeps_raiseAs {c : Cause} (hc : c ∈ causes) (cls cost : Byte) (d : BitVec 80) (s : State) :
    Keeps [] [.regs, .flt] [] s (raiseAs c cls cost d s) :=
  ⟨notes_raiseAs hc cls cost d s, onlyChanges_raiseAs c cls cost d s, (onlyChanges_raiseAs c cls cost d s).onlySeam (by decide)⟩

theorem keeps_raise {c : Cause} (hc : c ∈ causes) (d : BitVec 80) (s : State) : Keeps [] [.regs, .flt] [] s (raise c d s) :=
  keeps_raiseAs hc _ _ d s

theorem keeps_setFld {f : Field} (plain : f.reg ∉ causeRegs) (v : Nat) (s : State) : Keeps [f.reg] [.regs] [] s (s.setFld f v) :=
  ⟨notes_setFld plain v s, onlyChanges_setFld f v s, (onlyChanges_setFld f v s).onlySeam (by decide)⟩

end Sys2Proof.Machine
end

section
/-!
SUPPORT. Lanes that fail, and what their repair leaves of their sleeves (R64, R70, R84, R85, R87).
-/
namespace Sys2Proof.Machine

/-! ## The end of passes -/

theorem onlyChanges_endPass (k : SleeveNo) (s : State) : OnlyChanges [.tlr] s (endPass k s) := onlyChanges_modTlr _ s

theorem onlyChanges_sendFfe (n : LaneNo) (f : BitVec 4 × BitVec 5) (s : State) : OnlyChanges [.slp, .free] s (sendFfe n f s) :=
  ((onlyChanges_draw s).trans (onlyChanges_sendSlp _ _ _)).mono (by decide)

theorem onlyChanges_discardShadow (n : LaneNo) (s : State) : OnlyChanges [.tlr, .slp, .free] s (discardShadow n s) := by
  dsimp only [discardShadow]
  split
  · exact ((onlyChanges_sendFfe _ _ s).trans (onlyChanges_modTlr _ _)).mono (by decide)
  · exact (onlyChanges_modTlr _ s).mono (by decide)

theorem onlyChanges_dropPass (k : SleeveNo) (s : State) : OnlyChanges [.tlr, .slp, .free] s (dropPass k s) := by
  unfold dropPass
  split
  · exact ((onlyChanges_discardShadow _ s).trans (onlyChanges_endPass k _)).mono (by decide)
  · exact (OnlyChanges.refl s).mono (by decide)

theorem onlyChanges_abandonPass (k : SleeveNo) (s : State) : OnlyChanges [.tlr, .slp, .free, .regs, .flt] s (abandonPass k s) := by
  unfold abandonPass
  split
  · exact ((onlyChanges_dropPass k s).trans (onlyChanges_raiseLane _ _ _ _ _)).mono (by decide)
  · exact (OnlyChanges.refl s).mono (by decide)

theorem notes_abandonPass (k : SleeveNo) (s : State) : Notes [] s (abandonPass k s) := by
  unfold abandonPass
  split
  · exact ((onlyChanges_dropPass k s).notes (by decide) (by decide)).trans (notes_raise (by decide) _ _)
  · exact Notes.refl s

/-! ## The mode of tailoring -/

theorem OnlyChanges.mode {ps : List Part} {s t : State} (h : OnlyChanges ps s t) (tlr : .tlr ∉ ps) : t.tlr.mode = s.tlr.mode :=
  congrArg Tlr.mode (h .tlr tlr)

theorem mode_discardShadow (n : LaneNo) (s : State) : (discardShadow n s).tlr.mode = s.tlr.mode := by
  dsimp only [discardShadow]
  split <;> rfl

theorem mode_dropPass (k : SleeveNo) (s : State) : (dropPass k s).tlr.mode = s.tlr.mode := by
  unfold dropPass
  split
  · exact mode_discardShadow _ s
  · rfl

theorem mode_abandonPass (k : SleeveNo) (s : State) : (abandonPass k s).tlr.mode = s.tlr.mode := by
  unfold abandonPass
  split
  · exact ((onlyChanges_raiseLane _ _ _ _ _).mode (by decide)).trans (mode_dropPass k s)
  · rfl

theorem mode_askRebuild (s : State) : (askRebuild s).tlr.mode = s.tlr.mode := by
  unfold askRebuild
  split <;> rfl

/-! ## The health of sleeves -/

/-- The lanes and clocks that have failed stay as they were. -/
def SameHealth (s t : State) : Prop :=
  ∀ d k, (t.slv d k).failed = (s.slv d k).failed ∧ (t.slv d k).clkFail = (s.slv d k).clkFail

theorem SameHealth.refl (s : State) : SameHealth s s := fun _ _ => ⟨rfl, rfl⟩

theorem SameHealth.trans {s t u : State} (h : SameHealth s t) (k : SameHealth t u) : SameHealth s u :=
  fun d j => ⟨(k d j).1.trans (h d j).1, (k d j).2.trans (h d j).2⟩

theorem OnlyChanges.sameHealth {ps : List Part} {s t : State} (h : OnlyChanges ps s t) (seam : .seam ∉ ps) : SameHealth s t :=
  fun d k => by rw [h.slv seam d k]; exact ⟨rfl, rfl⟩

theorem ExOnly.sameHealth {s t : State} (h : ExOnly s t) : SameHealth s t := fun d k => by rw [h.slv d k]; exact ⟨rfl, rfl⟩

/-- A change of a sleeve that leaves its failed lanes. -/
theorem sameHealth_modSlv (d : Dir) (k : SleeveNo) {f : Slv → Slv} (h : ∀ v, (f v).failed = v.failed ∧ (f v).clkFail = v.clkFail)
    (s : State) : SameHealth s (modSlv d k f s) := by
  intro e j
  by_cases same : d = e ∧ k = j
  · obtain ⟨rfl, rfl⟩ := same
    rw [slv_modSlv_same]
    exact h _
  · rw [slv_modSlv_other same]
    exact ⟨rfl, rfl⟩

/-- What a repair touches: sleeves, exchanges and passes. -/
def repairParts : List Part := [.seam, .tlr, .slp, .free, .regs, .flt]

/-- What a repair touches of the seam. -/
def repairSeam : List SeamPart := [.up, .dn, .mine, .want, .ctlOut, .nextXid]

/-- What a repair does: the failed lanes stay marked, flags stay set, tailoring keeps its mode, and it touches sleeves, exchanges and
passes alone. -/
structure Repairs (s t : State) : Prop where
  health : SameHealth s t
  mode : t.tlr.mode = s.tlr.mode
  keeps : Keeps [] repairParts repairSeam s t

theorem Repairs.refl (s : State) : Repairs s s := ⟨SameHealth.refl s, rfl, Keeps.self _ _ _ s⟩

theorem Repairs.trans {s t u : State} (h : Repairs s t) (k : Repairs t u) : Repairs s u :=
  ⟨h.health.trans k.health, k.mode.trans h.mode, h.keeps.step k.keeps⟩

theorem ExOnly.repairs {s t : State} (h : ExOnly s t) : Repairs s t :=
  ⟨h.sameHealth, h.onlyChanges.mode (by decide), h.keeps.mono (by decide) (by decide) (by decide)⟩

theorem keeps_dropPass (k : SleeveNo) (s : State) : Keeps [] [.tlr, .slp, .free] [] s (dropPass k s) :=
  (onlyChanges_dropPass k s).keeps (by decide) (by decide) (by decide)

theorem keeps_abandonPass (k : SleeveNo) (s : State) : Keeps [] [.tlr, .slp, .free, .regs, .flt] [] s (abandonPass k s) :=
  ⟨notes_abandonPass k s, onlyChanges_abandonPass k s, (onlyChanges_abandonPass k s).onlySeam (by decide)⟩

theorem repairs_abandonPass (k : SleeveNo) (s : State) : Repairs s (abandonPass k s) :=
  ⟨(onlyChanges_abandonPass k s).sameHealth (by decide), mode_abandonPass k s, (keeps_abandonPass k s).mono (by decide) (by decide) (by decide)⟩

theorem repairs_dropPass (k : SleeveNo) (s : State) : Repairs s (dropPass k s) :=
  ⟨(onlyChanges_dropPass k s).sameHealth (by decide), mode_dropPass k s, (keeps_dropPass k s).mono (by decide) (by decide) (by decide)⟩

theorem repairs_raiseLane {c : Cause} (hc : c ∈ causes) (d : Dir) (k : SleeveNo) (j : Nat) (s : State) :
    Repairs s (raiseLane c d k j s) :=
  ⟨(onlyChanges_raiseLane c d k j s).sameHealth (by decide), (onlyChanges_raiseLane c d k j s).mode (by decide), (keeps_raise hc _ s).mono (by decide) (by decide) (by decide)⟩

theorem repairs_modSlv (d : Dir) (k : SleeveNo) {f : Slv → Slv} (h : ∀ v, (f v).failed = v.failed ∧ (f v).clkFail = v.clkFail)
    (s : State) : Repairs s (modSlv d k f s) :=
  ⟨sameHealth_modSlv d k h s, (onlyChanges_modSlv d k f s).mode (by decide), (keeps_modSlv d k f s).mono (by decide) (by decide) (by decide)⟩

theorem keeps_askRebuild (s : State) : Keeps [] [.tlr] [] s (askRebuild s) :=
  (onlyChanges_askRebuild s).keeps (by decide) (by decide) (by decide)

theorem repairs_askRebuild (s : State) : Repairs s (askRebuild s) :=
  ⟨(onlyChanges_askRebuild s).sameHealth (by decide), mode_askRebuild s, (keeps_askRebuild s).mono (by decide) (by decide) (by decide)⟩

theorem repairs_wantRetire (k : SleeveNo) (s : State) : Repairs s (wantRetire k s) := (exOnly_wantRetire k s).repairs

theorem repairs_wantEx (k : ExKind) (s : State) : Repairs s (wantEx k s) := (exOnly_wantEx k s).repairs

/-- The spare's use changed. -/
theorem repairs_spare (k : SleeveNo) (st : BitVec 2) (s : State) :
    Repairs s (modSlv .down k (fun v => { v with spareState := st }) s) := 
  repairs_modSlv .down k (f := fun v => { v with spareState := st }) (fun _ => ⟨rfl, rfl⟩) s

theorem repairs_repairLane (k : SleeveNo) (j : Nat) (s : State) : Repairs s (repairLane k j s) := by
  have drop : Repairs s (if (s.slv .down k).spareState = 2 then s else abandonPass k s) := by
    split
    · exact Repairs.refl s
    · exact repairs_abandonPass k s
  refine drop.trans ?_
  dsimp only [repairLane]
  generalize (if (s.slv .down k).spareState = 2 then s else abandonPass k s) = u
  by_cases idle : (s.slv .down k).spareState = 0
  · rw [if_pos idle]
    split
    · exact repairs_wantEx _ u
    · exact Repairs.refl u
  rw [if_neg idle]
  by_cases rolls : (s.slv .down k).spareState = 2
  · rw [if_pos rolls]
    split
    · exact ((repairs_dropPass k u).trans (repairs_spare k 1 _)).trans (repairs_raiseLane (by decide) _ k j _)
    · split
      · exact ((repairs_abandonPass k u).trans (repairs_spare k 0 _)).trans (repairs_wantEx _ _)
      · exact (repairs_abandonPass k u).trans (repairs_wantEx _ _)
  · rw [if_neg rolls]
    exact repairs_wantRetire k u

theorem repairs_failSpare (k : SleeveNo) (s : State) : Repairs s (failSpare k s) := by
  dsimp only [failSpare]
  split
  · exact ((repairs_spare k 3 s).trans (repairs_raiseLane (by decide) _ k 8 _)).trans (repairs_wantRetire k _)
  · split
    · exact Repairs.refl s
    · exact ((repairs_abandonPass k s).trans (repairs_spare k 3 _)).trans (repairs_raiseLane (by decide) _ k 8 _)

/-! ## Lanes and clocks that fail -/

theorem getLsbD_or_one_shiftLeft (x : BitVec 9) {j : Nat} (h : j < 9) : (x ||| (1#9 <<< j)).getLsbD j = true := by
  simp [h]

theorem raised_raiseLane_self {c : Cause} (hc : c ∈ causes) (d : Dir) (k : SleeveNo) (j : Nat) (s : State) :
    Raised c (raiseLane c d k j s) := raised_raise_self hc _ s

/-- A lane that was sound is marked failed, with LANE_FAILED for a data lane (R84). -/
theorem failLane_marks {n : LaneNo} {s : State} (sound : (s.slv .down (slvOf n)).failed.getLsbD (placeOf n) = false)
    (kept : s.seam.retired.getLsbD (slvOf n).toNat = false) :
    ((failLane n s).slv .down (slvOf n)).failed.getLsbD (placeOf n) = true ∧
      (placeOf n ≠ 8 → Raised C.SEAM.LANE_FAILED (failLane n s)) := by
  let mark := modSlv .down (slvOf n) (fun v => { v with failed := v.failed ||| (1#9 <<< placeOf n) }) s
  have place : placeOf n < 9 := Nat.mod_lt _ (by decide)
  have marked : (mark.slv .down (slvOf n)).failed.getLsbD (placeOf n) = true := by
    rw [slv_modSlv_same]
    exact getLsbD_or_one_shiftLeft _ place
  have stays {t : State} (h : Repairs mark t) : (t.slv .down (slvOf n)).failed.getLsbD (placeOf n) = true := by
    rw [(h.health _ _).1]
    exact marked
  have ask : Repairs mark (askRebuild mark) := repairs_askRebuild mark
  have eq : failLane n s = if placeOf n = 8 then failSpare (slvOf n) (askRebuild mark)
      else repairLane (slvOf n) (placeOf n) (raiseLane C.SEAM.LANE_FAILED .down (slvOf n) (placeOf n) (askRebuild mark)) := by
    simp only [failLane, sound, kept, Bool.or_self, Bool.false_eq_true, if_false]
    rfl
  rw [eq]
  by_cases spare : placeOf n = 8
  · rw [if_pos spare]
    exact ⟨stays (ask.trans (repairs_failSpare _ _)), fun data => absurd spare data⟩
  · rw [if_neg spare]
    have repair := repairs_repairLane (slvOf n) (placeOf n)
      (raiseLane C.SEAM.LANE_FAILED .down (slvOf n) (placeOf n) (askRebuild mark))
    exact ⟨stays ((ask.trans (repairs_raiseLane (by decide) _ _ _ _)).trans repair),
      fun _ => repair.keeps.notes.1 _ (by decide) (raised_raiseLane_self (by decide) _ _ _ _)⟩

/-- The state with a forwarded clock marked failed, and every lane of its sleeve. -/
def clockMarked (k : SleeveNo) (s : State) : State :=
  modSlv .down k (fun v => { v with clkFail := true, failed := 0x1FF }) (abandonPass k s)

theorem failClock_eq {k : SleeveNo} {s : State} (sound : (s.slv .down k).clkFail = false)
    (kept : s.seam.retired.getLsbD k.toNat = false) :
    failClock k s = wantRetire k (raiseLane C.SEAM.LANE_FAILED .down k 0xF (askRebuild (clockMarked k s))) := by
  simp only [failClock, sound, kept, Bool.or_self, Bool.false_eq_true, if_false, clockMarked]

/-- A forwarded clock that fails takes every lane of its sleeve, with LANE_FAILED (R70, R87). -/
theorem failClock_marks {k : SleeveNo} {s : State} (sound : (s.slv .down k).clkFail = false)
    (kept : s.seam.retired.getLsbD k.toNat = false) :
    ((failClock k s).slv .down k).clkFail = true ∧ ((failClock k s).slv .down k).failed = 0x1FF ∧
      Raised C.SEAM.LANE_FAILED (failClock k s) := by
  rw [failClock_eq sound kept]
  have retire := repairs_wantRetire k (raiseLane C.SEAM.LANE_FAILED .down k 0xF (askRebuild (clockMarked k s)))
  have after := ((repairs_askRebuild (clockMarked k s)).trans (repairs_raiseLane (by decide) _ k 0xF _)).trans retire
  have marked : (clockMarked k s).slv .down k = { (abandonPass k s).slv .down k with clkFail := true, failed := 0x1FF } :=
    slv_modSlv_same .down k _ _
  refine ⟨(after.health _ _).2.trans ?_, (after.health _ _).1.trans ?_, retire.keeps.notes.1 _ (by decide) (raised_raiseLane_self (by decide) _ _ _ _)⟩
  · rw [marked]
  · rw [marked]

/-- A command that fails the lane it names, where that listens (R84). -/
theorem runs_failLane {c : Instr} {n : LaneNo} {s : State}
    (e : ∀ s, exec c s = whenLane n s fun s => if s.listens (slvOf n) then failLane n s else s) (ok : n.toNat < 72)
    (hf : s.functional = true) (listens : s.listens (slvOf n) = true)
    (sound : (s.slv .down (slvOf n)).failed.getLsbD (placeOf n) = false) (kept : s.seam.retired.getLsbD (slvOf n).toNat = false) :
    Runs c s fun t =>
      (t.slv .down (slvOf n)).failed.getLsbD (placeOf n) = true ∧ (placeOf n ≠ 8 → Raised C.SEAM.LANE_FAILED t) := by
  refine runs_lane e ok hf (if_pos listens) ?_
  simp only [slv_settle, raised_settle]
  exact failLane_marks sound kept

theorem runs_forwardedClockFail {k : SleeveNo} {s : State} (hf : s.functional = true) (listens : s.listens k = true)
    (sound : (s.slv .down k).clkFail = false) (kept : s.seam.retired.getLsbD k.toNat = false) :
    Runs (.forwardedClockFail k) s fun t =>
      (t.slv .down k).clkFail = true ∧ (t.slv .down k).failed = 0x1FF ∧ Raised C.SEAM.LANE_FAILED t := by
  refine runs_functional (fun _ => rfl) hf (if_pos listens) ?_
  simp only [slv_settle, raised_settle]
  exact failClock_marks sound kept

/-- Settles O27: a lane or a clock that fails is marked before its repair, and no repair takes a mark or a flag back. -/
theorem lanesFail : Obligations.LanesFail := by
  refine ⟨fun lane s c which ok hf listens sound kept => ?_, fun lane s bad => ?_,
    fun k s hf listens sound kept => runs_forwardedClockFail hf listens sound kept⟩
  · rcases which with rfl | rfl | rfl
    · exact runs_failLane (fun _ => rfl) ok hf listens sound kept
    · exact runs_failLane (fun _ => rfl) ok hf listens sound kept
    · exact runs_failLane (fun _ => rfl) ok hf listens sound kept
  · exact ⟨whenLane_bad s _ bad, whenLane_bad s _ bad, whenLane_bad s _ bad⟩

end Sys2Proof.Machine
end

section
/-!
SUPPORT. The station's requests on the seam and the block's answers (R80 to R82, R85, R87, R93, R115).
-/
namespace Sys2Proof.Machine

/-! ## Flits and control flits received -/

/-- A good flit of the kind awaited is taken (R135, R137). -/
theorem onFlit_of_brings {kind : Nat} {slv : SleeveNo} {line : BitVec 2304} {p : BitVec 1920} {s : State}
    (h : Brings kind slv line p s) (carried : kind = 1 ∨ kind = 3 ∨ kind = 4) (lost : State → State)
    (take : BitVec 2048 → State → State) : onFlit kind slv line lost take s = take (s.slotOf slv line) s := by
  obtain ⟨-, used, free, flit, is_kind, good, -⟩ := h
  have five : ¬5 ≤ kind := by omega
  have other : ¬(kind = 0 ∨ kind = 2) := by omega
  simp [onFlit, used, free, flit, is_kind, good, five, other]

/-- The state with a control flit of the current slot noted (R80). -/
def sawCtl (p : BitVec 1920) (s : State) : State := modSeam (fun m => { m with ctlSeen := some (m.dnSlot, p) }) s

theorem onlyChanges_sawCtl (p : BitVec 1920) (s : State) : OnlyChanges [.seam] s (sawCtl p s) := onlyChanges_modSeam _ s

/-- A further copy of a control flit in its slot is ignored (R80). -/
theorem takeCtl_copy {slv : SleeveNo} {line : BitVec 2304} {p : BitVec 1920} {s : State} (h : Brings 4 slv line p s)
    (copy : s.seam.ctlSeen = some (s.seam.dnSlot, p)) (type : Byte) (k : SeamCtl → State → State) : takeCtl type slv line s k = s := by
  obtain ⟨-, -, -, -, -, -, payload⟩ := id h
  rw [takeCtl, onFlit_of_brings h (by decide), takePayload, payload]
  exact if_pos (by simp [copy])

section
variable {slv : SleeveNo} {line : BitVec 2304} {p : BitVec 1920} {c : SeamCtl} {s : State}

theorem takeCtl_of_ctl (h : Ctl slv line p c s) (type : Byte) (k : SeamCtl → State → State) :
    takeCtl type slv line s k = if c.malformed then raiseSeam C.SEAM.UNATTRIBUTED (nak c.xid 0x05 (sawCtl p s))
      else if c.type = type then k c (sawCtl p s) else sawCtl p s := by
  obtain ⟨brings, talks, new, fields⟩ := h
  obtain ⟨-, -, -, -, -, -, payload⟩ := id brings
  rw [takeCtl, onFlit_of_brings brings (by decide), takePayload, payload, fields, if_neg (by simp [talks, new])]
  rfl

theorem takeCtl_malformed (h : Ctl slv line p c s) (bad : c.malformed = true) (type : Byte) (k : SeamCtl → State → State) :
    takeCtl type slv line s k = raiseSeam C.SEAM.UNATTRIBUTED (nak c.xid 0x05 (sawCtl p s)) := by
  rw [takeCtl_of_ctl h, if_pos bad]

theorem takeCtl_good (h : Ctl slv line p c s) (good : c.malformed = false) {type : Byte} (ht : c.type = type)
    (k : SeamCtl → State → State) : takeCtl type slv line s k = k c (sawCtl p s) := by
  rw [takeCtl_of_ctl h, if_neg (by simp [good]), if_pos ht]

/-- A request not answered yet is acted on (R82). -/
theorem takeReq_new (h : Ctl slv line p c s) (good : c.malformed = false) {type : Byte} (ht : c.type = type)
    (new : ∀ q, s.seam.answered ≠ some (type, c.xid, q)) (k : SeamCtl → State → State) :
    takeReq type slv line s k = k c (sawCtl p s) := by
  subst ht
  rw [takeReq, takeCtl_good h good rfl]
  change (match s.seam.answered with
    | some (t, x, p') => if t = c.type && x = c.xid then queueCtl p' (sawCtl p s) else k c (sawCtl p s)
    | none => k c (sawCtl p s)) = _
  match e : s.seam.answered with
  | none => rfl
  | some (t, x, q) =>
    have other : ¬(t = c.type ∧ x = c.xid) := by
      rintro ⟨rfl, rfl⟩
      exact new q e
    exact if_neg (by simpa using other)

/-- A request received again is answered again, and not acted on (R82). -/
theorem takeReq_again (h : Ctl slv line p c s) (good : c.malformed = false) {type : Byte} (ht : c.type = type) {q : BitVec 1920}
    (again : s.seam.answered = some (c.type, c.xid, q)) (k : SeamCtl → State → State) :
    takeReq type slv line s k = queueCtl q (sawCtl p s) := by
  subst ht
  rw [takeReq, takeCtl_good h good rfl]
  change (match s.seam.answered with
    | some (t, x, p') => if t = c.type && x = c.xid then queueCtl p' (sawCtl p s) else k c (sawCtl p s)
    | none => k c (sawCtl p s)) = _
  rw [again]
  exact if_pos (by simp)

/-- The commands that bring a control flit of the seam, and what each does with one of its type. -/
theorem exec_ctl {i : Instr} (which : i = .substReq ⟨slv, line⟩ ∨ i = .retireReq ⟨slv, line⟩ ∨ i = .widthReq ⟨slv, line⟩ ∨
      i = .substAck ⟨slv, line⟩ ∨ i = .retireAck ⟨slv, line⟩ ∨ i = .widthAck ⟨slv, line⟩ ∨ i = .widthCfm ⟨slv, line⟩ ∨
      i = .seamNak ⟨slv, line⟩) :
    ∃ type k, ∀ s, exec i s = whenFunctional s fun s => takeCtl type slv line s k := by
  rcases which with rfl | rfl | rfl | rfl | rfl | rfl | rfl | rfl
  all_goals exact ⟨_, _, fun _ => rfl⟩

theorem Ctl.functional (h : Ctl slv line p c s) : s.functional = true := h.1.1

/-! ## Answers -/

theorem onlyChanges_answerCtl (c : SeamCtl) (p : BitVec 1920) (s : State) : OnlyChanges [.seam] s (answer c p s) :=
  ((onlyChanges_modSeam _ s).trans (exOnly_queueCtl _ _).onlyChanges).mono (by decide)

theorem slv_answer (c : SeamCtl) (p : BitVec 1920) (s : State) (d : Dir) (k : SleeveNo) : (answer c p s).slv d k = s.slv d k := by
  cases d <;> rfl

/-- The lane of a SUBST_REQ or SUBST_ACK that is not malformed is a data lane, and its REASON is no reserved one (R81). -/
theorem substReq_fields (good : c.malformed = false) (ht : c.type = 0x01) : c.lane.toNat < 8 ∧ c.reason ≠ 3 := by
  simp only [SeamCtl.malformed, ht, Bool.or_eq_false_iff, Bool.and_eq_false_iff] at good
  obtain ⟨-, bad⟩ := good
  have := bad.resolve_left (by decide)
  simp only [beq_eq_false_iff_ne, decide_eq_false_iff_not] at this
  exact ⟨by omega, this.1⟩

theorem Notes.switchAfter {as : List Nat} {s t : State} (h : Notes as s t) (other : R.SEAM_CTRL ∉ as) :
    t.switchAfter = s.switchAfter := by
  rw [State.switchAfter, h.fld seam_ctrl_plain other, State.switchAfter]

/-- The state with the lane of a SUBST_REQ marked failed, with LANE_FAILED where it was sound (R84). -/
def markUp (c : SeamCtl) (s : State) : State :=
  if (s.slv .up c.sleeve).failed.getLsbD c.lane.toNat then s
  else raiseLane C.SEAM.LANE_FAILED .up c.sleeve c.lane.toNat
    (askRebuild (modSlv .up c.sleeve (fun v => { v with failed := v.failed ||| (1#9 <<< c.lane.toNat) }) s))

theorem markUp_frame (c : SeamCtl) (s : State) : OnlyChanges [.seam, .tlr, .regs, .flt] s (markUp c s) ∧ Notes [] s (markUp c s) := by
  have mark := onlyChanges_modSlv .up c.sleeve (fun v => { v with failed := v.failed ||| (1#9 <<< c.lane.toNat) }) s
  have ask := mark.trans (onlyChanges_askRebuild _)
  unfold markUp
  split
  · exact ⟨(OnlyChanges.refl s).mono (by decide), Notes.refl s⟩
  · exact ⟨(ask.trans (onlyChanges_raiseLane _ _ _ _ _)).mono (by decide),
      (ask.notes (by decide) (by decide)).trans (notes_raise (by decide) _ _)⟩

theorem markUp_seam (c : SeamCtl) {s : State} (lane : c.lane.toNat < 8) :
    (markUp c s).seam.ctlOut = s.seam.ctlOut ∧ ((markUp c s).slv .up c.sleeve).failed.getLsbD c.lane.toNat = true := by
  unfold markUp
  split
  next failed => exact ⟨rfl, failed⟩
  next =>
    have after := (onlyChanges_askRebuild
      (modSlv .up c.sleeve (fun v => { v with failed := v.failed ||| (1#9 <<< c.lane.toNat) }) s)).trans
        (onlyChanges_raiseLane C.SEAM.LANE_FAILED .up c.sleeve c.lane.toNat _)
    refine ⟨(congrArg Seam.ctlOut (after .seam (by decide))).trans rfl, ?_⟩
    rw [after.slv (by decide), slv_modSlv_same]
    exact getLsbD_or_one_shiftLeft _ (by omega)

/-- A SUBST_REQ with REASON 0 marks its lane failed before it is answered (R84, R85). -/
theorem darnUp_eq (c : SeamCtl) (s : State) :
    darnUp c s = (if s.flag F.SEAM_CTRL.DARN_EN = false then answer c (nakFlit c.xid 0x07) (markUp c s)
      else if (s.slv .up c.sleeve).spareState = 0 ∨ (s.slv .up c.sleeve).spareState = 2 then
        answer c (ctlFlit 0x02 c.xid c.sleeve c.lane 0 0 0 s.switchAfter) (markUp c s)
      else answer c (nakFlit c.xid 0x06) (markUp c s)) := by
  obtain ⟨-, notes⟩ := markUp_frame c s
  have eq : darnUp c s = (if !(markUp c s).flag F.SEAM_CTRL.DARN_EN then answerNak c 0x07 (markUp c s)
      else if (s.slv .up c.sleeve).spareState = 0 || (s.slv .up c.sleeve).spareState = 2 then
        answer c (ctlFlit 0x02 c.xid c.sleeve c.lane 0 0 0 (markUp c s).switchAfter) (markUp c s)
      else answerNak c 0x06 (markUp c s)) := rfl
  rw [eq, notes.flag seam_ctrl_plain (by simp), notes.switchAfter (by simp)]
  simp only [Bool.not_eq_true', Bool.or_eq_true, decide_eq_true_eq]
  rfl

/-- What a SUBST_REQ does once it is taken. -/
def takeSubst (c : SeamCtl) (s : State) : State :=
  let v := s.slv .up c.sleeve
  let ack := answer c (ctlFlit 0x02 c.xid c.sleeve c.lane c.reason 0 0 s.switchAfter)
  if !s.mendable.getLsbD c.sleeve.toNat then answerNak c 0x02 s
  else if c.reason = 0 then darnUp c s
  else if c.reason = 1 then if v.spareState = 0 then ack s else answerNak c 0x06 s
  else if v.spareState = 2 && v.spareLane = c.lane then ack s else answerNak c 0x06 s

theorem exec_substReq (got : SlvLine) (s : State) :
    exec (.substReq got) s = whenFunctional s fun s => takeReq 0x01 got.slv got.line s takeSubst := rfl

/-- The spare `v` of a sleeve can take the lane of a SUBST_REQ, or holds it (R85, R115). -/
def SpareFits (c : SeamCtl) (v : Slv) : Prop :=
  (c.reason = 0 ∧ (v.spareState = 0 ∨ v.spareState = 2)) ∨ (c.reason = 1 ∧ v.spareState = 0) ∨
    (c.reason = 2 ∧ v.spareState = 2 ∧ v.spareLane = c.lane)

/-- The answer that a SUBST_REQ meets: `m` says that the lanes of its sleeve can be repaired (R82, R85, R94, R115). -/
def SubstReply (c : SeamCtl) (s : State) (v : Slv) (m : Bool) (ans : BitVec 1920) : Prop :=
  (m = false ∧ ans = nakFlit c.xid 0x02) ∨
    (m = true ∧ c.reason = 0 ∧ s.flag F.SEAM_CTRL.DARN_EN = false ∧ ans = nakFlit c.xid 0x07) ∨
    (m = true ∧ (c.reason = 0 → s.flag F.SEAM_CTRL.DARN_EN = true) ∧ SpareFits c v ∧
      ans = ctlFlit 0x02 c.xid c.sleeve c.lane c.reason 0 0 s.switchAfter) ∨
    (m = true ∧ (c.reason = 0 → s.flag F.SEAM_CTRL.DARN_EN = true) ∧ ¬SpareFits c v ∧ ans = nakFlit c.xid 0x06)

theorem takeSubst_answers {ans : BitVec 1920} {v : Slv} {m : Bool} (good : c.malformed = false) (ht : c.type = 0x01)
    (hv : v = s.slv .up c.sleeve) (hm : m = s.mendable.getLsbD c.sleeve.toNat)
    (cases : SubstReply c s v m ans) :
    takeSubst c s = answer c ans (if m = true ∧ c.reason = 0 then markUp c s else s) := by
  have two : c.reason = 0 ∨ c.reason = 1 ∨ c.reason = 2 := by
    have three := (substReq_fields good ht).2
    revert three
    generalize c.reason = r
    decide +revert
  have nak (n : Byte) : answerNak c n = answer c (nakFlit c.xid n) := rfl
  subst hv hm
  rcases cases with ⟨off, rfl⟩ | ⟨on, darns, off, rfl⟩ | ⟨on, may, fits, rfl⟩ | ⟨on, may, fits, rfl⟩
  · simp [takeSubst, off, nak]
  · simp [takeSubst, on, darns, darnUp_eq, off]
  · rcases fits with ⟨darns, fits⟩ | ⟨rolls, fits⟩ | ⟨back, fits, lane⟩
    · simp only [takeSubst, on, darns, darnUp_eq, may darns, fits, Bool.not_true, Bool.true_eq_false, Bool.false_eq_true, if_true,
        if_false, and_self]
    · simp [takeSubst, on, rolls, fits]
    · simp [takeSubst, on, back, fits, lane]
  · have one : (1 : BitVec 2) ≠ 0 := by decide
    have two_ne : (2 : BitVec 2) ≠ 0 ∧ (2 : BitVec 2) ≠ 1 := by decide
    rcases two with darns | rolls | back
    · have fits : ¬((s.slv .up c.sleeve).spareState = 0 ∨ (s.slv .up c.sleeve).spareState = 2) := fun h => fits (.inl ⟨darns, h⟩)
      simp only [takeSubst, on, darns, darnUp_eq, may darns, fits, Bool.not_true, Bool.true_eq_false, Bool.false_eq_true, if_true,
        if_false, and_self]
    · have fits : ¬(s.slv .up c.sleeve).spareState = 0 := fun h => fits (.inr (.inl ⟨rolls, h⟩))
      simp only [takeSubst, on, rolls, nak, fits, one, Bool.not_true, Bool.false_eq_true, if_true, if_false, and_false]
    · have fits : ((s.slv .up c.sleeve).spareState = 2 && (s.slv .up c.sleeve).spareLane = c.lane) = false := by
        simpa using fun rolls lane => fits (.inr (.inr ⟨back, rolls, lane⟩))
      simp only [takeSubst, on, back, nak, fits, two_ne, Bool.not_true, Bool.false_eq_true, if_false, and_false]

/-! ## SUBST_REQ, RETIRE_REQ and WIDTH_REQ -/

/-- A control flit's answer queued: what the seam then holds, and what it leaves. -/
theorem answer_settled {ps : List Part} {w : State} (ans : BitVec 1920) (frame : OnlyChanges ps s w) (slp : .slp ∉ ps)
    (hs : Settled s) (ctl : w.seam.ctlOut = s.seam.ctlOut) :
    (settle (answer c ans w)).seam.ctlOut = s.seam.ctlOut ++ [ans] ∧
      (settle (answer c ans w)).seam.answered = some (c.type, c.xid, ans) ∧
      OnlyChanges (ps ++ [.seam, .outs, .slp]) s (settle (answer c ans w)) := by
  refine ⟨congrArg (· ++ [ans]) ctl, rfl, ?_⟩
  have all := onlyChanges_settle_of (frame.trans (onlyChanges_answerCtl c ans w)) hs (by simpa using slp)
  exact all.mono (by simp)

theorem runs_substReq {v : Slv} {m : Bool} {ans : BitVec 1920} (h : Ctl slv line p c s) (hs : Settled s) (good : c.malformed = false)
    (ht : c.type = 0x01) (new : ∀ q, s.seam.answered ≠ some (0x01, c.xid, q)) (hv : v = s.slv .up c.sleeve)
    (hm : m = s.mendable.getLsbD c.sleeve.toNat)
    (cases : SubstReply c s v m ans) :
    Runs (.substReq ⟨slv, line⟩) s fun t =>
      t.seam.ctlOut = s.seam.ctlOut ++ [ans] ∧ t.seam.answered = some (0x01, c.xid, ans) ∧
        (m = true → c.reason = 0 → (t.slv .up c.sleeve).failed.getLsbD c.lane.toNat = true) ∧
        (c.reason ≠ 0 → OnlyChanges [.seam, .outs, .slp] s t) ∧ OnlyChanges [.seam, .tlr, .regs, .flt, .outs, .slp] s t := by
  have saw := onlyChanges_sawCtl p s
  have lane := (substReq_fields good ht).1
  refine runs_functional (exec_substReq ⟨slv, line⟩) h.functional
    ((takeReq_new h good ht new _).trans (takeSubst_answers (s := sawCtl p s) good ht hv hm cases)) ?_
  by_cases darns : m = true ∧ c.reason = 0
  · rw [if_pos darns]
    have mark := (markUp_frame c (sawCtl p s)).1
    obtain ⟨ctl, failed⟩ := markUp_seam c (s := sawCtl p s) lane
    obtain ⟨out, answered, frame⟩ := answer_settled (c := c) ans (saw.trans mark) (by decide) hs ctl
    rw [ht] at answered
    refine ⟨out, answered, fun _ _ => ?_, fun rolls => absurd darns.2 rolls, frame.mono (by decide)⟩
    rw [slv_settle, slv_answer]
    exact failed
  · rw [if_neg darns]
    obtain ⟨out, answered, frame⟩ := answer_settled (c := c) ans saw (by decide) hs rfl
    rw [ht] at answered
    exact ⟨out, answered, fun on zero => absurd ⟨on, zero⟩ darns, fun _ => frame.mono (by decide), frame.mono (by decide)⟩

theorem runs_retireReq {ans : BitVec 1920} (h : Ctl slv line p c s) (hs : Settled s) (good : c.malformed = false)
    (ht : c.type = 0x03) (new : ∀ q, s.seam.answered ≠ some (0x03, c.xid, q))
    (hans : ans = (if s.flag F.SEAM_CTRL.RETIRE_EN = false then nakFlit c.xid 0x07
      else if s.seam.retired.getLsbD c.sleeve.toNat then nakFlit c.xid 0x02
      else ctlFlit 0x04 c.xid c.sleeve 0 0 0 0 s.switchAfter)) :
    Runs (.retireReq ⟨slv, line⟩) s fun t =>
      t.seam.ctlOut = s.seam.ctlOut ++ [ans] ∧ t.seam.answered = some (0x03, c.xid, ans) ∧ OnlyChanges [.seam, .outs, .slp] s t := by
  have may : (sawCtl p s).flag F.SEAM_CTRL.RETIRE_EN = s.flag F.SEAM_CTRL.RETIRE_EN := rfl
  have retired : (sawCtl p s).seam.retired = s.seam.retired := rfl
  refine runs_functional (u := answer c ans (sawCtl p s)) (fun _ => rfl) h.functional ((takeReq_new h good ht new _).trans ?_) ?_
  · subst hans
    rw [may, retired]
    cases s.flag F.SEAM_CTRL.RETIRE_EN
    · rfl
    · cases s.seam.retired.getLsbD c.sleeve.toNat <;> rfl
  · obtain ⟨out, answered, frame⟩ := answer_settled (c := c) ans (onlyChanges_sawCtl p s) (by decide) hs rfl
    rw [ht] at answered
    exact ⟨out, answered, frame.mono (by decide)⟩

/-- The station's width change that a WIDTH_REQ begins (R93, R94). -/
def theirWidth (c : SeamCtl) (s : State) : WidthChange :=
  { mine := false, byPcm := false, target := c.target, xid := c.xid, added := c.target &&& ~~~s.seam.usable, phase := [],
    ready := c.target &&& ~~~s.seam.usable == 0, acked := false, upSlot := none, dnSlot := none, upDone := false, dnDone := false,
    since := s.mark }

/-- The station's change begins: the sleeves that it adds are powered (R93, R94). -/
def beginTheirs (c : SeamCtl) (s : State) : State :=
  modSeam (fun m => { m with
    width := some (theirWidth c s), powered := m.powered ||| (c.target &&& ~~~s.seam.usable)
    switchFrom := if c.target &&& ~~~s.seam.usable = 0 then m.switchFrom else s.mark }) s

theorem onlyChanges_beginTheirs (c : SeamCtl) (s : State) : OnlyChanges [.seam] s (beginTheirs c s) := onlyChanges_modSeam _ s

theorem onlyChanges_ackWidth (xid t : Byte) (s : State) : OnlyChanges [.seam] s (ackWidth xid t s) :=
  ((onlyChanges_modSeam _ s).trans (exOnly_queueCtl _ _).onlyChanges).mono (by decide)

/-- What a WIDTH_REQ does once it is taken, with no change in progress (R93, R94). -/
theorem exec_widthReq_idle (slv : SleeveNo) (line : BitVec 2304) :
    ∃ k, (∀ s, exec (.widthReq ⟨slv, line⟩) s = whenFunctional s fun s => takeReq 0x05 slv line s k) ∧
      ∀ c s, s.seam.width = none → k c s = if s.widthNak c.target ≠ 0 then answer c (nakFlit c.xid (s.widthNak c.target)) s
        else if c.target &&& ~~~s.seam.usable = 0 then ackWidth c.xid c.target (beginTheirs c s) else beginTheirs c s := by
  refine ⟨_, fun _ => rfl, fun c s idle => ?_⟩
  simp only [idle, giveWay, Bool.false_eq_true, if_false, bne_iff_ne]
  rfl

theorem runs_widthReq (h : Ctl slv line p c s) (hs : Settled s) (good : c.malformed = false) (ht : c.type = 0x05)
    (new : ∀ q, s.seam.answered ≠ some (0x05, c.xid, q)) (idle : s.seam.width = none) :
    Runs (.widthReq ⟨slv, line⟩) s fun t =>
      (s.widthNak c.target ≠ 0 → t.seam.ctlOut = s.seam.ctlOut ++ [nakFlit c.xid (s.widthNak c.target)] ∧ t.seam.width = none) ∧
      (s.widthNak c.target = 0 →
        (t.seam.width.map fun w => (w.mine, w.target, w.xid, w.added)) =
            some (false, c.target, c.xid, c.target &&& ~~~s.seam.usable) ∧
          t.seam.ctlOut = s.seam.ctlOut ++ (if c.target &&& ~~~s.seam.usable = 0 then
            [ctlFlit 0x06 c.xid 0 0 0 c.target 0 s.switchAfter] else [])) ∧ OnlyChanges [.seam, .outs, .slp] s t := by
  have saw := onlyChanges_sawCtl p s
  have begun := saw.trans (onlyChanges_beginTheirs c (sawCtl p s))
  obtain ⟨k, e, meaning⟩ := exec_widthReq_idle slv line
  refine runs_functional e h.functional ((takeReq_new h good ht new k).trans (meaning c (sawCtl p s) idle)) ?_
  have nakOf : (sawCtl p s).widthNak c.target = s.widthNak c.target := rfl
  have usable : (sawCtl p s).seam.usable = s.seam.usable := rfl
  rw [nakOf, usable]
  by_cases refused : s.widthNak c.target = 0
  · rw [if_neg (not_not_intro refused)]
    refine ⟨fun n => absurd refused n, fun _ => ?_, ?_⟩
    · by_cases added : c.target &&& ~~~s.seam.usable = 0
      · rw [if_pos added, if_pos added]
        exact ⟨rfl, rfl⟩
      · rw [if_neg added, if_neg added, List.append_nil]
        exact ⟨rfl, rfl⟩
    · refine (onlyChanges_settle_of (ps := [.seam]) (OnlyChanges.ite (fun _ => ?_) fun _ => ?_) hs (by decide)).mono (by decide)
      · exact (begun.trans (onlyChanges_ackWidth _ _ _)).mono (by decide)
      · exact begun.mono (by decide)
  · rw [if_pos refused]
    obtain ⟨out, -, frame⟩ := answer_settled (c := c) (nakFlit c.xid (s.widthNak c.target)) saw (by decide) hs rfl
    exact ⟨fun _ => ⟨out, idle⟩, fun n => absurd n refused, frame.mono (by decide)⟩

/-- A request received again: the answer given before goes once more, and nothing else changes (R82). -/
theorem runs_reqAgain {q : BitVec 1920} {i : Instr} (h : Ctl slv line p c s) (hs : Settled s) (good : c.malformed = false)
    (which : (i = .substReq ⟨slv, line⟩ ∧ c.type = 0x01) ∨ (i = .retireReq ⟨slv, line⟩ ∧ c.type = 0x03) ∨
      (i = .widthReq ⟨slv, line⟩ ∧ c.type = 0x05)) (again : s.seam.answered = some (c.type, c.xid, q)) :
    Runs i s fun t => t.seam = { s.seenCtl p with ctlOut := s.seam.ctlOut ++ [q] } ∧ OnlyChanges [.seam, .outs, .slp] s t := by
  have meaning : ∃ k, ∀ s, exec i s = whenFunctional s fun s => takeReq c.type slv line s k := by
    rcases which with ⟨rfl, ht⟩ | ⟨rfl, ht⟩ | ⟨rfl, ht⟩
    all_goals
      rw [ht]
      exact ⟨_, fun _ => rfl⟩
  obtain ⟨k, e⟩ := meaning
  exact runs_functional e h.functional (takeReq_again h good rfl again k) ⟨rfl,
    (onlyChanges_settle_of ((onlyChanges_sawCtl p s).trans (exOnly_queueCtl q _).onlyChanges) hs (by decide)).mono (by decide)⟩

theorem runs_malformed {i : Instr} (h : Ctl slv line p c s) (hs : Settled s)
    (which : i = .substReq ⟨slv, line⟩ ∨ i = .retireReq ⟨slv, line⟩ ∨ i = .widthReq ⟨slv, line⟩ ∨
      i = .substAck ⟨slv, line⟩ ∨ i = .retireAck ⟨slv, line⟩ ∨ i = .widthAck ⟨slv, line⟩ ∨ i = .widthCfm ⟨slv, line⟩ ∨
      i = .seamNak ⟨slv, line⟩) (bad : c.malformed = true) :
    Runs i s fun t =>
      t.seam = { s.seenCtl p with ctlOut := s.seam.ctlOut ++ [nakFlit c.xid 0x05] } ∧ Raised C.SEAM.UNATTRIBUTED t ∧
        OnlyChanges [.seam, .regs, .flt, .outs, .slp] s t ∧ RegsBut C.SEAM.UNATTRIBUTED.regs s t := by
  obtain ⟨type, k, e⟩ := exec_ctl which
  have queued := (onlyChanges_sawCtl p s).trans (exOnly_queueCtl (nakFlit c.xid 0x05) _).onlyChanges
  have raised := onlyChanges_raiseSeam C.SEAM.UNATTRIBUTED (nak c.xid 0x05 (sawCtl p s))
  refine runs_functional e h.functional (takeCtl_malformed h bad type k) ⟨?_, ?_, ?_, ?_⟩
  · exact raised .seam (by decide)
  · exact raised_settle.mpr (raised_raise_self (by decide) _ _)
  · exact (onlyChanges_settle_of (queued.trans raised) hs (by decide)).mono (by decide)
  · exact ((queued.regsBut (by decide) (by decide) _).trans (regsBut_raise _ _ _)).settle

end

/-- Settles O28: each request of the station meets the answer that its checks give, in a flit of the seam. -/
theorem stationRequestsAnswered : Obligations.StationRequestsAnswered := by
  refine ⟨fun _ _ _ _ _ _ _ _ h hs good ht new hv hm cases => runs_substReq h hs good ht new hv hm cases,
    fun _ _ _ _ _ _ h hs good ht new hans => runs_retireReq h hs good ht new hans,
    fun _ _ _ _ _ h hs good ht new idle => runs_widthReq h hs good ht new idle,
    fun _ _ _ _ _ _ _ h hs good which again => runs_reqAgain h hs good which again,
    fun _ _ _ _ _ h hs which copy => ?_, fun _ _ _ _ _ _ h hs which bad => runs_malformed h hs which bad⟩
  obtain ⟨type, k, e⟩ := exec_ctl which
  exact runs_functional e h.1 (takeCtl_copy h copy type k) (settle_eq_self hs)

end Sys2Proof.Machine
end

section
/-!
SUPPORT. The station's answers to the block's exchanges, and the switch slots that they fix (R81, R82, R85, R87, R93).
-/
namespace Sys2Proof.Machine

section
variable {slv : SleeveNo} {line : BitVec 2304} {p : BitVec 1920} {c : SeamCtl} {s : State} {x : Exch}

theorem exOf_sawCtl (p : BitVec 1920) {xid : Byte} (mine : s.seam.mine = some x) (id : x.xid = xid) :
    (sawCtl p s).exOf xid = some x.kind := by
  simp [State.exOf, sawCtl, modSeam, mine, id]

/-- The downstream slot that an answer fixes counts from the slot that brings it (R81). -/
theorem onlyChanges_forgiven (k : ExKind) (s : State) : OnlyChanges [.seam] s (forgiven k s) := onlyChanges_modSeam _ s

/-- The end of the block's exchange, seen from the state before the answer: what has been fixed stays, the next exchange begins. -/
theorem endEx_settled {w : State} (frame : OnlyChanges [.seam] s w) (want : w.seam.want = s.seam.want) (hs : Settled s) :
    (s.seam.want = [] → (settle (endEx w)).seam.mine = none) ∧ OnlyChanges [.seam, .outs, .slp] s (settle (endEx w)) :=
  ⟨fun none => mine_endEx_of_want_nil (want.trans none),
    (onlyChanges_settle_of (frame.trans (exOnly_endEx w).onlyChanges) hs (by decide)).mono (by decide)⟩

theorem ExOnly.subst {s t : State} (h : ExOnly s t) : t.seam.subst = s.seam.subst := by
  obtain ⟨_, _, _, _, rfl⟩ := h
  rfl

theorem ExOnly.retireAt {s t : State} (h : ExOnly s t) : t.seam.retireAt = s.seam.retireAt := by
  obtain ⟨_, _, _, _, rfl⟩ := h
  rfl

theorem ExOnly.width {s t : State} (h : ExOnly s t) : t.seam.width = s.seam.width := by
  obtain ⟨_, _, _, _, rfl⟩ := h
  rfl

/-- The switch of a downstream lane fixed for a slot, in place of one that was fixed before. -/
def fixSubst (y : SubstSw) (s : State) : State :=
  modSeam (fun m => { m with subst := m.subst.filter (fun z => !(z.dir == .down && z.slv == y.slv)) ++ [y] }) s

theorem runs_substAck {k : SleeveNo} {lane : BitVec 4} {reason : BitVec 2} (h : Ctl slv line p c s) (good : c.malformed = false)
    (ht : c.type = 0x02) (mine : s.seam.mine = some x) (id : x.xid = c.xid) (kind : x.kind = .subst k lane reason) (hs : Settled s) :
    Runs (.substAck ⟨slv, line⟩) s fun t =>
      (s.seam.want = [] → t.seam.mine = none) ∧ (∃ y ∈ t.seam.subst, y.dir = .down ∧ y.slv = k ∧ y.lane = lane ∧ y.reason = reason ∧
        y.slot = s.seam.dnSlot + c.after.setWidth 32) ∧ OnlyChanges [.seam, .outs, .slp] s t := by
  let y : SubstSw := { dir := .down, slv := k, lane := lane, reason := reason, slot := s.seam.dnSlot + c.after.setWidth 32 }
  let w := forgiven (.subst k lane reason) (fixSubst y (sawCtl p s))
  have frame : OnlyChanges [.seam] s w :=
    (((onlyChanges_sawCtl p s).trans (onlyChanges_modSeam _ _)).trans (onlyChanges_forgiven _ _)).mono (by decide)
  obtain ⟨isOver, only⟩ := endEx_settled (w := w) frame rfl hs
  refine runs_functional (u := endEx w) (fun _ => rfl) h.functional ((takeCtl_good h good ht _).trans ?_) ⟨isOver, ⟨y, ?_, ?_⟩, only⟩
  · rw [exOf_sawCtl p mine id, kind]
    rfl
  · have subst : (settle (endEx w)).seam.subst = w.seam.subst := (exOnly_endEx w).subst
    rw [subst]
    exact List.mem_append_right _ (List.mem_singleton_self y)
  · exact ⟨rfl, rfl, rfl, rfl, rfl⟩

/-- The retirement of a sleeve fixed for a downstream slot. -/
def fixRetire (k : SleeveNo) (slot : BitVec 32) (s : State) : State :=
  modSeam (fun m => { m with retireAt := m.retireAt.filter (·.1 != k) ++ [(k, none, some slot)] }) s

theorem runs_retireAck {k : SleeveNo} (h : Ctl slv line p c s) (good : c.malformed = false) (ht : c.type = 0x04)
    (mine : s.seam.mine = some x) (id : x.xid = c.xid) (kind : x.kind = .retire k) (hs : Settled s) :
    Runs (.retireAck ⟨slv, line⟩) s fun t =>
      (s.seam.want = [] → t.seam.mine = none) ∧ (k, none, some (s.seam.dnSlot + c.after.setWidth 32)) ∈ t.seam.retireAt ∧
        OnlyChanges [.seam, .outs, .slp] s t := by
  let w := forgiven (.retire k) (fixRetire k (s.seam.dnSlot + c.after.setWidth 32) (sawCtl p s))
  have frame : OnlyChanges [.seam] s w :=
    (((onlyChanges_sawCtl p s).trans (onlyChanges_modSeam _ _)).trans (onlyChanges_forgiven _ _)).mono (by decide)
  obtain ⟨isOver, only⟩ := endEx_settled (w := w) frame rfl hs
  refine runs_functional (u := endEx w) (fun _ => rfl) h.functional ((takeCtl_good h good ht _).trans ?_) ⟨isOver, ?_, only⟩
  · rw [exOf_sawCtl p mine id, kind]
    rfl
  · have retireAt : (settle (endEx w)).seam.retireAt = w.seam.retireAt := (exOnly_endEx w).retireAt
    rw [retireAt]
    exact List.mem_append_right _ (List.mem_singleton_self _)

/-- The downstream switch of the width change in progress fixed for a slot. -/
def fixWidth (w : WidthChange) (slot : BitVec 32) (s : State) : State :=
  modSeam (fun m => { m with width := some { w with acked := true, dnSlot := some slot } }) s

theorem runs_widthAck {m : Byte} {w : WidthChange} (h : Ctl slv line p c s) (good : c.malformed = false) (ht : c.type = 0x06)
    (mine : s.seam.mine = some x) (id : x.xid = c.xid) (kind : x.kind = .width m) (width : s.seam.width = some w)
    (own : w.mine = true) (hs : Settled s) :
    Runs (.widthAck ⟨slv, line⟩) s fun t =>
      t.seam.width = some { w with acked := true, dnSlot := some (s.seam.dnSlot + c.after.setWidth 32) } ∧
        (∃ more, t.seam.ctlOut = s.seam.ctlOut ++ ctlFlit 0x07 x.xid 0 0 0 m 0 s.switchAfter :: more) ∧
        (s.seam.want = [] → t.seam.mine = none) ∧ OnlyChanges [.seam, .outs, .slp] s t := by
  let fixed := fixWidth w (s.seam.dnSlot + c.after.setWidth 32) (sawCtl p s)
  let u := queueCtl (ctlFlit 0x07 x.xid 0 0 0 m 0 s.switchAfter) fixed
  have frame : OnlyChanges [.seam] s u :=
    (((onlyChanges_sawCtl p s).trans (onlyChanges_modSeam _ _)).trans (exOnly_queueCtl _ _).onlyChanges).mono (by decide)
  obtain ⟨isOver, only⟩ := endEx_settled (w := u) frame rfl hs
  have ended := exOnly_endEx u
  have saw : (sawCtl p s).seam.width = some w := width
  refine runs_functional (u := endEx u) (fun _ => rfl) h.functional ((takeCtl_good h good ht _).trans ?_) ⟨?_, ?_, isOver, only⟩
  · rw [exOf_sawCtl p mine id, kind, saw, ← id]
    exact if_pos own
  · exact ended.width
  · obtain ⟨more, out⟩ := ended.ctlOut
    exact ⟨more, out.trans (List.append_assoc _ _ _)⟩

theorem runs_widthCfm {w : WidthChange} (h : Ctl slv line p c s) (good : c.malformed = false) (ht : c.type = 0x07)
    (width : s.seam.width = some w) (theirs : w.mine = false) (acked : w.acked = true) (id : w.xid = c.xid) (hs : Settled s) :
    Runs (.widthCfm ⟨slv, line⟩) s fun t =>
      t.seam = { s.seenCtl p with width := some { w with dnSlot := some (s.seam.dnSlot + c.after.setWidth 32) } } ∧
        OnlyChanges [.seam, .outs, .slp] s t := by
  let fixed (s : State) : State :=
    modSeam (fun m => { m with width := some { w with dnSlot := some (s.seam.dnSlot + c.after.setWidth 32) } }) s
  have saw : (sawCtl p s).seam.width = some w := width
  refine runs_functional (u := fixed (sawCtl p s)) (fun _ => rfl) h.functional ((takeCtl_good h good ht _).trans ?_) ⟨rfl, ?_⟩
  · rw [saw]
    exact if_pos (by simp [theirs, acked, id])
  · exact (onlyChanges_settle_of ((onlyChanges_sawCtl p s).trans (onlyChanges_modSeam _ _)) hs (by decide)).mono (by decide)

end

/-- Settles O29: each answer fixes its slot before the next exchange begins, and beginning that leaves the slot. -/
theorem stationAnswersFixSlots : Obligations.StationAnswersFixSlots :=
  ⟨fun _ _ _ _ _ _ _ _ _ h good ht mine id kind hs => runs_substAck h good ht mine id kind hs,
    fun _ _ _ _ _ _ _ h good ht mine id kind hs => runs_retireAck h good ht mine id kind hs,
    fun _ _ _ _ _ _ _ _ h good ht mine id kind width own hs => runs_widthAck h good ht mine id kind width own hs,
    fun _ _ _ _ _ _ h good ht width theirs acked id hs => runs_widthCfm h good ht width theirs acked id hs⟩

end Sys2Proof.Machine
end

section
/-!
SUPPORT. Commands that complete, and the ends of width changes, sleeps and wakes (R92 to R96, R317, R335, R373, R387).
-/
namespace Sys2Proof.Machine

/-! ## Commands that complete -/

/-- What the end of a command touches: the command's slot, its reply, and flags. -/
def endParts : List Part := [.vtx, .sbx, .lnk, .regs, .flt]

theorem onlyChanges_lnk (l : Lnk) (s : State) : OnlyChanges [.lnk] s { s with lnk := l } := by
  intro p hp
  cases p <;> simp_all [Part.same]

theorem onlyChanges_vtx (v : Vtx) (s : State) : OnlyChanges [.vtx] s { s with vtx := v } := by
  intro p hp
  cases p <;> simp_all [Part.same]

theorem onlyChanges_pcm (p : Pcm) (s : State) : OnlyChanges [.pcm] s { s with pcm := p } := by
  intro p hp
  cases p <;> simp_all [Part.same]

theorem onlyChanges_queuePacket (t : Nat) (bs : List Byte) (s : State) : OnlyChanges [.lnk] s (queuePacket t bs s) := by
  obtain e | e := queuePacket_cases t bs s
  · rw [e]
    exact (OnlyChanges.refl s).mono (by decide)
  · rw [e]
    exact onlyChanges_lnk _ s

theorem onlyChanges_commitNow (s : State) : OnlyChanges [.sbx] s (commitNow s) := by
  intro p hp
  cases p <;> simp_all [Part.same, commitNow]

theorem keeps_vtx (v : Vtx) (s : State) : Keeps [] endParts [] s { s with vtx := v } :=
  ((onlyChanges_vtx v s).keeps (by decide) (by decide) (by decide)).mono (by decide) (by decide) (by decide)

theorem keeps_dropWait (r : CmdRef) (s : State) : Keeps [] endParts [] s (dropWait r s) := keeps_vtx _ s

theorem keeps_commitNow (s : State) : Keeps [] endParts [] s (commitNow s) :=
  ((onlyChanges_commitNow s).keeps (by decide) (by decide) (by decide)).mono (by decide) (by decide) (by decide)

/-- A flag set by the end of a command. -/
theorem keeps_endRaise {c : Cause} (hc : c ∈ causes) (d : BitVec 80) (s : State) : Keeps [] endParts [] s (raise c d s) :=
  (keeps_raise hc d s).mono (by decide) (by decide) (by decide)

theorem keeps_authFail (c : List Byte) (status : BitVec 16) (s : State) : Keeps [] endParts [] s (authFail c status s) :=
  .ite (fun _ => keeps_endRaise (by decide) _ s) fun _ => .self _ _ _ s

theorem keeps_cplPush (t : BitVec 16) (s : State) : Keeps [] endParts [] s (cplPush t s) :=
  .ite (fun _ => keeps_vtx _ s) fun _ => keeps_endRaise (by decide) _ s

theorem keeps_sendReply (c : Ctx) (s : State) : Keeps [] endParts [] s (sendReply c s) := by
  by_cases ticket : s.t0Ticket = true
  · simp only [sendReply, sendT0, if_pos ticket]
    exact ((onlyChanges_queuePacket _ _ s).keeps (by decide) (by decide) (by decide)).mono (by decide) (by decide) (by decide)
  · simp only [sendReply, sendT0, if_neg ticket]
    exact keeps_endRaise (by decide) _ s

theorem keeps_completeNow (r : CmdRef) (status : BitVec 16) (data : List Byte) (s : State) :
    Keeps [] endParts [] s (completeNow r status data s) := by
  cases r with
  | tag t =>
    dsimp only [completeNow]
    split
    next sl _ =>
      refine .ite (fun _ => ?_) fun _ => .self _ _ _ s
      exact ((((keeps_vtx _ s).step (keeps_dropWait _ _)).step (keeps_cplPush _ _)).step (keeps_commitNow _)).step
        ((keeps_endRaise (by decide) _ _).step (keeps_authFail _ _ _))
    next => exact .self _ _ _ s
  | context n =>
    dsimp only [completeNow]
    split
    next c _ =>
      refine .ite (fun _ => ?_) fun _ => .self _ _ _ s
      exact ((((keeps_vtx _ s).step (keeps_dropWait _ _)).step (keeps_commitNow _)).step (keeps_sendReply _ _)).step
        (keeps_authFail _ _ _)
    next => exact .self _ _ _ s

theorem keeps_complete (r : CmdRef) (status : BitVec 16) (data : List Byte) (s : State) :
    Keeps [] endParts [] s (complete r status data s) :=
  .ite (fun _ => keeps_completeNow r status data s) fun _ => .self _ _ _ s

theorem keeps_wake (w : Wait) (status : BitVec 16) (data : List Byte) (s : State) : Keeps [] endParts [] s (wake w status data s) :=
  keeps_foldl (fun s (x : CmdRef × Wait) => keeps_complete x.1 status data s) _ s

/-! ## Repairs taken up again -/

theorem repairs_foldl {α : Type} {f : State → α → State} (h : ∀ s x, Repairs s (f s x)) (l : List α) (s : State) :
    Repairs s (l.foldl f s) := by
  induction l generalizing s with
  | nil => exact Repairs.refl s
  | cons x xs ih => exact (h s x).trans (ih (f s x))

theorem repairs_repairAgain (s : State) : Repairs s (repairAgain s) := by
  refine repairs_foldl (fun s k => ?_) _ s
  dsimp only
  split
  · exact repairs_wantRetire k s
  · exact repairs_foldl (fun s j => repairs_repairLane k j s) _ s

/-! ## Fields of registers written -/

theorem fld_putField_same (x : Word) {lo n : Nat} (fits : lo + n ≤ 32) (v : Nat) : fld (putField x lo n v) lo n = v % 2 ^ n := by
  have bits : (putField x lo n v).extractLsb' lo n = BitVec.ofNat n v := by
    apply BitVec.eq_of_getLsbD_eq
    intro i hi
    have place : lo + i < 32 := by omega
    have i_lt : i < 32 := by omega
    have below : ¬lo + i < lo := by omega
    simp only [putField, BitVec.getLsbD_extractLsb', BitVec.getLsbD_or, BitVec.getLsbD_and, BitVec.getLsbD_not, BitVec.getLsbD_shiftLeft,
      BitVec.getLsbD_ofNat, Nat.testBit_two_pow_sub_one, Nat.testBit_mod_two_pow, Nat.add_sub_cancel_left, hi, place, below, i_lt,
      decide_true, decide_false, Bool.not_false, Bool.not_true, Bool.true_and, Bool.and_true, Bool.and_false, Bool.false_or]
  rw [fld, bits, BitVec.toNat_ofNat]

theorem fld_setFld_same (s : State) {f : Field} (fits : f.lo + f.n ≤ 32) (v : Nat) : (s.setFld f v).fld f = v % 2 ^ f.n := by
  rw [State.fld, reg_setFld_same]
  exact fld_putField_same _ fits v

/-! ## Sleeps, wakes and widths that end -/

/-- What the end of a width change touches. -/
def widthParts : List Part := [.vtx, .sbx, .lnk, .regs, .flt, .pcm, .seam, .tlr, .slp, .free]

/-- The registers that the end of a width change writes, besides those of causes. -/
def widthRegs : List Nat := [R.PCM_CTRL, R.SEAM_WIDTH_CTRL]

theorem keeps_setPcmFld {f : Field} (reg : f.reg = R.PCM_CTRL) (v : Nat) (s : State) : Keeps [R.PCM_CTRL] [.regs] [] s (s.setFld f v) := by
  have := keeps_setFld (f := f) (reg ▸ pcm_ctrl_plain) v s
  rwa [reg] at this

theorem keeps_pcm (p : Pcm) (s : State) : Keeps [] [.pcm] [] s { s with pcm := p } :=
  (onlyChanges_pcm p s).keeps (by decide) (by decide) (by decide)

theorem keeps_sleepEnds (status : BitVec 16) (s : State) : Keeps [R.PCM_CTRL] (.pcm :: endParts) [] s (sleepEnds status s) :=
  (((keeps_setPcmFld rfl 0 s).trans (keeps_pcm _ _)).trans (keeps_wake .sleep status [] _)).mono (by decide) (by decide) (by decide)

/-- The result of a width change stands in its register, and one that is none of success sets WIDTH_REFUSED. -/
def resultNoted (r : Nat) (s : State) : State :=
  let s := s.setFld F.SEAM_WIDTH_CTRL.RESULT r
  if r = 0 then s else raiseSeam C.SEAM.WIDTH_REFUSED s

theorem keeps_resultNoted (r : Nat) (s : State) : Keeps [R.SEAM_WIDTH_CTRL] [.regs, .flt] [] s (resultNoted r s) := by
  have set := (keeps_setFld (f := F.SEAM_WIDTH_CTRL.RESULT) seam_width_ctrl_plain r s).mono
    (bs := [R.SEAM_WIDTH_CTRL]) (ps' := [.regs, .flt]) (qs' := []) (by decide) (by decide) (by decide)
  refine .ite (fun _ => set) fun _ => set.step ?_
  exact (keeps_raise (by decide) _ _).mono (by decide) (by decide) (by decide)

/-- What follows the noting of a result. -/
def resultTold (r : Nat) (s : State) : State :=
  let s := wake .width (widthStatus r) s.usableByte s
  if r != 0 && s.pcm.st == .sleeping then sleepEnds (widthStatus r) (raise C.PCM.SLEEP_REFUSED (detPcm s) s) else s

theorem widthResult_eq (r : Nat) (s : State) : widthResult r s = resultTold r (resultNoted r s) := rfl

theorem keeps_resultTold (r : Nat) (s : State) : Keeps [R.PCM_CTRL] (.pcm :: endParts) [] s (resultTold r s) := by
  have told := (keeps_wake .width (widthStatus r) s.usableByte s).mono (bs := [R.PCM_CTRL]) (ps' := .pcm :: endParts) (qs' := [])
    (by decide) (by decide) (by decide)
  refine .ite (fun _ => told.step ?_) fun _ => told
  exact ((keeps_raise (by decide) _ _).trans (keeps_sleepEnds _ _)).mono (by decide) (by decide) (by decide)

theorem keeps_widthResult (r : Nat) (s : State) : Keeps widthRegs (.pcm :: endParts) [] s (widthResult r s) := by
  rw [widthResult_eq]
  exact ((keeps_resultNoted r s).trans (keeps_resultTold r _)).mono (by decide) (by decide) (by decide)

theorem keeps_wakeWidened (r : Nat) (s : State) : Keeps [R.PCM_CTRL] endParts [] s (wakeWidened r s) := by
  refine .ite (fun _ => ?_) fun _ => .self _ _ _ s
  exact ((keeps_setPcmFld rfl 0 s).trans (keeps_wake _ _ _ _)).mono (by decide) (by decide) (by decide)

/-- The power manager at the end of a wake (R373). -/
def wokenUp (s : State) : State := { s with pcm := { s.pcm with
  st := .awake, joining := false, duration := BitVec.ofNat 24 (min (2 ^ 24 - 1) (s.aoCycles - s.pcm.wakeFrom)), lastDyn := s.now,
  windowAt := s.now, useUp := 0, capUp := 0, useDn := 0, capDn := 0 } }

/-- The announcement of the end of a wake: WOKE, and the commands that wait for it. -/
def wakeTold (s : State) : State :=
  let s := raise C.PCM.WOKE 0 (s.setFld F.PCM_CTRL.WAKE 0)
  wake .wake 0 s.usableByte s

theorem finishWake_eq (s : State) : finishWake s = nextEx (repairAgain (wakeTold (wokenUp s))) := rfl

theorem keeps_wokenUp (s : State) : Keeps [] [.pcm] [] s (wokenUp s) := keeps_pcm _ s

theorem keeps_wakeTold (s : State) : Keeps [R.PCM_CTRL] endParts [] s (wakeTold s) :=
  (((keeps_setPcmFld rfl 0 s).trans (keeps_raise (by decide) _ _)).trans (keeps_wake _ _ _ _)).mono (by decide) (by decide) (by decide)

theorem keeps_repairs {s t : State} (h : Repairs s t) : Keeps [R.PCM_CTRL] widthParts repairSeam s t :=
  h.keeps.mono (by decide) (by decide) (by decide)

theorem keeps_finishWake (s : State) : Keeps [R.PCM_CTRL] widthParts repairSeam s (finishWake s) := by
  rw [finishWake_eq]
  have told := ((keeps_wokenUp s).trans (keeps_wakeTold _)).mono (bs := [R.PCM_CTRL]) (ps' := widthParts) (qs' := repairSeam)
    (by decide) (by decide) (by decide)
  exact (told.step (keeps_repairs (repairs_repairAgain _))).step (keeps_repairs (exOnly_nextEx _).repairs)

/-- After a wake's end the block is awake, with WOKE. -/
theorem finishWake_woke (s : State) : (finishWake s).pcm.st = .awake ∧ Raised C.PCM.WOKE (finishWake s) := by
  have again := repairs_repairAgain (wakeTold (wokenUp s))
  have next := exOnly_nextEx (repairAgain (wakeTold (wokenUp s)))
  have rest := (again.trans next.repairs).keeps
  have told : (wakeTold (wokenUp s)).pcm = (wokenUp s).pcm := (keeps_wakeTold (wokenUp s)).frame .pcm (by decide)
  refine ⟨?_, ?_⟩
  · rw [finishWake_eq]
    exact (congrArg Pcm.st ((rest.frame .pcm (by decide)).trans told)).trans rfl
  · rw [finishWake_eq]
    exact rest.notes.1 _ (by decide) ((keeps_wake _ _ _ _).notes.1 _ (by decide) (raised_raise_self (by decide) _ _))

/-- The width change gone, with the exchanges for it and the power of sleeves that did not join. -/
def widthGone (r : Nat) (w : WidthChange) (s : State) : State :=
  let isWidth (k : ExKind) : Bool := match k with | .width _ => true | _ => false
  modSeam (fun m => { m with
    width := none
    want := m.want.filter fun k => !isWidth k
    mine := m.mine.filter fun x => !isWidth x.kind
    powered := if r = 0 then m.powered else m.powered &&& ~~~(w.added &&& ~~~m.usable) }) s

/-- The end of a width change told to those who asked for it. -/
def widthTold (r : Nat) (w : WidthChange) (s : State) : State :=
  let s := if w.mine then widthResult r s else s
  if r = 0 || (w.mine && w.byPcm) then wakeWidened r s else s

/-- A wake whose sleeves were being added is complete. -/
def wakeJoined (s : State) : State := if s.pcm.st == .waking && s.pcm.joining then finishWake s else s

theorem endWidth_none {s : State} (h : s.seam.width = none) (r : Nat) : endWidth r s = s := by
  rw [endWidth, h]

theorem endWidth_some {s : State} {w : WidthChange} (h : s.seam.width = some w) (r : Nat) :
    endWidth r s = wakeJoined (widthTold r w (widthGone r w s)) := by
  rw [endWidth, h]
  rfl

theorem onlySeam_widthGone (r : Nat) (w : WidthChange) (s : State) :
    OnlySeam [.width, .want, .mine, .powered] s (widthGone r w s) := by
  intro p hp
  cases p <;> simp_all [SeamPart.same, widthGone]

theorem keeps_widthGone (r : Nat) (w : WidthChange) (s : State) :
    Keeps [] [.seam] [.width, .want, .mine, .powered] s (widthGone r w s) :=
  (onlySeam_widthGone r w s).keeps (onlyChanges_modSeam _ s)

theorem keeps_widthTold (r : Nat) (w : WidthChange) (s : State) : Keeps widthRegs (.pcm :: endParts) [] s (widthTold r w s) := by
  have told : Keeps widthRegs (.pcm :: endParts) [] s (if w.mine then widthResult r s else s) :=
    .ite (fun _ => keeps_widthResult r s) fun _ => .self _ _ _ s
  exact .ite (fun _ => told.step ((keeps_wakeWidened r _).mono (by decide) (by decide) (by decide))) fun _ => told

theorem keeps_wakeJoined (s : State) : Keeps [R.PCM_CTRL] widthParts repairSeam s (wakeJoined s) :=
  .ite (fun _ => keeps_finishWake s) fun _ => .self _ _ _ s

/-- The fields of the seam that the end of a width change touches. -/
def widthSeam : List SeamPart := .width :: .powered :: repairSeam

theorem keeps_endWidth (r : Nat) (s : State) : Keeps widthRegs widthParts widthSeam s (endWidth r s) := by
  cases h : s.seam.width with
  | none =>
    rw [endWidth_none h]
    exact .self _ _ _ s
  | some w =>
    rw [endWidth_some h]
    exact (((keeps_widthGone r w s).trans (keeps_widthTold r w _)).trans (keeps_wakeJoined _)).mono (by decide) (by decide) (by decide)

theorem width_endWidth (r : Nat) (s : State) : (endWidth r s).seam.width = none := by
  cases h : s.seam.width with
  | none => rw [endWidth_none h, h]
  | some w =>
    rw [endWidth_some h]
    exact ((keeps_widthTold r w _).trans (keeps_wakeJoined _)).seam .width (by decide)

/-! ## A width change of the block's own that fails -/

theorem fld_resultNoted {r : Nat} (small : r < 256) (s : State) : (resultNoted r s).fld F.SEAM_WIDTH_CTRL.RESULT = r := by
  have set : (s.setFld F.SEAM_WIDTH_CTRL.RESULT r).fld F.SEAM_WIDTH_CTRL.RESULT = r :=
    (fld_setFld_same s (by decide) r).trans (Nat.mod_eq_of_lt small)
  dsimp only [resultNoted]
  split
  · exact set
  · exact ((notes_raise (by decide) _ _).fld seam_width_ctrl_plain (by decide)).trans set

/-- The result and the flag of a width change that fails. -/
def Fails (r : Nat) (t : State) : Prop := Raised C.SEAM.WIDTH_REFUSED t ∧ t.fld F.SEAM_WIDTH_CTRL.RESULT = r

/-- What leaves the register of the width leaves a result. -/
theorem Fails.keeps {as : List Nat} {ps : List Part} {qs : List SeamPart} {r : Nat} {s t : State} (f : Fails r s)
    (k : Keeps as ps qs s t) (other : R.SEAM_WIDTH_CTRL ∉ as) : Fails r t :=
  ⟨k.notes.1 _ (by decide) f.1, (k.notes.fld seam_width_ctrl_plain other).trans f.2⟩

theorem fails_widthResult {r : Nat} (small : r < 256) (bad : r ≠ 0) (s : State) : Fails r (widthResult r s) := by
  have noted : Fails r (resultNoted r s) := by
    refine ⟨?_, fld_resultNoted small s⟩
    rw [resultNoted, if_neg bad]
    exact raised_raise_self (by decide) _ _
  rw [widthResult_eq]
  exact noted.keeps (keeps_resultTold r _) (by decide)

theorem fails_endWidth {r : Nat} {s : State} {w : WidthChange} (small : r < 256) (bad : r ≠ 0) (width : s.seam.width = some w)
    (own : w.mine = true) : Fails r (endWidth r s) := by
  have told : Fails r (widthTold r w (widthGone r w s)) := by
    have result := fails_widthResult small bad (widthGone r w s)
    dsimp only [widthTold]
    rw [if_pos own]
    split
    · exact result.keeps (keeps_wakeWidened r _) (by decide)
    · exact result
  rw [endWidth_some width]
  exact told.keeps (keeps_wakeJoined _) (by decide)

end Sys2Proof.Machine
end

section
/-!
SUPPORT. Width changes that begin, wait and fail, and the scrambler phase of sleeves that are added (R75, R89, R91 to R94).
-/
namespace Sys2Proof.Machine

/-! ## The exchange asked for -/

/-- An exchange goes on, or waits for its turn. -/
def Asked (k : ExKind) (s : State) : Prop := s.seam.mine.map (·.kind) = some k ∨ k ∈ s.seam.want

/-- The first exchange that is due leaves behind it the others that are. -/
theorem firstDue_keeps {k : ExKind} {s : State} (due : s.dueAs k = some k) (free : k ∉ s.seam.refused) {l : List ExKind} (mem : k ∈ l) :
    ∃ x rest, s.firstDue l = some (x, rest) ∧ (x = k ∨ k ∈ rest) := by
  have taken : ¬s.seam.refused.contains k = true := by simpa using free
  induction l with
  | nil => exact absurd mem (by simp)
  | cons y ys ih =>
    rcases List.mem_cons.mp mem with rfl | behind
    · exact ⟨k, ys, by simp only [State.firstDue, due, if_neg taken], .inl rfl⟩
    · match e : s.dueAs y with
      | none =>
        obtain ⟨x, rest, first, h⟩ := ih behind
        exact ⟨x, rest, by simp only [State.firstDue, e, first], h⟩
      | some y' =>
        by_cases refused : s.seam.refused.contains y' = true
        · obtain ⟨x, rest, first, h⟩ := ih behind
          exact ⟨x, rest, by simp only [State.firstDue, e, if_pos refused, first], h⟩
        · exact ⟨y', ys, by simp only [State.firstDue, e, if_neg refused], .inr behind⟩

/-- An exchange that is due and has not been refused is not lost when the next one begins. -/
theorem asked_nextEx {k : ExKind} {s : State} (due : s.dueAs k = some k) (free : k ∉ s.seam.refused) (asked : Asked k s) :
    Asked k (nextEx s) := by
  by_cases busy : (s.seam.mine.isSome || !s.talks) = true
  · rwa [nextEx, if_pos busy]
  · have idle : s.seam.mine = none := by
      cases e : s.seam.mine with
      | none => rfl
      | some x => simp [e] at busy
    have waits : k ∈ s.seam.want := asked.resolve_left (by simp [idle])
    obtain ⟨x, rest, first, found⟩ := firstDue_keeps due free waits
    rw [nextEx, if_neg busy, first]
    rcases found with rfl | behind
    · exact .inl rfl
    · exact .inr behind

theorem asked_wantEx {k : ExKind} {s : State} (due : s.dueAs k = some k) (free : k ∉ s.seam.refused) : Asked k (wantEx k s) := by
  dsimp only [wantEx]
  split
  next dup =>
    simp only [Bool.or_eq_true, List.contains_iff_mem, beq_iff_eq] at dup
    rcases dup with (waits | refused) | runs
    · exact .inr waits
    · exact absurd refused free
    · exact .inl runs
  next =>
    refine asked_nextEx (s := modSeam _ s) due free (.inr ?_)
    simp only [modSeam]
    split <;> simp

/-! ## The power of a width change's sleeves, and its register -/

theorem permitted_setFld {f : Field} (other : f.reg ≠ R.SEAM_TEST_CTRL) (v : Nat) (s : State) :
    (s.setFld f v).permitted = s.permitted := by
  have sleeve : (s.setFld f v).fld F.SEAM_TEST_CTRL.SLEEVE = s.fld F.SEAM_TEST_CTRL.SLEEVE :=
    fld_setReg_other s F.SEAM_TEST_CTRL.SLEEVE f.reg _ other.symm
  simp only [State.permitted, State.testMask, sleeve, setFld_frame]

theorem maskFor_setFld {f : Field} (other : f.reg ≠ R.SEAM_TEST_CTRL) (v n : Nat) (s : State) :
    (s.setFld f v).maskFor n = s.maskFor n := by
  rw [State.maskFor, permitted_setFld other, State.maskFor]

theorem widthRefusal_setFld {f : Field} (other : f.reg ≠ R.SEAM_TEST_CTRL) (v target : Nat) (force : Bool) (s : State) :
    (s.setFld f v).widthRefusal target force = s.widthRefusal target force := by
  unfold State.widthRefusal
  rw [maskFor_setFld other]
  rfl

/-- A width change of the block's own, as it begins (R92 to R94). -/
def ownWidth (t : Byte) (byPcm : Bool) (s : State) : WidthChange :=
  { mine := true, byPcm := byPcm, target := t, xid := 0, added := t &&& ~~~s.seam.usable, phase := [],
    ready := t &&& ~~~s.seam.usable == 0, acked := false, upSlot := none, dnSlot := none, upDone := false, dnDone := false,
    since := s.mark }

/-- The state with a width change of the block's own begun, its flit not asked for yet. -/
def ownBegun (t : Byte) (byPcm : Bool) (s : State) : State :=
  modSeam (fun m => { m with
    width := some (ownWidth t byPcm s), powered := m.powered ||| (t &&& ~~~s.seam.usable)
    switchFrom := if t &&& ~~~s.seam.usable = 0 then m.switchFrom else s.mark }) (s.setFld F.SEAM_WIDTH_CTRL.RESULT 1)

theorem exOnly_startWidth (t : Byte) (byPcm : Bool) (s : State) : ExOnly (ownBegun t byPcm s) (startWidth t byPcm s) := by
  have eq : startWidth t byPcm s =
      if t &&& ~~~s.seam.usable = 0 then wantEx (.width t) (ownBegun t byPcm s) else ownBegun t byPcm s := rfl
  rw [eq]
  split
  · exact exOnly_wantEx _ _
  · exact ExOnly.refl _

theorem width_startWidth (t : Byte) (byPcm : Bool) (s : State) : (startWidth t byPcm s).seam.width = some (ownWidth t byPcm s) :=
  (exOnly_startWidth t byPcm s).width

theorem result_startWidth (t : Byte) (byPcm : Bool) (s : State) : (startWidth t byPcm s).fld F.SEAM_WIDTH_CTRL.RESULT = 1 :=
  ((exOnly_startWidth t byPcm s).keeps.notes.fld seam_width_ctrl_plain (by decide)).trans
    (fld_setFld_same s (f := F.SEAM_WIDTH_CTRL.RESULT) (by decide) 1)

/-- A width change that nothing refuses, and whose width is not in force, begins (R92). -/
theorem beginWidth_starts {target : Nat} {force : Bool} {s : State} (may : s.widthRefusal target force = 0)
    (new : s.maskFor target ≠ s.seam.usable) (byPcm : Bool) :
    beginWidth target force byPcm s = startWidth (s.maskFor target) byPcm (s.setFld F.SEAM_WIDTH_CTRL.GO 0) := by
  have other : F.SEAM_WIDTH_CTRL.GO.reg ≠ R.SEAM_TEST_CTRL := by decide
  have usable : (s.setFld F.SEAM_WIDTH_CTRL.GO 0).seam.usable = s.seam.usable := rfl
  simp only [beginWidth, widthRefusal_setFld other, maskFor_setFld other, may, usable, if_neg new, bne_self_eq_false,
    Bool.false_eq_true, if_false]

/-! ## WIDTH_GO -/

/-- The state with TARGET and FORCE written (R103). -/
def goWritten (data : Word) (s : State) : State :=
  (s.setFld F.SEAM_WIDTH_CTRL.TARGET (fld data 0 4)).setFld F.SEAM_WIDTH_CTRL.FORCE (fld data 4 1)

theorem seam_goWritten (data : Word) (s : State) : (goWritten data s).seam = s.seam := rfl

theorem widthCtrlWrite_idle {data : Word} {s : State} (go : data.getLsbD 8 = true) (idle : s.seam.width = none) :
    widthCtrlWrite data s = beginWidth (fld data 0 4) (data.getLsbD 4) false (goWritten data s) := by
  have none : (goWritten data s).seam.width.isSome = false := by rw [seam_goWritten, idle]; rfl
  exact (if_pos go).trans (if_neg (ne_true_of_eq_false none))

theorem widthCtrlWrite_busy {data : Word} {s : State} {w : WidthChange} (go : data.getLsbD 8 = true) (busy : s.seam.width = some w) :
    widthCtrlWrite data s = queueWidth (bits data 0 4) (data.getLsbD 4) (goWritten data s) := by
  have some : (goWritten data s).seam.width.isSome = true := by rw [seam_goWritten, busy]; rfl
  exact (if_pos go).trans (if_pos some)

/-- A write of the port that has its effect is answered (R49). -/
theorem portWrite_on {a : Nat} {row : Bool} {s : State} (write : row = true) (on : s.regOn a = true) (k : State → State) :
    portWrite a row k s = (k s).answer false := (if_pos write).trans (if_pos on)

theorem runs_widthGo_idle {data : Word} {s : State} (hf : s.functional = true) (on : s.regOn R.SEAM_WIDTH_CTRL = true)
    (go : data.getLsbD 8 = true) (idle : s.seam.width = none) (may : s.widthRefusal (fld data 0 4) (data.getLsbD 4) = 0)
    (new : s.maskFor (fld data 0 4) ≠ s.seam.usable) :
    Runs (.widthGo data) s fun t =>
      (t.seam.width.map fun w => (w.mine, w.byPcm, w.target)) = some (true, false, s.maskFor (fld data 0 4)) ∧
        t.fld F.SEAM_WIDTH_CTRL.RESULT = 1 ∧ t.outs.regAck = true ∧ t.outs.regErr = false := by
  have other : R.SEAM_WIDTH_CTRL ≠ R.SEAM_TEST_CTRL := by decide
  have mask : (goWritten data s).maskFor (fld data 0 4) = s.maskFor (fld data 0 4) :=
    (maskFor_setFld other _ _ _).trans (maskFor_setFld other _ _ s)
  have refusal : (goWritten data s).widthRefusal (fld data 0 4) (data.getLsbD 4) = 0 :=
    ((widthRefusal_setFld other _ _ _ _).trans (widthRefusal_setFld other _ _ _ s)).trans may
  have new' : (goWritten data s).maskFor (fld data 0 4) ≠ (goWritten data s).seam.usable := by rw [mask]; exact new
  let u := (goWritten data s).setFld F.SEAM_WIDTH_CTRL.GO 0
  have eq : widthCtrlWrite data s = startWidth (s.maskFor (fld data 0 4)) false u := by
    rw [widthCtrlWrite_idle go idle, beginWidth_starts refusal new', mask]
  refine runs_functional (u := (startWidth (s.maskFor (fld data 0 4)) false u).answer false) (fun _ => rfl) hf
    ((portWrite_on go on _).trans (by rw [eq])) ⟨?_, result_startWidth _ _ u, rfl, rfl⟩
  exact congrArg (Option.map _) (width_startWidth (s.maskFor (fld data 0 4)) false u)

/-- What stands queued is the last that was asked for, and the change in progress stays (R92). -/
theorem runs_widthGo_busy {data : Word} {s : State} {w : WidthChange} (hf : s.functional = true)
    (on : s.regOn R.SEAM_WIDTH_CTRL = true) (go : data.getLsbD 8 = true) (busy : s.seam.width = some w) :
    Runs (.widthGo data) s fun t =>
      t.seam.queued = some { target := bits data 0 4, force := data.getLsbD 4 } ∧ t.seam.width = some w := by
  let u := goWritten data s
  have told := keeps_wake .widthQueued 0x0255 u.usableByte u
  have width : (wake .widthQueued 0x0255 u.usableByte u).seam.width = s.seam.width := told.seam .width (by decide)
  exact runs_functional (u := (queueWidth (bits data 0 4) (data.getLsbD 4) u).answer false) (fun _ => rfl) hf
    ((portWrite_on go on _).trans (by rw [widthCtrlWrite_busy go busy])) ⟨rfl, width.trans busy⟩

theorem runs_widthGoDequeue {s : State} {q : QueuedGo} (hf : s.functional = true) (queued : s.seam.queued = some q)
    (idle : s.seam.width = none) (may : s.widthRefusal q.target.toNat q.force = 0)
    (new : s.maskFor q.target.toNat ≠ s.seam.usable) :
    Runs .widthGoDequeue s fun t =>
      t.seam.queued = none ∧ (t.seam.width.map fun w => (w.mine, w.target)) = some (true, s.maskFor q.target.toNat) := by
  let u := modSeam (fun m => { m with queued := none })
    { s with vtx := { s.vtx with waits := s.vtx.waits.map fun x => if x.2 == .widthQueued then (x.1, .width) else x } }
  have eq : dequeueWidth s = startWidth (s.maskFor q.target.toNat) false (u.setFld F.SEAM_WIDTH_CTRL.GO 0) := by
    have none : s.seam.width.isNone = true := by rw [idle]; rfl
    rw [dequeueWidth, queued]
    exact (if_pos none).trans (beginWidth_starts (s := u) may new false)
  have start := exOnly_startWidth (s.maskFor q.target.toNat) false (u.setFld F.SEAM_WIDTH_CTRL.GO 0)
  exact runs_functional (fun _ => rfl) hf eq ⟨start.onlySeam .queued (by decide),
    congrArg (Option.map _) (width_startWidth (s.maskFor q.target.toNat) false (u.setFld F.SEAM_WIDTH_CTRL.GO 0))⟩

/-! ## Added sleeves -/

/-- The added sleeves of a width change are ready. -/
def widthReady (w : WidthChange) (s : State) : State := modSeam (fun m => { m with width := some { w with ready := true } }) s

/-- What ADDED_SLEEVES_READY does. -/
def sleevesReady (s : State) : State :=
  match s.seam.width with
  | none => s
  | some w =>
    if w.ready || !((sleevesOf w.added).all fun k => s.phased w k) then s
    else if w.mine then wantEx (.width w.target) (widthReady w s) else ackWidth w.xid w.target (widthReady w s)

theorem exec_addedSleevesReady (s : State) : exec .addedSleevesReady s = whenFunctional s sleevesReady := rfl

theorem runs_addedSleevesReady {s : State} {w : WidthChange} (hf : s.functional = true) (width : s.seam.width = some w)
    (waits : w.ready = false) (hs : Settled s) (phased : ∀ k ∈ sleevesOf w.added, s.phased w k = true) :
    Runs .addedSleevesReady s fun t =>
      t.seam.width = some { w with ready := true } ∧
        (w.mine = false → t.seam.ctlOut = s.seam.ctlOut ++ [ctlFlit 0x06 w.xid 0 0 0 w.target 0 s.switchAfter]) ∧
        (w.mine = true → s.talks = true → .width w.target ∉ s.seam.refused →
          t.seam.mine.map (·.kind) = some (.width w.target) ∨ .width w.target ∈ t.seam.want) ∧
        OnlyChanges [.seam, .outs, .slp] s t := by
  have all : ¬(w.ready || !((sleevesOf w.added).all fun k => s.phased w k)) = true := by
    have : ((sleevesOf w.added).all fun k => s.phased w k) = true := List.all_eq_true.mpr phased
    simp [waits, this]
  have eq : sleevesReady s =
      if w.mine then wantEx (.width w.target) (widthReady w s) else ackWidth w.xid w.target (widthReady w s) := by
    rw [sleevesReady, width]
    exact if_neg all
  have ready : OnlyChanges [.seam] s (widthReady w s) := onlyChanges_modSeam _ s
  by_cases own : w.mine = true
  · have asks := exOnly_wantEx (.width w.target) (widthReady w s)
    refine runs_functional exec_addedSleevesReady hf (eq.trans (if_pos own))
      ⟨asks.width, fun theirs => absurd theirs (by simp [own]), fun _ _ free => ?_, ?_⟩
    · exact asked_wantEx (s := widthReady w s) rfl free
    · exact (onlyChanges_settle_of (ready.trans asks.onlyChanges) hs (by decide)).mono (by decide)
  · refine runs_functional exec_addedSleevesReady hf (eq.trans (if_neg own)) ⟨rfl, fun _ => rfl, fun mine => absurd mine own, ?_⟩
    exact (onlyChanges_settle_of (ready.trans (onlyChanges_ackWidth _ _ _)) hs (by decide)).mono (by decide)

/-- Before every lane has confirmed its phase the sleeves are not ready (R75, R94). -/
theorem runs_addedSleevesReady_early {s : State} {w : WidthChange} {k : SleeveNo} {j : Nat} (hf : s.functional = true)
    (width : s.seam.width = some w) (hs : Settled s) (mem : k ∈ sleevesOf w.added) (hj : j < 8) (few : w.slots (laneOf k j) < 4) :
    Runs .addedSleevesReady s fun t => t = s := by
  have missing : s.phased w k = false := by
    have : ((List.range 8).all fun j => decide (4 ≤ w.slots (laneOf k j))) = false :=
      List.all_eq_false.mpr ⟨j, List.mem_range.mpr hj, by simpa using few⟩
    rw [State.phased, this, Bool.and_false]
  have some : (!((sleevesOf w.added).all fun k => s.phased w k)) = true := by
    rw [Bool.not_eq_true']
    exact List.all_eq_false.mpr ⟨k, mem, by simp [missing]⟩
  have eq : sleevesReady s = s := by
    rw [sleevesReady, width]
    exact if_pos (by rw [some, Bool.or_true])
  exact runs_functional exec_addedSleevesReady hf eq (settle_eq_self hs)

/-! ## The scrambler phase of an added sleeve (R75) -/

/-- One lane's slot counted towards its phase, or its count begun again. -/
def countPhase (k : SleeveNo) (line : BitVec 2304) (s : State) (w : WidthChange) (j : Nat) : WidthChange :=
  if !s.fillerOn k j s.seam.dnSlot line then { w with phase := w.phase.filter (·.1 != laneOf k j) }
  else if w.phase.contains (laneOf k j, s.seam.dnSlot) || 4 ≤ w.slots (laneOf k j) then w
  else { w with phase := w.phase ++ [(laneOf k j, s.seam.dnSlot)] }

/-- The slots counted of one lane. -/
def WidthChange.phaseOf (w : WidthChange) (l : LaneNo) : List (LaneNo × BitVec 32) := w.phase.filter (·.1 == l)

theorem slots_eq (w : WidthChange) (l : LaneNo) : w.slots l = (w.phaseOf l).length := rfl

theorem mem_phaseOf (w : WidthChange) (l : LaneNo) (n : BitVec 32) : (l, n) ∈ w.phaseOf l ↔ (l, n) ∈ w.phase := by
  simp [WidthChange.phaseOf]

theorem laneOf_ne {k : SleeveNo} {i j : Nat} (hi : i < 8) (hj : j < 8) (ne : i ≠ j) : laneOf k i ≠ laneOf k j := by
  intro e
  have := congrArg BitVec.toNat e
  have := k.isLt
  simp only [laneOf, BitVec.toNat_ofNat] at *
  omega

section
variable {k : SleeveNo} {line : BitVec 2304} {s : State}

/-- Nothing of a change but its phase is touched by the count. -/
theorem countPhase_eq (w : WidthChange) (j : Nat) :
    countPhase k line s w j = { w with phase := (countPhase k line s w j).phase } := by
  unfold countPhase
  split
  · rfl
  · split <;> rfl

/-- The count of one lane leaves those of the others. -/
theorem phaseOf_countPhase_other {i j : Nat} (hi : i < 8) (hj : j < 8) (ne : i ≠ j) (w : WidthChange) :
    (countPhase k line s w i).phaseOf (laneOf k j) = w.phaseOf (laneOf k j) := by
  have lane : (laneOf k i == laneOf k j) = false := beq_eq_false_iff_ne.mpr (laneOf_ne hi hj ne)
  unfold countPhase
  split
  · simp only [WidthChange.phaseOf, List.filter_filter]
    refine List.filter_congr fun x _ => ?_
    by_cases this : x.1 = laneOf k j
    · simp [this, (laneOf_ne hi hj ne).symm]
    · simp [this]
  · split
    · rfl
    · simp [WidthChange.phaseOf, lane]

/-- What a slot does to the count of one lane: anything but filler begins it again, and filler of a slot not counted adds one, up to
four (R75). -/
def Counted (k : SleeveNo) (line : BitVec 2304) (s : State) (j : Nat) (w x : WidthChange) : Prop :=
  (s.fillerOn k j s.seam.dnSlot line = false → x.phaseOf (laneOf k j) = []) ∧
    (s.fillerOn k j s.seam.dnSlot line = true → (laneOf k j, s.seam.dnSlot) ∉ w.phase → w.slots (laneOf k j) < 4 →
      x.phaseOf (laneOf k j) = w.phaseOf (laneOf k j) ++ [(laneOf k j, s.seam.dnSlot)])

theorem counted_countPhase (w : WidthChange) (j : Nat) : Counted k line s j w (countPhase k line s w j) := by
  refine ⟨fun other => ?_, fun filler new few => ?_⟩
  · simp [countPhase, other, WidthChange.phaseOf]
  · simp [countPhase, filler, new, Nat.not_le.mpr few, WidthChange.phaseOf]

theorem foldl_countPhase_eq (w : WidthChange) (l : List Nat) :
    l.foldl (countPhase k line s) w = { w with phase := (l.foldl (countPhase k line s) w).phase } := by
  induction l generalizing w with
  | nil => rfl
  | cons j js ih =>
    rw [List.foldl_cons, ih, countPhase_eq]

/-- Over the lanes of a sleeve each is counted by its own slot alone. -/
theorem counted_foldl (w : WidthChange) {n j : Nat} (hn : n ≤ 8) (hj : j < 8) :
    let x := (List.range n).foldl (countPhase k line s) w
    (j < n → Counted k line s j w x) ∧ (n ≤ j → x.phaseOf (laneOf k j) = w.phaseOf (laneOf k j)) := by
  induction n with
  | zero => exact ⟨nofun, fun _ => rfl⟩
  | succ n ih =>
    obtain ⟨counted, untouched⟩ := ih (by omega)
    rw [List.range_succ, List.foldl_append]
    simp only [List.foldl_cons, List.foldl_nil]
    refine ⟨fun below => ?_, fun above => ?_⟩
    · by_cases this : j = n
      · subst this
        have before := untouched (Nat.le_refl _)
        obtain ⟨again, more⟩ := counted_countPhase (k := k) (line := line) (s := s) ((List.range j).foldl (countPhase k line s) w) j
        refine ⟨again, fun filler new few => ?_⟩
        rw [← before]
        refine more filler ?_ ?_
        · rwa [← mem_phaseOf, before, mem_phaseOf]
        · rwa [slots_eq, before]
      · have other := phaseOf_countPhase_other (k := k) (line := line) (s := s) (show n < 8 by omega) hj (Ne.symm this)
          ((List.range n).foldl (countPhase k line s) w)
        have := counted (by omega)
        rwa [Counted, other]
    · rw [phaseOf_countPhase_other (by omega) hj (by omega)]
      exact untouched (by omega)

/-- A slot on an added sleeve counts on each of its lanes. -/
theorem notePhase_added {w : WidthChange} (width : s.seam.width = some w) (waits : w.ready = false)
    (added : w.added.getLsbD k.toNat = true) :
    notePhase k line s = modSeam (fun m => { m with width := some ((List.range 8).foldl (countPhase k line s) w) }) s := by
  simp only [notePhase, width, waits, added, Bool.not_false, Bool.and_self, if_true]
  rfl

/-- A slot on a sleeve that is not usable is no flit (R75, R87). -/
theorem onFlit_unusable {kind : Nat} (off : s.seam.usable.getLsbD k.toNat = false) (lost : State → State)
    (take : BitVec 2048 → State → State) : onFlit kind k line lost take s = notePhase k line s :=
  if_pos (by rw [off]; rfl)

theorem runs_phase {w : WidthChange} {j : Nat} (hl : s.platLive = true) (width : s.seam.width = some w) (waits : w.ready = false)
    (hs : Settled s) (added : w.added.getLsbD k.toNat = true) (off : s.seam.usable.getLsbD k.toNat = false) (hj : j < 8) :
    Runs (.dataFlitReceive k line) s fun t =>
      (∃ x, t.seam.width = some x ∧ x = { w with phase := x.phase } ∧
        (s.fillerOn k j s.seam.dnSlot line = false → x.slots (laneOf k j) = 0) ∧
        (s.fillerOn k j s.seam.dnSlot line = true → (laneOf k j, s.seam.dnSlot) ∉ w.phase → w.slots (laneOf k j) < 4 →
          x.slots (laneOf k j) = w.slots (laneOf k j) + 1)) ∧ OnlyChanges [.seam, .outs, .slp] s t := by
  obtain ⟨again, more⟩ := (counted_foldl (k := k) (line := line) (s := s) w (Nat.le_refl 8) hj).1 hj
  refine runs_plat (fun _ => rfl) hl ((onFlit_unusable off _ _).trans (notePhase_added width waits added))
    ⟨⟨_, rfl, foldl_countPhase_eq w _, fun other => ?_, fun filler new few => ?_⟩, ?_⟩
  · rw [slots_eq, again other]
    rfl
  · rw [slots_eq, more filler new few, List.length_append]
    rfl
  · exact (onlyChanges_settle_of (onlyChanges_modSeam _ s) hs (by decide)).mono (by decide)

/-! ## Ends -/

/-- What WIDTH_LOCK_TIMEOUT does. -/
def lockTimedOut (s : State) : State :=
  match s.seam.width with
  | none => s
  | some w =>
    if w.ready then s
    else
      let s := s.lapse w.since 5000
      if w.mine then endWidth 6 s
      else
        let p := ctlFlit 0x08 w.xid 0 0 0 0 0x03 0
        endWidth 6 (queueCtl p (modSeam (fun m => { m with answered := some (0x05, w.xid, p) }) s))

theorem exec_widthLockTimeout (s : State) : exec .widthLockTimeout s = whenFunctional s lockTimedOut := rfl

theorem seam_lapse (m : Mark) (ns : Nat) (s : State) : (s.lapse m ns).seam = s.seam := onlyChanges_lapse m ns s .seam (by decide)

/-- The station's change ended with no wake in progress only leaves the seam (R94). -/
theorem endWidth_theirs {r : Nat} {w : WidthChange} (bad : r ≠ 0) (width : s.seam.width = some w) (theirs : w.mine = false)
    (alone : s.pcm.joining = false) : endWidth r s = widthGone r w s := by
  have told : widthTold r w (widthGone r w s) = widthGone r w s := by simp [widthTold, theirs, bad]
  have joining : (widthGone r w s).pcm.joining = false := alone
  rw [endWidth_some width, told, wakeJoined, joining, Bool.and_false]
  rfl

/-- The NAK of the station's change whose added sleeves were not ready (R82, R94). -/
def lockNak (w : WidthChange) (s : State) : State :=
  queueCtl (nakFlit w.xid 0x03) (modSeam (fun m => { m with answered := some (0x05, w.xid, nakFlit w.xid 0x03) }) s)

theorem lockTimedOut_theirs {w : WidthChange} (width : s.seam.width = some w) (waits : w.ready = false) (theirs : w.mine = false)
    (alone : s.pcm.joining = false) : lockTimedOut s = widthGone 6 w (lockNak w (s.lapse w.since 5000)) := by
  have lapse := onlyChanges_lapse w.since 5000 s
  have eq : lockTimedOut s = endWidth 6 (lockNak w (s.lapse w.since 5000)) := by
    simp only [lockTimedOut, width, waits, theirs, Bool.false_eq_true, if_false]
    rfl
  have there : (lockNak w (s.lapse w.since 5000)).seam.width = some w :=
    (congrArg Seam.width (lapse .seam (by decide))).trans width
  have joining : (lockNak w (s.lapse w.since 5000)).pcm.joining = false :=
    (congrArg Pcm.joining (lapse .pcm (by decide))).trans alone
  rw [eq, endWidth_theirs (by decide) there theirs joining]

/-- What the seam and the time are after the NAK and the end of the station's change. -/
theorem lockNak_gone (r : Nat) (w : WidthChange) (s : State) :
    (settle (widthGone r w (lockNak w s))).seam.width = none ∧
      (settle (widthGone r w (lockNak w s))).seam.ctlOut = s.seam.ctlOut ++ [nakFlit w.xid 0x03] ∧
      (settle (widthGone r w (lockNak w s))).now = s.now ∧ OnlyChanges [.seam] s (widthGone r w (lockNak w s)) :=
  ⟨rfl, rfl, rfl, (((onlyChanges_modSeam _ s).trans (onlyChanges_modSeam _ _)).trans (onlyChanges_modSeam _ _)).mono (by decide)⟩

theorem runs_widthLockTimeout_theirs {w : WidthChange} (hf : s.functional = true) (width : s.seam.width = some w)
    (waits : w.ready = false) (theirs : w.mine = false) (alone : s.pcm.joining = false) (hs : Settled s) :
    Runs .widthLockTimeout s fun t =>
      t.seam.width = none ∧ t.seam.ctlOut = s.seam.ctlOut ++ [nakFlit w.xid 0x03] ∧ (s.byAo = false → w.since.rail + 5000 ≤ t.now) ∧
        OnlyChanges [.seam, .rwt, .aoCycles, .outs, .slp] s t := by
  obtain ⟨none, out, now, frame⟩ := lockNak_gone 6 w (s.lapse w.since 5000)
  refine runs_functional exec_widthLockTimeout hf (lockTimedOut_theirs width waits theirs alone) ⟨none, ?_, fun rail => ?_, ?_⟩
  · rw [out, seam_lapse]
  · rw [now]
    exact le_now_lapse rail w.since 5000
  · exact (onlyChanges_settle_of ((onlyChanges_lapse w.since 5000 s).trans frame) hs (by decide)).mono (by decide)

theorem runs_widthLockTimeout_own {w : WidthChange} (hf : s.functional = true) (width : s.seam.width = some w)
    (waits : w.ready = false) (own : w.mine = true) :
    Runs .widthLockTimeout s fun t =>
      t.seam.width = none ∧ Raised C.SEAM.WIDTH_REFUSED t ∧ t.fld F.SEAM_WIDTH_CTRL.RESULT = 6 := by
  let u := s.lapse w.since 5000
  have eq : lockTimedOut s = endWidth 6 u := by
    simp only [lockTimedOut, width, waits, own, Bool.false_eq_true, if_false, if_true]
    rfl
  have there : u.seam.width = some w := (congrArg Seam.width (seam_lapse _ _ s)).trans width
  obtain ⟨refused, result⟩ := fails_endWidth (r := 6) (by decide) (by decide) there own
  exact runs_functional exec_widthLockTimeout hf eq ⟨width_endWidth 6 u, raised_settle.mpr refused, result⟩

/-- The counts of the window of R89 begin again. -/
def windowCleared (s : State) : State := modSeam (fun m => { m with crcWin := Vector.replicate 8 0 }) s

theorem windowCleared_settled (s : State) :
    (settle (windowCleared s)).seam = { s.seam with crcWin := Vector.replicate 8 0 } ∧ (settle (windowCleared s)).now = s.now ∧
      OnlyChanges [.seam] s (windowCleared s) := ⟨rfl, rfl, onlyChanges_modSeam _ s⟩

/-- The window of R89 ends at the next multiple of 1 ms. -/
theorem runs_crcWindowEnd (hf : s.functional = true) (hs : Settled s) :
    Runs .crcWindowEnd s fun t =>
      t.seam = { s.seam with crcWin := Vector.replicate 8 0 } ∧ t.now % 1000000 = 0 ∧ s.now < t.now ∧
        OnlyChanges [.seam, .rwt, .aoCycles, .outs, .slp] s t := by
  have reach := onlyChanges_reach ((s.now / 1000000 + 1) * 1000000) s
  have now := now_reach ((s.now / 1000000 + 1) * 1000000) s
  obtain ⟨seam, same, frame⟩ := windowCleared_settled (s.reach ((s.now / 1000000 + 1) * 1000000))
  refine runs_functional (u := windowCleared (s.reach ((s.now / 1000000 + 1) * 1000000))) (fun _ => rfl) hf rfl ⟨?_, ?_, ?_, ?_⟩
  · rw [seam, reach .seam (by decide)]
  · rw [same, now]
    omega
  · rw [same, now]
    omega
  · exact (onlyChanges_settle_of (reach.trans frame) hs (by decide)).mono (by decide)

end

/-- Settles O31: a change begins with its flit or its sleeves' power, each lane is counted by its own slots, and what ends a change clears
it. -/
theorem widthChanges : Obligations.WidthChanges :=
  ⟨fun _ _ hf on go idle may new => runs_widthGo_idle hf on go idle may new,
    fun _ _ _ hf on go busy => runs_widthGo_busy hf on go busy,
    fun _ _ hf queued idle may new => runs_widthGoDequeue hf queued idle may new,
    fun _ _ hf width waits hs phased => runs_addedSleevesReady hf width waits hs phased,
    fun _ _ _ _ hf width hs mem hj few => runs_addedSleevesReady_early hf width hs mem hj few,
    fun _ _ _ _ _ hl width waits hs added off hj => runs_phase hl width waits hs added off hj,
    fun _ _ hf width waits theirs alone hs => runs_widthLockTimeout_theirs hf width waits theirs alone hs,
    fun _ _ hf width waits own => runs_widthLockTimeout_own hf width waits own,
    fun _ hf hs => runs_crcWindowEnd hf hs⟩

end Sys2Proof.Machine
end

section
/-!
SUPPORT. Filler on a sleeve that a width change adds (R73, R75).
-/
namespace Sys2Proof.Machine

/-- A width change that adds sleeve 0, with one slot of filler counted on its first lane. -/
def addingWidth : WidthChange :=
  { mine := true, byPcm := false, target := 1, xid := 0, added := 1, phase := [(laneOf 0 0, 1)], ready := false, acked := false,
    upSlot := none, dnSlot := none, upDone := false, dnDone := false, since := ⟨0, 0⟩ }

/-- The block after reset, with the clock and the platform there and that width change in progress. -/
def addingSleeve : State :=
  settle { State.reset with pins := ⟨true, true, true, 0, true⟩, seam := { Seam.reset with width := some addingWidth } }

/-- The level codes of filler on sleeve 0 in slot 0. -/
def fillerLine : BitVec 2304 := sendLine 0 0 0 0 0

theorem slotOf_fillerLine : addingSleeve.slotOf 0 fillerLine = 0 := Laws.recvLine_sendLine _ _ _ _ _

/-- Refutes O39: the clause that filler changes nothing says so of every sleeve, but a slot on a sleeve that a width change adds is counted
towards the phase of its lanes, or begins the count again (R75). -/
theorem not_dataFlitsArrive : ¬ Obligations.DataFlitsArrive := by
  rintro ⟨-, -, -, -, -, filler⟩
  have header : bits (addingSleeve.slotOf 0 fillerLine) 0 64 = 0#64 := by
    rw [slotOf_fillerLine]
    exact BitVec.extractLsb'_zero
  obtain ⟨t, run, same⟩ := filler 0 fillerLine addingSleeve (by decide +kernel) (settled_settle _) header
  obtain ⟨u, run', ⟨x, width, -, again, more⟩, -⟩ := runs_phase (k := 0) (line := fillerLine) (s := addingSleeve) (j := 0)
    (by decide +kernel) rfl rfl (settled_settle _) (by decide) (by decide) (by decide)
  obtain rfl : t = u := Host.Outcome.next.inj (run.symm.trans run')
  obtain rfl := Option.some.inj (width.symm.trans (congrArg (fun s : State => s.seam.width) same))
  cases f : addingSleeve.fillerOn 0 0 addingSleeve.seam.dnSlot fillerLine with
  | false => exact absurd (again f) (by decide)
  | true => exact absurd (more f (by decide) (by decide)) (by decide)

end Sys2Proof.Machine
end

section
/-!
SUPPORT. The test modes of a sleeve and the PRBS31 sequence (R18, R100 to R102).
-/
namespace Sys2Proof.Machine

/-! ## PRBS31 -/

theorem seqGrow_lt {k n : Nat} (h : k < 2 ^ n) : seqGrow k n < 2 ^ (n + 28) := by
  have grown : ((k >>> (n - 31)) ^^^ (k >>> (n - 28))) % 2 ^ 28 < 2 ^ 28 := Nat.mod_lt _ (by decide)
  unfold seqGrow
  generalize ((k >>> (n - 31)) ^^^ (k >>> (n - 28))) % 2 ^ 28 = z at grown
  have carried : z * 2 ^ n + 2 ^ n ≤ 2 ^ 28 * 2 ^ n := by
    rw [← Nat.succ_mul]
    exact Nat.mul_le_mul_right _ grown
  rw [Nat.add_comm n 28, Nat.pow_add]
  omega

theorem seqBits_lt (y : BitVec 31) (r : Nat) : seqBits y r < 2 ^ (31 + 28 * r) := by
  induction r with
  | zero => exact y.isLt
  | succ r ih => exact seqGrow_lt ih

/-- The bits that are known stay, and the next 28 follow from those 31 and 28 places before them (R18, R102). -/
theorem testBit_seqGrow {k n m : Nat} (h : k < 2 ^ n) (hn : 31 ≤ n) (hm : m < n + 28) :
    (seqGrow k n).testBit m = if m < n then k.testBit m else (k.testBit (m - 31) ^^ k.testBit (m - 28)) := by
  have eq : seqGrow k n = 2 ^ n * (((k >>> (n - 31)) ^^^ (k >>> (n - 28))) % 2 ^ 28) + k := by
    rw [seqGrow, Nat.mul_comm, Nat.add_comm]
  rw [eq, Nat.testBit_two_pow_mul_add _ h]
  split
  · rfl
  · have new : m - n < 28 := by omega
    have first : n - 31 + (m - n) = m - 31 := by omega
    have second : n - 28 + (m - n) = m - 28 := by omega
    rw [Nat.testBit_mod_two_pow, Nat.testBit_xor, Nat.testBit_shiftRight, Nat.testBit_shiftRight, first, second, decide_eq_true new,
      Bool.true_and]

theorem seqBits_recurrence (y : BitVec 31) {r m : Nat} (h : m + 31 < 31 + 28 * r) :
    (seqBits y r).testBit (m + 31) = ((seqBits y r).testBit m ^^ (seqBits y r).testBit (m + 3)) := by
  induction r with
  | zero => omega
  | succ r ih =>
    have known := seqBits_lt y r
    have long : 31 ≤ 31 + 28 * r := by omega
    have at' (j : Nat) (hj : j < 31 + 28 * r + 28) := testBit_seqGrow (m := j) known long hj
    simp only [seqBits, at' (m + 31) (by omega), at' m (by omega), at' (m + 3) (by omega), show m < 31 + 28 * r by omega,
      show m + 3 < 31 + 28 * r by omega, if_true]
    by_cases old : m + 31 < 31 + 28 * r
    · rw [if_pos old, ih old]
    · rw [if_neg old, Nat.add_sub_cancel, show m + 31 - 28 = m + 3 by omega]

theorem getLsbD_seqTake {w m : Nat} (y : BitVec 31) (h : m < w) : (seqTake w y).getLsbD m = (seqBits y (w / 28)).testBit m := by
  rw [seqTake, BitVec.getLsbD_ofNat, decide_eq_true h, Bool.true_and]

/-- The sequence obeys x^31 + x^28 + 1 (R18, R102). -/
theorem seqTake_recurrence {w i : Nat} (y : BitVec 31) (h : i + 31 < w) :
    (seqTake w y).getLsbD (i + 31) = ((seqTake w y).getLsbD i ^^ (seqTake w y).getLsbD (i + 3)) := by
  rw [getLsbD_seqTake y h, getLsbD_seqTake y (by omega), getLsbD_seqTake y (by omega)]
  exact seqBits_recurrence y (by omega)

/-! ## Tests that start and stop -/

theorem seam_test_ctrl_plain : R.SEAM_TEST_CTRL ∉ causeRegs := by decide +kernel

theorem onlyChanges_modTest (f : TestMode → TestMode) (s : State) : OnlyChanges [.seam] s (modTest f s) := onlyChanges_modSeam _ s

/-- What leaves the seam's test and the register of the test leaves the field that says whether one is in force. -/
theorem Notes.testFlag {s t : State} (h : Notes [] s t) (f : Field) (reg : f.reg = R.SEAM_TEST_CTRL) : t.flag f = s.flag f :=
  h.flag (reg ▸ seam_test_ctrl_plain) (by simp)

theorem Notes.testReg {s t : State} (h : Notes [] s t) : t.reg R.SEAM_TEST_CTRL = s.reg R.SEAM_TEST_CTRL :=
  h.2 _ (by simpa using seam_test_ctrl_plain)

/-- The block's part of a test with its generators and checkers as new. -/
def testBegun (s : State) : State :=
  (modTest (fun t => { t with
    waiting := false, running := true, everRun := true, gens := Vector.ofFn fun j => Config.prbsSeed s.free j.val,
    checks := Vector.replicate 9 0, locked := 0, compared := Vector.replicate 9 0 }) s).draw

theorem runTest_eq (s : State) : runTest s = wake .test 0 [] (testBegun s) := rfl

theorem onlySeam_testBegun (s : State) : OnlySeam [.test] s (testBegun s) := by
  intro p hp
  cases p <;> simp_all [SeamPart.same, testBegun, modTest, State.draw]

theorem keeps_testBegun (s : State) : Keeps [] [.seam, .free] [.test] s (testBegun s) :=
  have frame := (onlyChanges_modTest _ s).trans (onlyChanges_draw _)
  ⟨frame.notes (by decide) (by decide), frame, onlySeam_testBegun s⟩

theorem test_wake (status : BitVec 16) (s : State) : (wake .test status [] s).seam = s.seam :=
  (keeps_wake .test status [] s).frame .seam (by decide)

/-- The block's part of a test runs, its checkers out of lock, and the register of the test and the sleeves' power stay. -/
theorem runTest_runs (s : State) :
    (runTest s).seam.test.waiting = false ∧ (runTest s).seam.test.running = true ∧ (runTest s).seam.test.locked = 0 ∧
      (runTest s).seam.powered = s.seam.powered ∧ Notes [] s (runTest s) := by
  have keeps := ((keeps_testBegun s).trans (keeps_wake .test 0 [] (testBegun s)))
  have seam : (runTest s).seam = (testBegun s).seam := test_wake 0 _
  have powered : (runTest s).seam.powered = s.seam.powered := keeps.seam .powered (by decide)
  exact ⟨congrArg (·.test.waiting) seam, congrArg (·.test.running) seam, congrArg (·.test.locked) seam, powered, keeps.notes⟩

/-- A sleeve given back: no test waits or runs, and ENABLE reads 0. -/
theorem releaseSleeve_ends (s : State) :
    (releaseSleeve s).seam.test.waiting = false ∧ (releaseSleeve s).seam.test.running = false ∧
      (releaseSleeve s).flag F.SEAM_TEST_CTRL.ENABLE = false :=
  ⟨rfl, rfl, flag_setFld_same _ (f := F.SEAM_TEST_CTRL.ENABLE) rfl (by decide) 0⟩

theorem failTest_ends (s : State) :
    (failTest s).seam.test.waiting = false ∧ (failTest s).seam.test.running = false ∧
      (failTest s).flag F.SEAM_TEST_CTRL.ENABLE = false := by
  obtain ⟨waiting, running, off⟩ := releaseSleeve_ends s
  have told := keeps_wake .test 0x0292 [] (releaseSleeve s)
  have seam : (failTest s).seam = (releaseSleeve s).seam := told.frame .seam (by decide)
  exact ⟨(congrArg (·.test.waiting) seam).trans waiting, (congrArg (·.test.running) seam).trans running,
    (told.notes.testFlag _ rfl).trans off⟩

/-- The sleeve of a test. -/
def State.testSleeve (s : State) : SleeveNo := BitVec.ofNat 3 (s.fld F.SEAM_TEST_CTRL.SLEEVE)

/-- The state with the sleeve of a test powered, its pass ended, and the test's request about to go. -/
def testPowered (s : State) : State :=
  let off := !s.seam.powered.getLsbD s.testSleeve.toNat
  let s' := abandonPass s.testSleeve (modSeam (fun m => { m with
    powered := m.powered ||| slvBit s.testSleeve, switchFrom := if off then s.mark else m.switchFrom }) s)
  modTest (fun t => { t with waiting := true, running := false, sends := 1, poweredFor := off || t.poweredFor, since := s'.mark }) s'

theorem startTest_eq (s : State) : startTest s =
    if (testPowered s).wrapped && !(testPowered s).slp.lock then runTest (testPowered s)
    else sendTestReq ((testPowered s).fld F.SEAM_TEST_CTRL.MODE) (testPowered s) := rfl

theorem slvBit_getLsbD (k : SleeveNo) : (slvBit k).getLsbD k.toNat = true := by
  revert k
  decide

theorem lock_discardShadow (n : LaneNo) (s : State) : (discardShadow n s).slp.lock = s.slp.lock := by
  dsimp only [discardShadow]
  split <;> rfl

/-- An abandoned pass may send a message, and leaves the lock of the Sleeper receiver. -/
theorem lock_abandonPass (k : SleeveNo) (s : State) : (abandonPass k s).slp.lock = s.slp.lock := by
  unfold abandonPass
  cases h : s.passIn k with
  | none => rfl
  | some p =>
    have drop : dropPass k s = endPass k (discardShadow p.lane s) := by rw [dropPass, h]
    have raised := onlyChanges_raiseLane C.TLR.PASS_ABANDONED .down k (placeOf p.lane) (dropPass k s)
    dsimp only
    rw [raised .slp (by decide), drop]
    exact lock_discardShadow p.lane s

/-- The sleeve of a test powered. -/
def sleevePowered (s : State) : State :=
  modSeam (fun m => { m with
    powered := m.powered ||| slvBit s.testSleeve
    switchFrom := if !s.seam.powered.getLsbD s.testSleeve.toNat then s.mark else m.switchFrom }) s

/-- The request of a test about to go. -/
def testWaits (off : Bool) (s : State) : State :=
  modTest (fun t => { t with waiting := true, running := false, sends := 1, poweredFor := off || t.poweredFor, since := s.mark }) s

theorem testPowered_eq (s : State) :
    testPowered s = testWaits (!s.seam.powered.getLsbD s.testSleeve.toNat) (abandonPass s.testSleeve (sleevePowered s)) := rfl

theorem testWaits_waits (off : Bool) (s : State) :
    (testWaits off s).seam.test.waiting = true ∧ (testWaits off s).seam.test.sends = 1 ∧
      (testWaits off s).seam.powered = s.seam.powered ∧ (testWaits off s).slp = s.slp ∧ OnlyChanges [.seam] s (testWaits off s) :=
  ⟨rfl, rfl, rfl, rfl, onlyChanges_modTest _ s⟩

theorem sleevePowered_powers (s : State) :
    (sleevePowered s).seam.powered.getLsbD s.testSleeve.toNat = true ∧ (sleevePowered s).slp = s.slp ∧
      OnlyChanges [.seam] s (sleevePowered s) := by
  refine ⟨?_, rfl, onlyChanges_modSeam _ s⟩
  have bit : (s.seam.powered ||| slvBit s.testSleeve).getLsbD s.testSleeve.toNat = true := by
    rw [BitVec.getLsbD_or, slvBit_getLsbD, Bool.or_true]
  exact bit

/-- A test about to begin: its sleeve is powered and its request goes, and no register has changed but those of causes. -/
theorem testPowered_ready (s : State) :
    (testPowered s).seam.test.waiting = true ∧ (testPowered s).seam.test.sends = 1 ∧
      (testPowered s).seam.powered.getLsbD s.testSleeve.toNat = true ∧ Notes [] s (testPowered s) ∧
      (testPowered s).wrapped = s.wrapped ∧ (testPowered s).slp.lock = s.slp.lock := by
  rw [testPowered_eq]
  generalize (!s.seam.powered.getLsbD s.testSleeve.toNat) = off
  obtain ⟨power, lane, frame⟩ := sleevePowered_powers s
  obtain ⟨waits, sends, same, slp, frame'⟩ := testWaits_waits off (abandonPass s.testSleeve (sleevePowered s))
  have pass := keeps_abandonPass s.testSleeve (sleevePowered s)
  have whole := (frame.trans pass.frame).trans frame'
  refine ⟨waits, sends, ?_, ?_, whole .wrapped (by decide), ?_⟩
  · rw [same, pass.seam .powered (by decide)]
    exact power
  · exact ((frame.notes (by decide) (by decide)).trans pass.notes).trans (frame'.notes (by decide) (by decide))
  · rw [slp, lock_abandonPass, lane]

theorem onlyChanges_sendTestReq (mode : Nat) (s : State) : OnlyChanges [.slp] s (sendTestReq mode s) := onlyChanges_sendSlp _ _ s

/-- A test begins: with the Sleeper lane in lock its request goes, and under the wrapper out of lock the block's part starts at once. -/
theorem startTest_starts (s : State) (wrapped : s.wrapped = true) :
    (s.slp.lock = true → (startTest s).seam.test.waiting = true ∧ (startTest s).seam.test.sends = 1) ∧
      (s.slp.lock = false → (startTest s).seam.test.running = true) ∧
      (startTest s).seam.powered.getLsbD s.testSleeve.toNat = true ∧ Notes [] s (startTest s) := by
  obtain ⟨waits, sends, power, notes, same, lock⟩ := testPowered_ready s
  rw [startTest_eq, same, wrapped, Bool.true_and, lock]
  cases locked : s.slp.lock
  · obtain ⟨-, running, -, powered, told⟩ := runTest_runs (testPowered s)
    refine ⟨nofun, fun _ => running, ?_, notes.trans told⟩
    exact (congrArg (fun m : Byte => m.getLsbD s.testSleeve.toNat) powered).trans power
  · exact ⟨fun _ => ⟨waits, sends⟩, nofun, power, notes.trans ((onlyChanges_sendTestReq _ _).notes (by decide) (by decide))⟩

/-! ## The commands of a test -/

/-- The bits of SEAM_TEST_CTRL that a write takes keep the sleeve that it names and its ENABLE (R103). -/
theorem testCtrl_bits (data : Word) : fld (data &&& 0x80371FF7) 0 3 = fld data 0 3 ∧ (data &&& 0x80371FF7).getLsbD 31 = data.getLsbD 31 := by
  refine ⟨congrArg BitVec.toNat (BitVec.eq_of_getLsbD_eq fun i hi => ?_), by simp⟩
  have three : i = 0 ∨ i = 1 ∨ i = 2 := by omega
  rcases three with rfl | rfl | rfl <;> simp

theorem testSleeve_written (data : Word) (s : State) :
    (s.setReg R.SEAM_TEST_CTRL (data &&& 0x80371FF7)).testSleeve.toNat = fld data 0 3 := by
  have same : (s.setReg R.SEAM_TEST_CTRL (data &&& 0x80371FF7)).fld F.SEAM_TEST_CTRL.SLEEVE = fld data 0 3 :=
    (congrArg (fld · 0 3) (reg_setReg_same s R.SEAM_TEST_CTRL _)).trans (testCtrl_bits data).1
  have small : fld data 0 3 < 2 ^ 3 := BitVec.isLt _
  rw [State.testSleeve, same, BitVec.toNat_ofNat, Nat.mod_eq_of_lt small]

theorem testCtrlWrite_starts {data : Word} {s : State} (wrapped : s.wrapped = true) (idle : s.testing = false)
    (enable : data.getLsbD 31 = true) : testCtrlWrite data s = startTest (s.setReg R.SEAM_TEST_CTRL (data &&& 0x80371FF7)) := by
  simp only [testCtrlWrite, wrapped, idle, enable, Bool.not_true, Bool.false_and, Bool.false_eq_true, if_false]

theorem testCtrlWrite_stops {data : Word} {s : State} (wrapped : s.wrapped = true) (busy : s.testing = true)
    (disable : data.getLsbD 31 = false) :
    testCtrlWrite data s = (stopTest s).setReg R.SEAM_TEST_CTRL (data &&& 0x80371FF7) := by
  simp only [testCtrlWrite, wrapped, busy, disable, Bool.not_true, Bool.not_false, Bool.false_and, Bool.false_eq_true, if_false, if_true]

theorem runs_testEnable {data : Word} {s : State} (hup : s.up = true) (wrapped : s.wrapped = true) (idle : s.testing = false)
    (enable : data.getLsbD 31 = true) :
    Runs (.testEnable data) s fun t =>
      (s.slp.lock = true → t.seam.test.waiting = true ∧ t.seam.test.sends = 1) ∧
        (s.slp.lock = false → t.seam.test.running = true) ∧ t.seam.powered.getLsbD (fld data 0 3) = true ∧
        t.reg R.SEAM_TEST_CTRL = (data &&& 0x80371FF7) ∧ t.outs.regAck = true ∧ t.outs.regErr = false := by
  let u := s.setReg R.SEAM_TEST_CTRL (data &&& 0x80371FF7)
  obtain ⟨asks, runs, power, notes⟩ := startTest_starts u wrapped
  rw [testSleeve_written] at power
  have reached : (s.wrapped || s.regOn R.SEAM_TEST_CTRL) = true := by rw [wrapped, Bool.true_or]
  refine runs_up (u := (startTest u).answer false) (fun _ => rfl) hup ((if_pos enable).trans ((if_pos reached).trans ?_))
    ⟨asks, runs, power, ?_, rfl, rfl⟩
  · rw [testCtrlWrite_starts wrapped idle enable]
  · exact notes.testReg.trans (reg_setReg_same s R.SEAM_TEST_CTRL _)

/-- A test stopped by a write with ENABLE at 0. -/
theorem stopWritten_ends {data : Word} (disable : data.getLsbD 31 = false) (s : State) :
    ((stopTest s).setReg R.SEAM_TEST_CTRL (data &&& 0x80371FF7)).seam.test.waiting = false ∧
      ((stopTest s).setReg R.SEAM_TEST_CTRL (data &&& 0x80371FF7)).seam.test.running = false ∧
      ((stopTest s).setReg R.SEAM_TEST_CTRL (data &&& 0x80371FF7)).flag F.SEAM_TEST_CTRL.ENABLE = false := by
  obtain ⟨waiting, running, -⟩ := releaseSleeve_ends (sendTestReq 0 s)
  have seam : ((stopTest s).setReg R.SEAM_TEST_CTRL (data &&& 0x80371FF7)).seam = (stopTest s).seam :=
    onlyChanges_setReg _ _ _ .seam (by decide)
  rw [seam]
  exact ⟨waiting, running,
    (congrArg (BitVec.getLsbD · 31) (reg_setReg_same (stopTest s) R.SEAM_TEST_CTRL _)).trans ((testCtrl_bits data).2.trans disable)⟩

theorem runs_testDisable {data : Word} {s : State} (hup : s.up = true) (wrapped : s.wrapped = true) (busy : s.testing = true)
    (disable : data.getLsbD 31 = false) :
    Runs (.testDisable data) s fun t =>
      t.seam.test.waiting = false ∧ t.seam.test.running = false ∧ t.flag F.SEAM_TEST_CTRL.ENABLE = false ∧
        t.outs.regAck = true ∧ t.outs.regErr = false := by
  have ends := stopWritten_ends disable s
  have reached : (s.wrapped || s.regOn R.SEAM_TEST_CTRL) = true := by rw [wrapped, Bool.true_or]
  have stops := testCtrlWrite_stops wrapped busy disable
  generalize (stopTest s).setReg R.SEAM_TEST_CTRL (data &&& 0x80371FF7) = u at ends stops
  obtain ⟨waiting, running, off⟩ := ends
  refine runs_up (u := u.answer false) (fun _ => rfl) hup
    ((if_neg (ne_true_of_eq_false disable)).trans ((if_pos reached).trans ?_)) ⟨waiting, running, off, rfl, rfl⟩
  rw [stops]

theorem runs_testAck {msg : BitVec 32} {s : State} (hup : s.up = true) (lock : s.slp.lock = true)
    (waits : s.seam.test.waiting = true) (names : fld msg 0 3 = s.fld F.SEAM_TEST_CTRL.SLEEVE) :
    Runs (.testAck msg) s fun t =>
      t.seam.test.waiting = false ∧ (msg.getLsbD 8 = false → t.seam.test.running = true ∧ t.seam.test.locked = 0) ∧
        (msg.getLsbD 8 = true → t.seam.test.running = false ∧ t.flag F.SEAM_TEST_CTRL.ENABLE = false) := by
  have taken : (s.slp.lock && s.seam.test.waiting && fld msg 0 3 = s.fld F.SEAM_TEST_CTRL.SLEEVE) = true := by
    simp [lock, waits, names]
  cases refused : msg.getLsbD 8
  · obtain ⟨waiting, running, locked, -, -⟩ := runTest_runs s
    exact runs_up (u := runTest s) (fun _ => rfl) hup ((if_pos taken).trans (if_neg (ne_true_of_eq_false refused)))
      ⟨waiting, fun _ => ⟨running, locked⟩, nofun⟩
  · obtain ⟨waiting, running, off⟩ := failTest_ends s
    exact runs_up (u := failTest s) (fun _ => rfl) hup ((if_pos taken).trans (if_pos refused))
      ⟨waiting, nofun, fun _ => ⟨running, off⟩⟩

/-- A request of a test sent once more (R101). -/
def testAgain (s : State) : State :=
  sendTestReq (s.fld F.SEAM_TEST_CTRL.MODE) (modTest (fun t => { t with sends := t.sends + 1, since := s.mark }) s)

/-- With no message waiting the one that is sent leaves at once. -/
theorem out_settle_sendSlp {s : State} (quiet : s.slp.queue = []) {type : Byte} (other : slpClass type = 7) (ws : List Word) :
    (settle (sendSlp type ws s)).out = .sleeper type s.slp.mseq ws :: s.out := by
  simp [settle, sendSlp, slpOrder, slpEmit, quiet, other]

theorem testAgain_settled {s : State} (quiet : s.slp.queue = []) :
    (settle (testAgain s)).seam.test.sends = s.seam.test.sends + 1 ∧
      (∃ w, (settle (testAgain s)).out = .sleeper 0x22 s.slp.mseq [w] :: s.out) ∧ (settle (testAgain s)).now = s.now ∧
      OnlyChanges [.seam, .slp] s (testAgain s) :=
  ⟨rfl, ⟨_, out_settle_sendSlp (s := modTest _ s) quiet rfl _⟩, rfl, (onlyChanges_modTest _ s).trans (onlyChanges_sendTestReq _ _)⟩

theorem onlyChanges_settle_out (s : State) : OnlyChanges [.out, .outs, .slp] s (settle s) := by
  intro p hp
  cases p <;> simp_all [Part.same]

theorem runs_testReqTimeout_again {s : State} (hup : s.up = true) (hs : Settled s) (waits : s.seam.test.waiting = true)
    (few : s.seam.test.sends < 3) :
    Runs .testReqTimeout s fun t =>
      t.seam.test.sends = s.seam.test.sends + 1 ∧ (∃ w, t.out = .sleeper 0x22 s.slp.mseq [w] :: s.out) ∧
        (s.byAo = false → s.seam.test.since.rail + 100000 ≤ t.now) ∧ OnlyChanges [.seam, .rwt, .aoCycles, .out, .outs, .slp] s t := by
  have lapse := onlyChanges_lapse s.seam.test.since 100000 s
  have seam : (s.lapse s.seam.test.since 100000).seam = s.seam := lapse .seam (by decide)
  have slp : (s.lapse s.seam.test.since 100000).slp = s.slp := lapse .slp (by decide)
  have out : (s.lapse s.seam.test.since 100000).out = s.out := lapse .out (by decide)
  have first : ¬3 ≤ (s.lapse s.seam.test.since 100000).seam.test.sends := by
    rw [seam]
    omega
  obtain ⟨sends, sent, now, frame⟩ := testAgain_settled (s := s.lapse s.seam.test.since 100000) (by rw [slp]; exact hs.2)
  rw [seam] at sends
  rw [slp, out] at sent
  refine runs_up (u := testAgain (s.lapse s.seam.test.since 100000)) (fun _ => rfl) hup
    ((if_neg (by simp [waits])).trans (if_neg first)) ⟨sends, sent, fun rail => ?_, ?_⟩
  · rw [now]
    exact le_now_lapse rail s.seam.test.since 100000
  · exact ((lapse.trans frame).trans (onlyChanges_settle_out _)).mono (by decide)

theorem runs_testReqTimeout_last {s : State} (hup : s.up = true) (waits : s.seam.test.waiting = true)
    (many : 3 ≤ s.seam.test.sends) :
    Runs .testReqTimeout s fun t =>
      t.seam.test.waiting = false ∧ t.seam.test.running = false ∧ t.flag F.SEAM_TEST_CTRL.ENABLE = false := by
  have last : 3 ≤ (s.lapse s.seam.test.since 100000).seam.test.sends := by rwa [seam_lapse]
  obtain ⟨waiting, running, off⟩ := failTest_ends (s.lapse s.seam.test.since 100000)
  exact runs_up (u := failTest (s.lapse s.seam.test.since 100000)) (fun _ => rfl) hup
    ((if_neg (by simp [waits])).trans (if_pos last)) ⟨waiting, running, off⟩

/-! ## Checkers -/

theorem whenTestLane_ok {lane : BitVec 4} (ok : lane.toNat < 9) (s : State) (k : State → State) :
    whenTestLane lane s k = whenUp s k := if_pos ok

theorem whenTestLane_bad {lane : BitVec 4} (bad : 9 ≤ lane.toNat) (s : State) (k : State → State) :
    whenTestLane lane s k = .fault (.noSuchTestLane lane) := if_neg (Nat.not_lt.mpr bad)

/-- What a checker takes: the lane's own generator in near-end loopback, else the bits that come, inverted in the inverted mode (R100,
R102). -/
def checkedBits {w : Nat} (lane : BitVec 4) (got : BitVec w) (s : State) : BitVec w :=
  if s.fld F.SEAM_TEST_CTRL.MODE = 3 then seqTake w (s.seam.test.gens.toList.getD lane.toNat 0)
  else if s.fld F.SEAM_TEST_CTRL.MODE = 2 then ~~~got else got

/-- A checker takes its bits, and in near-end loopback the lane's generator moves on. -/
theorem testBits_takes {w : Nat} (lane : BitVec 4) (got : BitVec w) (s : State) :
    ∃ gens, testBits lane got s = (checkedBits lane got s, modTest (fun t => { t with gens := gens }) s) := by
  by_cases loops : s.fld F.SEAM_TEST_CTRL.MODE = 3
  · exact ⟨vmod s.seam.test.gens lane.toNat (seqDrop w), by simp [testBits, checkedBits, loops, modTest, modSeam]⟩
  · exact ⟨s.seam.test.gens, by simp [testBits, checkedBits, loops, modTest, modSeam]⟩

/-- What PRBS_LOCK does on a lane that its checker takes. -/
def lockTry (got : PrbsBits) (s : State) : State :=
  let (b, s) := testBits got.lane got.got s
  if b = seqTake 1055 (bits b 0 31) then
    modTest (fun t => { t with
      locked := t.locked ||| (1#9 <<< got.lane.toNat), checks := vmod t.checks got.lane.toNat fun _ => seqDrop 1055 (bits b 0 31) }) s
  else s

theorem exec_prbsLock {got : PrbsBits} (ok : got.lane.toNat < 9) (s : State) : exec (.prbsLock got) s = whenUp s fun s =>
    if s.checks got.lane && !s.seam.test.locked.getLsbD got.lane.toNat then lockTry got s else s := whenTestLane_ok ok s _

theorem lockTry_locks (got : PrbsBits) (s : State) :
    (lockTry got s).seam.test.locked = (if checkedBits got.lane got.got s = seqTake 1055 (bits (checkedBits got.lane got.got s) 0 31)
      then s.seam.test.locked ||| (1#9 <<< got.lane.toNat) else s.seam.test.locked) ∧ OnlyChanges [.seam] s (lockTry got s) := by
  obtain ⟨gens, takes⟩ := testBits_takes got.lane got.got s
  rw [lockTry, takes]
  dsimp only
  split
  · exact ⟨rfl, ((onlyChanges_modTest _ s).trans (onlyChanges_modTest _ _)).mono (by decide)⟩
  · exact ⟨rfl, onlyChanges_modTest _ s⟩

theorem runs_prbsLock {got : PrbsBits} {b : BitVec 1055} {s : State} (ok : got.lane.toNat < 9) (hup : s.up = true)
    (hs : Settled s) (checks : s.checks got.lane = true) (out : s.seam.test.locked.getLsbD got.lane.toNat = false)
    (hb : b = checkedBits got.lane got.got s) :
    Runs (.prbsLock got) s fun t =>
      t.seam.test.locked = (if b = seqTake 1055 (bits b 0 31) then s.seam.test.locked ||| (1#9 <<< got.lane.toNat)
        else s.seam.test.locked) ∧ OnlyChanges [.seam, .outs, .slp] s t := by
  obtain ⟨locks, frame⟩ := lockTry_locks got s
  rw [← hb] at locks
  exact runs_up (u := lockTry got s) (exec_prbsLock ok) hup (if_pos (by simp [checks, out]))
    ⟨locks, (onlyChanges_settle_of frame hs (by decide)).mono (by decide)⟩

/-- The wrong bits of a checker in lock counted in its register (R102). -/
def lossCounted (lane : BitVec 4) (wrong : Nat) (s : State) : State :=
  s.setReg (R.SEAM_PRBS_ERR + 4 * lane.toNat) (BitVec.ofNat 32 (min ((s.reg (R.SEAM_PRBS_ERR + 4 * lane.toNat)).toNat + wrong) 0xFFFFFFFF))

/-- A checker in lock 1,024 bits further, of which so many were wrong. -/
def lossTold (lane : BitVec 4) (wrong : Nat) (s : State) : State :=
  modTest (fun t => { t with
    checks := vmod t.checks lane.toNat (seqDrop 1024), compared := vmod t.compared lane.toNat (· + 1024)
    locked := if 256 < wrong then t.locked &&& ~~~(1#9 <<< lane.toNat) else t.locked }) s

/-- What PRBS_LOSS does on a lane whose checker is in lock. -/
def lossTry (lane : BitVec 4) (got : BitVec 1024) (s : State) : State :=
  let (b, s) := testBits lane got s
  let wrong := wrongBits b (seqTake 1024 (s.seam.test.checks.toList.getD lane.toNat 0))
  lossTold lane wrong (lossCounted lane wrong s)

theorem exec_prbsLoss {lane : BitVec 4} (ok : lane.toNat < 9) (first second : BitVec 512) (s : State) :
    exec (.prbsLoss lane first second) s = whenUp s fun s =>
      if s.checks lane && s.seam.test.locked.getLsbD lane.toNat then lossTry lane (second ++ first) s else s :=
  whenTestLane_ok ok s _

theorem toList_getD_vmod {α : Type} {n i : Nat} (v : Vector α n) (f : α → α) (d : α) (h : i < n) :
    (vmod v i f).toList.getD i d = f (v.toList.getD i d) := by
  simp [vmod, h]

theorem locked_lossTold {lane : BitVec 4} {s : State} (locked : s.seam.test.locked.getLsbD lane.toNat = true)
    (wrong : Nat) : (lossTold lane wrong s).seam.test.locked.getLsbD lane.toNat = decide (wrong ≤ 256) := by
  have eq : (lossTold lane wrong s).seam.test.locked =
      if 256 < wrong then s.seam.test.locked &&& ~~~(1#9 <<< lane.toNat) else s.seam.test.locked := rfl
  rw [eq]
  by_cases many : 256 < wrong
  · rw [if_pos many, decide_eq_false (Nat.not_le.mpr many)]
    simp
  · rw [if_neg many, locked, decide_eq_true (Nat.not_lt.mp many)]

theorem reg_lossCounted (lane : BitVec 4) (wrong : Nat) (s : State) :
    ((lossCounted lane wrong s).reg (R.SEAM_PRBS_ERR + 4 * lane.toNat)).toNat
      = min ((s.reg (R.SEAM_PRBS_ERR + 4 * lane.toNat)).toNat + wrong) 0xFFFFFFFF := by
  rw [lossCounted, reg_setReg_same, BitVec.toNat_ofNat]
  exact Nat.mod_eq_of_lt (by omega)

/-- What a checker in lock leaves of its lane: its lock with at most 256 wrong bits, and both counts (R102). -/
theorem lossTry_counts {lane : BitVec 4} {got b : BitVec 1024} {wrong : Nat} {s : State} (ok : lane.toNat < 9)
    (locked : s.seam.test.locked.getLsbD lane.toNat = true) (hb : b = checkedBits lane got s)
    (hw : wrong = wrongBits b (seqTake 1024 (s.seam.test.checks.toList.getD lane.toNat 0))) :
    (lossTry lane got s).seam.test.locked.getLsbD lane.toNat = decide (wrong ≤ 256) ∧
      (lossTry lane got s).seam.test.compared.toList.getD lane.toNat 0 = s.seam.test.compared.toList.getD lane.toNat 0 + 1024 ∧
      ((lossTry lane got s).reg (R.SEAM_PRBS_ERR + 4 * lane.toNat)).toNat
        = min ((s.reg (R.SEAM_PRBS_ERR + 4 * lane.toNat)).toNat + wrong) 0xFFFFFFFF ∧
      OnlyChanges [.seam, .regs] s (lossTry lane got s) ∧ RegsBut [R.SEAM_PRBS_ERR + 4 * lane.toNat] s (lossTry lane got s) := by
  obtain ⟨gens, takes⟩ := testBits_takes lane got s
  let u := modTest (fun t => { t with gens := gens }) s
  have eq : lossTry lane got s = lossTold lane wrong (lossCounted lane wrong u) := by
    rw [lossTry, takes, ← hb, hw]
    rfl
  have frame : OnlyChanges [.seam] s u := onlyChanges_modTest _ s
  have counted : OnlyChanges [.regs] u (lossCounted lane wrong u) := onlyChanges_setReg _ _ u
  have told : OnlyChanges [.seam] (lossCounted lane wrong u) (lossTold lane wrong (lossCounted lane wrong u)) := onlyChanges_modTest _ _
  have test : (lossCounted lane wrong u).seam.test = u.seam.test := congrArg Seam.test (counted .seam (by decide))
  have reg (a : Nat) : u.reg a = s.reg a := rfl
  have reg' (a : Nat) : (lossTold lane wrong (lossCounted lane wrong u)).reg a = (lossCounted lane wrong u).reg a := rfl
  rw [eq]
  refine ⟨locked_lossTold (by rw [test]; exact locked) wrong, ?_, ?_, ((frame.trans counted).trans told).mono (by decide),
    fun a ha => ?_⟩
  · refine (toList_getD_vmod (lossCounted lane wrong u).seam.test.compared (· + 1024) 0 ok).trans ?_
    rw [test]
    rfl
  · rw [reg', reg_lossCounted, reg]
  · exact (regsBut_setReg _ _ u a ha).trans (reg a)

theorem runs_prbsLoss {lane : BitVec 4} {first second : BitVec 512} {b : BitVec 1024} {wrong : Nat} {s : State} (ok : lane.toNat < 9)
    (hup : s.up = true) (hs : Settled s) (checks : s.checks lane = true) (locked : s.seam.test.locked.getLsbD lane.toNat = true)
    (hb : b = checkedBits lane (second ++ first) s)
    (hw : wrong = wrongBits b (seqTake 1024 (s.seam.test.checks.toList.getD lane.toNat 0))) :
    Runs (.prbsLoss lane first second) s fun t =>
      t.seam.test.locked.getLsbD lane.toNat = decide (wrong ≤ 256) ∧
        t.seam.test.compared.toList.getD lane.toNat 0 = s.seam.test.compared.toList.getD lane.toNat 0 + 1024 ∧
        (t.reg (R.SEAM_PRBS_ERR + 4 * lane.toNat)).toNat
          = min ((s.reg (R.SEAM_PRBS_ERR + 4 * lane.toNat)).toNat + wrong) 0xFFFFFFFF ∧
        OnlyChanges [.seam, .regs, .outs, .slp] s t ∧ RegsBut [R.SEAM_PRBS_ERR + 4 * lane.toNat] s t := by
  have counts := lossTry_counts ok locked hb hw
  have taken := exec_prbsLoss ok first second
  generalize lossTry lane (second ++ first) = lost at counts taken
  obtain ⟨lock, compared, count, frame, regs⟩ := counts
  exact runs_up taken hup (if_pos (by simp [checks, locked]))
    ⟨lock, compared, count, onlyChanges_settle_of frame hs (by decide), regs.settle⟩

/-- Settles O32: the commands of a test leave its register and its sleeve as they say, the sequence's recurrence is that of its growth, and
a checker compares what it takes with it. -/
theorem testModes : Obligations.TestModes := by
  refine ⟨fun _ _ hup wrapped idle enable => runs_testEnable hup wrapped idle enable,
    fun _ _ hup wrapped busy disable => runs_testDisable hup wrapped busy disable,
    fun _ _ hup lock waits names => runs_testAck hup lock waits names,
    fun _ hup hs waits few => runs_testReqTimeout_again hup hs waits few,
    fun _ hup waits many => runs_testReqTimeout_last hup waits many, fun _ _ y h => seqTake_recurrence y h,
    fun lane got b _ s ok hup hs checks out mode hb => ?_, fun lane first second b _ _ s ok hup hs checks locked mode hb hw => ?_,
    fun lane s _ _ _ bad => ⟨whenTestLane_bad bad s _, whenTestLane_bad bad s _⟩⟩
  · subst mode
    exact runs_prbsLock (got := ⟨lane, got⟩) ok hup hs checks out hb
  · subst mode
    exact runs_prbsLoss ok hup hs checks locked hb hw

end Sys2Proof.Machine
end

section
/-!
SUPPORT. What the manifest, the migration and the queues of the link layer touch when they go on: neither the seam nor what the link has in
flight (R160, R165 to R193, R207, R240, R298).
-/
namespace Sys2Proof.Machine

/-! ## What the link has in flight -/

/-- What the link has in flight and what it owes its peer is the same. -/
structure SameFlight (l m : Lnk) : Prop where
  st : m.st = l.st
  siding : m.siding = l.siding
  nextSeq : m.nextSeq = l.nextSeq
  held : m.held = l.held
  ctlDue : m.ctlDue = l.ctlDue
  nakDue : m.nakDue = l.nakDue
  retrainDue : m.retrainDue = l.retrainDue

theorem SameFlight.refl (l : Lnk) : SameFlight l l := ⟨rfl, rfl, rfl, rfl, rfl, rfl, rfl⟩

theorem SameFlight.trans {l m n : Lnk} (h : SameFlight l m) (k : SameFlight m n) : SameFlight l n :=
  ⟨k.st.trans h.st, k.siding.trans h.siding, k.nextSeq.trans h.nextSeq, k.held.trans h.held, k.ctlDue.trans h.ctlDue,
    k.nakDue.trans h.nakDue, k.retrainDue.trans h.retrainDue⟩

/-- The parts that serving touches. -/
def serveParts : List Part := [.ports, .mnf, .msh, .lnk, .jct, .vtx, .free, .regs, .flt]

/-- What serving leaves: the registers but those of causes, the seam, and what the link has in flight. -/
structure Serves (s t : State) : Prop where
  keeps : Keeps [] serveParts [] s t
  flight : SameFlight s.lnk t.lnk

section
variable {s t u : State}

theorem Serves.refl (s : State) : Serves s s := ⟨Keeps.self _ _ _ s, SameFlight.refl _⟩

theorem Serves.trans (h : Serves s t) (k : Serves t u) : Serves s u := ⟨h.keeps.step k.keeps, h.flight.trans k.flight⟩

/-- The last change first, so that the state before it is read off the state after it. -/
theorem Serves.after (k : Serves t u) (h : Serves s t) : Serves s u := h.trans k

theorem Serves.ite {c : Prop} [Decidable c] (ht : c → Serves s t) (hu : ¬c → Serves s u) : Serves s (if c then t else u) := by
  split
  next h => exact ht h
  next h => exact hu h

theorem serves_foldl {α : Type} {f : State → α → State} (h : ∀ s x, Serves s (f s x)) (l : List α) (s : State) :
    Serves s (l.foldl f s) := by
  induction l generalizing s with
  | nil => exact Serves.refl s
  | cons x xs ih => exact (h s x).trans (ih (f s x))

/-- A change of parts away from the registers, the seam and the link. -/
theorem OnlyChanges.serves {ps : List Part} (h : OnlyChanges ps s t) (sub : ps ⊆ serveParts)
    (away : .regs ∉ ps ∧ .lnk ∉ ps) : Serves s t := by
  have par : .par ∉ ps := fun m => absurd (sub m) (by decide)
  have seam : .seam ∉ ps := fun m => absurd (sub m) (by decide)
  have lnk : t.lnk = s.lnk := h .lnk away.2
  refine ⟨(h.keeps away.1 par seam).mono (by simp) sub (by simp), ?_⟩
  rw [lnk]
  exact SameFlight.refl _

end

theorem serves_raise {c : Cause} (hc : c ∈ causes) (d : BitVec 80) (s : State) : Serves s (raise c d s) := by
  refine ⟨(keeps_raise hc d s).mono (by decide) (by decide) (by decide), ?_⟩
  rw [onlyChanges_raise c d s .lnk (by decide)]
  exact SameFlight.refl _

theorem serves_lnk {l : Lnk} {s : State} (h : SameFlight s.lnk l) : Serves s { s with lnk := l } :=
  ⟨((onlyChanges_lnk l s).keeps (by decide) (by decide) (by decide)).mono (by decide) (by decide) (by decide), h⟩

theorem serves_mnf (m : Mnf) (s : State) : Serves s { s with mnf := m } := (onlyChanges_mnf m s).serves (by decide) (by decide)

theorem onlyChanges_msh (m : Msh) (s : State) : OnlyChanges [.msh] s { s with msh := m } := by
  intro p hp
  cases p <;> simp_all [Part.same]

theorem serves_msh (m : Msh) (s : State) : Serves s { s with msh := m } := (onlyChanges_msh m s).serves (by decide) (by decide)

theorem onlyChanges_jct (j : Jct) (s : State) : OnlyChanges [.jct] s { s with jct := j } := by
  intro p hp
  cases p <;> simp_all [Part.same]

theorem serves_jct (j : Jct) (s : State) : Serves s { s with jct := j } := (onlyChanges_jct j s).serves (by decide) (by decide)

theorem serves_vtx (v : Vtx) (s : State) : Serves s { s with vtx := v } := (onlyChanges_vtx v s).serves (by decide) (by decide)

theorem serves_modPort (p : PortId) (f : Port → Port) (s : State) : Serves s (s.modPort p f) :=
  (onlyChanges_modPort p f s).serves (by decide) (by decide)

theorem serves_queuePacket (t : Nat) (bs : List Byte) (s : State) : Serves s (queuePacket t bs s) := by
  obtain e | e := queuePacket_cases t bs s
  · rw [e]
    exact Serves.refl s
  · rw [e]
    exact serves_lnk ⟨rfl, rfl, rfl, rfl, rfl, rfl, rfl⟩

theorem serves_sendT0 {dest : BitVec 14} {rtag : BitVec 16} {op : Byte} {data : List Byte} {s t : State}
    (h : sendT0 dest rtag op data s = some t) : Serves s t := by
  unfold sendT0 at h
  split at h
  · cases h
    exact serves_queuePacket _ _ s
  · cases h

theorem serves_trySendT0 (dest : BitVec 14) (rtag : BitVec 16) (op : Byte) (data : List Byte) (s : State) :
    Serves s (trySendT0 dest rtag op data s) := by
  unfold trySendT0
  cases h : sendT0 dest rtag op data s with
  | none => exact Serves.refl s
  | some t => exact serves_sendT0 h

/-! ## Tickets that go back, and entries of the manifest -/

theorem serves_returnTicket (f : RxFlit) (s : State) : Serves s (returnTicket f s) := by
  unfold returnTicket
  dsimp only
  split
  · exact Serves.refl s
  · exact serves_lnk ⟨rfl, rfl, rfl, rfl, rfl, rfl, rfl⟩

theorem serves_freeFlits (fs : List RxFlit) (s : State) : Serves s (freeFlits fs s) :=
  serves_foldl (fun s f => serves_returnTicket f s) fs s

theorem serves_noteFull (s : State) : Serves s (noteFull s) :=
  .ite (fun _ => (serves_mnf _ s).trans (serves_raise (by decide) _ _)) fun _ => serves_mnf _ s

theorem serves_putEntry (tag : Nat) (e : Entry) (s : State) : Serves s (putEntry tag e s) := serves_mnf _ s

theorem serves_alloc (e : Entry) (s : State) : Serves s (alloc e s).2 := by
  dsimp only [alloc]
  exact (serves_noteFull _).after ((serves_putEntry _ e _).after (serves_mnf _ s))

theorem serves_freeEntry (tag : Nat) (s : State) : Serves s (freeEntry tag s) := (serves_mnf _ s).trans (serves_noteFull _)

theorem onlyChanges_addBreq (p : PortId) (b : Breq) (s : State) : OnlyChanges [.ports, .mnf] s (addBreq p b s) :=
  (onlyChanges_modPort p _ s).trans (onlyChanges_mnf _ _)

theorem serves_addBreq (p : PortId) (b : Breq) (s : State) : Serves s (addBreq p b s) :=
  (onlyChanges_addBreq p b s).serves (by decide) (by decide)

theorem serves_addBlocks (write : Bool) (addr : BitVec 64) (len : Nat) (data : List Byte) (poison : Bool) (mk : Nat → Purpose)
    (s : State) : Serves s (addBlocks write addr len data poison mk s) :=
  serves_foldl (fun s _ => serves_addBreq _ _ s) _ s

theorem serves_replyReady (tag : Nat) (s : State) : Serves s (replyReady tag s) := serves_mnf _ s

theorem serves_handReplies (n : Nat) (s : State) : Serves s (handReplies n s) := by
  induction n generalizing s with
  | zero => exact Serves.refl s
  | succ n ih =>
    unfold handReplies
    split
    · exact Serves.refl s
    · refine .ite (fun _ => Serves.refl s) fun _ => ?_
      dsimp only
      split
      · exact (((serves_mnf _ s).trans (serves_queuePacket _ _ _)).trans (serves_freeEntry _ _)).trans (ih _)
      · exact (serves_mnf _ s).trans (ih _)

/-! ## Requests served -/

theorem serves_refuse (p : RxPacket) (hdr : THdr) (status : Byte) (s : State) : Serves s (refuse p hdr status s) := by
  dsimp only [refuse]
  exact (serves_replyReady _ _).after ((serves_alloc _ _).after (serves_freeFlits _ s))

theorem serves_markDirty (addr : BitVec 64) (len : Nat) (s : State) : Serves s (markDirty addr len s) := by
  unfold markDirty
  split
  · exact Serves.refl s
  · exact .ite (fun _ => Serves.refl s) fun _ => serves_msh _ s

theorem serves_countHeat (addr : BitVec 64) (len : Nat) (src : BitVec 14) (s : State) : Serves s (countHeat addr len src s) := by
  refine .ite (fun _ => ?_) fun _ => Serves.refl s
  split
  · exact Serves.refl s
  · exact serves_msh _ s

theorem serves_serveHere {p : RxPacket} {h : THdr} {s t : State} (e : serveHere p h s = some t) : Serves s t := by
  dsimp only [serveHere] at e
  split at e
  · cases e
  · cases e
    have counted := (serves_freeFlits p.held s).trans (serves_countHeat h.addr (h.len.toNat + 1) h.src _)
    have marked : Serves s (if opReads h.op = true then countHeat h.addr (h.len.toNat + 1) h.src (freeFlits p.held s)
        else markDirty h.addr (h.len.toNat + 1) (countHeat h.addr (h.len.toNat + 1) h.src (freeFlits p.held s))) :=
      .ite (fun _ => counted) fun _ => counted.trans (serves_markDirty _ _ _)
    exact (marked.trans (serves_alloc _ _)).trans (serves_addBlocks _ _ _ _ _ _ _)

theorem serves_salt (d : BitVec 14) (s : State) : Serves s (salt d s).2 := by
  have fresh (m : Mnf) : Serves s { s.draw with mnf := m } :=
    ((onlyChanges_draw s).serves (by decide) (by decide)).trans (serves_mnf m _)
  unfold salt
  dsimp only
  split
  · exact fresh _
  · split
    · exact fresh _
    · exact Serves.refl s

theorem serves_forward {p : RxPacket} {h : THdr} {die : BitVec 14} {s t : State} (e : forward p h die s = some t) : Serves s t := by
  dsimp only [forward] at e
  split at e
  · cases e
  · cases e
    refine Serves.trans ?_ (serves_queuePacket _ _ _)
    refine Serves.trans ?_ (serves_freeFlits _ _)
    split
    · exact Serves.refl s
    · split
      · exact serves_salt die s
      · exact Serves.refl s

theorem serves_moved {p : RxPacket} {h : THdr} {die : Option (BitVec 14)} {s t : State} (e : moved p h die s = some t) :
    Serves s t := by
  unfold moved at e
  split at e
  · split at e
    · exact serves_forward e
    · cases e
      exact serves_refuse _ _ _ s
  · cases e
    exact serves_refuse _ _ _ s

theorem serves_choseMember (num : BitVec 12) (i : Nat) (s : State) : Serves s (choseMember num i s) := serves_msh _ s

theorem serves_serveTicket {p : RxPacket} {h : THdr} {s t : State} (e : serveTicket p h s = some t) : Serves s t := by
  unfold serveTicket at e
  extract_lets len place full busy u other at e
  have noted : Serves s u := .ite (fun _ => serves_raise (by decide) _ s) fun _ => Serves.refl s
  clear_value other u
  split at e
  · cases e
  · split at e
    · split at e
      · split at e
        · obtain ⟨v, moves, rfl⟩ := Option.map_eq_some_iff.mp e
          exact (noted.trans (serves_moved moves)).trans (serves_choseMember _ _ _)
        · exact noted.trans (serves_moved e)
      · exact noted.trans (serves_moved e)
    · split at e
      · cases e
      · extract_lets slot a v at e
        have put := (serves_freeFlits p.held s).trans (serves_alloc (.served v) _)
        generalize alloc (.served v) (freeFlits p.held s) = r at e put
        obtain ⟨tag, w⟩ := r
        cases e
        exact (serves_addBlocks _ _ _ _ _ _ _).after ((serves_msh _ w).after put)

theorem serves_noteCut (rs : List DirRec) (src : BitVec 14) (s : State) : Serves s (noteCut rs src s) := serves_msh _ s

theorem serves_serve {p : RxPacket} {s t : State} (e : serve p s = some t) : Serves s t := by
  have refused {h : THdr} {n : Byte} (e : some (refuse p h n s) = some t) : Serves s t := by
    cases e
    exact serves_refuse _ _ _ s
  dsimp only [serve] at e
  split at e
  · cases e
  · split at e
    · split at e
      · split at e
        · exact refused e
        · split at e
          · exact refused e
          · exact serves_serveTicket e
      · split at e
        · exact (serves_noteCut _ _ s).trans (serves_serveHere e)
        · split at e
          · exact refused e
          · exact refused e
    · split at e
      · exact refused e
      · split at e
        · exact refused e
        · split at e
          · exact serves_serveTicket e
          · split at e
            · exact serves_moved e
            · exact serves_serveHere e

theorem serves_serveTrack (t : BitVec 3) (n : Nat) (s : State) : Serves s (serveTrack t n s) := by
  induction n generalizing s with
  | zero => exact Serves.refl s
  | succ n ih =>
    unfold serveTrack
    split
    · exact Serves.refl s
    · split
      next e => exact ((serves_mnf _ s).trans (serves_serve e)).trans (ih _)
      next => exact Serves.refl s

theorem serves_serveWaiting (n : Nat) (s : State) : Serves s (serveWaiting n s) :=
  ((serves_serveTrack 4 n s).trans (serves_serveTrack 3 n _)).trans (serves_serveTrack 1 n _)

theorem serves_pumpMnf (s : State) : Serves s (pumpMnf s) :=
  ((serves_handReplies _ s).trans (serves_serveWaiting _ _)).trans (serves_handReplies _ _)

/-! ## Programs and operands that wait -/

theorem serves_pumpProgs (n : Nat) (s : State) : Serves s (pumpProgs n s) := by
  induction n generalizing s with
  | zero => exact Serves.refl s
  | succ n ih =>
    unfold pumpProgs
    split
    · exact Serves.refl s
    · split
      · exact Serves.refl s
      next sent => exact ((serves_sendT0 sent).trans (serves_vtx _ _)).trans (ih _)

theorem serves_readOperand (g : JGroup) (part : Option Nat) (s : State) : Serves s (readOperand g part s).1 := by
  dsimp only [readOperand, readRange]
  split
  · exact serves_foldl (fun s _ => serves_addBreq _ _ s) _ s
  · exact Serves.refl s

theorem serves_modGroup (g : BitVec 12) (f : JGroup → JGroup) (s : State) : Serves s (modGroup g f s) := serves_jct _ s

theorem serves_pumpReads (n : Nat) (s : State) : Serves s (pumpReads n s) := by
  induction n generalizing s with
  | zero => exact Serves.refl s
  | succ n ih =>
    unfold pumpReads
    split
    · exact Serves.refl s
    · dsimp only
      split
      · exact (serves_jct _ s).trans (ih _)
      · refine .ite (fun _ => (serves_jct _ s).trans (ih _)) fun _ => .ite (fun _ => Serves.refl s) fun _ => ?_
        exact (((serves_jct _ s).trans (serves_modGroup _ _ _)).trans (serves_readOperand _ _ _)).trans (ih _)

theorem serves_readOperands (s : State) : Serves s (readOperands s) := serves_pumpReads _ s

/-! ## Requests that end, and the migration -/

theorem serves_modReq (p : PortId) (n : Nat) (f : HostReq → HostReq) (s : State) : Serves s (modReq p n f s) := serves_modPort p _ s

theorem serves_endReq (p : PortId) (n : Nat) (status : Byte) (s : State) : Serves s (endReq p n status s) := by
  unfold endReq
  split
  · exact Serves.refl s
  · exact (serves_modPort p _ s).trans (serves_mnf _ _)

theorem serves_failReq (p : PortId) (n : Nat) (status : Byte) (s : State) : Serves s (failReq p n status s) := by
  have ended : Serves s (endReq p n status (freeResending p n s)) :=
    (serves_foldl (fun s t => serves_freeEntry t s) _ s).trans (serves_endReq _ _ _ _)
  rw [failReq_eq]
  exact .ite (fun _ => ended.trans (serves_raise (by decide) _ _)) fun _ => ended

theorem serves_segDone (p : PortId) (n i : Nat) (status : Byte) (data : List Byte) (poison : Bool) (s : State) :
    Serves s (segDone p n i status data poison s) := by
  unfold segDone
  split
  · exact Serves.refl s
  · refine .ite (fun _ => Serves.refl s) fun _ => ?_
    have put := serves_modReq p n
    refine .ite (fun _ => .ite (fun _ => put _ s) fun _ => ?_) fun _ => ?_
    · exact .ite (fun _ => (put _ s).trans (serves_modPort p _ _)) fun _ => (put _ s).trans (serves_failReq _ _ _ _)
    · exact .ite (fun _ => (put _ s).trans (serves_endReq _ _ _ _)) fun _ => put _ s

theorem serves_modRec (slot : Nat) (f : DirRec → DirRec) (s : State) : Serves s (modRec slot f s) := serves_msh _ s

theorem serves_modMig (f : Mig → Mig) (s : State) : Serves s (modMig f s) := serves_msh _ s

theorem serves_abandonMig (s : State) : Serves s (abandonMig s) := by
  unfold abandonMig
  refine .ite (fun _ => ?_) fun _ => Serves.refl s
  extract_lets dest base u v w
  clear_value dest
  have cleared : Serves s v := (serves_modMig _ _).after (serves_modRec _ _ s)
  have told : Serves v w := by
    dsimp only [w]
    split
    · exact serves_trySendT0 _ _ _ _ v
    · exact Serves.refl v
  exact (cleared.trans told).trans (serves_raise (by decide) _ w)

theorem serves_endMig (s : State) : Serves s (endMig s) := by
  unfold endMig
  extract_lets m u v
  have full : Serves s u := (serves_noteFull _).after (serves_modMig _ s)
  have marked : Serves u v := .ite (fun _ => serves_modRec _ _ u) fun _ => Serves.refl u
  split
  · exact (full.trans marked).trans (serves_modMig _ v)
  · extract_lets b w x
    have told : Serves v x := (serves_modMig _ _).after (serves_foldl (fun s d => serves_trySendT0 d 0 0x63 b s) _ v)
    exact ((full.trans marked).trans told).trans (.ite (fun _ => serves_raise (by decide) _ x) fun _ => serves_raise (by decide) _ x)

theorem serves_readPages (r : DirRec) (n : Nat) (s : State) : Serves s (readPages r n s) := by
  induction n generalizing s with
  | zero => exact Serves.refl s
  | succ n ih =>
    unfold readPages
    split
    · exact Serves.refl s
    · exact .ite (fun _ => ((serves_modMig _ s).trans (serves_addBreq _ _ _)).trans (ih _)) fun _ => Serves.refl s

theorem serves_endRound (s : State) : Serves s (endRound s) := by
  refine .ite (fun _ => ?_) fun _ => .ite (fun _ => serves_abandonMig s) fun _ => serves_modMig _ s
  exact .ite (fun _ => Serves.refl s) fun _ => ((serves_modRec _ _ s).trans (serves_modMig _ _)).trans (serves_noteFull _)

theorem serves_pumpMig (s : State) : Serves s (pumpMig s) := by
  unfold pumpMig
  split
  · exact Serves.refl s
  next r _ =>
    extract_lets quiet u v done
    have round : Serves s u := .ite (fun _ => serves_endRound s) fun _ => Serves.refl s
    have final : Serves u v := .ite (fun _ => serves_modMig _ u) fun _ => Serves.refl u
    refine (round.trans final).trans ?_
    exact .ite (fun _ => (serves_endMig _).after (serves_modMig _ v))
      fun _ => .ite (fun _ => serves_readPages r _ v) fun _ => Serves.refl v

theorem serves_copyFail (page : Nat) (s : State) : Serves s (copyFail page s) :=
  .ite (fun _ => serves_abandonMig s) fun _ =>
    .ite (fun _ => (serves_modMig _ s).trans (serves_pumpMig _)) fun _ => Serves.refl s

end Sys2Proof.Machine
end

section
/-!
SUPPORT. Retrains, the link down, its flush, and the retirement of a sleeve: what they leave (R87, R88, R157 to R161, R212).
-/
namespace Sys2Proof.Machine

/-- The parts that the link's larger operations touch. -/
def linkParts : List Part := [.seam, .tlr, .lnk, .ports, .mnf, .msh, .jct, .vtx, .sbx, .free, .regs, .flt, .pcm, .slp, .ttb]

/-- What the link's larger operations leave: most of the seam, the time, and whether a timetable runs. -/
structure Links (s t : State) : Prop where
  keeps : Keeps widthRegs linkParts widthSeam s t
  timetable : t.ttb.st = s.ttb.st

section
variable {s t u : State}

theorem Links.refl (s : State) : Links s s := ⟨Keeps.self _ _ _ s, rfl⟩

theorem Links.trans (h : Links s t) (k : Links t u) : Links s u := ⟨h.keeps.step k.keeps, k.timetable.trans h.timetable⟩

theorem Links.ite {c : Prop} [Decidable c] (ht : c → Links s t) (hu : ¬c → Links s u) : Links s (if c then t else u) := by
  split
  next h => exact ht h
  next h => exact hu h

theorem links_foldl {α : Type} {f : State → α → State} (h : ∀ s x, Links s (f s x)) (l : List α) (s : State) :
    Links s (l.foldl f s) := by
  induction l generalizing s with
  | nil => exact Links.refl s
  | cons x xs ih => exact (h s x).trans (ih (f s x))

/-- An operation that does not touch the timetable. -/
theorem Keeps.links {as : List Nat} {ps : List Part} {qs : List SeamPart} (h : Keeps as ps qs s t) (ha : as ⊆ widthRegs)
    (hp : ps ⊆ linkParts) (hq : qs ⊆ widthSeam) (ttb : .ttb ∉ ps) : Links s t :=
  ⟨h.mono ha hp hq, congrArg Ttb.st (h.frame .ttb ttb)⟩

theorem Serves.links (h : Serves s t) : Links s t := h.keeps.links (by decide) (by decide) (by decide) (by decide)

theorem Repairs.links (h : Repairs s t) : Links s t := h.keeps.links (by decide) (by decide) (by decide) (by decide)

end

theorem links_wake (w : Wait) (status : BitVec 16) (data : List Byte) (s : State) : Links s (wake w status data s) :=
  (keeps_wake w status data s).links (by decide) (by decide) (by decide) (by decide)

theorem links_lnk (l : Lnk) (s : State) : Links s { s with lnk := l } :=
  ((onlyChanges_lnk l s).keeps (by decide) (by decide) (by decide)).links (by decide) (by decide) (by decide) (by decide)

theorem links_modTlr (f : Tlr → Tlr) (s : State) : Links s (modTlr f s) :=
  ((onlyChanges_modTlr f s).keeps (by decide) (by decide) (by decide)).links (by decide) (by decide) (by decide) (by decide)

theorem links_sendSlp (type : Byte) (ws : List Word) (s : State) : Links s (sendSlp type ws s) :=
  ((onlyChanges_sendSlp type ws s).keeps (by decide) (by decide) (by decide)).links (by decide) (by decide) (by decide) (by decide)

theorem links_raiseAs {c : Cause} (hc : c ∈ causes) (cls cost : Byte) (d : BitVec 80) (s : State) : Links s (raiseAs c cls cost d s) :=
  (keeps_raiseAs hc cls cost d s).links (by decide) (by decide) (by decide) (by decide)

theorem links_raise {c : Cause} (hc : c ∈ causes) (d : BitVec 80) (s : State) : Links s (raise c d s) := links_raiseAs hc _ _ d s

theorem links_endWidth (r : Nat) (s : State) : Links s (endWidth r s) :=
  (keeps_endWidth r s).links (by decide) (by decide) (by decide) (by decide)

/-- The exchanges given up when the seam can no longer talk. -/
def exchangesLost (s : State) : State := modSeam (fun m => { m with mine := none, want := [], ctlOut := [] }) s

theorem links_exchangesLost (s : State) : Links s (exchangesLost s) := by
  have seam : OnlySeam [.mine, .want, .ctlOut] s (exchangesLost s) := by
    intro p hp
    cases p <;> simp_all [SeamPart.same, exchangesLost]
  exact (seam.keeps (onlyChanges_modSeam _ s)).links (by decide) (by decide) (by decide) (by decide)

/-! ## Retrains -/

theorem links_retrainLost (s : State) : Links s (retrainLost s) :=
  .ite (fun _ => (links_lnk _ s).trans (links_wake .retrain 0x0256 [] _)) fun _ => Links.refl s

theorem links_abandonPasses (s : State) : Links s (abandonPasses s) :=
  links_foldl (fun s k => (repairs_abandonPass k s).links) _ s

theorem links_beginRetrain (send : Bool) (s : State) : Links s (beginRetrain send s) := by
  unfold beginRetrain
  extract_lets u v w r x y
  have lost : Links s v := ((links_abandonPasses s).trans (links_endWidth 5 _)).trans (links_exchangesLost u)
  have raised : Links v y := ((links_modTlr _ v).trans (links_lnk _ w)).trans (links_raise (by decide) _ x)
  exact (lost.trans raised).trans (.ite (fun _ => links_sendSlp 0x28 [] y) fun _ => Links.refl y)

theorem links_startRetrain (send : Bool) (s : State) : Links s (startRetrain send s) :=
  .ite (fun _ => links_beginRetrain send s) fun _ => Links.refl s

/-! ## The link down -/

theorem onlyChanges_ports (f : Vector Port 8) (s : State) : OnlyChanges [.ports] s { s with ports := f } := by
  intro p hp
  cases p <;> simp_all [Part.same]

theorem serves_ports (f : Vector Port 8) (s : State) : Serves s { s with ports := f } :=
  (onlyChanges_ports f s).serves (by decide) (by decide)

theorem serves_flushOne (tag : Nat) (s : State) : Serves s (flushOne tag s) := by
  unfold flushOne
  split
  next o _ =>
    refine .ite (fun _ => Serves.refl s) fun _ => ?_
    have freed := (serves_ports (s.ports.map fun p => { p with issue := p.issue.filter fun t => t.tag != some tag }) s).trans
      (serves_freeEntry tag _)
    dsimp only
    split
    · exact freed.trans (serves_copyFail _ _)
    · exact .ite (fun _ => freed) fun _ => freed.trans (serves_segDone _ _ _ _ _ _ _)
  next => exact Serves.refl s

theorem links_flushEntries (s : State) : Links s (flushEntries s) :=
  (links_foldl (fun s t => (serves_flushOne t s).links) _ s).trans (links_lnk _ _)

theorem links_askStop {x : Stop} (other : x.reason ≠ 1) (s : State) : Links s (askStop x s) := by
  have asked : Links s { s with ttb := { s.ttb with stops := s.ttb.stops ++ [x] } } := by
    have frame : OnlyChanges [.ttb] s { s with ttb := { s.ttb with stops := s.ttb.stops ++ [x] } } := by
      intro p hp
      cases p <;> simp_all [Part.same]
    exact ⟨(frame.keeps (by decide) (by decide) (by decide)).mono (by decide) (by decide) (by decide), rfl⟩
  have no : ¬(s.ttb.st == .startArmed && x.reason == 1) = true := by
    rw [beq_eq_false_iff_ne.mpr other, Bool.and_false]
    decide
  refine .ite (fun halt => absurd halt no) fun _ => ?_
  exact .ite (fun _ => asked) fun _ => Links.refl s

theorem links_stopAtPath {reason : BitVec 4} (other : reason ≠ 1) (s : State) : Links s (stopAtPath reason s) := links_askStop other s

theorem onlyChanges_setCause (c : Cause) (s : State) : OnlyChanges [.regs] s (setCause c s) :=
  ((onlyChanges_setReg _ _ s).trans (onlyChanges_setReg _ _ _)).mono (by decide)

theorem keeps_setCause {c : Cause} (hc : c ∈ causes) (s : State) : Keeps [] [.regs, .flt] [] s (setCause c s) :=
  ⟨notes_setCause hc s, (onlyChanges_setCause c s).mono (by decide), (onlyChanges_setCause c s).onlySeam (by decide)⟩

theorem onlyChanges_pushOcc (o : Occ) (s : State) : OnlyChanges [.flt] s (pushOcc o s) := by
  intro p hp
  cases p <;> simp_all [Part.same]

theorem keeps_pushOcc (o : Occ) (s : State) : Keeps [] [.regs, .flt] [] s (pushOcc o s) :=
  ((onlyChanges_pushOcc o s).keeps (by decide) (by decide) (by decide)).mono (by decide) (by decide) (by decide)

theorem keeps_setCauses {cs : List Cause} (hc : ∀ c ∈ cs, c ∈ causes) (s : State) :
    Keeps [] [.regs, .flt] [] s (cs.foldl (fun s c => setCause c s) s) := by
  induction cs generalizing s with
  | nil => exact Keeps.self _ _ _ s
  | cons c cs ih => exact (keeps_setCause (hc c (by simp)) s).step (ih (fun d hd => hc d (by simp [hd])) _)

theorem links_raiseMulti {c : Cause} {others : List Cause} (hc : ∀ d ∈ c :: others, d ∈ causes) (cls cost : Byte) (d : BitVec 80)
    (s : State) : Links s (raiseMulti c others cls cost d s) :=
  ((keeps_setCauses hc s).step (keeps_pushOcc _ _)).links (by decide) (by decide) (by decide) (by decide)

theorem links_flush (s : State) : Links s (flush s) := by
  have stopped : Links s (stopAtPath 7 (flushEntries (discardLink (retrainLost s)))) :=
    (((links_retrainLost s).trans (links_lnk _ _)).trans (links_flushEntries _)).trans (links_stopAtPath (by decide) _)
  unfold flush
  extract_lets running u n others v
  refine (stopped.trans ?_).trans (links_wake .flush 0 _ v)
  refine .ite (fun _ => links_raiseAs (by decide) _ _ _ u) fun _ => links_raiseMulti (fun d hd => ?_) _ _ _ u
  have known : d = C.LNK.FLUSHED ∨ d = C.MNF.LINK_FLUSH ∨ d = C.TTB.STOPPED := by
    simp only [others, List.mem_cons, List.mem_append] at hd
    rcases hd with rfl | hd | hd
    · exact .inl rfl
    · split at hd <;> simp_all
    · split at hd <;> simp_all
  rcases known with rfl | rfl | rfl <;> decide

theorem links_declareDown (cause : Byte) (send : Bool) (s : State) : Links s (declareDown cause send s) := by
  unfold declareDown
  refine .ite (fun _ => Links.refl s) fun _ => ?_
  extract_lets u v w x y
  have lost : Links s v := ((links_retrainLost s).trans (links_endWidth 5 _)).trans (links_exchangesLost u)
  have raised : Links s x := (lost.trans (links_lnk _ v)).trans (links_raise (by decide) _ w)
  have told : Links x y := .ite (fun _ => links_sendSlp _ _ x) fun _ => Links.refl x
  refine (raised.trans told).trans ?_
  exact .ite (fun _ => links_flush y) fun _ => .ite (fun _ => links_beginRetrain true y) fun _ => Links.refl y

/-- The limits of R156 and R159 leave what the link's larger operations leave. -/
theorem links_replayLimits (counts : List Nat) (s : State) : Links s (replayLimits counts s) :=
  .ite (fun _ => .ite (fun _ => links_lnk _ s) fun _ => links_declareDown _ _ s)
    fun _ => .ite (fun _ => links_startRetrain true s) fun _ => Links.refl s

/-! ## Sleeves that leave the seam -/

theorem repairs_endRolling (d : Dir) (k : SleeveNo) (s : State) : Repairs s (endRolling d k s) := by
  unfold endRolling
  split
  · exact repairs_modSlv d k (f := fun v => { v with spareState := 0, spareLane := 0 }) (fun _ => ⟨rfl, rfl⟩) s
  · exact Repairs.refl s

theorem repairs_leaveSleeves (m : Byte) (s : State) : Repairs s (leaveSleeves m s) :=
  repairs_foldl (fun s k => ((((exOnly_dropWants k s).repairs.trans (repairs_abandonPass k _)).trans
    (repairs_endRolling .down k _)).trans (repairs_endRolling .up k _))) _ s

/-- The state with a sleeve retired: out of the mask, powered down, and its exchanges ended (R87). -/
def sleeveRetired (k : SleeveNo) (s : State) : State :=
  let about (x : ExKind) : Bool :=
    match x with
    | .subst j _ _ => j == k
    | .retire j => j == k
    | .width _ => false
  modSeam (fun t => { t with
    retired := t.retired ||| slvBit k, usable := t.usable &&& ~~~(slvBit k), powered := t.powered &&& (~~~(slvBit k) ||| s.testMask),
    retireAt := t.retireAt.filter (·.1 != k), lastRetired := some (k, t.dnSlot), subst := t.subst.filter (·.slv != k),
    abandoned := t.abandoned.filter (fun x => !about x.1), mine := t.mine.filter (fun x => !about x.kind) }) s

/-- What follows a sleeve's retirement: its flag, the next exchange, and with the last usable sleeve the link down. -/
def retirementTold (had : Bool) (k : SleeveNo) (s : State) : State :=
  let s := raiseAs C.SEAM.SLEEVE_RETIRED 0x01 0x03 (detSeam k.toNat 0xF false (s.slv .down k).spareState.toNat s) s
  let s := nextEx (askRebuild s)
  if had && s.seam.usable = 0 then declareDown 0x03 true s else s

theorem retireNow_eq {k : SleeveNo} {s : State} (kept : s.seam.retired.getLsbD k.toNat = false) :
    retireNow k s = retirementTold (s.seam.usable.getLsbD k.toNat) k (sleeveRetired k (leaveSleeves (slvBit k) s)) := by
  unfold retireNow
  rw [if_neg (ne_true_of_eq_false kept)]
  rfl

theorem raised_raiseAs_self {c : Cause} (hc : c ∈ causes) (cls cost : Byte) (d : BitVec 80) (s : State) :
    Raised c (raiseAs c cls cost d s) := by
  obtain ⟨ne, lt⟩ := causes_sound c hc
  rw [Raised, reg_raiseAs]
  exact flag_setCause c s ne lt

/-- What is told of a retirement leaves the masks, and sets the flag. -/
theorem retirementTold_keeps (had : Bool) (k : SleeveNo) (s : State) :
    Links s (retirementTold had k s) ∧ Raised C.SEAM.SLEEVE_RETIRED (retirementTold had k s) := by
  unfold retirementTold
  extract_lets u v
  have raised : Links s u := links_raiseAs (by decide) _ _ _ s
  have next : Links u v := ((repairs_askRebuild u).trans (exOnly_nextEx _).repairs).links
  have down : Links v (if had && v.seam.usable = 0 then declareDown 0x03 true v else v) :=
    .ite (fun _ => links_declareDown _ _ v) fun _ => Links.refl v
  exact ⟨(raised.trans next).trans down, (next.trans down).keeps.notes.1 _ (by decide) (raised_raiseAs_self (by decide) _ _ _ s)⟩

/-- A sleeve is retired once and for all: out of the mask, with SLEEVE_RETIRED (R87). -/
theorem retireNow_retires {k : SleeveNo} {s : State} (kept : s.seam.retired.getLsbD k.toNat = false) :
    (retireNow k s).seam.retired.getLsbD k.toNat = true ∧ (retireNow k s).seam.usable.getLsbD k.toNat = false ∧
      Raised C.SEAM.SLEEVE_RETIRED (retireNow k s) := by
  rw [retireNow_eq kept]
  obtain ⟨links, raised⟩ := retirementTold_keeps (s.seam.usable.getLsbD k.toNat) k (sleeveRetired k (leaveSleeves (slvBit k) s))
  have retired := links.keeps.seam .retired (by decide)
  have usable := links.keeps.seam .usable (by decide)
  refine ⟨?_, ?_, raised⟩
  · refine (congrArg (fun m : Byte => m.getLsbD k.toNat) retired).trans ?_
    change ((leaveSleeves (slvBit k) s).seam.retired ||| slvBit k).getLsbD k.toNat = true
    rw [BitVec.getLsbD_or, slvBit_getLsbD, Bool.or_true]
  · refine (congrArg (fun m : Byte => m.getLsbD k.toNat) usable).trans ?_
    change ((leaveSleeves (slvBit k) s).seam.usable &&& ~~~(slvBit k)).getLsbD k.toNat = false
    rw [BitVec.getLsbD_and, BitVec.getLsbD_not, slvBit_getLsbD, Bool.not_true, Bool.and_false, Bool.and_false]

end Sys2Proof.Machine
end

section
/-!
SUPPORT. The block's own exchanges after a NAK or without an answer, and the switch slots at which they take effect (R23, R82, R85, R87, R93 to
R96, R115).
-/
namespace Sys2Proof.Machine

/-! ## SEAM_NAK -/

/-- The block's exchange is no longer outstanding. -/
def mineGone (s : State) : State := modSeam (fun m => { m with mine := none }) s

theorem exOnly_mineGone (s : State) : ExOnly s (mineGone s) := exOnly_mine _ s

/-- What a NAK does to the exchange that it answers. -/
def nakFor (c : SeamCtl) (x : Exch) (s : State) : State :=
  match x.kind with
  | .width _ => nextEx (endMyWidth (if c.nak = 0x03 then 6 else 4) (mineGone s))
  | .retire _ => if c.nak = 0x07 then refuseEx x s else renewEx x s
  | .subst k _ reason =>
    if c.nak = 0x07 && reason = 0 then refuseEx x s
    else if c.nak = 0x06 && reason = 0 then nextEx (wantRetire k (mineGone s))
    else if c.nak = 0x06 || c.nak = 0x07 then nextEx (endRolling .down k (abandonPass k (mineGone s)))
    else renewEx x s

/-- What SEAM_NAK does once its flit is taken. -/
def takeNak (c : SeamCtl) (s : State) : State :=
  match s.seam.mine with
  | none => s
  | some x => if x.xid != c.xid || x.renew then s else nakFor c x s

theorem exec_seamNak (got : SlvLine) (s : State) :
    exec (.seamNak got) s = whenFunctional s fun s => takeCtl 0x08 got.slv got.line s takeNak := rfl

theorem takeNak_answers {c : SeamCtl} {s : State} {x : Exch} (mine : s.seam.mine = some x) (id : x.xid = c.xid)
    (fresh : x.renew = false) : takeNak c s = nakFor c x s := by
  have unknown : ¬(x.xid != c.xid || x.renew) = true := by simp [id, fresh]
  rw [takeNak, mine]
  exact if_neg unknown

section
variable {slv : SleeveNo} {line : BitVec 2304} {p : BitVec 1920} {c : SeamCtl} {s u : State} {x : Exch} {P : State → Prop}

/-- A NAK that answers the block's exchange. -/
theorem runs_seamNak (h : Ctl slv line p c s) (good : c.malformed = false) (ht : c.type = 0x08) (mine : s.seam.mine = some x)
    (id : x.xid = c.xid) (fresh : x.renew = false) (e : nakFor c x (sawCtl p s) = u) (goal : P (settle u)) :
    Runs (.seamNak ⟨slv, line⟩) s P :=
  runs_functional (exec_seamNak ⟨slv, line⟩) h.functional
    (((takeCtl_good h good ht takeNak).trans (takeNak_answers (s := sawCtl p s) mine id fresh)).trans e) goal

/-- What an exchange leaves of the seam between its flit and the next exchange: a settled state changes the seam alone. -/
theorem seam_settled (h : ExOnly (sawCtl p s) u) (hs : Settled s) : OnlyChanges [.seam, .outs, .slp] s (settle u) :=
  (onlyChanges_settle_of ((onlyChanges_sawCtl p s).trans h.onlyChanges) hs (by decide)).mono (by decide)

theorem runs_seamNak_renews {k : SleeveNo} (h : Ctl slv line p c s) (hs : Settled s) (good : c.malformed = false)
    (ht : c.type = 0x08) (mine : s.seam.mine = some x) (id : x.xid = c.xid) (fresh : x.renew = false) (few : x.sends < 3)
    (kind : x.kind = .retire k) (other : c.nak ≠ 0x07) :
    Runs (.seamNak ⟨slv, line⟩) s fun t =>
      t.seam = { s.seenCtl p with mine := some { x with renew := true, since := s.mark } } ∧ OnlyChanges [.seam, .outs, .slp] s t := by
  let u := modSeam (fun m => { m with mine := some { x with renew := true, since := s.mark } }) (sawCtl p s)
  have e : nakFor c x (sawCtl p s) = u := by
    simp only [nakFor, kind, if_neg other]
    exact if_neg (Nat.not_le.mpr few)
  exact runs_seamNak h good ht mine id fresh e ⟨rfl, seam_settled (exOnly_mine _ _) hs⟩

/-- An exchange refused for good is kept as such, and the next begins. -/
theorem refuseEx_refuses (x : Exch) (s : State) :
    x.kind ∈ (refuseEx x s).seam.refused ∧ (s.seam.want = [] → (refuseEx x s).seam.mine = none) ∧
      OnlyChanges [.seam] s (refuseEx x s) := by
  let u := modSeam (fun m => { m with refused := m.refused ++ [x.kind] }) s
  have ended := exOnly_endEx u
  refine ⟨?_, fun none => mine_endEx_of_want_nil (s := u) none, ((onlyChanges_modSeam _ s).trans ended.onlyChanges).mono (by decide)⟩
  have refused : (refuseEx x s).seam.refused = u.seam.refused := ended.onlySeam .refused (by decide)
  rw [refused]
  exact List.mem_append_right _ (List.mem_singleton_self x.kind)

theorem runs_seamNak_refuses {k : SleeveNo} {lane : BitVec 4} (h : Ctl slv line p c s) (hs : Settled s)
    (good : c.malformed = false) (ht : c.type = 0x08) (mine : s.seam.mine = some x) (id : x.xid = c.xid) (fresh : x.renew = false)
    (kind : x.kind = .retire k ∨ x.kind = .subst k lane 0) (nak : c.nak = 0x07) :
    Runs (.seamNak ⟨slv, line⟩) s fun t =>
      x.kind ∈ t.seam.refused ∧ (s.seam.want = [] → t.seam.mine = none) ∧ OnlyChanges [.seam, .outs, .slp] s t := by
  have e : nakFor c x (sawCtl p s) = refuseEx x (sawCtl p s) := by
    rcases kind with kind | kind
    · simp only [nakFor, kind, if_pos nak]
    · simp [nakFor, kind, nak]
  obtain ⟨refused, next, frame⟩ := refuseEx_refuses x (sawCtl p s)
  exact runs_seamNak h good ht mine id fresh e ⟨refused, next,
    (onlyChanges_settle_of ((onlyChanges_sawCtl p s).trans frame) hs (by decide)).mono (by decide)⟩

theorem dueAs_retire {k : SleeveNo} {s : State} (kept : s.seam.retired.getLsbD k.toNat = false)
    (may : s.flag F.SEAM_CTRL.RETIRE_EN = true) : s.dueAs (.retire k) = some (.retire k) := by
  simp [State.dueAs, State.mayAsk, kept, may]

/-- A darning refused for want of a spare becomes a retirement (R87). -/
theorem asked_retire {k : SleeveNo} {s : State} (kept : s.seam.retired.getLsbD k.toNat = false)
    (may : s.flag F.SEAM_CTRL.RETIRE_EN = true) (free : .retire k ∉ s.seam.refused) :
    Asked (.retire k) (nextEx (wantRetire k s)) := by
  have eq : wantRetire k s = wantEx (.retire k) (dropWants k s) := if_pos may
  have asks := exOnly_wantEx (.retire k) (dropWants k s)
  have retired : (wantEx (.retire k) (dropWants k s)).seam.retired = s.seam.retired := asks.onlySeam .retired (by decide)
  have refused : (wantEx (.retire k) (dropWants k s)).seam.refused = s.seam.refused := asks.onlySeam .refused (by decide)
  have flag : (wantEx (.retire k) (dropWants k s)).flag F.SEAM_CTRL.RETIRE_EN = s.flag F.SEAM_CTRL.RETIRE_EN :=
    asks.keeps.notes.flag seam_ctrl_plain (by decide)
  rw [eq]
  refine asked_nextEx (dueAs_retire ?_ (flag.trans may)) (by rwa [refused]) ?_
  · rwa [retired]
  · exact asked_wantEx (s := dropWants k s) (dueAs_retire kept may) free

theorem runs_seamNak_retires {k : SleeveNo} {lane : BitVec 4} (h : Ctl slv line p c s) (hs : Settled s)
    (good : c.malformed = false) (ht : c.type = 0x08) (mine : s.seam.mine = some x) (id : x.xid = c.xid) (fresh : x.renew = false)
    (kind : x.kind = .subst k lane 0) (nak : c.nak = 0x06) (may : s.flag F.SEAM_CTRL.RETIRE_EN = true)
    (kept : s.seam.retired.getLsbD k.toNat = false) (free : .retire k ∉ s.seam.refused) :
    Runs (.seamNak ⟨slv, line⟩) s fun t =>
      (t.seam.mine.map (·.kind) = some (.retire k) ∨ .retire k ∈ t.seam.want) ∧ OnlyChanges [.seam, .outs, .slp] s t := by
  let v := mineGone (sawCtl p s)
  have e : nakFor c x (sawCtl p s) = nextEx (wantRetire k v) := by simp [nakFor, kind, nak, v]
  have frame : ExOnly (sawCtl p s) (nextEx (wantRetire k v)) :=
    ((exOnly_mineGone _).trans (exOnly_wantRetire k v)).trans (exOnly_nextEx _)
  exact runs_seamNak h good ht mine id fresh e ⟨asked_retire (s := v) kept may free, seam_settled frame hs⟩

/-! ## Rolling exchanges that end -/

theorem passIn_congr {s t : State} (h : t.tlr = s.tlr) (k : SleeveNo) : t.passIn k = s.passIn k := by
  rw [State.passIn, h, State.passIn]

/-- After its pass has been abandoned a sleeve has none. -/
theorem passIn_abandonPass (k : SleeveNo) (s : State) : (abandonPass k s).passIn k = none := by
  unfold abandonPass
  cases h : s.passIn k with
  | none => exact h
  | some q =>
    have drop : dropPass k s = endPass k (discardShadow q.lane s) := by rw [dropPass, h]
    have raised := onlyChanges_raiseLane C.TLR.PASS_ABANDONED .down k (placeOf q.lane) (dropPass k s)
    dsimp only
    rw [passIn_congr (raised .tlr (by decide)), drop]
    simp only [State.passIn, endPass, modTlr, Option.map_eq_none_iff, List.find?_eq_none, List.mem_filter]
    rintro y ⟨-, stays⟩
    rw [bne] at stays
    revert stays
    generalize (y.1 == k) = a
    generalize y.2.train = b
    revert a b
    decide

theorem spareState_endRolling (d : Dir) (k : SleeveNo) (s : State) : ((endRolling d k s).slv d k).spareState ≠ 2 := by
  unfold endRolling
  split
  · rw [slv_modSlv_same]
    change (0 : BitVec 2) ≠ 2
    decide
  next idle => exact idle

theorem tlr_endRolling (d : Dir) (k : SleeveNo) (s : State) : (endRolling d k s).tlr = s.tlr := by
  unfold endRolling
  split
  · exact onlyChanges_modSlv d k _ s .tlr (by decide)
  · rfl

theorem runs_seamNak_rolling {k : SleeveNo} {lane : BitVec 4} {reason : BitVec 2} (h : Ctl slv line p c s)
    (good : c.malformed = false) (ht : c.type = 0x08) (mine : s.seam.mine = some x) (id : x.xid = c.xid) (fresh : x.renew = false)
    (kind : x.kind = .subst k lane reason) (rolls : reason ≠ 0) (nak : c.nak = 0x06 ∨ c.nak = 0x07) :
    Runs (.seamNak ⟨slv, line⟩) s fun t => t.passIn k = none ∧ (t.slv .down k).spareState ≠ 2 := by
  let v := abandonPass k (mineGone (sawCtl p s))
  have e : nakFor c x (sawCtl p s) = nextEx (endRolling .down k v) := by
    have given : (c.nak = 0x06 || c.nak = 0x07) = true := by simpa using nak
    simp only [nakFor, kind, decide_eq_false rolls, Bool.and_false, Bool.false_eq_true, if_false, given, if_true, v]
  have next := exOnly_nextEx (endRolling .down k v)
  refine runs_seamNak h good ht mine id fresh e ⟨?_, ?_⟩
  · refine (passIn_congr ?_ k).trans (passIn_abandonPass k (mineGone (sawCtl p s)))
    exact (next.onlyChanges .tlr (by decide)).trans (tlr_endRolling .down k v)
  · rw [slv_settle, next.slv]
    exact spareState_endRolling .down k v

/-! ## Width changes given up -/

theorem endMyWidth_own {w : WidthChange} (width : s.seam.width = some w) (own : w.mine = true) (r : Nat) :
    endMyWidth r s = endWidth r s := by
  rw [endMyWidth, width]
  exact if_pos own

/-- A width change of the block's own that is given up leaves none, with its result. -/
theorem endMyWidth_fails {w : WidthChange} {r : Nat} (small : r < 256) (bad : r ≠ 0) (width : s.seam.width = some w)
    (own : w.mine = true) : (nextEx (endMyWidth r s)).seam.width = none ∧ Fails r (nextEx (endMyWidth r s)) := by
  rw [endMyWidth_own width own]
  have next := exOnly_nextEx (endWidth r s)
  exact ⟨next.width.trans (width_endWidth r s), (fails_endWidth small bad width own).keeps next.keeps (by decide)⟩

theorem runs_seamNak_width {m : Byte} {w : WidthChange} (h : Ctl slv line p c s) (good : c.malformed = false) (ht : c.type = 0x08)
    (mine : s.seam.mine = some x) (id : x.xid = c.xid) (fresh : x.renew = false) (kind : x.kind = .width m)
    (width : s.seam.width = some w) (own : w.mine = true) :
    Runs (.seamNak ⟨slv, line⟩) s fun t =>
      t.seam.width = none ∧ Raised C.SEAM.WIDTH_REFUSED t ∧ t.fld F.SEAM_WIDTH_CTRL.RESULT = (if c.nak = 0x03 then 6 else 4) := by
  have e : nakFor c x (sawCtl p s) = nextEx (endMyWidth (if c.nak = 0x03 then 6 else 4) (mineGone (sawCtl p s))) := by
    simp only [nakFor, kind]
  have code : (if c.nak = 0x03 then 6 else 4) < 256 ∧ (if c.nak = 0x03 then 6 else 4) ≠ 0 := by split <;> decide
  obtain ⟨none, refused, result⟩ := endMyWidth_fails (s := mineGone (sawCtl p s)) code.1 code.2 width own
  exact runs_seamNak h good ht mine id fresh e ⟨none, raised_settle.mpr refused, result⟩

end

/-! ## CTRL_RESEND_TIMEOUT -/

/-- What follows 1 µs without an answer. -/
def exTimedOut (x : Exch) (s : State) : State :=
  if !s.mayAsk x.kind then endEx s
  else if 3 ≤ x.sends then abandonEx x s
  else if x.renew then
    let n := s.seam.nextXid
    queueCtl (reqFlit x.kind n)
      (modSeam (fun m => { m with mine := some ⟨x.kind, n, x.sends + 1, false, s.mark⟩, nextXid := n + 1 }) s)
  else queueCtl (reqFlit x.kind x.xid) (modSeam (fun m => { m with mine := some { x with sends := x.sends + 1, since := s.mark } }) s)

/-- What CTRL_RESEND_TIMEOUT does. -/
def ctlTimedOut (s : State) : State :=
  match s.seam.mine with
  | none => s
  | some x => if !s.talks || s.seam.ctlOut.contains (reqFlit x.kind x.xid) then s else exTimedOut x (s.lapse x.since 1000)

theorem exec_ctrlResendTimeout (s : State) : exec .ctrlResendTimeout s = whenFunctional s ctlTimedOut := rfl

theorem mayAsk_congr {s t : State} (h : ∀ a, t.reg a = s.reg a) (k : ExKind) : t.mayAsk k = s.mayAsk k := by
  cases k <;> simp only [State.mayAsk, State.flag, h]

section
variable {s : State} {x : Exch}

theorem ctlTimedOut_eq (talks : s.talks = true) (mine : s.seam.mine = some x)
    (sent : s.seam.ctlOut.contains (reqFlit x.kind x.xid) = false) : ctlTimedOut s = exTimedOut x (s.lapse x.since 1000) := by
  have silent : ¬(!s.talks || s.seam.ctlOut.contains (reqFlit x.kind x.xid)) = true := by rw [talks, sent]; decide
  rw [ctlTimedOut, mine]
  exact if_neg silent

/-- An exchange sent again: with a new XID after a NAK, else as it was (R82). -/
theorem exTimedOut_again (may : s.mayAsk x.kind = true) (few : x.sends < 3) :
    ∃ xid m, (settle (exTimedOut x s)).seam.ctlOut = s.seam.ctlOut ++ [reqFlit x.kind xid] ∧
      (settle (exTimedOut x s)).seam.mine = some { x with xid := xid, sends := x.sends + 1, renew := false, since := m } ∧
      xid = (if x.renew then s.seam.nextXid else x.xid) ∧ (settle (exTimedOut x s)).now = s.now ∧
      OnlyChanges [.seam] s (exTimedOut x s) := by
  have first : ¬(!s.mayAsk x.kind) = true := by rw [may]; decide
  have second : ¬3 ≤ x.sends := Nat.not_le.mpr few
  rw [exTimedOut, if_neg first, if_neg second]
  by_cases renew : x.renew = true
  · rw [if_pos renew]
    refine ⟨s.seam.nextXid, s.mark, rfl, rfl, (if_pos renew).symm, rfl, ?_⟩
    exact ((onlyChanges_modSeam _ s).trans (exOnly_queueCtl _ _).onlyChanges).mono (by decide)
  · rw [if_neg renew]
    refine ⟨x.xid, s.mark, rfl, ?_, (if_neg renew).symm, rfl, ?_⟩
    · have still : x.renew = false := by simpa using renew
      change some { x with sends := x.sends + 1, since := s.mark } = _
      rw [← still]
    · exact ((onlyChanges_modSeam _ s).trans (exOnly_queueCtl _ _).onlyChanges).mono (by decide)

theorem runs_ctrlResendTimeout_again (hf : s.functional = true) (talks : s.talks = true) (hs : Settled s)
    (mine : s.seam.mine = some x) (sent : s.seam.ctlOut.contains (reqFlit x.kind x.xid) = false) (may : s.mayAsk x.kind = true)
    (few : x.sends < 3) :
    Runs .ctrlResendTimeout s fun t =>
      (∃ xid m, t.seam.ctlOut = s.seam.ctlOut ++ [reqFlit x.kind xid] ∧
        t.seam.mine = some { x with xid := xid, sends := x.sends + 1, renew := false, since := m } ∧
        xid = (if x.renew then s.seam.nextXid else x.xid)) ∧ (s.byAo = false → x.since.rail + 1000 ≤ t.now) ∧
        OnlyChanges [.seam, .rwt, .aoCycles, .outs, .slp] s t := by
  have still : (s.lapse x.since 1000).mayAsk x.kind = true :=
    (mayAsk_congr (fun a => reg_lapse x.since 1000 s a) x.kind).trans may
  obtain ⟨xid, m, out, again, which, now, frame⟩ := exTimedOut_again still few
  rw [seam_lapse] at out which
  refine runs_functional exec_ctrlResendTimeout hf (ctlTimedOut_eq talks mine sent) ⟨⟨xid, m, out, again, which⟩, fun rail => ?_, ?_⟩
  · rw [now]
    exact le_now_lapse rail x.since 1000
  · exact (onlyChanges_settle_of ((onlyChanges_lapse x.since 1000 s).trans frame) hs (by decide)).mono (by decide)

/-- A width change without an answer is given up with RESULT 5 (R82, R94). -/
theorem exTimedOut_width {m : Byte} {w : WidthChange} (many : 3 ≤ x.sends) (kind : x.kind = .width m)
    (width : s.seam.width = some w) (own : w.mine = true) :
    (exTimedOut x s).seam.width = none ∧ Raised C.SEAM.CTRL_TIMEOUT (exTimedOut x s) ∧ Fails 5 (exTimedOut x s) := by
  let u := raiseSeam C.SEAM.CTRL_TIMEOUT (mineGone s)
  have e : exTimedOut x s = nextEx (endMyWidth 5 u) := by
    have may : s.mayAsk x.kind = true := by rw [kind]; rfl
    have first : ¬(!s.mayAsk x.kind) = true := by rw [may]; decide
    rw [exTimedOut, if_neg first, if_pos many, abandonEx, kind]
    rfl
  have there : u.seam.width = some w := (congrArg Seam.width (onlyChanges_raiseSeam _ _ .seam (by decide))).trans width
  obtain ⟨none, fails⟩ := endMyWidth_fails (r := 5) (by decide) (by decide) there own
  rw [e]
  refine ⟨none, ?_, fails⟩
  rw [endMyWidth_own there own]
  exact (exOnly_nextEx _).keeps.notes.1 _ (by decide)
    ((keeps_endWidth 5 u).notes.1 _ (by decide) (raised_raise_self (by decide) _ _))

theorem runs_ctrlResendTimeout_width {m : Byte} {w : WidthChange} (hf : s.functional = true) (talks : s.talks = true)
    (mine : s.seam.mine = some x) (sent : s.seam.ctlOut.contains (reqFlit x.kind x.xid) = false) (many : 3 ≤ x.sends)
    (kind : x.kind = .width m) (width : s.seam.width = some w) (own : w.mine = true) :
    Runs .ctrlResendTimeout s fun t =>
      t.seam.width = none ∧ Raised C.SEAM.CTRL_TIMEOUT t ∧ Raised C.SEAM.WIDTH_REFUSED t ∧
        t.fld F.SEAM_WIDTH_CTRL.RESULT = 5 := by
  have there : (s.lapse x.since 1000).seam.width = some w := (congrArg Seam.width (seam_lapse _ _ s)).trans width
  obtain ⟨none, timeout, refused, result⟩ := exTimedOut_width many kind there own
  exact runs_functional exec_ctrlResendTimeout hf (ctlTimedOut_eq talks mine sent)
    ⟨none, raised_settle.mpr timeout, raised_settle.mpr refused, result⟩

end

/-! ## Switch slots -/

/-- A switch fixed for a slot is taken off the list. -/
def substGone (x : SubstSw) (s : State) : State := modSeam (fun m => { m with subst := m.subst.filter (· != x) }) s

/-- The switch of a lane in its direction. -/
def switchLane (d : Dir) (x : SubstSw) (s : State) : State :=
  match d with
  | .down => switchDown x s
  | .up => switchUp x s

/-- What SUBST_SWITCH does. -/
def substSwitched (d : Dir) (k : SleeveNo) (s : State) : State :=
  match s.seam.subst.find? (fun x => x.dir == d && x.slv == k) with
  | none => s
  | some x => switchLane d x (substGone x s)

theorem exec_substSwitch (d : Dir) (k : SleeveNo) (s : State) :
    exec (.substSwitch d k) s = whenFunctional s (substSwitched d k) := rfl

theorem substSwitched_eq {d : Dir} {k : SleeveNo} {x : SubstSw} {s : State}
    (found : (s.seam.subst.find? fun y => y.dir == d && y.slv == k) = some x) :
    substSwitched d k s = switchLane d x (substGone x s) ∧ x.slv = k := by
  have fits := List.find?_some found
  simp only [Bool.and_eq_true, beq_iff_eq] at fits
  refine ⟨?_, fits.2⟩
  rw [substSwitched, found]

theorem slv_substGone (x : SubstSw) (s : State) (d : Dir) (k : SleeveNo) : (substGone x s).slv d k = s.slv d k := by
  cases d <;> rfl

/-- A lane goes onto its spare as its repair, with LANE_DARNED (R85). -/
theorem darned_darns (d : Dir) (x : SubstSw) (s : State) :
    ((darned d x s).slv d x.slv).spareState = 1 ∧ ((darned d x s).slv d x.slv).spareLane = x.lane ∧
      Raised C.SEAM.LANE_DARNED (darned d x s) := by
  let u := modSlv d x.slv (fun v => { v with spareState := 1, spareLane := x.lane }) s
  have after : OnlyChanges ([.tlr] ++ [.regs, .flt]) u (darned d x s) :=
    (onlyChanges_askRebuild u).trans (onlyChanges_raiseLane C.SEAM.LANE_DARNED d x.slv x.lane.toNat _)
  rw [after.slv (by decide), slv_modSlv_same]
  exact ⟨rfl, rfl, raised_raiseLane_self (by decide) _ _ _ _⟩

/-- A switch with REASON 0 finds the spare idle, or tailoring in progress on it (R85). -/
theorem switchLane_darns {d : Dir} {x : SubstSw} {s : State} (repair : x.reason = 0)
    (free : (s.slv d x.slv).spareState = 0 ∨ (s.slv d x.slv).spareState = 2) : switchLane d x s = darned d x s := by
  cases d <;> simp only [switchLane, switchUp, switchDown, repair, free, Bool.or_eq_true, decide_eq_true_eq, if_true]

theorem runs_substSwitch_darns {k : SleeveNo} {x : SubstSw} {d : Dir} {s : State} (hf : s.functional = true)
    (found : (s.seam.subst.find? fun y => y.dir == d && y.slv == k) = some x) (repair : x.reason = 0)
    (free : (s.slv d k).spareState = 0 ∨ (s.slv d k).spareState = 2) :
    Runs (.substSwitch d k) s fun t =>
      (t.slv d k).spareState = 1 ∧ (t.slv d k).spareLane = x.lane ∧ Raised C.SEAM.LANE_DARNED t := by
  obtain ⟨eq, rfl⟩ := substSwitched_eq found
  obtain ⟨spare, lane, raised⟩ := darned_darns d x (substGone x s)
  rw [← slv_substGone x] at free
  refine runs_functional (exec_substSwitch d x.slv) hf (eq.trans (switchLane_darns repair free)) ?_
  simp only [slv_settle]
  exact ⟨spare, lane, raised_settle.mpr raised⟩

/-- A lane goes onto its spare for its tailoring. -/
def rolled (d : Dir) (x : SubstSw) (s : State) : State :=
  modSlv d x.slv (fun v => { v with spareState := 2, spareLane := x.lane }) s

/-- A switch with REASON 1 that finds the spare idle puts the lane onto it, and changes the seam and the pass alone (R115). -/
theorem switchLane_rolls {d : Dir} {x : SubstSw} {s : State} (rolls : x.reason = 1) (idle : (s.slv d x.slv).spareState = 0) :
    (switchLane d x s).slv d x.slv = (rolled d x s).slv d x.slv ∧ OnlyChanges [.seam, .tlr] s (switchLane d x s) := by
  have other : ¬(1 : BitVec 2) = 0 := by decide
  have frame : OnlyChanges [.seam] s (rolled d x s) := onlyChanges_modSlv d x.slv _ s
  cases d with
  | up =>
    have eq : switchLane .up x s = rolled .up x s := by
      simp only [switchLane, switchUp, rolls, idle, if_neg other, if_true]
      rfl
    rw [eq]
    exact ⟨rfl, frame.mono (by decide)⟩
  | down =>
    have busy : ¬((s.slv .down x.slv).spareState != 0) = true := by rw [idle]; decide
    simp only [switchLane, switchDown, rolls, if_neg other, if_true, if_neg busy]
    have asks := exOnly_wantEx (.subst x.slv x.lane 2) (rolled .down x s)
    have asked : (wantEx (.subst x.slv x.lane 2) (rolled .down x s)).slv .down x.slv = (rolled .down x s).slv .down x.slv ∧
        OnlyChanges [.seam, .tlr] s (wantEx (.subst x.slv x.lane 2) (rolled .down x s)) :=
      ⟨asks.slv _ _, (frame.trans asks.onlyChanges).mono (by decide)⟩
    split
    · split
      · exact ⟨rfl, (frame.trans (onlyChanges_modTlr _ _)).mono (by decide)⟩
      · exact asked
    · exact asked

theorem runs_substSwitch_rolls {k : SleeveNo} {x : SubstSw} {d : Dir} {s : State} (hf : s.functional = true) (hs : Settled s)
    (found : (s.seam.subst.find? fun y => y.dir == d && y.slv == k) = some x) (rolls : x.reason = 1)
    (idle : (s.slv d k).spareState = 0) :
    Runs (.substSwitch d k) s fun t =>
      (t.slv d k).spareState = 2 ∧ (t.slv d k).spareLane = x.lane ∧ OnlyChanges [.seam, .tlr, .outs, .slp] s t := by
  obtain ⟨eq, rfl⟩ := substSwitched_eq found
  rw [← slv_substGone x] at idle
  obtain ⟨slv, frame⟩ := switchLane_rolls rolls idle
  have all : OnlyChanges ([.seam] ++ [.seam, .tlr]) s (switchLane d x (substGone x s)) := (onlyChanges_modSeam _ s).trans frame
  refine runs_functional (exec_substSwitch d x.slv) hf eq ?_
  rw [slv_settle, slv, rolled, slv_modSlv_same]
  exact ⟨rfl, rfl, (onlyChanges_settle_of all hs (by decide)).mono (by decide)⟩

theorem runs_retireSwitch {k : SleeveNo} {s : State} (hf : s.functional = true)
    (fixed : (s.seam.retireAt.any fun y => y.1 == k) = true) (kept : s.seam.retired.getLsbD k.toNat = false) :
    Runs (.retireSwitch k) s fun t =>
      t.seam.retired.getLsbD k.toNat = true ∧ t.seam.usable.getLsbD k.toNat = false ∧ Raised C.SEAM.SLEEVE_RETIRED t := by
  obtain ⟨retired, usable, raised⟩ := retireNow_retires kept
  exact runs_functional (u := retireNow k s) (fun _ => rfl) hf (if_pos fixed) ⟨retired, usable, raised_settle.mpr raised⟩

/-! ## WIDTH_SWITCH -/

/-- The mask of a width change in force, its removed sleeves gone (R93). -/
def maskSwitched (w : WidthChange) (s : State) : State :=
  modSeam (fun m => { m with usable := w.target &&& s.permitted, powered := (w.target &&& s.permitted) ||| (m.powered &&& s.testMask) })
    (leaveSleeves (s.seam.powered &&& ~~~(w.target &&& s.permitted)) s)

/-- A width change told to have taken effect. -/
def widthDone (s : State) : State := endWidth 0 (raise C.SEAM.WIDTH_DONE 0 s)

theorem finishWidth_eq (w : WidthChange) (s : State) : finishWidth w s =
    if w.target &&& s.permitted = 0 then enterSleep (widthDone (maskSwitched w s)) else widthDone (maskSwitched w s) := rfl

theorem maskSwitched_masks (w : WidthChange) (s : State) :
    (maskSwitched w s).seam.usable = (w.target &&& s.permitted) ∧ (maskSwitched w s).seam.width = s.seam.width ∧
      (maskSwitched w s).pcm = s.pcm := by
  have left := (repairs_leaveSleeves (s.seam.powered &&& ~~~(w.target &&& s.permitted)) s).keeps
  exact ⟨rfl, left.seam .width (by decide), left.frame .pcm (by decide)⟩

theorem raised_widthDone (s : State) : Raised C.SEAM.WIDTH_DONE (widthDone s) :=
  (keeps_endWidth 0 _).notes.1 _ (by decide) (raised_raise_self (by decide) _ s)

theorem widthDone_masks (s : State) : (widthDone s).seam.usable = s.seam.usable ∧ (widthDone s).seam.width = none := by
  have raised := onlyChanges_raise C.SEAM.WIDTH_DONE 0 s
  refine ⟨?_, width_endWidth 0 _⟩
  have ended : (widthDone s).seam.usable = (raise C.SEAM.WIDTH_DONE 0 s).seam.usable := (keeps_endWidth 0 _).seam .usable (by decide)
  rw [ended, raised .seam (by decide)]

/-- A width change that ends well leaves the power manager to what follows. -/
theorem pcm_widthTold_zero (w : WidthChange) (s : State) : (widthTold 0 w s).pcm = s.pcm := by
  have told (u : State) : (widthResult 0 u).pcm = u.pcm := by
    have noted : (resultNoted 0 u).pcm = u.pcm := (keeps_resultNoted 0 u).frame .pcm (by decide)
    have ended : (resultTold 0 (resultNoted 0 u)).pcm = (resultNoted 0 u).pcm := (keeps_wake .width (widthStatus 0) _ _).frame .pcm (by decide)
    rw [widthResult_eq, ended, noted]
  have widened (u : State) : (wakeWidened 0 u).pcm = u.pcm := (keeps_wakeWidened 0 u).frame .pcm (by decide)
  unfold widthTold
  split
  · split
    · exact (widened _).trans (told s)
    · exact told s
  · split
    · exact widened s
    · rfl

/-- The last sleeves of a wake have joined: the wake is complete (R96, R373). -/
theorem widthDone_wakes {s : State} {w : WidthChange} (width : s.seam.width = some w) (waking : s.pcm.st = .waking)
    (joining : s.pcm.joining = true) : (widthDone s).pcm.st = .awake ∧ Raised C.PCM.WOKE (widthDone s) := by
  have raised := onlyChanges_raise C.SEAM.WIDTH_DONE 0 s
  have there : (raise C.SEAM.WIDTH_DONE 0 s).seam.width = some w := (congrArg Seam.width (raised .seam (by decide))).trans width
  have pcm : (widthTold 0 w (widthGone 0 w (raise C.SEAM.WIDTH_DONE 0 s))).pcm = s.pcm :=
    (pcm_widthTold_zero w _).trans (raised .pcm (by decide))
  have joins : wakeJoined (widthTold 0 w (widthGone 0 w (raise C.SEAM.WIDTH_DONE 0 s))) =
      finishWake (widthTold 0 w (widthGone 0 w (raise C.SEAM.WIDTH_DONE 0 s))) := if_pos (by rw [pcm, waking, joining]; decide)
  rw [widthDone, endWidth_some there, joins]
  exact finishWake_woke _

/-- Width 0: the block is held, with SLEPT, and the seam stays as it is (R96). -/
theorem enterSleep_sleeps (s : State) :
    (enterSleep s).pcm.st = .held ∧ Raised C.PCM.SLEPT (enterSleep s) ∧ (enterSleep s).seam = s.seam ∧
      ∀ c ∈ causes, Raised c s → Raised c (enterSleep s) := by
  let u : State := { s with pcm := { s.pcm with st := .held, sleepCmd := false } }
  let v := raise C.PCM.SLEPT (detPcm u) u
  have held := keeps_pcm { s.pcm with st := .held, sleepCmd := false } s
  have slept : Keeps [] [.regs, .flt] [] u v := keeps_raise (by decide) _ u
  have told : Keeps [R.PCM_CTRL] (.regs :: endParts) [] v (enterSleep s) :=
    ((keeps_setPcmFld rfl 0 v).trans (keeps_wake .sleep 0 [] _)).mono (by decide) (by decide) (by decide)
  have pcm : (enterSleep s).pcm = u.pcm := (slept.trans told).frame .pcm (by decide)
  refine ⟨congrArg Pcm.st pcm, told.notes.1 _ (by decide) (raised_raise_self (by decide) _ u),
    ((held.trans slept).trans told).frame .seam (by decide), fun c hc => ((held.trans slept).trans told).notes.1 c hc⟩

/-- At the later of its switch slots a width change takes effect. -/
theorem finishWidth_takes {w w' : WidthChange} {s : State} (width : s.seam.width = some w') :
    (finishWidth w s).seam.usable = (w.target &&& s.permitted) ∧ (finishWidth w s).seam.width = none ∧
      Raised C.SEAM.WIDTH_DONE (finishWidth w s) ∧
      (w.target &&& s.permitted = 0 → (finishWidth w s).pcm.st = .held ∧ Raised C.PCM.SLEPT (finishWidth w s)) ∧
      (w.target &&& s.permitted ≠ 0 → s.pcm.st = .waking → s.pcm.joining = true →
        (finishWidth w s).pcm.st = .awake ∧ Raised C.PCM.WOKE (finishWidth w s)) := by
  obtain ⟨mask, same, pcm⟩ := maskSwitched_masks w s
  obtain ⟨kept, none⟩ := widthDone_masks (maskSwitched w s)
  have done := raised_widthDone (maskSwitched w s)
  rw [finishWidth_eq]
  by_cases sleeps : w.target &&& s.permitted = 0
  · obtain ⟨held, slept, seam, flags⟩ := enterSleep_sleeps (widthDone (maskSwitched w s))
    rw [if_pos sleeps, seam]
    exact ⟨kept.trans mask, none, flags _ (by decide) done, fun _ => ⟨held, slept⟩, fun awake => absurd sleeps awake⟩
  · rw [if_neg sleeps]
    exact ⟨kept.trans mask, none, done, fun zero => absurd zero sleeps, fun _ waking joining =>
      widthDone_wakes (same.trans width) ((congrArg Pcm.st pcm).trans waking) ((congrArg Pcm.joining pcm).trans joining)⟩

/-- A width change with its switch of one direction made. -/
def dirDone (d : Dir) (w : WidthChange) : WidthChange :=
  match d with
  | .up => { w with upDone := true }
  | .down => { w with dnDone := true }

theorem target_dirDone (d : Dir) (w : WidthChange) : (dirDone d w).target = w.target := by cases d <;> rfl

/-- The later switch of a width change ends it. -/
theorem switchWidth_last {w : WidthChange} {d : Dir} {s : State} (width : s.seam.width = some w)
    (down : d = .down → w.upDone = true ∧ w.dnDone = false ∧ w.dnSlot.isSome = true)
    (up : d = .up → w.dnDone = true ∧ w.upDone = false ∧ w.upSlot.isSome = true) :
    switchWidth d s = finishWidth (dirDone d w) (modSeam (fun m => { m with width := some (dirDone d w) }) s) := by
  cases d with
  | down =>
    obtain ⟨first, last, slot⟩ := down rfl
    simp only [switchWidth, width, slot, last, first, Bool.not_false, Bool.not_true, Bool.and_self, Bool.false_eq_true, if_false,
      if_true, dirDone]
  | up =>
    obtain ⟨first, last, slot⟩ := up rfl
    simp only [switchWidth, width, slot, last, first, Bool.not_false, Bool.not_true, Bool.and_self, Bool.false_eq_true, if_false,
      if_true, dirDone]

theorem runs_widthSwitch {w : WidthChange} {d : Dir} {s : State} (hf : s.functional = true) (width : s.seam.width = some w)
    (down : d = .down → w.upDone = true ∧ w.dnDone = false ∧ w.dnSlot.isSome = true)
    (up : d = .up → w.dnDone = true ∧ w.upDone = false ∧ w.upSlot.isSome = true) :
    Runs (.widthSwitch d) s fun t =>
      t.seam.usable = (w.target &&& s.permitted) ∧ t.seam.width = none ∧ Raised C.SEAM.WIDTH_DONE t ∧
        (w.target &&& s.permitted = 0 → t.pcm.st = .held ∧ Raised C.PCM.SLEPT t) ∧
        (w.target &&& s.permitted ≠ 0 → s.pcm.st = .waking → s.pcm.joining = true → t.pcm.st = .awake ∧ Raised C.PCM.WOKE t) := by
  let u := modSeam (fun m => { m with width := some (dirDone d w) }) s
  obtain ⟨usable, none, done, sleeps, wakes⟩ := finishWidth_takes (w := dirDone d w) (s := u) rfl
  rw [target_dirDone] at usable sleeps wakes
  refine runs_functional (fun _ => rfl) hf (switchWidth_last width down up) ⟨usable, none, raised_settle.mpr done, fun zero => ?_,
    fun awake waking joining => ?_⟩
  · obtain ⟨held, slept⟩ := sleeps zero
    exact ⟨held, raised_settle.mpr slept⟩
  · obtain ⟨woken, woke⟩ := wakes awake waking joining
    exact ⟨woken, raised_settle.mpr woke⟩

/-- Settles O30: a NAK and a silence take the exchange to its next step or its end, and a switch slot does what the exchange asked for. -/
theorem exchangesTakeEffect : Obligations.ExchangesTakeEffect :=
  ⟨fun _ _ _ _ _ _ _ h hs good ht mine id fresh few kind other => runs_seamNak_renews h hs good ht mine id fresh few kind other,
    fun _ _ _ _ _ _ _ _ h hs good ht mine id fresh kind nak => runs_seamNak_refuses h hs good ht mine id fresh kind nak,
    fun _ _ _ _ _ _ _ _ h hs good ht mine id fresh kind nak may kept free =>
      runs_seamNak_retires h hs good ht mine id fresh kind nak may kept free,
    fun _ _ _ _ _ _ _ _ _ h good ht mine id fresh kind rolls nak => runs_seamNak_rolling h good ht mine id fresh kind rolls nak,
    fun _ _ _ _ _ _ _ _ h good ht mine id fresh kind width own => runs_seamNak_width h good ht mine id fresh kind width own,
    fun _ _ hf talks hs mine sent may few => runs_ctrlResendTimeout_again hf talks hs mine sent may few,
    fun _ _ _ _ hf talks mine sent many kind width own => runs_ctrlResendTimeout_width hf talks mine sent many kind width own,
    fun _ _ _ _ hf found repair free => runs_substSwitch_darns hf found repair free,
    fun _ _ _ _ hf hs found rolls idle => runs_substSwitch_rolls hf hs found rolls idle,
    fun _ _ hf fixed kept => runs_retireSwitch hf fixed kept, fun _ _ _ hf width down up => runs_widthSwitch hf width down up⟩

end Sys2Proof.Machine
end

section
/-!
SUPPORT. The steps of a wake from the station's answers to its end (R96, R373, R374).
-/
namespace Sys2Proof.Machine

theorem runs_msg {c : Instr} {s u : State} {k : State → State} {P : State → Prop} (e : ∀ s, exec c s = whenMsg s k)
    (hf : s.functional = true) (lock : s.slp.lock = true) (h : k s = u) (p : P (settle u)) : Runs c s P :=
  ⟨settle u, by rw [e, whenMsg, hf, lock, ← h]; rfl, p⟩

section
variable {s : State} {msg : BitVec 64}

theorem runs_wakeAck (hf : s.functional = true) (lock : s.slp.lock = true) (waking : s.pcm.st = .waking) (hs : Settled s) :
    Runs .wakeAck s fun t => t.pcm = { s.pcm with wakeAcked := true } ∧ OnlyChanges [.pcm, .outs, .slp] s t :=
  runs_msg (u := modPcm (fun p => { p with wakeAcked := true }) s) (fun _ => rfl) hf lock (if_pos (by rw [waking]; decide))
    ⟨rfl, onlyChanges_settle_of (onlyChanges_modPcm _ s) hs (by decide)⟩

theorem runs_wakeReady (hf : s.functional = true) (lock : s.slp.lock = true) (waking : s.pcm.st = .waking) (hs : Settled s) :
    Runs (.wakeReady msg) s fun t =>
      t.pcm = { s.pcm with wakeSlot := some (bits msg 0 32, bits msg 32 32) } ∧ OnlyChanges [.pcm, .outs, .slp] s t :=
  runs_msg (u := modPcm (fun p => { p with wakeSlot := some (bits msg 0 32, bits msg 32 32) }) s) (fun _ => rfl) hf lock
    (if_pos (by rw [waking]; decide)) ⟨rfl, onlyChanges_settle_of (onlyChanges_modPcm _ s) hs (by decide)⟩

/-- The state with the first sleeve of a wake admitted at the slots named. -/
def admitted (m : Byte) (u d : BitVec 32) (s : State) : State :=
  let first := lowest m 1
  let s := modSeam (fun x => { x with usable := first, powered := m, upSlot := u, dnSlot := d, counting := true }) s
  let s := modPcm (fun p => { p with wakeSlot := none, joining := m != first }) s
  modLnk (fun l => { l with ctlDue := true }) (modTlr (fun t => { t with mode := .service }) s)

/-- What WAKE_DONE does. -/
def wakeGoesOn (s : State) : State :=
  match s.pcm.wakeSlot with
  | none => s
  | some (u, d) =>
    let m := s.wakeMask
    if s.pcm.st != .waking || !s.pcm.wakeAcked || !s.pins.platClkOk || m = 0 || (s.pcm.wakeSlow && s.tlr.mode == .training) then s
    else if m = lowest m 1 then finishWake (admitted m u d s) else startWidth m true (admitted m u d s)

theorem exec_wakeDone (s : State) : exec .wakeDone s = whenFunctional s wakeGoesOn := rfl

theorem wakeGoesOn_eq {u d : BitVec 32} (waking : s.pcm.st = .waking) (acked : s.pcm.wakeAcked = true)
    (slot : s.pcm.wakeSlot = some (u, d)) (clk : s.pins.platClkOk = true) (any : s.wakeMask ≠ 0) (fast : s.pcm.wakeSlow = false) :
    wakeGoesOn s = if s.wakeMask = lowest s.wakeMask 1 then finishWake (admitted s.wakeMask u d s)
      else startWidth s.wakeMask true (admitted s.wakeMask u d s) := by
  have ready : ¬(s.pcm.st != .waking || !s.pcm.wakeAcked || !s.pins.platClkOk || s.wakeMask = 0 ||
      (s.pcm.wakeSlow && s.tlr.mode == .training)) = true := by
    simp only [waking, acked, clk, decide_eq_false any, fast, Bool.not_true, bne_self_eq_false, Bool.false_and, Bool.or_self,
      Bool.false_eq_true, not_false_eq_true]
  rw [wakeGoesOn, slot]
  exact if_neg ready

/-- The end of a wake leaves the slots and the mask as its first sleeve found them, and tailoring in service. -/
theorem finishWake_leaves (s : State) :
    (finishWake s).seam.usable = s.seam.usable ∧ (finishWake s).seam.upSlot = s.seam.upSlot ∧
      (finishWake s).seam.dnSlot = s.seam.dnSlot ∧ (finishWake s).tlr.mode = s.tlr.mode := by
  have keeps := keeps_finishWake s
  have told : OnlyChanges ([.pcm] ++ endParts) s (wakeTold (wokenUp s)) := (keeps_wokenUp s).frame.trans (keeps_wakeTold _).frame
  have rest := (repairs_repairAgain (wakeTold (wokenUp s))).trans (exOnly_nextEx _).repairs
  refine ⟨keeps.seam .usable (by decide), keeps.seam .upSlot (by decide), keeps.seam .dnSlot (by decide), ?_⟩
  rw [finishWake_eq]
  exact rest.mode.trans (told.mode (by decide))

/-- The beginning of a width change leaves the mask, the slots, the mode of tailoring and the power manager. -/
theorem startWidth_leaves (t : Byte) (byPcm : Bool) (s : State) :
    (startWidth t byPcm s).seam.usable = s.seam.usable ∧ (startWidth t byPcm s).seam.upSlot = s.seam.upSlot ∧
      (startWidth t byPcm s).seam.dnSlot = s.seam.dnSlot ∧ (startWidth t byPcm s).tlr = s.tlr ∧
      (startWidth t byPcm s).pcm = s.pcm := by
  have start := exOnly_startWidth t byPcm s
  exact ⟨start.onlySeam .usable (by decide), start.onlySeam .upSlot (by decide), start.onlySeam .dnSlot (by decide),
    start.onlyChanges .tlr (by decide), start.onlyChanges .pcm (by decide)⟩

theorem runs_wakeDone {u d : BitVec 32} (hf : s.functional = true) (waking : s.pcm.st = .waking) (acked : s.pcm.wakeAcked = true)
    (slot : s.pcm.wakeSlot = some (u, d)) (clk : s.pins.platClkOk = true) (any : s.wakeMask ≠ 0)
    (fast : s.pcm.wakeSlow = false) :
    Runs .wakeDone s fun t =>
      t.seam.usable = lowest s.wakeMask 1 ∧ t.seam.upSlot = u ∧ t.seam.dnSlot = d ∧ t.tlr.mode = .service ∧
        (s.wakeMask = lowest s.wakeMask 1 → t.pcm.st = .awake ∧ Raised C.PCM.WOKE t) ∧
        (s.wakeMask ≠ lowest s.wakeMask 1 → t.pcm.st = .waking ∧ t.pcm.joining = true ∧
          t.seam.width.map (fun w => (w.mine, w.target, w.added)) = some (true, s.wakeMask, s.wakeMask &&& ~~~lowest s.wakeMask 1)) := by
  have eq := wakeGoesOn_eq waking acked slot clk any fast
  by_cases alone : s.wakeMask = lowest s.wakeMask 1
  · obtain ⟨usable, up, down, mode⟩ := finishWake_leaves (admitted s.wakeMask u d s)
    obtain ⟨awake, woke⟩ := finishWake_woke (admitted s.wakeMask u d s)
    exact runs_functional exec_wakeDone hf (eq.trans (if_pos alone))
      ⟨usable, up, down, mode, fun _ => ⟨awake, raised_settle.mpr woke⟩, fun more => absurd alone more⟩
  · obtain ⟨usable, up, down, tlr, pcm⟩ := startWidth_leaves s.wakeMask true (admitted s.wakeMask u d s)
    have width := width_startWidth s.wakeMask true (admitted s.wakeMask u d s)
    refine runs_functional exec_wakeDone hf (eq.trans (if_neg alone))
      ⟨usable, up, down, congrArg Tlr.mode tlr, fun one => absurd one alone, fun _ => ⟨?_, ?_, ?_⟩⟩
    · exact (congrArg Pcm.st pcm).trans waking
    · refine (congrArg Pcm.joining pcm).trans ?_
      change (s.wakeMask != lowest s.wakeMask 1) = true
      simpa using alone
    · exact congrArg (Option.map fun w : WidthChange => (w.mine, w.target, w.added)) width

end

/-- Settles O13: the station's answers are noted, and WAKE_DONE ends the wake or begins the change that adds its other sleeves. -/
theorem wakeCompletes : Obligations.WakeCompletes :=
  ⟨fun _ hf lock waking hs => runs_wakeAck hf lock waking hs, fun _ _ hf lock waking hs => runs_wakeReady hf lock waking hs,
    fun _ _ _ hf waking acked slot clk any fast => runs_wakeDone hf waking acked slot clk any fast⟩

end Sys2Proof.Machine
end

section
/-!
SUPPORT. A flit slot: what fills its sleeves, what the flits of a path leave, and how it ends (R72, R74, R80, R138 to R151, R213 to
R219).
-/
namespace Sys2Proof.Machine

/-! ## What a slot's flits leave -/

/-- What the flits of a slot leave: the slot counters, the time, and whether a timetable runs. -/
structure Paces (s t : State) : Prop where
  upSlot : t.seam.upSlot = s.seam.upSlot
  dnSlot : t.seam.dnSlot = s.seam.dnSlot
  rwt : t.rwt = s.rwt
  timetable : t.ttb.st = s.ttb.st

section
variable {s t u : State}

theorem Paces.refl (s : State) : Paces s s := ⟨rfl, rfl, rfl, rfl⟩

theorem Paces.trans (h : Paces s t) (k : Paces t u) : Paces s u :=
  ⟨k.upSlot.trans h.upSlot, k.dnSlot.trans h.dnSlot, k.rwt.trans h.rwt, k.timetable.trans h.timetable⟩

theorem Paces.ite {c : Prop} [Decidable c] (ht : c → Paces s t) (hu : ¬c → Paces s u) : Paces s (if c then t else u) := by
  split
  next h => exact ht h
  next h => exact hu h

/-- A change away from the seam, the time and the sequencer. -/
theorem OnlyChanges.paces {ps : List Part} (h : OnlyChanges ps s t) (away : .seam ∉ ps ∧ .rwt ∉ ps ∧ .ttb ∉ ps) : Paces s t := by
  obtain ⟨seam, rwt, ttb⟩ := away
  have same : t.seam = s.seam := h .seam seam
  exact ⟨congrArg Seam.upSlot same, congrArg Seam.dnSlot same, h .rwt rwt, congrArg Ttb.st (h .ttb ttb)⟩

theorem Links.paces (h : Links s t) : Paces s t :=
  ⟨h.keeps.seam .upSlot (by decide), h.keeps.seam .dnSlot (by decide), h.keeps.frame .rwt (by decide), h.timetable⟩

end

theorem paces_modTtb {f : Ttb → Ttb} (h : ∀ t, (f t).st = t.st) (s : State) : Paces s (modTtb f s) := ⟨rfl, rfl, rfl, h s.ttb⟩

theorem paces_raise (c : Cause) (d : BitVec 80) (s : State) : Paces s (raise c d s) := (onlyChanges_raise c d s).paces (by decide)

theorem paces_setCause (c : Cause) (s : State) : Paces s (setCause c s) := (onlyChanges_setCause c s).paces (by decide)

theorem paces_lnk (l : Lnk) (s : State) : Paces s { s with lnk := l } := ⟨rfl, rfl, rfl, rfl⟩

/-! ## The flits of a path (R213 to R219) -/

theorem paces_bumpOcc (p : Occ → Bool) (s : State) : Paces s (bumpOcc p s) := by
  unfold bumpOcc
  split
  · exact ⟨rfl, rfl, rfl, rfl⟩
  · split
    · exact ⟨rfl, rfl, rfl, rfl⟩
    · split
      · exact ⟨rfl, rfl, rfl, rfl⟩
      · exact Paces.refl s

theorem paces_dlFault (kind : Nat) (w : DlWhere) (fec : Bool) (late : Option Nat) (s : State) : Paces s (dlFault kind w fec late s) := by
  unfold dlFault
  extract_lets a u v d mine x y c o p
  have counted : Paces s u := (onlyChanges_setReg _ _ s).paces (by decide)
  have shown : Paces u v :=
    paces_modTtb (f := fun t => { t with dlLast := BitVec.ofNat 32 (kind * 2 ^ 29 + w.index % 2 ^ 17) }) (fun _ => rfl) u
  have bumped : Paces v x := paces_bumpOcc mine v
  have logged : Paces v y := paces_modTtb (f := fun t => { t with logged := t.logged ++ [(w.index, w.epoch, w.stray)] }) (fun _ => rfl) v
  clear_value u v p o x y mine d c
  refine (counted.trans shown).trans (.ite (fun _ => bumped.trans ?_) fun _ => logged.trans ?_)
  · exact .ite (fun _ => paces_setCause _ x) fun _ => Paces.refl x
  · refine Paces.trans ?_ ((onlyChanges_pushOcc _ _).paces (by decide))
    exact .ite (fun _ => (paces_setCause c y).trans (paces_setCause _ _)) fun _ => paces_setCause c y

theorem paces_roundOut (g : JGroup) (f off : Nat) (as : List (BitVec 384)) (s : State) : Paces s (roundOut g f off as s).2 :=
  .ite (fun _ => paces_raise _ _ s) fun _ => Paces.refl s

theorem paces_t6Output (num : BitVec 12) (part : Bool) (off n : Nat) (s : State) : Paces s (t6Output num part off n s).2 := by
  unfold t6Output
  split
  · exact Paces.refl s
  · split
    · exact Paces.refl s
    · exact paces_roundOut _ _ _ _ s

theorem paces_endMem (g : BitVec 12) (c : Nat) (result : BitVec 4) (s : State) : Paces s (endMem g c result s) := by
  unfold endMem
  extract_lets u v
  have put : Paces s u := ⟨rfl, rfl, rfl, rfl⟩
  have raised : Paces u v := paces_raise _ _ u
  exact (put.trans raised).trans (links_wake _ _ _ v).paces

theorem paces_aspSend (g : BitVec 12) (c : Nat) (win epoch : BitVec 16) (off n : Nat) (input : Option (List Byte)) (s : State) :
    Paces s (aspSend g c win epoch off n input s).2 := by
  unfold aspSend
  split
  · exact Paces.refl s
  · extract_lets m u
    have put : Paces s u := ⟨rfl, rfl, rfl, rfl⟩
    clear_value m
    split
    · exact put.trans (.ite (fun _ => Paces.refl u) fun _ => paces_endMem _ _ _ u)
    · split
      · exact put
      · split
        · exact put.trans ⟨rfl, rfl, rfl, rfl⟩
        · split
          · exact put
          · split
            · exact put.trans (serves_queuePacket _ _ u).links.paces
            · exact put

theorem paces_makeOut (i : Nat) (e : TtEntry) (s : State) : Paces s (makeOut i e s) := by
  unfold makeOut
  extract_lets keep made input
  have kept (out : Option (List Byte)) (silent : Bool) (s : State) : Paces s (keep out silent s) := ⟨rfl, rfl, rfl, rfl⟩
  clear_value keep made input
  split
  · split
    · exact Paces.refl s
    · have sent := paces_aspSend (bits e.peer 0 12) (Sys2Proof.fld e.aux 13 5) (bits e.aux 48 16) s.ttb.epoch e.aspRange.1 e.aspRange.2
        input s
      dsimp only
      split
      next h => rw [h] at sent; exact sent.trans (kept _ _ _)
      next h => rw [h] at sent; exact sent.trans (kept _ _ _)
      next h => rw [h] at sent; exact sent
  · split
    · exact Paces.refl s
    · split
      · have sent := paces_t6Output e.jctGroup (e.opx == 0x20) (Sys2Proof.fld e.aux 35 17) e.jctElems s
        split
        next h => rw [h] at sent; exact sent.trans (kept _ _ _)
        next h => rw [h] at sent; exact sent
      · exact Paces.refl s

theorem paces_launch (d : DueFlit) (s : State) : Paces s (launch d s).2 := by
  unfold launch
  extract_lets h n u st data first
  have made : Paces s u := paces_makeOut _ _ s
  clear_value u st data first
  split
  · exact paces_raise _ _ s
  · split
    · exact made
    · have missed := made.trans (paces_dlFault 0 (u.sendWhere d.index d.e) false none u)
      split
      · split
        · exact missed
        · exact made
      · exact missed

/-- One due flit put to those of its slot. -/
def launchNext (acc : List (SleeveNo × BitVec 2048) × State) (d : DueFlit) : List (SleeveNo × BitVec 2048) × State :=
  match launch d acc.2 with
  | (some f, s) => (acc.1 ++ [f], s)
  | (none, s) => (acc.1, s)

theorem paces_launchNext (acc : List (SleeveNo × BitVec 2048) × State) (d : DueFlit) : Paces acc.2 (launchNext acc d).2 := by
  have launched := paces_launch d acc.2
  unfold launchNext
  split
  next h => rwa [h] at launched
  next h => rwa [h] at launched

theorem paces_launches (ds : List DueFlit) (acc : List (SleeveNo × BitVec 2048) × State) : Paces acc.2 (ds.foldl launchNext acc).2 := by
  induction ds generalizing acc with
  | nil => exact Paces.refl _
  | cons d ds ih => exact (paces_launchNext acc d).trans (ih _)

theorem paces_t6Slot (slot : Nat) (s : State) : Paces s (t6Slot slot s).2 :=
  (paces_modTtb (f := fun t => { t with due := t.due.filter fun d => d.slot != slot }) (fun _ => rfl) s).trans
    (paces_launches (s.ttb.due.filter fun d => d.slot == slot) ([], _))

/-! ## Seam control flits (R80) -/

theorem paces_ctlSent (p : BitVec 1920) (slot : BitVec 32) (s : State) : Paces s (ctlSent p slot s) := by
  unfold ctlSent
  extract_lets c u at' x
  have since : Paces s u := ⟨rfl, rfl, rfl, rfl⟩
  refine since.trans (.ite (fun _ => ⟨rfl, rfl, rfl, rfl⟩) fun _ => .ite (fun _ => ⟨rfl, rfl, rfl, rfl⟩) fun _ => ?_)
  exact .ite (fun _ => ⟨rfl, rfl, rfl, rfl⟩) fun _ => Paces.refl u

theorem ctlOut_ctlSent (p : BitVec 1920) (slot : BitVec 32) (s : State) : (ctlSent p slot s).seam.ctlOut = s.seam.ctlOut := by
  unfold ctlSent
  dsimp only
  split
  · rfl
  · split
    · rfl
    · split <;> rfl

theorem paces_sendSeamCtl (ks : List SleeveNo) (slot : BitVec 32) (s : State) : Paces s (sendSeamCtl ks slot s).2 := by
  unfold sendSeamCtl
  split
  · split
    · exact Paces.refl s
    · exact Paces.trans (t := modSeam _ s) ⟨rfl, rfl, rfl, rfl⟩ (paces_ctlSent _ _ _)
  · exact Paces.refl s

/-- A seam control flit leaves on free sleeves only. -/
theorem sendSeamCtl_free {ks : List SleeveNo} {slot : BitVec 32} {s : State} {x : SleeveNo × BitVec 2048}
    (h : x ∈ (sendSeamCtl ks slot s).1) : x.1 ∈ ks := by
  unfold sendSeamCtl at h
  split at h
  · split at h
    · simp at h
    · obtain ⟨k, on, rfl⟩ := List.mem_map.mp h
      split at on
      · exact on
      · exact (List.mem_filter.mp on).1
  · simp at h

theorem sendSeamCtl_none {ks : List SleeveNo} {slot : BitVec 32} {s : State} (none : s.seam.ctlOut = []) :
    sendSeamCtl ks slot s = ([], s) := by
  unfold sendSeamCtl
  rw [none]

/-- With one free sleeve the seam control flit goes on it, sound or not. -/
theorem sendSeamCtl_one {k : SleeveNo} {slot : BitVec 32} {p : BitVec 1920} {ps : List (BitVec 1920)} {s : State}
    (waits : s.seam.ctlOut = p :: ps) (up : s.lnk.st = .up) :
    sendSeamCtl [k] slot s =
      ([(k, sealFlit (0b100#3 ++ 0#61) p)], ctlSent p slot (modSeam (fun m => { m with ctlOut := ps }) s)) := by
  unfold sendSeamCtl
  rw [waits]
  have open' : ¬(([k] : List SleeveNo) = [] || s.lnk.st != .up) = true := by simp [up]
  dsimp only
  rw [if_neg open']
  by_cases sound : (s.slv .up k).bare = []
  · simp [sound]
  · simp [sound]

/-! ## The next flit of a free sleeve (R138) -/

theorem paces_noteStall (s : State) : Paces s (noteStall s) :=
  .ite (fun _ => (paces_lnk _ s).trans (paces_raise _ _ _)) fun _ => paces_lnk _ s

theorem paces_passTurn (s : State) : Paces s (passTurn s) := .ite (fun _ => paces_lnk _ s) fun _ => Paces.refl s

theorem paces_dataSent (s : State) : Paces s (dataSent s) := ⟨rfl, rfl, rfl, rfl⟩

theorem paces_resent (f : SideFlit) (s : State) : Paces s (resent f s) := (paces_lnk _ s).trans (links_replayLimits _ _).paces

theorem paces_numberFlit {n left : Nat} {turn : Fin 4} {s t : State} {x : SideFlit} (h : numberFlit n turn left s = some (x, t)) :
    Paces s t := by
  unfold numberFlit at h
  split at h
  · cases h
    exact paces_lnk _ s
  · cases h

theorem paces_nextFlit (s : State) : Paces s (nextFlit s).2 := by
  unfold nextFlit
  split
  · exact paces_lnk _ s
  · split
    · exact Paces.refl s
    · split
      · exact (paces_dataSent s).trans (paces_resent _ _)
      · have passed := paces_passTurn s
        dsimp only
        split
        · exact passed
        · split
          · exact passed
          · split
            next h =>
              exact ((passed.trans (paces_numberFlit h)).trans (paces_passTurn _)).trans ((paces_dataSent _).trans (paces_noteStall _))
            next => exact passed

theorem fillSleeves_some {k : SleeveNo} {ks : List SleeveNo} {f : BitVec 2048} {s t : State} (h : nextFlit s = (some f, t)) :
    fillSleeves (k :: ks) s = ((k, f) :: (fillSleeves ks t).1, (fillSleeves ks t).2) := by
  simp only [fillSleeves, h]

theorem fillSleeves_none {k : SleeveNo} {ks : List SleeveNo} {s t : State} (h : nextFlit s = (none, t)) :
    fillSleeves (k :: ks) s = fillSleeves ks t := by
  simp only [fillSleeves, h]

theorem paces_fillSleeves (ks : List SleeveNo) (s : State) : Paces s (fillSleeves ks s).2 := by
  induction ks generalizing s with
  | nil => exact Paces.refl s
  | cons k ks ih =>
    have next := paces_nextFlit s
    rcases h : nextFlit s with ⟨f | f, t⟩
    · rw [fillSleeves_none h]
      rw [h] at next
      exact next.trans (ih t)
    · rw [fillSleeves_some h]
      rw [h] at next
      exact next.trans (ih t)

/-- The sleeves that are filled are those that were to be. -/
theorem fillSleeves_free {ks : List SleeveNo} {s : State} {x : SleeveNo × BitVec 2048} (h : x ∈ (fillSleeves ks s).1) : x.1 ∈ ks := by
  induction ks generalizing s with
  | nil => simp [fillSleeves] at h
  | cons k ks ih =>
    rcases e : nextFlit s with ⟨f | f, t⟩
    · rw [fillSleeves_none e] at h
      exact List.mem_cons_of_mem _ (ih h)
    · rw [fillSleeves_some e, List.mem_cons] at h
      rcases h with rfl | h
      · exact List.mem_cons_self
      · exact List.mem_cons_of_mem _ (ih h)

/-! ## The slot as a whole -/

/-- The sleeves that a slot may fill: usable, not reserved by the path, and not granted to their tailoring (R24, R138). -/
def State.freeSleeves (s : State) : List SleeveNo := sleevesOf (s.seam.usable &&& ~~~s.ttb.upMask &&& ~~~s.grantedMask)

/-- The flits that a path sends in this slot. -/
def pathFlits (s : State) : List (SleeveNo × BitVec 2048) × State :=
  if s.ttb.st == .running && s.now / 64 == s.ttb.path then t6Slot (s.now % 64 / 2) s else ([], s)

/-- The dynamic flits of a slot, after those of the path: seam control, and the rest by precedence. -/
def dynamicFlits (free : List SleeveNo) (n : BitVec 32) (s : State) : List (SleeveNo × BitVec 2048) × State :=
  let c := sendSeamCtl free n s
  let r := fillSleeves (free.filter fun k => !c.1.any (·.1 == k)) c.2
  (c.1 ++ r.1, r.2)

/-- The flits of a slot, and the state once they are made. -/
def slotFlits (s : State) : List (SleeveNo × BitVec 2048) × State :=
  let p := pathFlits (noteSlot s)
  let d := dynamicFlits s.freeSleeves s.seam.upSlot p.2
  (d.1 ++ p.1, d.2)

/-- The slot put onto the lanes, and its end. -/
def slotEnded (n : BitVec 32) (fs : List (SleeveNo × BitVec 2048)) (s : State) : State :=
  endSlot ((driveLines n fs s).emit (.slot n fs))

/-- What waited for room in the link's queues goes on after the slot. -/
def slotServed (s : State) : State :=
  readOperands (pumpMnf (if s.sbx.ready then pumpProgs (s.vtx.progs.map (·.rest.length)).sum s else s))

theorem flitSlot_eq (s : State) : flitSlot s = slotServed (slotEnded s.seam.upSlot (slotFlits s).1 (slotFlits s).2) := rfl

theorem serves_slotServed (s : State) : Serves s (slotServed s) := by
  have progs : Serves s (if s.sbx.ready then pumpProgs (s.vtx.progs.map (·.rest.length)).sum s else s) :=
    .ite (fun _ => serves_pumpProgs _ s) fun _ => Serves.refl s
  exact (serves_readOperands _).after ((serves_pumpMnf _).after progs)

theorem paces_noteSlot (s : State) : Paces s (noteSlot s) := ⟨rfl, rfl, rfl, rfl⟩

theorem paces_pathFlits (s : State) : Paces s (pathFlits s).2 := by
  unfold pathFlits
  split
  · exact paces_t6Slot _ s
  · exact Paces.refl s

theorem paces_slotFlits (s : State) : Paces s (slotFlits s).2 :=
  (((paces_noteSlot s).trans (paces_pathFlits _)).trans (paces_sendSeamCtl _ _ _)).trans (paces_fillSleeves _ _)

end Sys2Proof.Machine
end

section
/-!
SUPPORT. What a flit slot sends and how it ends (R72, R74, R80, R138 to R151).
-/
namespace Sys2Proof.Machine

/-! ## The end of a slot -/

/-- How a slot ends that sends these flits from this state, where no timetable holds its time back. -/
structure SlotEnds (n : BitVec 32) (fs : List (SleeveNo × BitVec 2048)) (s t : State) : Prop where
  sent : Emit.slot n fs ∈ t.out
  upSlot : t.seam.upSlot = s.seam.upSlot + 1
  dnSlot : t.seam.dnSlot = s.seam.dnSlot + 1
  line : t.seam.line = s.lineOf n fs
  ctlOut : t.seam.ctlOut = s.seam.ctlOut
  flight : SameFlight s.lnk t.lnk
  now : s.ttb.st ≠ .running → s.ttb.st ≠ .startArmed → t.now = s.now + (2 - s.rwt.hold)

theorem now_slotEnded (n : BitVec 32) (fs : List (SleeveNo × BitVec 2048)) {s : State} (rest : s.ttb.st ≠ .running)
    (unarmed : s.ttb.st ≠ .startArmed) : (slotEnded n fs s).now = s.now + (2 - s.rwt.hold) := by
  have free : ¬(s.ttb.st == .running || s.ttb.st == .startArmed) = true := by simp [rest, unarmed]
  change s.now + ((if s.ttb.st == .running || s.ttb.st == .startArmed then _ else 2) - s.rwt.hold) = _
  rw [if_neg free]

theorem mem_out_settle {e : Emit} {s : State} (h : e ∈ s.out) : e ∈ (settle s).out := by
  change e ∈ slpEmit _ _ s.out
  rw [slpEmit_append]
  exact List.mem_append_right _ h

theorem slotEnds_of_serves {n : BitVec 32} {fs : List (SleeveNo × BitVec 2048)} {s t : State} (h : Serves (slotEnded n fs s) t) :
    SlotEnds n fs s (settle t) := by
  have out : t.out = Emit.slot n fs :: s.out := h.keeps.frame .out (by decide)
  have rwt : t.rwt = (slotEnded n fs s).rwt := h.keeps.frame .rwt (by decide)
  exact {
    sent := mem_out_settle (out ▸ List.mem_cons_self)
    upSlot := h.keeps.seam .upSlot (by decide)
    dnSlot := h.keeps.seam .dnSlot (by decide)
    line := h.keeps.seam .line (by decide)
    ctlOut := h.keeps.seam .ctlOut (by decide)
    flight := h.flight
    now := fun rest unarmed => (congrArg Rwt.now rwt).trans (now_slotEnded n fs rest unarmed) }

theorem slotEnds_flitSlot (s : State) : SlotEnds s.seam.upSlot (slotFlits s).1 (slotFlits s).2 (settle (flitSlot s)) := by
  rw [flitSlot_eq]
  exact slotEnds_of_serves (serves_slotServed _)

/-! ## Running a slot -/

/-- The meaning of a slot in functional operation. -/
def slotTaken (s : State) : State := if s.seam.counting then flitSlot s else s

theorem exec_flitSlotSend {s : State} (hl : s.platLive = true) : exec .flitSlotSend s = whenPlat s slotTaken := by
  have outside : ¬s.wrapped = true :=
    ne_true_of_eq_false (State.wrapped_of_functional (State.functional_of_platLive hl))
  exact if_neg outside

theorem runs_flitSlotSend {s : State} {P : State → Prop} (hl : s.platLive = true) (h : P (settle (slotTaken s))) :
    Runs .flitSlotSend s P := runs_of_whenPlat (exec_flitSlotSend hl) hl h

theorem runs_flitSlot {s : State} {P : State → Prop} (hl : s.platLive = true) (counts : s.seam.counting = true)
    (h : ∀ t, SlotEnds s.seam.upSlot (slotFlits s).1 (slotFlits s).2 t → P t) : Runs .flitSlotSend s P := by
  refine runs_flitSlotSend hl ?_
  rw [slotTaken, if_pos counts]
  exact h _ (slotEnds_flitSlot s)

/-! ## The sleeves that a slot fills -/

theorem getLsbD_of_mem_sleevesOf {m : Byte} {k : SleeveNo} (h : k ∈ sleevesOf m) : m.getLsbD k.toNat = true := by
  obtain ⟨i, mem, rfl⟩ := List.mem_map.mp h
  obtain ⟨lt, set⟩ := List.mem_filter.mp mem
  rw [BitVec.toNat_ofNat, Nat.mod_eq_of_lt (List.mem_range.mp lt)]
  exact set

theorem usable_of_free {s : State} {k : SleeveNo} (h : k ∈ s.freeSleeves) : s.seam.usable.getLsbD k.toNat = true := by
  have set := getLsbD_of_mem_sleevesOf h
  simp only [BitVec.getLsbD_and, Bool.and_eq_true] at set
  exact set.1.1

theorem pathFlits_rest {s : State} (rest : s.ttb.st ≠ .running) : pathFlits s = ([], s) :=
  if_neg (by simp [rest])

/-- With no timetable running a slot fills free sleeves only. -/
theorem slotFlits_free {s : State} (rest : s.ttb.st ≠ .running) {x : SleeveNo × BitVec 2048} (h : x ∈ (slotFlits s).1) :
    x.1 ∈ s.freeSleeves := by
  simp only [slotFlits, pathFlits_rest (s := noteSlot s) rest, List.append_nil, dynamicFlits, List.mem_append] at h
  rcases h with h | h
  · exact sendSeamCtl_free h
  · exact (List.mem_filter.mp (fillSleeves_free h)).1

section
variable {s u : State} {k : SleeveNo} {f : BitVec 2048}

/-- The one free sleeve carries the next flit. -/
theorem slotFlits_next (rest : s.ttb.st ≠ .running) (one : s.freeSleeves = [k]) (none : s.seam.ctlOut = [])
    (next : nextFlit (noteSlot s) = (some f, u)) : slotFlits s = ([(k, f)], u) := by
  have none' : (noteSlot s).seam.ctlOut = [] := none
  simp [slotFlits, pathFlits_rest (s := noteSlot s) rest, dynamicFlits, one, sendSeamCtl_none none', fillSleeves, next]

/-- The one free sleeve carries the oldest seam control flit. -/
theorem slotFlits_ctl {p : BitVec 1920} {ps : List (BitVec 1920)} (rest : s.ttb.st ≠ .running) (one : s.freeSleeves = [k])
    (waits : s.seam.ctlOut = p :: ps) (up : s.lnk.st = .up) :
    slotFlits s = ([(k, sealFlit (0b100#3 ++ 0#61) p)],
      ctlSent p s.seam.upSlot (modSeam (fun m => { m with ctlOut := ps }) (noteSlot s))) := by
  have waits' : (noteSlot s).seam.ctlOut = p :: ps := waits
  simp [slotFlits, pathFlits_rest (s := noteSlot s) rest, dynamicFlits, one, sendSeamCtl_one waits' up, fillSleeves]

end

/-! ## The next flit, by precedence (R138) -/

theorem nextFlit_ctl {s : State} (due : s.ctlReady = true) :
    nextFlit s = (some s.linkFlit,
      modLnk (fun l => { l with ctlDue := false, nakDue := false, retrainDue := false, ackDirty := false, ctlFrom := s.mark }) s) :=
  if_pos due

/-- A resend that reaches no limit changes the siding alone. -/
theorem lnk_resent {f : SideFlit} (kept : retrainAt (f.replays + 1) = false) (few : f.replays ≠ 15) (s : State) :
    (resent f s).lnk.siding =
      s.lnk.siding.map (fun x => if x.seq == f.seq then { x with again := false, replays := x.replays + 1 } else x) := by
  have down : ¬[f.replays + 1].any (· == 16) = true := by simp [few]
  have retrain : ¬[f.replays + 1].any retrainAt = true := by simp [kept]
  rw [resent, replayLimits, if_neg down, if_neg retrain]
  rfl

theorem nextFlit_again {s : State} {f : SideFlit} (quiet : s.ctlReady = false) (up : s.lnk.st = .up)
    (again : s.lnk.siding.find? (·.again) = some f) : nextFlit s = (some (dataFlit s.lnk f), resent f (dataSent s)) := by
  simp [nextFlit, quiet, up, again]

/-- The turn that ends changes the turn alone. -/
theorem passTurn_eq (s : State) : ∃ i n, passTurn s = modLnk (fun l => { l with turn := i, left := n }) s := by
  unfold passTurn
  split
  · exact ⟨_, _, rfl⟩
  · exact ⟨s.lnk.turn, s.lnk.left, rfl⟩

theorem sameFlight_passTurn (s : State) : SameFlight s.lnk (passTurn s).lnk := by
  obtain ⟨i, n, e⟩ := passTurn_eq s
  rw [e]
  exact ⟨rfl, rfl, rfl, rfl, rfl, rfl, rfl⟩

theorem sameFlight_noteStall (s : State) : SameFlight s.lnk (noteStall s).lnk := by
  unfold noteStall
  extract_lets full u
  have stalled : SameFlight s.lnk u.lnk := ⟨rfl, rfl, rfl, rfl, rfl, rfl, rfl⟩
  split
  · rw [onlyChanges_raise _ _ u .lnk (by decide)]
    exact stalled
  · exact stalled

/-- A new flit's number and ticket, as the siding keeps it. -/
def newSide (s : State) (shared : Bool) (f : OutFlit) : SideFlit := ⟨s.lnk.nextSeq, shared, f, 0, false⟩

/-- The tickets in hand once one of a place is spent. -/
def heldAfter (l : Lnk) : Option (Fin 6) → Vector Nat 6
  | some i => l.held.set i (l.held[i] - 1)
  | none => l.held

/-- A new flit has its number and its ticket, and is in the siding. -/
structure EntersSiding (x : SideFlit) (i : Option (Fin 6)) (l m : Lnk) : Prop where
  siding : m.siding = l.siding ++ [x]
  nextSeq : m.nextSeq = l.nextSeq + 1
  held : m.held = heldAfter l i

theorem EntersSiding.trans {x : SideFlit} {i : Option (Fin 6)} {l m n : Lnk} (h : EntersSiding x i l m) (k : SameFlight m n) :
    EntersSiding x i l n := ⟨k.siding.trans h.siding, k.nextSeq.trans h.nextSeq, k.held.trans h.held⟩

section
variable {s : State} {tr left : Nat} {turn : Fin 4} {f : OutFlit} {rest : List OutFlit} {i : Option (Fin 6)} {shared : Bool}

theorem numberFlit_enters (queued : s.lnk.outq.toList.getD tr [] = f :: rest)
    (ticket : s.ticketFor (BitVec.ofNat 3 tr) = some (i, shared)) :
    ∃ u, numberFlit tr turn left s = some (newSide s shared f, u) ∧ EntersSiding (newSide s shared f) i s.lnk u.lnk := by
  simp only [numberFlit, queued, ticket]
  exact ⟨_, rfl, rfl, rfl, by cases i <;> rfl⟩

/-- The flit of the track whose turn it is. -/
theorem nextFlit_new (quiet : s.ctlReady = false) (up : s.lnk.st = .up) (none : s.lnk.siding.find? (·.again) = none)
    (room : s.span < s.spanLimit) (track : (passTurn s).nextTrack = some (tr, turn, left))
    (queued : s.lnk.outq.toList.getD tr [] = f :: rest) (ticket : s.ticketFor (BitVec.ofNat 3 tr) = some (i, shared)) :
    ∃ u, nextFlit s = (some (dataFlit s.lnk (newSide s shared f)), u) ∧ EntersSiding (newSide s shared f) i s.lnk u.lnk := by
  obtain ⟨j, n, turned⟩ := passTurn_eq s
  rw [turned] at track
  obtain ⟨v, numbered, enters⟩ := numberFlit_enters (turn := turn) (left := left)
    (s := modLnk (fun l => { l with turn := j, left := n }) s) queued ticket
  have open' : ¬(modLnk (fun l => { l with turn := j, left := n }) s).spanLimit ≤
      (modLnk (fun l => { l with turn := j, left := n }) s).span := Nat.not_le.mpr room
  refine ⟨noteStall (dataSent (passTurn v)), ?_, ?_⟩
  · unfold nextFlit
    rw [if_neg (ne_true_of_eq_false quiet), if_neg (by simp [up]), none]
    dsimp only
    rw [turned, if_neg open', track]
    dsimp only
    rw [numbered]
    rfl
  · have sent : SameFlight (passTurn v).lnk (dataSent (passTurn v)).lnk := ⟨rfl, rfl, rfl, rfl, rfl, rfl, rfl⟩
    exact EntersSiding.trans (EntersSiding.mk enters.siding enters.nextSeq enters.held)
      (((sameFlight_passTurn v).trans sent).trans (sameFlight_noteStall _))

end

/-- The measurement of a slot is no turn. -/
theorem passTurn_noteSlot (s : State) : passTurn (noteSlot s) = noteSlot (passTurn s) := by
  unfold passTurn
  rw [apply_ite noteSlot]
  rfl

/-! ## What a slot sends -/

section
variable {s : State} {k : SleeveNo}

theorem runs_flitSlot_any (hl : s.platLive = true) (counts : s.seam.counting = true) :
    Runs .flitSlotSend s fun t => t.seam.upSlot = s.seam.upSlot + 1 ∧ t.seam.dnSlot = s.seam.dnSlot + 1 ∧
      ∃ fs, Emit.slot s.seam.upSlot fs ∈ t.out ∧
        (s.ttb.st ≠ .running → s.ttb.st ≠ .startArmed → t.now = s.now + (2 - s.rwt.hold) ∧
          ∀ f ∈ fs, s.seam.usable.getLsbD f.1.toNat = true) := by
  refine runs_flitSlot hl counts fun t ends => ?_
  obtain ⟨upSlot, dnSlot, rwt, timetable⟩ := paces_slotFlits s
  refine ⟨upSlot ▸ ends.upSlot, dnSlot ▸ ends.dnSlot, _, ends.sent, fun rest unarmed => ⟨?_, fun f mem => ?_⟩⟩
  · have now : (slotFlits s).2.now = s.now := congrArg Rwt.now rwt
    rw [ends.now (timetable ▸ rest) (timetable ▸ unarmed), now, rwt]
  · exact usable_of_free (slotFlits_free rest mem)

theorem runs_flitSlot_idle (hl : s.platLive = true) (stands : s.seam.counting = false) :
    Runs .flitSlotSend s fun t => t = settle s := by
  refine runs_flitSlotSend hl ?_
  rw [slotTaken, if_neg (ne_true_of_eq_false stands)]

/-- A slot with one free sleeve and the flit that goes on it. -/
theorem runs_flitSlot_one {u : State} {fs : List (SleeveNo × BitVec 2048)} {P : State → Prop} (hl : s.platLive = true)
    (counts : s.seam.counting = true) (flits : slotFlits s = (fs, u)) (h : ∀ t, SlotEnds s.seam.upSlot fs u t → P t) :
    Runs .flitSlotSend s P :=
  runs_flitSlot hl counts fun t ends => h t (by rwa [flits] at ends)

theorem runs_flitSlot_link (hl : s.platLive = true) (counts : s.seam.counting = true) (rest : s.ttb.st ≠ .running)
    (one : s.freeSleeves = [k]) (none : s.seam.ctlOut = []) (due : s.ctlReady = true) :
    Runs .flitSlotSend s fun t =>
      Emit.slot s.seam.upSlot [(k, s.linkFlit)] ∈ t.out ∧ t.seam.line = s.lineOf s.seam.upSlot [(k, s.linkFlit)] ∧
        t.lnk.ctlDue = false ∧ t.lnk.nakDue = false ∧ t.lnk.retrainDue = false := by
  have next := nextFlit_ctl (s := noteSlot s) due
  refine runs_flitSlot_one hl counts (slotFlits_next rest one none next) fun t ends => ?_
  exact ⟨ends.sent, ends.line, ends.flight.ctlDue, ends.flight.nakDue, ends.flight.retrainDue⟩

theorem runs_flitSlot_again {f : SideFlit} (hl : s.platLive = true) (counts : s.seam.counting = true) (rest : s.ttb.st ≠ .running)
    (one : s.freeSleeves = [k]) (none : s.seam.ctlOut = []) (quiet : s.ctlReady = false) (up : s.lnk.st = .up)
    (again : s.lnk.siding.find? (·.again) = some f) (kept : retrainAt (f.replays + 1) = false) (few : f.replays ≠ 15) :
    Runs .flitSlotSend s fun t =>
      Emit.slot s.seam.upSlot [(k, dataFlit s.lnk f)] ∈ t.out ∧
        t.lnk.siding = s.lnk.siding.map (fun x => if x.seq == f.seq then { x with again := false, replays := x.replays + 1 } else x) := by
  have next := nextFlit_again (s := noteSlot s) quiet up again
  refine runs_flitSlot_one hl counts (slotFlits_next rest one none next) fun t ends => ?_
  exact ⟨ends.sent, ends.flight.siding.trans (lnk_resent kept few _)⟩

theorem runs_flitSlot_new {tr left : Nat} {turn : Fin 4} {f : OutFlit} {fs : List OutFlit} {i : Option (Fin 6)} {shared : Bool}
    (hl : s.platLive = true) (counts : s.seam.counting = true) (rest : s.ttb.st ≠ .running) (one : s.freeSleeves = [k])
    (none : s.seam.ctlOut = []) (quiet : s.ctlReady = false) (up : s.lnk.st = .up)
    (fresh : s.lnk.siding.find? (·.again) = Option.none) (room : s.span < s.spanLimit)
    (track : (passTurn s).nextTrack = some (tr, turn, left)) (queued : s.lnk.outq.toList.getD tr [] = f :: fs)
    (ticket : s.ticketFor (BitVec.ofNat 3 tr) = some (i, shared)) :
    Runs .flitSlotSend s fun t =>
      Emit.slot s.seam.upSlot [(k, dataFlit s.lnk (newSide s shared f))] ∈ t.out ∧
        EntersSiding (newSide s shared f) i s.lnk t.lnk := by
  have track' : (passTurn (noteSlot s)).nextTrack = some (tr, turn, left) := by
    rw [passTurn_noteSlot]
    exact track
  obtain ⟨u, next, enters⟩ := nextFlit_new (s := noteSlot s) quiet up fresh room track' queued ticket
  refine runs_flitSlot_one hl counts (slotFlits_next rest one none next) fun t ends => ?_
  exact ⟨ends.sent, enters.trans ends.flight⟩

theorem runs_flitSlot_seam {p : BitVec 1920} {ps : List (BitVec 1920)} (hl : s.platLive = true) (counts : s.seam.counting = true)
    (rest : s.ttb.st ≠ .running) (one : s.freeSleeves = [k]) (waits : s.seam.ctlOut = p :: ps) (up : s.lnk.st = .up) :
    Runs .flitSlotSend s fun t => Emit.slot s.seam.upSlot [(k, sealFlit (0b100#3 ++ 0#61) p)] ∈ t.out ∧ t.seam.ctlOut = ps := by
  refine runs_flitSlot_one hl counts (slotFlits_ctl rest one waits up) fun t ends => ?_
  exact ⟨ends.sent, ends.ctlOut.trans (ctlOut_ctlSent p _ _)⟩

end

/-- Settles O38: what a slot fills leaves the slot counters and the time, and its end sends the flits and moves the counters on. -/
theorem flitSlots : Obligations.FlitSlots := by
  refine ⟨fun s => runs_flitSlot_any, fun s => runs_flitSlot_idle, fun s k => runs_flitSlot_link, fun s k f => runs_flitSlot_again, ?_,
    fun s k p ps => runs_flitSlot_seam⟩
  intro s k tr left turn f fs i shared hl counts rest one none quiet up fresh room track queued ticket
  obtain ⟨t, runs, sent, siding, nextSeq, held⟩ :=
    runs_flitSlot_new hl counts rest one none quiet up fresh room track queued ticket
  exact ⟨t, runs, sent, siding, nextSeq, by cases i <;> exact held⟩

end Sys2Proof.Machine
end

section
/-!
SUPPORT. Lane records and passes: what is read of them after each shared operation of tailoring (R104 to R118, R127).
-/
namespace Sys2Proof.Machine

/-! ## Fields of a record -/

/-- The bits of a word with a field replaced. -/
theorem getLsbD_putField {w : Nat} (x : BitVec w) (lo n v : Nat) {i : Nat} (hi : i < w) :
    (putField x lo n v).getLsbD i = if lo ≤ i ∧ i < lo + n then v.testBit (i - lo) else x.getLsbD i := by
  have mask : i - lo < w := by omega
  simp only [putField, BitVec.getLsbD_or, BitVec.getLsbD_and, BitVec.getLsbD_not, BitVec.getLsbD_shiftLeft, BitVec.getLsbD_ofNat,
    Nat.testBit_two_pow_sub_one, Nat.testBit_mod_two_pow, hi, mask, decide_true, Bool.true_and]
  by_cases below : i < lo
  · simp [below, Nat.not_le.mpr below]
  · by_cases inside : i - lo < n
    · have : lo ≤ i ∧ i < lo + n := by omega
      simp [below, inside, this]
    · have : ¬(lo ≤ i ∧ i < lo + n) := by omega
      simp [below, inside, this]

/-- A field replaced reads as the number put there. -/
theorem fld_putField {w : Nat} (x : BitVec w) {lo n : Nat} (fits : lo + n ≤ w) (v : Nat) :
    fld (putField x lo n v) lo n = v % 2 ^ n := by
  have eq : (putField x lo n v).extractLsb' lo n = BitVec.ofNat n v := by
    apply BitVec.eq_of_getLsbD_eq
    intro i hi
    have inside : lo ≤ lo + i ∧ lo + i < lo + n := by omega
    rw [BitVec.getLsbD_extractLsb', getLsbD_putField _ _ _ _ (by omega), if_pos inside, BitVec.getLsbD_ofNat, Nat.add_sub_cancel_left]
  rw [fld, eq, BitVec.toNat_ofNat]

/-- A field replaced by what it holds. -/
theorem putField_fld {w : Nat} (x : BitVec w) (lo n : Nat) : putField x lo n (fld x lo n) = x := by
  apply BitVec.eq_of_getLsbD_eq
  intro i hi
  rw [getLsbD_putField _ _ _ _ hi]
  split
  next inside =>
    rw [fld, BitVec.testBit_toNat, BitVec.getLsbD_extractLsb', Nat.add_sub_cancel' inside.1]
    simp [show i - lo < n by omega]
  next => rfl

/-! ## Lanes -/

theorem toNat_laneOf (k : SleeveNo) {j : Nat} (place : j < 9) : (laneOf k j).toNat = 9 * k.toNat + j := by
  have := k.isLt
  exact Nat.mod_eq_of_lt (by omega)

theorem toNat_laneOf_lt (k : SleeveNo) {j : Nat} (place : j < 9) : (laneOf k j).toNat < 72 := by
  have := k.isLt
  rw [toNat_laneOf k place]
  omega

theorem slvOf_laneOf (k : SleeveNo) {j : Nat} (place : j < 9) : slvOf (laneOf k j) = k := by
  have own : (9 * k.toNat + j) / 9 = k.toNat := by omega
  rw [slvOf, toNat_laneOf k place, own, BitVec.ofNat_toNat, BitVec.setWidth_eq]

theorem placeOf_laneOf (k : SleeveNo) {j : Nat} (place : j < 9) : placeOf (laneOf k j) = j := by
  rw [placeOf, toNat_laneOf k place]
  omega

/-! ## One record changed -/

theorem rx_congr {s t : State} (h : t.tlr.rx = s.tlr.rx) (n : LaneNo) : t.rx n = s.rx n := by rw [State.rx, h, State.rx]

theorem OnlyChanges.rx {ps : List Part} {s t : State} (h : OnlyChanges ps s t) (tlr : .tlr ∉ ps) (n : LaneNo) : t.rx n = s.rx n :=
  rx_congr (congrArg Tlr.rx (h .tlr tlr)) n

theorem rx_modRx_same {n : LaneNo} (ok : n.toNat < 72) (f : TlrLane → TlrLane) (s : State) : (modRx n f s).rx n = f (s.rx n) := by
  simp [State.rx, modRx, vmod, ok]

theorem rx_modRx_other {n m : LaneNo} (ne : n ≠ m) (f : TlrLane → TlrLane) (s : State) : (modRx n f s).rx m = s.rx m := by
  have apart : n.toNat ≠ m.toNat := fun e => ne (BitVec.eq_of_toNat_eq e)
  simp only [State.rx, modRx, modTlr_frame, vmod]
  split
  · rw [Vector.getElem?_set_ne _ apart]
  · rfl

/-- Beyond lane 71 there is no record. -/
theorem rx_modRx_beyond {n : LaneNo} (bad : ¬n.toNat < 72) (f : TlrLane → TlrLane) (s : State) (m : LaneNo) :
    (modRx n f s).rx m = s.rx m := by
  simp [State.rx, modRx, vmod, bad]

/-- What holds of every record and its image holds of every record and what it has become. -/
theorem rx_modRx_all {P : TlrLane → TlrLane → Prop} {f : TlrLane → TlrLane} (self : ∀ r, P r r) (h : ∀ r, P r (f r)) (n m : LaneNo)
    (s : State) : P (s.rx m) ((modRx n f s).rx m) := by
  by_cases ok : n.toNat < 72
  · by_cases same : n = m
    · subst same
      rw [rx_modRx_same ok]
      exact h _
    · rw [rx_modRx_other same]
      exact self _
  · rw [rx_modRx_beyond ok]
    exact self _

theorem onlyChanges_modRx (n : LaneNo) (f : TlrLane → TlrLane) (s : State) : OnlyChanges [.tlr] s (modRx n f s) := onlyChanges_modTlr _ s

theorem rx_askRebuild (s : State) (n : LaneNo) : (askRebuild s).rx n = s.rx n := by
  refine rx_congr ?_ n
  unfold askRebuild
  split <;> rfl

@[simp] theorem rx_settle (s : State) (n : LaneNo) : (settle s).rx n = s.rx n := rfl

/-! ## Passes -/

theorem passIn_of_passes {s t : State} (h : t.tlr.passes = s.tlr.passes) (k : SleeveNo) : t.passIn k = s.passIn k := by
  rw [State.passIn, h, State.passIn]

theorem passOn_of_passes {s t : State} (h : t.tlr.passes = s.tlr.passes) (n : LaneNo) : t.passOn n = s.passOn n := by
  rw [State.passOn, h, State.passOn]

theorem OnlyChanges.passIn {ps : List Part} {s t : State} (h : OnlyChanges ps s t) (tlr : .tlr ∉ ps) (k : SleeveNo) :
    t.passIn k = s.passIn k := passIn_congr (h .tlr tlr) k

@[simp] theorem passIn_settle (s : State) (k : SleeveNo) : (settle s).passIn k = s.passIn k := rfl

@[simp] theorem passOn_settle (s : State) (n : LaneNo) : (settle s).passOn n = s.passOn n := rfl

/-- The pass on a lane is that lane's. -/
theorem lane_of_passOn {s : State} {n : LaneNo} {p : Pass} (h : s.passOn n = some p) : p.lane = n := by
  obtain ⟨x, found, rfl⟩ := Option.map_eq_some_iff.mp h
  simpa using List.find?_some found

/-- The pass in a sleeve in service is none of training (R117, R122). -/
theorem train_of_passIn {s : State} {k : SleeveNo} {p : Pass} (h : s.passIn k = some p) : p.train = false := by
  obtain ⟨x, found, rfl⟩ := Option.map_eq_some_iff.mp h
  have := List.find?_some found
  simp only [Bool.and_eq_true, Bool.not_eq_true'] at this
  exact this.2

/-- The pass on a lane changed, where the change keeps its lane. -/
theorem passOn_modPass (n : LaneNo) {f : Pass → Pass} (lane : ∀ q, (f q).lane = q.lane) (s : State) :
    (modPass n f s).passOn n = (s.passOn n).map f := by
  have found := find?_mapIf (p := fun q : SleeveNo × Pass => q.2.lane == n) (f := fun q => (q.1, f q.2))
    (fun x => by simp only [lane]) s.tlr.passes
  simp only [State.passOn, modPass, modTlr_frame, found, Option.map_map]
  rfl

/-- The pass in a sleeve changed with the pass on its lane. -/
theorem passIn_modPass {k : SleeveNo} {p : Pass} {f : Pass → Pass} (train : ∀ q, (f q).train = q.train) {s : State}
    (h : s.passIn k = some p) : (modPass p.lane f s).passIn k = some (f p) := by
  obtain ⟨x, found, rfl⟩ := Option.map_eq_some_iff.mp h
  have same : ((fun q : SleeveNo × Pass => q.1 == k && !q.2.train) ∘
      fun y : SleeveNo × Pass => if y.2.lane == x.2.lane then (y.1, f y.2) else y) = fun q => q.1 == k && !q.2.train := by
    funext y
    simp only [Function.comp]
    split <;> simp only [train]
  simp only [State.passIn, modPass, modTlr_frame, mapIf, List.find?_map, same, found, Option.map_some, BEq.rfl, if_true]

/-- A sleeve whose pass has ended has none. -/
theorem passIn_endPass (k : SleeveNo) (s : State) : (endPass k s).passIn k = none := by
  simp only [State.passIn, endPass, modTlr_frame, Option.map_eq_none_iff, List.find?_eq_none, List.mem_filter]
  rintro y ⟨-, stays⟩
  rw [bne] at stays
  revert stays
  generalize (y.1 == k) = a
  generalize y.2.train = b
  revert a b
  decide

theorem rx_endPass (k : SleeveNo) (s : State) (n : LaneNo) : (endPass k s).rx n = s.rx n := rfl

theorem onlyChanges_modPass (n : LaneNo) (f : Pass → Pass) (s : State) : OnlyChanges [.tlr] s (modPass n f s) := onlyChanges_modTlr _ s

theorem onlyChanges_toPass (n : LaneNo) (st : PassStep) (wait : Bool) (s : State) : OnlyChanges [.tlr] s (toPass n st wait s) :=
  onlyChanges_modPass _ _ s

theorem rx_toPass (n m : LaneNo) (st : PassStep) (wait : Bool) (s : State) : (toPass n st wait s).rx m = s.rx m := rfl

theorem onlyChanges_nextTurn (k : SleeveNo) (s : State) : OnlyChanges [.tlr] s (nextTurn k s) := onlyChanges_modTlr _ s

theorem passIn_nextTurn (k j : SleeveNo) (s : State) : (nextTurn k s).passIn j = s.passIn j := rfl

theorem rx_nextTurn (k : SleeveNo) (s : State) (n : LaneNo) : (nextTurn k s).rx n = s.rx n := rfl

/-! ## Shadow values discarded and passes dropped -/

/-- The shadow values discarded, with or without a message to the station (R111, R113). -/
theorem discardShadow_eq (n : LaneNo) (s : State) : ∃ u, OnlyChanges [.slp, .free] s u ∧
    discardShadow n s = modRx n (fun r => { r with shd := r.act }) u := by
  refine ⟨if ffeOf (s.rx n).shd != ffeOf (s.rx n).act then sendFfe n (ffeOf (s.rx n).act) s else s, ?_, rfl⟩
  exact .ite (fun _ => onlyChanges_sendFfe _ _ s) fun _ => (OnlyChanges.refl s).mono (by decide)

theorem rx_discardShadow {n : LaneNo} (ok : n.toNat < 72) (s : State) :
    (discardShadow n s).rx n = { s.rx n with shd := (s.rx n).act } := by
  obtain ⟨u, frame, eq⟩ := discardShadow_eq n s
  rw [eq, rx_modRx_same ok, frame.rx (by decide)]

theorem rx_discardShadow_all (n m : LaneNo) (s : State) : ∃ v, (discardShadow n s).rx m = { s.rx m with shd := v } := by
  obtain ⟨u, frame, eq⟩ := discardShadow_eq n s
  rw [eq, ← frame.rx (by decide) m]
  exact rx_modRx_all (P := fun r r' => ∃ v, r' = { r with shd := v }) (fun r => ⟨r.shd, rfl⟩) (fun r => ⟨r.act, rfl⟩) n m u

theorem dropPass_eq {k : SleeveNo} {p : Pass} {s : State} (h : s.passIn k = some p) :
    dropPass k s = endPass k (discardShadow p.lane s) := by
  rw [dropPass, h]

theorem abandonPass_eq {k : SleeveNo} {p : Pass} {s : State} (h : s.passIn k = some p) :
    abandonPass k s = raiseLane C.TLR.PASS_ABANDONED .down k (placeOf p.lane) (dropPass k s) := by
  rw [abandonPass, h]

theorem passIn_dropPass (k : SleeveNo) (s : State) : (dropPass k s).passIn k = none := by
  cases h : s.passIn k with
  | none => rw [dropPass, h]; exact h
  | some p => rw [dropPass_eq h]; exact passIn_endPass k _

theorem rx_dropPass {k : SleeveNo} {p : Pass} {s : State} (h : s.passIn k = some p) (ok : p.lane.toNat < 72) :
    (dropPass k s).rx p.lane = { s.rx p.lane with shd := (s.rx p.lane).act } := by
  rw [dropPass_eq h, rx_endPass, rx_discardShadow ok]

theorem rx_abandonPass {k : SleeveNo} {p : Pass} {s : State} (h : s.passIn k = some p) (ok : p.lane.toNat < 72) :
    (abandonPass k s).rx p.lane = { s.rx p.lane with shd := (s.rx p.lane).act } := by
  rw [abandonPass_eq h, (onlyChanges_raiseLane _ _ _ _ _).rx (by decide), rx_dropPass h ok]

theorem raised_abandonPass {k : SleeveNo} {p : Pass} {s : State} (h : s.passIn k = some p) :
    Raised C.TLR.PASS_ABANDONED (abandonPass k s) := by
  rw [abandonPass_eq h]
  exact raised_raiseLane_self (by decide) _ _ _ _

theorem exOnly_returnLane (k : SleeveNo) (p : Pass) (s : State) : ExOnly s (returnLane k p s) := by
  unfold returnLane
  split
  · exact exOnly_wantEx _ s
  · exact exOnly_want _ s

end Sys2Proof.Machine
end

section
/-!
SUPPORT. The phase tracker, and the start and the abandonment of passes (R105, R108, R112, R117, R118).
-/
namespace Sys2Proof.Machine

/-! ## The phase tracker (R105) -/

/-- The step that an offset of the phase tracker asks of the sampling phase (R105). -/
def trackStep (o : Int) : Int := if 8 ≤ o then 1 else if o ≤ -8 then -1 else 0

/-- The sampling phase of a record one step over, as far as its range goes (R104). -/
def phaseMoved (d : Int) (r : BitVec 128) : BitVec 128 := putField r 0 6 (max 0 (min 63 ((fld r 0 6 : Int) + d))).toNat

/-- The values in use cannot take a step over: it would leave the phase's range. -/
def State.phaseStuck (s : State) (n : LaneNo) (d : Int) : Bool :=
  (Sys2Proof.fld (s.inUse n) 0 6 : Int) + d < 0 || 63 < (Sys2Proof.fld (s.inUse n) 0 6 : Int) + d

/-- A lane's record after its phase tracker has reached an offset (R105). -/
def State.tracked (s : State) (n : LaneNo) (offset : BitVec 5) : TlrLane :=
  if s.phaseStuck n (trackStep offset.toInt) then { s.rx n with tracker := offset }
  else { s.rx n with
    act := phaseMoved (trackStep offset.toInt) (s.rx n).act, shd := phaseMoved (trackStep offset.toInt) (s.rx n).shd
    tracker := offset - BitVec.ofInt 5 (trackStep offset.toInt) }

theorem exec_phaseTrackerShift (lane : LaneNo) (offset : BitVec 5) (s : State) :
    exec (.phaseTrackerShift lane offset) s = whenLane lane s fun s =>
      let stuck := s.phaseStuck lane (trackStep offset.toInt)
      let move (r : BitVec 128) : BitVec 128 := if stuck then r else phaseMoved (trackStep offset.toInt) r
      modRx lane (fun r => { r with
        act := move r.act, shd := move r.shd
        tracker := if stuck then offset else offset - BitVec.ofInt 5 (trackStep offset.toInt) }) s := rfl

theorem runs_phaseTrackerShift {lane : LaneNo} (offset : BitVec 5) {s : State} (ok : lane.toNat < 72) (hf : s.functional = true)
    (hs : Settled s) :
    Runs (.phaseTrackerShift lane offset) s fun t => t.rx lane = s.tracked lane offset ∧ OnlyChanges [.tlr, .outs, .slp] s t := by
  refine runs_lane (exec_phaseTrackerShift lane offset) ok hf rfl ⟨(rx_modRx_same ok _ s).trans ?_,
    onlyChanges_settle_of (onlyChanges_modRx lane _ s) hs (by decide)⟩
  rw [State.tracked]
  cases s.phaseStuck lane (trackStep offset.toInt) <;> rfl

theorem phaseMoved_zero (r : BitVec 128) : phaseMoved 0 r = r := by
  have := (r.extractLsb' 0 6).isLt
  have same : (max 0 (min 63 ((fld r 0 6 : Int) + 0))).toNat = fld r 0 6 := by
    unfold fld
    omega
  rw [phaseMoved, same, putField_fld]

theorem fld_phaseMoved_one (r : BitVec 128) : fld (phaseMoved 1 r) 0 6 = min 63 (fld r 0 6 + 1) := by
  have := (r.extractLsb' 0 6).isLt
  rw [phaseMoved, fld_putField r (by decide)]
  unfold fld
  omega

theorem fld_phaseMoved_neg_one (r : BitVec 128) : fld (phaseMoved (-1) r) 0 6 = fld r 0 6 - 1 := by
  have := (r.extractLsb' 0 6).isLt
  rw [phaseMoved, fld_putField r (by decide)]
  unfold fld
  omega

theorem fld_inUse_lt (s : State) (n : LaneNo) : fld (s.inUse n) 0 6 < 64 := ((s.inUse n).extractLsb' 0 6).isLt

/-- Below a magnitude of 8, or at the end of the phase's range, the offset alone is kept. -/
theorem tracked_keeps {lane : LaneNo} {offset : BitVec 5} {s : State}
    (small : (-8 < offset.toInt ∧ offset.toInt < 8) ∨ (8 ≤ offset.toInt ∧ fld (s.inUse lane) 0 6 = 63) ∨
      (offset.toInt ≤ -8 ∧ fld (s.inUse lane) 0 6 = 0)) : s.tracked lane offset = { s.rx lane with tracker := offset } := by
  rw [State.tracked]
  rcases small with ⟨above, below⟩ | ⟨high, top⟩ | ⟨low, bottom⟩
  · have still : trackStep offset.toInt = 0 := by rw [trackStep, if_neg (by omega), if_neg (by omega)]
    rw [still, phaseMoved_zero, phaseMoved_zero, BitVec.ofInt_ofNat, BitVec.sub_zero, ite_self]
  · have step : trackStep offset.toInt = 1 := if_pos high
    rw [step]
    exact if_pos (by simp [State.phaseStuck, top])
  · have step : trackStep offset.toInt = -1 := by rw [trackStep, if_neg (by omega), if_pos low]
    rw [step]
    exact if_pos (by simp [State.phaseStuck, bottom])

theorem tracked_up {lane : LaneNo} {offset : BitVec 5} {s : State} (high : 8 ≤ offset.toInt) (room : fld (s.inUse lane) 0 6 < 63) :
    s.tracked lane offset =
      { s.rx lane with act := phaseMoved 1 (s.rx lane).act, shd := phaseMoved 1 (s.rx lane).shd, tracker := offset - 1 } := by
  have step : trackStep offset.toInt = 1 := if_pos high
  rw [State.tracked, step]
  exact if_neg (by simp only [State.phaseStuck, Bool.or_eq_true, decide_eq_true_eq]; omega)

theorem tracked_down {lane : LaneNo} {offset : BitVec 5} {s : State} (low : offset.toInt ≤ -8) (room : 0 < fld (s.inUse lane) 0 6) :
    s.tracked lane offset =
      { s.rx lane with act := phaseMoved (-1) (s.rx lane).act, shd := phaseMoved (-1) (s.rx lane).shd, tracker := offset + 1 } := by
  have step : trackStep offset.toInt = -1 := by rw [trackStep, if_neg (by omega), if_pos low]
  have range := fld_inUse_lt s lane
  have back : offset - BitVec.ofInt 5 (-1) = offset + 1 := by
    rw [BitVec.sub_eq_add_neg]
    rfl
  rw [State.tracked, step, back]
  exact if_neg (by simp only [State.phaseStuck, Bool.or_eq_true, decide_eq_true_eq]; omega)

/-! ## A pass begins (R115, R117, R118) -/

/-- A pass of a sleeve on the lane at a place has begun, its exchange not asked for yet. -/
def passOpened (k : SleeveNo) (j : Nat) (s : State) : State :=
  modRx (laneOf k j) (fun r => { r with shd := r.act }) (modTlr (fun t => { t with
    passes := t.passes ++ [(k, s.newPass (laneOf k j) .opening ((s.slv .down k).spareState == 0) false)]
    turn := vmod t.turn k.toNat (fun _ => Fin.ofNat 9 j) }) s)

/-- What has to hold for a pass to begin in a sleeve on the lane at a place (R114, R117, R118). -/
structure MayPass (k : SleeveNo) (j : Nat) (s : State) : Prop where
  rolls : s.rolls = true
  usable : s.seam.usable.getLsbD k.toNat = true
  free : s.passIn k = none
  spare : (s.slv .down k).spareState ≠ 2
  enabled : s.flag (if (s.slv .down k).spareState = 0 then F.TLR_CTRL.ROLL_EN else F.TLR_CTRL.DARNED_EN) = true
  next : s.nextLane k (s.tlr.turn.toList.getD k.toNat 0).val 9 = some j

theorem nextLane_congr {s t : State} (h : t.seam = s.seam) (k : SleeveNo) (j n : Nat) : t.nextLane k j n = s.nextLane k j n := by
  induction n generalizing j with
  | zero => rfl
  | succ n ih =>
    have same : t.tailors k j = s.tailors k j := by simp only [State.tailors, State.slv, h]
    rw [State.nextLane, State.nextLane, same, ih]

/-- The lane whose turn it is stands at a place of its sleeve. -/
theorem nextLane_lt {s : State} {k : SleeveNo} {i j n : Nat} (place : i < 9) (h : s.nextLane k i n = some j) : j < 9 := by
  induction n generalizing i with
  | zero => exact nomatch h
  | succ n ih =>
    rw [State.nextLane] at h
    split at h
    · exact Option.some.inj h ▸ place
    · exact ih (Nat.mod_lt _ (by decide)) h

section
variable {k : SleeveNo} {j : Nat} {s : State}

theorem MayPass.place (h : MayPass k j s) : j < 9 := nextLane_lt (Fin.isLt _) h.next

/-- What has to hold is seen neither by the clocks. -/
theorem MayPass.reach (h : MayPass k j s) (m : Nat) : MayPass k j (s.reach m) := by
  have frame := onlyChanges_reach m s
  have tlr : (s.reach m).tlr = s.tlr := frame .tlr (by decide)
  have seam : (s.reach m).seam = s.seam := frame .seam (by decide)
  have slv : (s.reach m).slv .down k = s.slv .down k := frame.slv (by decide) .down k
  have flag (f : Field) : (s.reach m).flag f = s.flag f := by rw [State.flag, reg_reach, State.flag]
  exact {
    rolls := by
      rw [State.rolls, tlr, flag, frame .sbx (by decide), frame .lnk (by decide)]
      exact h.rolls
    usable := by rw [seam]; exact h.usable
    free := (passIn_congr tlr k).trans h.free
    spare := by rw [slv]; exact h.spare
    enabled := by rw [slv, flag]; exact h.enabled
    next := by rw [tlr, nextLane_congr seam]; exact h.next }

theorem startPass_eq (h : MayPass k j s) : startPass k s =
    if (s.slv .down k).spareState ≠ 0 ∨ j = 8 then passOpened k j s
    else wantEx (.subst k (BitVec.ofNat 4 j) 1) (passOpened k j s) := by
  obtain ⟨rolls, usable, free, spare, enabled, next⟩ := h
  have turn : (s.tlr.turn[k.toNat]'(by have := k.isLt; omega)) = s.tlr.turn.toList.getD k.toNat 0 := by
    have := k.isLt
    simp [List.getD_eq_getElem?_getD, show k.toNat < 8 by omega]
  have darned : ((s.slv .down k).spareState == 1 || (s.slv .down k).spareState == 3) = !((s.slv .down k).spareState == 0) := by
    revert spare
    generalize (s.slv .down k).spareState = v
    decide +revert
  have on : s.flag (if !((s.slv .down k).spareState == 0) then F.TLR_CTRL.DARNED_EN else F.TLR_CTRL.ROLL_EN) = true := by
    by_cases idle : (s.slv .down k).spareState = 0
    · rw [if_pos idle] at enabled
      rw [if_neg (by simp [idle])]
      exact enabled
    · rw [if_neg idle] at enabled
      rw [if_pos (by rw [beq_eq_false_iff_ne.mpr idle]; rfl)]
      exact enabled
  rw [← turn] at next
  unfold startPass
  simp only [darned, on, rolls, usable, free, decide_eq_false spare, next, Option.isSome_none, Bool.not_true, Bool.or_self,
    Bool.false_eq_true, if_false]
  by_cases idle : (s.slv .down k).spareState = 0 <;> by_cases last : j = 8 <;> simp [idle, last, passOpened]

/-- The pass that has begun: its lane, its first step, its kind, its start, and the shadow values it starts from. -/
theorem passOpened_opens (h : MayPass k j s) :
    (passOpened k j s).passIn k = some (s.newPass (laneOf k j) .opening ((s.slv .down k).spareState == 0) false) ∧
      ((passOpened k j s).rx (laneOf k j)).shd = (s.rx (laneOf k j)).act ∧ OnlyChanges [.tlr] s (passOpened k j s) := by
  have none : s.tlr.passes.find? (fun q => q.1 == k && !q.2.train) = none := by simpa [State.passIn] using h.free
  refine ⟨?_, congrArg TlrLane.shd (rx_modRx_same (toNat_laneOf_lt k h.place) _ _),
    ((onlyChanges_modTlr _ s).trans (onlyChanges_modRx _ _ _)).mono (by decide)⟩
  simp [State.passIn, passOpened, modRx, List.find?_append, none, State.newPass]

theorem startPass_starts (h : MayPass k j s) :
    (startPass k s).passIn k = some (s.newPass (laneOf k j) .opening ((s.slv .down k).spareState == 0) false) ∧
      ((startPass k s).rx (laneOf k j)).shd = (s.rx (laneOf k j)).act ∧ OnlyChanges [.tlr, .seam] s (startPass k s) ∧
      ((s.slv .down k).spareState ≠ 0 → OnlyChanges [.tlr] s (startPass k s)) := by
  obtain ⟨pass, shd, frame⟩ := passOpened_opens h
  rw [startPass_eq h]
  split
  next => exact ⟨pass, shd, frame.mono (by decide), fun _ => frame⟩
  next asks =>
    have ask := (exOnly_wantEx (.subst k (BitVec.ofNat 4 j) 1) (passOpened k j s)).onlyChanges
    refine ⟨(ask.passIn (by decide) k).trans pass, ?_, frame.trans ask, fun darned => absurd (.inl darned) asks⟩
    rw [ask.rx (by decide)]
    exact shd

theorem le_now_reach (m : Nat) (s : State) : m ≤ (s.reach m).now := by
  rw [now_reach]
  exact Nat.le_max_right _ _

theorem getElem_toList_getD {α : Type} (v : Vector α 8) (d : α) (k : SleeveNo) :
    v[k.toNat]'(by have := k.isLt; omega) = v.toList.getD k.toNat d := by
  have := k.isLt
  simp [List.getD_eq_getElem?_getD, show k.toNat < 8 by omega]

/-- A command that waits until a moment and starts a pass then. -/
theorem runs_startPass {c : Instr} {f : State → State} {m : Nat} (e : ∀ s, exec c s = whenFunctional s f)
    (eq : f s = startPass k (s.reach m)) (hf : s.functional = true) (hs : Settled s) (may : MayPass k j s) :
    Runs c s fun t =>
      t.passIn k = some ((s.reach m).newPass (laneOf k j) .opening ((s.slv .down k).spareState == 0) false) ∧
        t.now = (s.reach m).now ∧ (t.rx (laneOf k j)).shd = (s.rx (laneOf k j)).act ∧ m ≤ t.now ∧
        ((s.slv .down k).spareState ≠ 0 → OnlyChanges [.tlr, .rwt, .aoCycles, .outs, .slp] s t) ∧
        OnlyChanges [.tlr, .seam, .rwt, .aoCycles, .outs, .slp] s t := by
  have wait := onlyChanges_reach m s
  have slv : (s.reach m).slv .down k = s.slv .down k := wait.slv (by decide) .down k
  obtain ⟨pass, shd, frame, darned⟩ := startPass_starts (may.reach m)
  have now : (startPass k (s.reach m)).now = (s.reach m).now := congrArg Rwt.now (frame .rwt (by decide))
  rw [slv] at pass darned
  rw [wait.rx (by decide)] at shd
  refine runs_functional e hf eq ⟨pass, now, shd, now ▸ le_now_reach m s, fun taken => ?_, ?_⟩
  · exact (onlyChanges_settle_of (wait.trans (darned taken)) hs (by decide)).mono (by decide)
  · exact (onlyChanges_settle_of (wait.trans frame) hs (by decide)).mono (by decide)

theorem runs_rollingPassStart (hf : s.functional = true) (hs : Settled s) (may : MayPass k j s) :
    Runs (.rollingPassStart k) s fun t =>
      (t.passIn k).map (fun p => (p.lane, p.step, p.full)) = some (laneOf k j, .opening, (s.slv .down k).spareState == 0) ∧
        (t.passIn k).map (·.startedAt) = some t.now ∧ (t.rx (laneOf k j)).shd = (s.rx (laneOf k j)).act ∧
        s.tlr.lastEnd.toList.getD k.toNat 0 + 1000000 * s.fld F.TLR_ROLL_CFG.INTERVAL_MS ≤ t.now ∧
        ((s.slv .down k).spareState ≠ 0 → OnlyChanges [.tlr, .rwt, .aoCycles, .outs, .slp] s t) ∧
        OnlyChanges [.tlr, .seam, .rwt, .aoCycles, .outs, .slp] s t := by
  obtain ⟨t, e, pass, now, shd, late, darned, frame⟩ := runs_startPass (c := .rollingPassStart k) (fun _ => rfl) rfl hf hs may
  rw [getElem_toList_getD _ 0] at late
  refine ⟨t, e, ?_, ?_, shd, late, darned, frame⟩
  · rw [pass]
    rfl
  · rw [pass, now]
    rfl

theorem runs_starvedRetry (hf : s.functional = true) (hs : Settled s) (may : MayPass k j s)
    (starved : s.tlr.starvedMask.getLsbD k.toNat = true) :
    Runs (.starvedRetry k) s fun t =>
      (t.passIn k).map (fun p => (p.lane, p.step)) = some (laneOf k j, .opening) ∧
        s.tlr.lastEnd.toList.getD k.toNat 0 + 1000000 * s.fld F.TLR_CFG2.RETRY_MS ≤ t.now ∧
        OnlyChanges [.tlr, .seam, .rwt, .aoCycles, .outs, .slp] s t := by
  obtain ⟨t, e, pass, -, -, late, -, frame⟩ := runs_startPass (c := .starvedRetry k) (fun _ => rfl) (if_pos starved) hf hs may
  rw [getElem_toList_getD _ 0] at late
  refine ⟨t, e, ?_, late, frame⟩
  rw [pass]
  rfl

end

/-! ## A pass is abandoned (R112) -/

/-- A pass has reached its time limit (R112). -/
def limitReached (k : SleeveNo) (p : Pass) (s : State) : State :=
  returnLane k p (nextTurn k (abandonPass k (s.reach (p.startedAt + 1000 * s.fld F.TLR_ROLL_CFG.PASS_LIMIT_US))))

theorem exec_passLimitTimeout (lane : LaneNo) (s : State) : exec (.passLimitTimeout lane) s = whenLane lane s fun s =>
    match s.passIn (slvOf lane) with
    | some p => if p.lane = lane then limitReached (slvOf lane) p s else s
    | none => s := rfl

theorem limitReached_abandons {k : SleeveNo} {p : Pass} {s : State} (runs : s.passIn k = some p) (ok : p.lane.toNat < 72) :
    (limitReached k p s).passIn k = none ∧ Raised C.TLR.PASS_ABANDONED (limitReached k p s) ∧
      (limitReached k p s).rx p.lane = { s.rx p.lane with shd := (s.rx p.lane).act } ∧
      p.startedAt + 1000 * s.fld F.TLR_ROLL_CFG.PASS_LIMIT_US ≤ (limitReached k p s).now := by
  let m := p.startedAt + 1000 * s.fld F.TLR_ROLL_CFG.PASS_LIMIT_US
  have wait := onlyChanges_reach m s
  have late : (s.reach m).passIn k = some p := (wait.passIn (by decide) k).trans runs
  have back := exOnly_returnLane k p (nextTurn k (abandonPass k (s.reach m)))
  have turn := onlyChanges_nextTurn k (abandonPass k (s.reach m))
  have after := turn.trans back.onlyChanges
  have rwt : (limitReached k p s).rwt = (s.reach m).rwt :=
    ((onlyChanges_abandonPass k (s.reach m)).trans after) .rwt (by decide)
  refine ⟨?_, ?_, ?_, ?_⟩
  · exact (back.onlyChanges.passIn (by decide) k).trans ((passIn_nextTurn k k _).trans (passIn_abandonPass k _))
  · exact (after.notes (by decide) (by decide)).1 _ (by decide) (raised_abandonPass late)
  · refine (back.onlyChanges.rx (by decide) _).trans ?_
    rw [rx_nextTurn, rx_abandonPass late ok, wait.rx (by decide)]
  · exact (le_now_reach m s).trans_eq (congrArg Rwt.now rwt).symm

theorem runs_passLimitTimeout {lane : LaneNo} {p : Pass} {s : State} (ok : lane.toNat < 72) (hf : s.functional = true)
    (runs : s.passIn (slvOf lane) = some p) (own : p.lane = lane) :
    Runs (.passLimitTimeout lane) s fun t =>
      t.passIn (slvOf lane) = none ∧ Raised C.TLR.PASS_ABANDONED t ∧ (t.rx lane).act = (s.rx lane).act ∧
        (t.rx lane).shd = (s.rx lane).act ∧ p.startedAt + 1000 * s.fld F.TLR_ROLL_CFG.PASS_LIMIT_US ≤ t.now := by
  subst own
  obtain ⟨gone, raised, record, late⟩ := limitReached_abandons runs ok
  refine runs_lane (u := limitReached (slvOf p.lane) p s) (exec_passLimitTimeout p.lane) ok hf (by rw [runs]; exact if_pos rfl)
    ⟨gone, raised_settle.mpr raised, ?_, ?_, late⟩
  · rw [rx_settle, record]
  · rw [rx_settle, record]

/-- Settles O33: the tracker moves one record, a pass begins as its sleeve's spare allows, and one at its limit is dropped. -/
theorem passesStartAndEnd : Obligations.PassesStartAndEnd := by
  refine ⟨fun lane offset s ok hf hs small => ?_, fun lane offset s ok hf hs high room => ?_,
    fun lane offset s ok hf hs low room => ?_,
    fun k j s hf hs rolls usable free spare enabled next =>
      runs_rollingPassStart hf hs ⟨rolls, usable, free, spare, enabled, next⟩,
    fun k j s hf hs rolls usable free idle enabled starved next => ?_,
    fun lane p s ok hf runs own => runs_passLimitTimeout ok hf runs own⟩
  · obtain ⟨t, e, rx, frame⟩ := runs_phaseTrackerShift offset ok hf hs
    exact ⟨t, e, rx.trans (tracked_keeps small), frame⟩
  · obtain ⟨t, e, rx, frame⟩ := runs_phaseTrackerShift offset ok hf hs
    rw [tracked_up high room] at rx
    refine ⟨t, e, ?_⟩
    dsimp only
    rw [rx]
    exact ⟨fld_phaseMoved_one _, fld_phaseMoved_one _, rfl, frame⟩
  · obtain ⟨t, e, rx, frame⟩ := runs_phaseTrackerShift offset ok hf hs
    rw [tracked_down low room] at rx
    refine ⟨t, e, ?_⟩
    dsimp only
    rw [rx]
    exact ⟨fld_phaseMoved_neg_one _, fld_phaseMoved_neg_one _, rfl, frame⟩
  · refine runs_starvedRetry hf hs ⟨rolls, usable, free, ?_, ?_, next⟩ starved
    · rw [idle]
      decide
    · rw [if_pos idle]
      exact enabled

end Sys2Proof.Machine
end

section
/-!
SUPPORT. What repairs leave of the lanes' records, and which marks of failed lanes stay (R84, R85, R87, R113).
-/
namespace Sys2Proof.Machine

/-- Tailoring as the ends of passes and repairs leave it: of each lane's record all but the shadow values, the measure-only run, the
freezes, and what training has committed and left out. -/
structure KeepsLanes (s t : State) : Prop where
  rx : ∀ n, ∃ v, t.rx n = { s.rx n with shd := v }
  measuring : t.tlr.measuring = s.tlr.measuring
  frozenHost : t.tlr.frozenHost = s.tlr.frozenHost
  frozenBrown : t.tlr.frozenBrown = s.tlr.frozenBrown
  committed : t.tlr.committed = s.tlr.committed
  leftOut : t.tlr.leftOut = s.tlr.leftOut

/-- What a repair does, whether or not it marks lanes failed: the marks set stay, and it touches sleeves, exchanges and passes alone. -/
structure Mends (s t : State) : Prop where
  marks : ∀ k j, (s.slv .down k).failed.getLsbD j = true → (t.slv .down k).failed.getLsbD j = true
  lanes : KeepsLanes s t
  keeps : Keeps [] repairParts repairSeam s t

section
variable {s t u : State}

theorem KeepsLanes.refl (s : State) : KeepsLanes s s := ⟨fun n => ⟨(s.rx n).shd, rfl⟩, rfl, rfl, rfl, rfl, rfl⟩

theorem KeepsLanes.trans (h : KeepsLanes s t) (k : KeepsLanes t u) : KeepsLanes s u where
  rx n := by
    obtain ⟨v, e⟩ := h.rx n
    obtain ⟨w, e'⟩ := k.rx n
    exact ⟨w, by rw [e', e]⟩
  measuring := k.measuring.trans h.measuring
  frozenHost := k.frozenHost.trans h.frozenHost
  frozenBrown := k.frozenBrown.trans h.frozenBrown
  committed := k.committed.trans h.committed
  leftOut := k.leftOut.trans h.leftOut

theorem keepsLanes_of_tlr (h : t.tlr = s.tlr) : KeepsLanes s t where
  rx n := ⟨(s.rx n).shd, rx_congr (congrArg Tlr.rx h) n⟩
  measuring := congrArg Tlr.measuring h
  frozenHost := congrArg Tlr.frozenHost h
  frozenBrown := congrArg Tlr.frozenBrown h
  committed := congrArg Tlr.committed h
  leftOut := congrArg Tlr.leftOut h

theorem OnlyChanges.keepsLanes {ps : List Part} (h : OnlyChanges ps s t) (tlr : .tlr ∉ ps) : KeepsLanes s t :=
  keepsLanes_of_tlr (h .tlr tlr)

theorem KeepsLanes.act (h : KeepsLanes s t) (n : LaneNo) : (t.rx n).act = (s.rx n).act := by
  obtain ⟨v, e⟩ := h.rx n
  rw [e]

theorem KeepsLanes.qual (h : KeepsLanes s t) (n : LaneNo) : (t.rx n).qual = (s.rx n).qual := by
  obtain ⟨v, e⟩ := h.rx n
  rw [e]

theorem KeepsLanes.freezing (h : KeepsLanes s t) : t.freezing = s.freezing := by
  rw [State.freezing, h.frozenHost, h.frozenBrown, State.freezing]

theorem keepsLanes_discardShadow (n : LaneNo) (s : State) : KeepsLanes s (discardShadow n s) := by
  obtain ⟨v, frame, eq⟩ := discardShadow_eq n s
  have asked := frame.keepsLanes (by decide)
  refine ⟨fun m => rx_discardShadow_all n m s, ?_, ?_, ?_, ?_, ?_⟩
  · rw [eq]; exact asked.measuring
  · rw [eq]; exact asked.frozenHost
  · rw [eq]; exact asked.frozenBrown
  · rw [eq]; exact asked.committed
  · rw [eq]; exact asked.leftOut

theorem keepsLanes_endPass (k : SleeveNo) (s : State) : KeepsLanes s (endPass k s) :=
  ⟨fun n => ⟨(s.rx n).shd, rfl⟩, rfl, rfl, rfl, rfl, rfl⟩

theorem keepsLanes_dropPass (k : SleeveNo) (s : State) : KeepsLanes s (dropPass k s) := by
  cases h : s.passIn k with
  | none =>
    rw [dropPass, h]
    exact KeepsLanes.refl s
  | some p =>
    rw [dropPass_eq h]
    exact (keepsLanes_discardShadow _ s).trans (keepsLanes_endPass k _)

theorem keepsLanes_abandonPass (k : SleeveNo) (s : State) : KeepsLanes s (abandonPass k s) := by
  cases h : s.passIn k with
  | none =>
    rw [abandonPass, h]
    exact KeepsLanes.refl s
  | some p =>
    rw [abandonPass_eq h]
    exact (keepsLanes_dropPass k s).trans ((onlyChanges_raiseLane _ _ _ _ _).keepsLanes (by decide))

theorem keepsLanes_askRebuild (s : State) : KeepsLanes s (askRebuild s) := by
  unfold askRebuild
  split
  · exact KeepsLanes.refl s
  · exact ⟨fun n => ⟨(s.rx n).shd, rfl⟩, rfl, rfl, rfl, rfl, rfl⟩

theorem Mends.refl (s : State) : Mends s s := ⟨fun _ _ h => h, KeepsLanes.refl s, Keeps.self _ _ _ s⟩

theorem Mends.trans (h : Mends s t) (k : Mends t u) : Mends s u :=
  ⟨fun i j m => k.marks i j (h.marks i j m), h.lanes.trans k.lanes, h.keeps.step k.keeps⟩

theorem Mends.ite {c : Prop} [Decidable c] (ht : c → Mends s t) (hu : ¬c → Mends s u) : Mends s (if c then t else u) := by
  split
  next h => exact ht h
  next h => exact hu h

theorem mends_foldl {α : Type} {f : State → α → State} (h : ∀ s x, Mends s (f s x)) (l : List α) (s : State) : Mends s (l.foldl f s) := by
  induction l generalizing s with
  | nil => exact Mends.refl s
  | cons x xs ih => exact (h s x).trans (ih (f s x))

/-- A repair that marks no lane. -/
theorem Repairs.mends (h : Repairs s t) (lanes : KeepsLanes s t) : Mends s t :=
  ⟨fun k j m => by rw [(h.health .down k).1]; exact m, lanes, h.keeps⟩

theorem ExOnly.mends (h : ExOnly s t) : Mends s t := h.repairs.mends (h.onlyChanges.keepsLanes (by decide))

end

theorem mends_abandonPass (k : SleeveNo) (s : State) : Mends s (abandonPass k s) :=
  (repairs_abandonPass k s).mends (keepsLanes_abandonPass k s)

theorem mends_dropPass (k : SleeveNo) (s : State) : Mends s (dropPass k s) := (repairs_dropPass k s).mends (keepsLanes_dropPass k s)

theorem mends_raiseLane {c : Cause} (hc : c ∈ causes) (d : Dir) (k : SleeveNo) (j : Nat) (s : State) : Mends s (raiseLane c d k j s) :=
  (repairs_raiseLane hc d k j s).mends ((onlyChanges_raiseLane c d k j s).keepsLanes (by decide))

theorem mends_askRebuild (s : State) : Mends s (askRebuild s) := (repairs_askRebuild s).mends (keepsLanes_askRebuild s)

theorem mends_wantRetire (k : SleeveNo) (s : State) : Mends s (wantRetire k s) := (exOnly_wantRetire k s).mends

theorem mends_spare (k : SleeveNo) (st : BitVec 2) (s : State) : Mends s (modSlv .down k (fun v => { v with spareState := st }) s) :=
  (repairs_spare k st s).mends ((onlyChanges_modSlv .down k _ s).keepsLanes (by decide))

theorem mends_repairLane (k : SleeveNo) (j : Nat) (s : State) : Mends s (repairLane k j s) := by
  have drop : Mends s (if (s.slv .down k).spareState = 2 then s else abandonPass k s) :=
    .ite (fun _ => Mends.refl s) fun _ => mends_abandonPass k s
  refine drop.trans ?_
  dsimp only [repairLane]
  generalize (if (s.slv .down k).spareState = 2 then s else abandonPass k s) = u
  refine .ite (fun _ => ?_) fun _ => .ite (fun _ => ?_) fun _ => mends_wantRetire k u
  · exact .ite (fun _ => (exOnly_wantEx _ u).mends) fun _ => Mends.refl u
  · refine .ite (fun _ => ?_) fun _ => .ite (fun _ => ?_) fun _ => ?_
    · exact ((mends_dropPass k u).trans (mends_spare k 1 _)).trans (mends_raiseLane (by decide) _ k j _)
    · exact ((mends_abandonPass k u).trans (mends_spare k 0 _)).trans (exOnly_wantEx _ _).mends
    · exact (mends_abandonPass k u).trans (exOnly_wantEx _ _).mends

theorem mends_failSpare (k : SleeveNo) (s : State) : Mends s (failSpare k s) := by
  refine .ite (fun _ => ?_) fun _ => .ite (fun _ => Mends.refl s) fun _ => ?_
  · exact ((mends_spare k 3 s).trans (mends_raiseLane (by decide) _ k 8 _)).trans (mends_wantRetire k _)
  · exact ((mends_abandonPass k s).trans (mends_spare k 3 _)).trans (mends_raiseLane (by decide) _ k 8 _)

/-- A lane marked failed: the marks beside it stay. -/
theorem mends_mark (k : SleeveNo) (m : BitVec 9) (s : State) :
    Mends s (modSlv .down k (fun v => { v with failed := v.failed ||| m }) s) where
  marks i j h := by
    by_cases same : k = i
    · subst same
      rw [slv_modSlv_same, BitVec.getLsbD_or, h, Bool.true_or]
    · rw [slv_modSlv_other (fun e => same e.2)]
      exact h
  lanes := (onlyChanges_modSlv .down k _ s).keepsLanes (by decide)
  keeps := (keeps_modSlv .down k _ s).mono (by decide) (by decide) (by decide)

theorem mends_failLane (n : LaneNo) (s : State) : Mends s (failLane n s) := by
  refine .ite (fun _ => Mends.refl s) fun _ => ?_
  have marked := (mends_mark (slvOf n) (1#9 <<< placeOf n) s).trans (mends_askRebuild _)
  refine .ite (fun _ => marked.trans (mends_failSpare _ _)) fun _ => ?_
  exact (marked.trans (mends_raiseLane (by decide) _ _ _ _)).trans (mends_repairLane _ _ _)

/-- A lane of a sleeve that is not retired has its mark once it has failed, whether it had it before or not (R84). -/
theorem failLane_fails {n : LaneNo} {s : State} (kept : s.seam.retired.getLsbD (slvOf n).toNat = false) :
    ((failLane n s).slv .down (slvOf n)).failed.getLsbD (placeOf n) = true := by
  cases before : (s.slv .down (slvOf n)).failed.getLsbD (placeOf n) with
  | false => exact (failLane_marks before kept).1
  | true => exact (mends_failLane n s).marks _ _ before

end Sys2Proof.Machine
end

section
/-!
SUPPORT. What a pass makes of its measurements, and the measure-only run (R84, R107 to R111, R116, R122, R124).
-/
namespace Sys2Proof.Machine

/-! ## The measure-only run (R109, R124) -/

theorem tlr_ctrl_plain : R.TLR_CTRL ∉ causeRegs := by decide +kernel

theorem seam_det_cfg_plain : R.SEAM_DET_CFG ∉ causeRegs := by decide +kernel

/-- The measure-only run gone, with its quality on the lane's record. -/
def measureGone (n : LaneNo) (q : Word) (s : State) : State :=
  modRx n (fun r => { r with qual := q }) (modTlr (fun t => { t with measuring := none }) s)

theorem endMeasure_eq (n : LaneNo) (q : Word) (s : State) :
    endMeasure n q s = wake .measure 0 (bvBytes q) ((measureGone n q s).setFld F.TLR_CTRL.MEASURE 0) := rfl

theorem onlyChanges_measureGone (n : LaneNo) (q : Word) (s : State) : OnlyChanges [.tlr] s (measureGone n q s) :=
  ((onlyChanges_modTlr _ s).trans (onlyChanges_modRx _ _ _)).mono (by decide)

/-- What follows the end of a measure-only run: its register and the command that waits for it. -/
theorem keeps_measureTold (n : LaneNo) (q : Word) (s : State) :
    Keeps [R.TLR_CTRL] endParts [] (measureGone n q s) (endMeasure n q s) := by
  rw [endMeasure_eq]
  exact ((keeps_setFld (f := F.TLR_CTRL.MEASURE) tlr_ctrl_plain 0 _).trans (keeps_wake _ _ _ _)).mono (by decide) (by decide) (by decide)

theorem keeps_endMeasure (n : LaneNo) (q : Word) (s : State) : Keeps [R.TLR_CTRL] (.tlr :: endParts) [] s (endMeasure n q s) :=
  (((onlyChanges_measureGone n q s).keeps (by decide) (by decide) (by decide)).trans (keeps_measureTold n q s)).mono (by decide)
    (by decide) (by decide)

theorem endMeasure_ends {n : LaneNo} (ok : n.toNat < 72) (q : Word) (s : State) :
    (endMeasure n q s).tlr.measuring = none ∧ ((endMeasure n q s).rx n).qual = q ∧ (endMeasure n q s).now = s.now := by
  have told := (keeps_measureTold n q s).frame
  refine ⟨congrArg Tlr.measuring (told .tlr (by decide)), ?_, congrArg Rwt.now ((keeps_endMeasure n q s).frame .rwt (by decide))⟩
  rw [told.rx (by decide), measureGone, rx_modRx_same ok]

/-! ## Degraded eyes (R84) -/

theorem keepsLanes_noteEye (n : LaneNo) (e : Nat) (s : State) : KeepsLanes s (noteEye n e s) := by
  have note (f : Seam → Seam) : KeepsLanes s (modSeam f s) := (onlyChanges_modSeam f s).keepsLanes (by decide)
  dsimp only [noteEye]
  split
  · split
    · exact (note _).trans (mends_failLane n _).lanes
    · exact note _
  · exact note _

/-- The eyes of a lane found low in succession so far (R84). -/
def State.lowEyes (s : State) (n : LaneNo) : Nat := ((s.seam.lowEye.find? (·.1 == n)).map (·.2)).getD 0

/-- A low eye noted fails the lane where it is the DEGRADE_COUNTth (R84). -/
theorem noteEye_fails {n : LaneNo} {e : Nat} {s : State} (low : s.eyeLow e = true)
    (count : s.fld F.SEAM_DET_CFG.DEGRADE_COUNT ≤ s.lowEyes n + 1) (kept : s.seam.retired.getLsbD (slvOf n).toNat = false) :
    ((noteEye n e s).slv .down (slvOf n)).failed.getLsbD (placeOf n) = true := by
  have eq : noteEye n e s = failLane n (modSeam (fun m => { m with
      lowEye := m.lowEye.filter (·.1 != n) ++ [(n, s.lowEyes n + 1)] }) s) := (if_pos low).trans (if_pos count)
  rw [eq]
  exact failLane_fails kept

theorem exec_histogramDone (lane : LaneNo) (h : Histogram) (s : State) : exec (.histogramDone lane h) s = whenLane lane s fun s =>
    if s.tlr.measuring = some lane then
      if s.fitsIn s.tlr.measureFrom h then
        noteEye lane (s.histEye h) (endMeasure lane (qualWord 3 (s.histWorst h) (s.phaseCentre h).1 (eyePct (s.histEye h))) s)
      else endMeasure lane (qualWord 3 0 0 0) s
    else
      match s.passOn lane with
      | some p => if s.live p && s.gathered p && !p.ffeWait then passHist (slvOf lane) p h s else s
      | none => s := rfl

section
variable {lane : LaneNo} {h : Histogram} {p : Pass} {s : State}

theorem runs_histogramDone_measures (ok : lane.toNat < 72) (hf : s.functional = true) (runs : s.tlr.measuring = some lane) :
    Runs (.histogramDone lane h) s fun t =>
      t.tlr.measuring = none ∧ (s.fitsIn s.tlr.measureFrom h = false → (t.rx lane).qual = qualWord 3 0 0 0) ∧
        (s.fitsIn s.tlr.measureFrom h = true →
          (t.rx lane).qual = qualWord 3 (s.histWorst h) (s.phaseCentre h).1 (eyePct (s.histEye h))) := by
  cases fits : s.fitsIn s.tlr.measureFrom h with
  | false =>
    obtain ⟨gone, qual, -⟩ := endMeasure_ends ok (qualWord 3 0 0 0) s
    exact runs_lane (exec_histogramDone lane h) ok hf ((if_pos runs).trans (if_neg (by simp [fits]))) ⟨gone, fun _ => qual, nofun⟩
  | true =>
    let q := qualWord 3 (s.histWorst h) (s.phaseCentre h).1 (eyePct (s.histEye h))
    obtain ⟨gone, qual, -⟩ := endMeasure_ends ok q s
    have noted := keepsLanes_noteEye lane (s.histEye h) (endMeasure lane q s)
    exact runs_lane (exec_histogramDone lane h) ok hf ((if_pos runs).trans (if_pos fits))
      ⟨noted.measuring.trans gone, nofun, fun _ => (noted.qual lane).trans qual⟩

theorem runs_histogramDone_degrades (ok : lane.toNat < 72) (hf : s.functional = true) (runs : s.tlr.measuring = some lane)
    (fits : s.fitsIn s.tlr.measureFrom h = true) (low : s.eyeLow (s.histEye h) = true)
    (count : s.fld F.SEAM_DET_CFG.DEGRADE_COUNT ≤ s.lowEyes lane + 1) (kept : s.seam.retired.getLsbD (slvOf lane).toNat = false) :
    Runs (.histogramDone lane h) s fun t => (t.slv .down (slvOf lane)).failed.getLsbD (placeOf lane) = true := by
  let q := qualWord 3 (s.histWorst h) (s.phaseCentre h).1 (eyePct (s.histEye h))
  have ends := keeps_endMeasure lane q s
  have seam : (endMeasure lane q s).seam = s.seam := ends.frame .seam (by decide)
  refine runs_lane (exec_histogramDone lane h) ok hf ((if_pos runs).trans (if_pos fits)) (noteEye_fails ?_ ?_ ?_)
  · rw [State.eyeLow, ends.notes.fld seam_det_cfg_plain (by decide)]
    exact low
  · rw [State.lowEyes, seam, ends.notes.fld seam_det_cfg_plain (by decide)]
    exact count
  · rw [seam]
    exact kept

/-! ## Passes -/

/-- The histogram of a pass that is ready for one (R107, R118). -/
theorem runs_passHist {P : State → Prop} (ok : lane.toNat < 72) (hf : s.functional = true) (other : s.tlr.measuring ≠ some lane)
    (on : s.passOn lane = some p) (live : s.live p = true) (gathered : s.gathered p = true) (ready : p.ffeWait = false)
    (post : P (settle (passHist (slvOf lane) p h s))) : Runs (.histogramDone lane h) s P :=
  runs_lane (exec_histogramDone lane h) ok hf
    ((if_neg other).trans (by rw [on]; exact if_pos (by rw [live, gathered, ready]; rfl))) post

/-- The lane's own state as a pass that starved finds it (R108). -/
def starvedOut (k : SleeveNo) (p : Pass) (s : State) : State :=
  modRx p.lane (fun r => { r with starved := if r.starved = 0xFF then 0xFF else r.starved + 1 })
    (modTlr (fun t => { t with starvedMask := t.starvedMask ||| slvBit k }) (dropPass k s))

theorem starve_eq (k : SleeveNo) (p : Pass) (s : State) :
    starve k p s = returnLane k p (raiseLane C.TLR.STARVED .down k (placeOf p.lane) (starvedOut k p s)) := rfl

theorem starve_ends {k : SleeveNo} (runs : s.passIn k = some p) (ok : p.lane.toNat < 72) :
    (starve k p s).passIn k = none ∧ Raised C.TLR.STARVED (starve k p s) ∧
      (starve k p s).tlr.starvedMask.getLsbD k.toNat = true ∧ ((starve k p s).rx p.lane).shd = (s.rx p.lane).act ∧
      (starve k p s).now = s.now := by
  have drop := onlyChanges_dropPass k s
  have out : OnlyChanges [.tlr] (dropPass k s) (starvedOut k p s) :=
    ((onlyChanges_modTlr _ _).trans (onlyChanges_modRx _ _ _)).mono (by decide)
  have raised := onlyChanges_raiseLane C.TLR.STARVED .down k (placeOf p.lane) (starvedOut k p s)
  have back := exOnly_returnLane k p (raiseLane C.TLR.STARVED .down k (placeOf p.lane) (starvedOut k p s))
  have told := raised.trans back.onlyChanges
  rw [← starve_eq] at back told
  refine ⟨?_, ?_, ?_, ?_, congrArg Rwt.now (((drop.trans out).trans told) .rwt (by decide))⟩
  · exact (told.passIn (by decide) k).trans (passIn_dropPass k s)
  · exact back.keeps.notes.1 _ (by decide) (raised_raiseLane_self (by decide) _ _ _ _)
  · rw [told .tlr (by decide)]
    change ((dropPass k s).tlr.starvedMask ||| slvBit k).getLsbD k.toNat = true
    rw [BitVec.getLsbD_or, slvBit_getLsbD, Bool.or_true]
  · rw [told.rx (by decide), starvedOut, rx_modRx_same ok]
    exact congrArg TlrLane.shd (rx_dropPass runs ok)

theorem runs_histogramDone_starves (ok : lane.toNat < 72) (hf : s.functional = true) (other : s.tlr.measuring ≠ some lane)
    (runs : s.passIn (slvOf lane) = some p) (on : s.passOn lane = some p) (live : s.live p = true) (gathered : s.gathered p = true)
    (ready : p.ffeWait = false) (bad : s.fitsIn p.since h = false) :
    Runs (.histogramDone lane h) s fun t =>
      t.passIn (slvOf lane) = none ∧ Raised C.TLR.STARVED t ∧ t.tlr.starvedMask.getLsbD (slvOf lane).toNat = true ∧
        (t.rx lane).shd = (s.rx lane).act := by
  have eq : passHist (slvOf lane) p h s = starve (slvOf lane) p s :=
    (if_pos (by simp [bad])).trans (if_neg (by simp [train_of_passIn runs]))
  obtain rfl := lane_of_passOn on
  obtain ⟨gone, raised, mask, shd, -⟩ := starve_ends runs ok
  refine runs_passHist ok hf other on live gathered ready ?_
  rw [eq]
  exact ⟨gone, raised_settle.mpr raised, mask, shd⟩

/-- A pass at a step, with a measurement of its own from a moment on. -/
def Pass.atStep (p : Pass) (st : PassStep) (wait : Bool) (m : Mark) : Pass :=
  { p with step := st, ffeWait := wait, since := m, granted := 0 }

theorem toPass_eq (n : LaneNo) (st : PassStep) (wait : Bool) (s : State) :
    toPass n st wait s = modPass n (fun p => p.atStep st wait s.mark) s := rfl

theorem passOn_toPass (n : LaneNo) (st : PassStep) (wait : Bool) (s : State) :
    (toPass n st wait s).passOn n = (s.passOn n).map fun p => p.atStep st wait s.mark :=
  passOn_modPass n (f := fun p => p.atStep st wait s.mark) (fun _ => rfl) s

theorem passIn_toPass {k : SleeveNo} {s : State} (runs : s.passIn k = some p) (st : PassStep) (wait : Bool) :
    (toPass p.lane st wait s).passIn k = some (p.atStep st wait s.mark) :=
  passIn_modPass (f := fun p => p.atStep st wait s.mark) (fun _ => rfl) runs

theorem passOn_modRx (n m : LaneNo) (f : TlrLane → TlrLane) (s : State) : (modRx n f s).passOn m = s.passOn m := rfl

theorem runs_histogramDone_untrained (ok : lane.toNat < 72) (hf : s.functional = true) (hs : Settled s)
    (other : s.tlr.measuring ≠ some lane) (on : s.passOn lane = some p) (train : p.train = true) (gathered : s.gathered p = true)
    (ready : p.ffeWait = false) (bad : s.fitsIn p.since h = false) :
    Runs (.histogramDone lane h) s fun t =>
      (t.passOn lane).map (·.step) = some (.done false) ∧ OnlyChanges [.tlr, .outs, .slp] s t := by
  have eq : passHist (slvOf lane) p h s = toPass p.lane (.done false) false s :=
    (if_pos (by simp [bad])).trans (if_pos train)
  rw [lane_of_passOn on] at eq
  refine runs_passHist ok hf other on (by simp [State.live, train]) gathered ready ?_
  rw [eq]
  exact ⟨by rw [passOn_settle, passOn_toPass, on]; rfl, onlyChanges_settle_of (onlyChanges_toPass _ _ _ s) hs (by decide)⟩

/-- A step of a searched setting that is the block's own, up where its range goes on (R110). -/
theorem tryStep_up {i best steps : Nat} {r : BitVec 128} (own : peerSetting i = false)
    (few : steps < s.fld F.TLR_CFG2.MAX_STEPS) (up : stepSetting i true (s.rx p.lane).shd = some r) :
    tryStep p i best steps true false s =
      toPass p.lane (.attempt i true best steps) false (modRx p.lane (fun x => { x with shd := r }) s) := by
  simp only [tryStep, up, own, Nat.not_le.mpr few, Bool.false_eq_true, if_false, if_true]

theorem runs_histogramDone_steps {i best steps : Nat} {up : Bool} {r : BitVec 128} (ok : lane.toNat < 72) (hf : s.functional = true)
    (hs : Settled s) (other : s.tlr.measuring ≠ some lane) (on : s.passOn lane = some p) (live : s.live p = true)
    (gathered : s.gathered p = true) (ready : p.ffeWait = false) (fits : s.fitsIn p.since h = true)
    (step : p.step = .attempt i up best steps) (wider : best < s.histEye h) (own : peerSetting i = false)
    (few : steps + 1 < s.fld F.TLR_CFG2.MAX_STEPS) (moved : stepSetting i true (s.rx lane).shd = some r) :
    Runs (.histogramDone lane h) s fun t =>
      (t.rx lane).shd = r ∧ (t.rx lane).act = (s.rx lane).act ∧
        (t.passOn lane).map (·.step) = some (.attempt i true (s.histEye h) (steps + 1)) ∧ OnlyChanges [.tlr, .outs, .slp] s t := by
  obtain rfl := lane_of_passOn on
  have eq : passHist (slvOf p.lane) p h s = toPass p.lane (.attempt i true (s.histEye h) (steps + 1)) false
      (modRx p.lane (fun x => { x with shd := r }) s) := by
    refine (if_neg (by simp [fits])).trans ?_
    simp only [step, if_pos wider]
    exact tryStep_up own few moved
  refine runs_passHist ok hf other on live gathered ready ?_
  rw [eq]
  have frame := (onlyChanges_modRx p.lane (fun x => { x with shd := r }) s).trans
    (onlyChanges_toPass p.lane (.attempt i true (s.histEye h) (steps + 1)) false _)
  refine ⟨?_, ?_, ?_, (onlyChanges_settle_of frame hs (by decide)).mono (by decide)⟩
  · rw [rx_settle, rx_toPass, rx_modRx_same ok]
  · rw [rx_settle, rx_toPass, rx_modRx_same ok]
  · rw [passOn_settle, passOn_toPass, passOn_modRx, on]
    rfl

/-! ## The closing measurement (R111, R115, R129) -/

/-- A record's values with the eye of a measurement, where there was one (R127). -/
def withEye (eye : Option Nat) (r : BitVec 128) : BitVec 128 :=
  match eye with
  | some e => putField r 112 8 (eyePct e)
  | none => r

theorem onlyChanges_keepRecord (n : LaneNo) (s : State) : OnlyChanges [.tlr] s (keepRecord n s) := onlyChanges_modTlr _ s

theorem onlyChanges_commitLane (n : LaneNo) (eye : Option Nat) (s : State) : OnlyChanges [.tlr] s (commitLane n eye s) :=
  (((onlyChanges_keepRecord n s).trans (onlyChanges_modRx _ _ _)).trans (onlyChanges_askRebuild _)).mono (by decide)

theorem passes_askRebuild (s : State) : (askRebuild s).tlr.passes = s.tlr.passes := by
  unfold askRebuild
  split <;> rfl

theorem passes_commitLane (n : LaneNo) (eye : Option Nat) (s : State) : (commitLane n eye s).tlr.passes = s.tlr.passes :=
  (passes_askRebuild _).trans rfl

theorem passes_discardShadow (n : LaneNo) (s : State) : (discardShadow n s).tlr.passes = s.tlr.passes := by
  obtain ⟨u, frame, eq⟩ := discardShadow_eq n s
  have same : u.tlr.passes = s.tlr.passes := congrArg Tlr.passes (frame .tlr (by decide))
  rw [eq]
  exact same

/-- A commit puts the shadow values in force, and both then agree (R111, R113). -/
theorem rx_commitLane {n : LaneNo} (ok : n.toNat < 72) (eye : Option Nat) (s : State) :
    ((commitLane n eye s).rx n).act = withEye eye (s.rx n).shd ∧ ((commitLane n eye s).rx n).shd = withEye eye (s.rx n).shd := by
  have record : (keepRecord n s).rx n = s.rx n := rfl
  rw [commitLane, rx_askRebuild, rx_modRx_same ok, record]
  exact ⟨rfl, rfl⟩

/-- The end of the closing measurement: the shadow values are in force where they gain and no freeze holds, else they are gone. -/
def closed (p : Pass) (eye : Nat) (s : State) : State :=
  let s := modRx p.lane (fun r => { r with passes := if r.passes = 0xFFFF then 0xFFFF else r.passes + 1 }) s
  if p.opening + s.fld F.TLR_CFG2.COMMIT_GAIN ≤ eye ∧ s.freezing = false then commitLane p.lane (some eye) s
  else discardShadow p.lane s

theorem closePass_eq (k : SleeveNo) (p : Pass) (eye : Nat) (s : State) : closePass k p eye s =
    if p.onSpare then toPass p.lane .verify false (closed p eye s) else nextTurn k (endPass k (closed p eye s)) := by
  unfold closePass closed State.freezing
  simp only [Bool.and_eq_true, Bool.not_eq_true', Bool.or_eq_false_iff, decide_eq_true_eq, and_assoc]

theorem passIn_closed (p : Pass) (eye : Nat) (s : State) (k : SleeveNo) : (closed p eye s).passIn k = s.passIn k := by
  refine passIn_of_passes ?_ k
  dsimp only [closed]
  split
  · exact (passes_commitLane _ _ _).trans rfl
  · exact (passes_discardShadow _ _).trans rfl

theorem rx_closed {eye : Nat} (ok : p.lane.toNat < 72) :
    (s.freezing = false → p.opening + s.fld F.TLR_CFG2.COMMIT_GAIN ≤ eye →
      ((closed p eye s).rx p.lane).act = putField (s.rx p.lane).shd 112 8 (eyePct eye) ∧
        ((closed p eye s).rx p.lane).shd = ((closed p eye s).rx p.lane).act) ∧
    ((s.freezing = true ∨ eye < p.opening + s.fld F.TLR_CFG2.COMMIT_GAIN) →
      ((closed p eye s).rx p.lane).act = (s.rx p.lane).act ∧ ((closed p eye s).rx p.lane).shd = (s.rx p.lane).act) := by
  let u := modRx p.lane (fun r => { r with passes := if r.passes = 0xFFFF then 0xFFFF else r.passes + 1 }) s
  have record : u.rx p.lane = _ := rx_modRx_same ok _ s
  have eq : closed p eye s = if p.opening + s.fld F.TLR_CFG2.COMMIT_GAIN ≤ eye ∧ s.freezing = false then commitLane p.lane (some eye) u
      else discardShadow p.lane u := rfl
  refine ⟨fun free gains => ?_, fun kept => ?_⟩
  · obtain ⟨act, shd⟩ := rx_commitLane ok (some eye) u
    rw [eq, if_pos ⟨gains, free⟩, shd, act, record]
    exact ⟨rfl, rfl⟩
  · have stays : ¬(p.opening + s.fld F.TLR_CFG2.COMMIT_GAIN ≤ eye ∧ s.freezing = false) := by
      rintro ⟨gains, free⟩
      rcases kept with frozen | short
      · exact absurd (frozen.symm.trans free) (by decide)
      · omega
    rw [eq, if_neg stays, rx_discardShadow ok, record]
    exact ⟨rfl, rfl⟩

theorem runs_histogramDone_closes (ok : lane.toNat < 72) (hf : s.functional = true) (other : s.tlr.measuring ≠ some lane)
    (runs : s.passIn (slvOf lane) = some p) (on : s.passOn lane = some p) (live : s.live p = true) (gathered : s.gathered p = true)
    (ready : p.ffeWait = false) (step : p.step = .closing) (fits : s.fitsIn p.since h = true) :
    Runs (.histogramDone lane h) s fun t =>
      (s.freezing = false → p.opening + s.fld F.TLR_CFG2.COMMIT_GAIN ≤ s.histEye h →
        (t.rx lane).act = putField (s.rx lane).shd 112 8 (eyePct (s.histEye h)) ∧ (t.rx lane).shd = (t.rx lane).act) ∧
      ((s.freezing = true ∨ s.histEye h < p.opening + s.fld F.TLR_CFG2.COMMIT_GAIN) →
        (t.rx lane).act = (s.rx lane).act ∧ (t.rx lane).shd = (s.rx lane).act) ∧
      (p.onSpare = false → t.passIn (slvOf lane) = none) ∧
      (p.onSpare = true → (t.passIn (slvOf lane)).map (·.step) = some .verify) := by
  obtain rfl := lane_of_passOn on
  have eq : passHist (slvOf p.lane) p h s = if p.onSpare then toPass p.lane .verify false (closed p (s.histEye h) s)
      else nextTurn (slvOf p.lane) (endPass (slvOf p.lane) (closed p (s.histEye h) s)) := by
    refine (if_neg (by simp [fits])).trans ?_
    simp only [step]
    exact closePass_eq _ p _ s
  have rx : (passHist (slvOf p.lane) p h s).rx p.lane = (closed p (s.histEye h) s).rx p.lane := by
    rw [eq]
    split <;> rfl
  obtain ⟨gains, stays⟩ := rx_closed (eye := s.histEye h) (s := s) ok
  refine runs_passHist ok hf other on live gathered ready ?_
  simp only [rx_settle, rx]
  refine ⟨gains, stays, fun own => ?_, fun spare => ?_⟩
  · rw [passIn_settle, eq, if_neg (by simp [own]), passIn_nextTurn, passIn_endPass]
  · rw [passIn_settle, eq, if_pos spare, passIn_toPass ((passIn_closed p _ s _).trans runs)]
    rfl

/-! ## POPULATION_TIMEOUT (R107 to R109) -/

theorem exec_populationTimeout (lane : LaneNo) (s : State) : exec (.populationTimeout lane) s = whenLane lane s fun s =>
    if s.tlr.measuring = some lane then endMeasure lane (qualWord 3 0 0 0) (s.lapse s.tlr.measureFrom s.starveNs)
    else
      match s.passOn lane with
      | some p =>
        if p.train then toPass lane (.done false) false (s.lapse p.since s.starveNs)
        else if s.live p || !p.full then starve (slvOf lane) p (s.lapse p.since s.starveNs) else s
      | none => s := rfl

theorem runs_populationTimeout_measures (ok : lane.toNat < 72) (hf : s.functional = true) (runs : s.tlr.measuring = some lane) :
    Runs (.populationTimeout lane) s fun t =>
      t.tlr.measuring = none ∧ (t.rx lane).qual = qualWord 3 0 0 0 ∧
        (s.byAo = false → s.tlr.measureFrom.rail + s.starveNs ≤ t.now) := by
  obtain ⟨gone, qual, now⟩ := endMeasure_ends ok (qualWord 3 0 0 0) (s.lapse s.tlr.measureFrom s.starveNs)
  exact runs_lane (exec_populationTimeout lane) ok hf (if_pos runs)
    ⟨gone, qual, fun rail => (le_now_lapse rail _ _).trans_eq now.symm⟩

theorem runs_populationTimeout_starves (ok : lane.toNat < 72) (hf : s.functional = true) (other : s.tlr.measuring ≠ some lane)
    (runs : s.passIn (slvOf lane) = some p) (on : s.passOn lane = some p) (live : s.live p = true ∨ p.full = false) :
    Runs (.populationTimeout lane) s fun t =>
      t.passIn (slvOf lane) = none ∧ Raised C.TLR.STARVED t ∧ (s.byAo = false → p.since.rail + s.starveNs ≤ t.now) := by
  obtain rfl := lane_of_passOn on
  have late : (s.lapse p.since s.starveNs).passIn (slvOf p.lane) = some p :=
    ((onlyChanges_lapse _ _ s).passIn (by decide) _).trans runs
  obtain ⟨gone, raised, -, -, now⟩ := starve_ends late ok
  refine runs_lane (u := starve (slvOf p.lane) p (s.lapse p.since s.starveNs)) (exec_populationTimeout p.lane) ok hf ?_
    ⟨gone, raised_settle.mpr raised, fun rail => (le_now_lapse rail _ _).trans_eq now.symm⟩
  rw [if_neg other, on]
  exact (if_neg (by simp [train_of_passIn runs])).trans (if_pos (by simpa using live))

end

/-- Settles O34: a measurement ends its run or moves its pass on by the step that the pass is at. -/
theorem passesMeasure : Obligations.PassesMeasure :=
  ⟨fun _ _ _ ok hf runs => runs_histogramDone_measures ok hf runs,
    fun _ _ _ ok hf runs fits low count kept => runs_histogramDone_degrades ok hf runs fits low count kept,
    fun _ _ _ _ ok hf other runs on live gathered ready bad => runs_histogramDone_starves ok hf other runs on live gathered ready bad,
    fun _ _ _ _ ok hf hs other on train gathered ready bad =>
      runs_histogramDone_untrained ok hf hs other on train gathered ready bad,
    fun _ _ _ _ _ _ _ _ _ ok hf hs other on live gathered ready fits step wider own few moved =>
      runs_histogramDone_steps ok hf hs other on live gathered ready fits step wider own few moved,
    fun _ _ _ _ ok hf other runs on live gathered ready step fits =>
      runs_histogramDone_closes ok hf other runs on live gathered ready step fits,
    fun _ _ ok hf runs => runs_populationTimeout_measures ok hf runs,
    fun _ _ _ ok hf other runs on live => runs_populationTimeout_starves ok hf other runs on live⟩

end Sys2Proof.Machine
end

section
/-!
SUPPORT. Transmitter FFE values asked for, answered and put in force (R110, R119, R120, R129).
-/
namespace Sys2Proof.Machine

/-! ## FFE_SET -/

/-- The STATUS of the answer to an FFE_SET (R119, R120). -/
def State.ffeStatus (s : State) (msg : BitVec 96) : Byte :=
  if 71 < Sys2Proof.fld msg 0 7 then 2
  else if !(Sys2Proof.fld msg 0 7 < 72 && s.ffeOpen (bits msg 0 7)) then 1
  else if 23 < Sys2Proof.fld msg 16 5 then 2 else 0

/-- The values of an FFE_SET wait for their slot (R120). -/
def ffeNoted (msg : BitVec 96) (s : State) : State :=
  modTlr (fun t => { t with ffeDue := t.ffeDue.filter (·.1 != bits msg 0 7) ++ [(bits msg 0 7, msg)] }) s

/-- The answer to an FFE_SET (R119). -/
def ffeAnswer (msg : BitVec 96) (status : Byte) (s : State) : State :=
  sendSlp 0x19 (ffeMsg (bits msg 0 7) (bits msg 8 4) (bits msg 16 5) (bits msg 32 32) status) s

theorem exec_ffeSet (msg : BitVec 96) (s : State) : exec (.ffeSet msg) s = whenMsg s fun s =>
    ffeAnswer msg (s.ffeStatus msg) (if s.ffeStatus msg = 0 then ffeNoted msg s else s) := rfl

/-- What the station gets back, and what an answer leaves of the state it is made in. -/
theorem ffeAnswer_settled {ps : List Part} {s u : State} (frame : OnlyChanges ps s u) (slp : .slp ∉ ps) (out : .out ∉ ps)
    (hs : Settled s) (msg : BitVec 96) (status : Byte) :
    (settle (ffeAnswer msg status u)).out =
        .sleeper 0x19 s.slp.mseq (ffeMsg (bits msg 0 7) (bits msg 8 4) (bits msg 16 5) (bits msg 32 32) status) :: s.out ∧
      OnlyChanges (ps ++ [.out, .outs, .slp]) s (settle (ffeAnswer msg status u)) := by
  have same : u.slp = s.slp := frame .slp slp
  refine ⟨?_, ((frame.trans (onlyChanges_sendSlp _ _ u)).trans (onlyChanges_settle_out _)).mono (by simp)⟩
  rw [ffeAnswer, out_settle_sendSlp (by rw [same]; exact hs.2) rfl, same, frame .out out]

section
variable {msg : BitVec 96} {s : State}

theorem runs_ffeSet_taken (hf : s.functional = true) (lock : s.slp.lock = true) (hs : Settled s) (lane : fld msg 0 7 < 72)
    (opened : s.ffeOpen (bits msg 0 7) = true) (range : fld msg 16 5 ≤ 23) :
    Runs (.ffeSet msg) s fun t =>
      (bits msg 0 7, msg) ∈ t.tlr.ffeDue ∧
        t.out = .sleeper 0x19 s.slp.mseq (ffeMsg (bits msg 0 7) (bits msg 8 4) (bits msg 16 5) (bits msg 32 32) 0) :: s.out ∧
        OnlyChanges [.tlr, .out, .outs, .slp] s t := by
  have zero : s.ffeStatus msg = 0 := by
    rw [State.ffeStatus, if_neg (by omega), if_neg (by simp [lane, opened]), if_neg (by omega)]
  obtain ⟨sent, frame⟩ := ffeAnswer_settled (onlyChanges_modTlr _ s : OnlyChanges [.tlr] s (ffeNoted msg s)) (by decide) (by decide) hs
    msg 0
  refine runs_msg (u := ffeAnswer msg 0 (ffeNoted msg s)) (exec_ffeSet msg) hf lock (by rw [zero]; rfl) ⟨?_, sent, frame⟩
  exact List.mem_append_right _ (List.mem_singleton_self _)

theorem runs_ffeSet_refused {st : Byte} (hf : s.functional = true) (lock : s.slp.lock = true) (hs : Settled s)
    (cases : (72 ≤ fld msg 0 7 ∧ st = 2) ∨ (fld msg 0 7 < 72 ∧ s.ffeOpen (bits msg 0 7) = false ∧ st = 1) ∨
      (fld msg 0 7 < 72 ∧ s.ffeOpen (bits msg 0 7) = true ∧ 23 < fld msg 16 5 ∧ st = 2)) :
    Runs (.ffeSet msg) s fun t =>
      t.out = .sleeper 0x19 s.slp.mseq (ffeMsg (bits msg 0 7) (bits msg 8 4) (bits msg 16 5) (bits msg 32 32) st) :: s.out ∧
        OnlyChanges [.out, .outs, .slp] s t := by
  have status : s.ffeStatus msg = st ∧ st ≠ 0 := by
    rcases cases with ⟨beyond, rfl⟩ | ⟨lane, shut, rfl⟩ | ⟨lane, opened, range, rfl⟩
    · exact ⟨if_pos (by omega), by decide⟩
    · refine ⟨?_, by decide⟩
      rw [State.ffeStatus, if_neg (by omega), if_pos (by simp [shut])]
    · refine ⟨?_, by decide⟩
      rw [State.ffeStatus, if_neg (by omega), if_neg (by simp [lane, opened]), if_pos range]
  obtain ⟨sent, frame⟩ := ffeAnswer_settled (OnlyChanges.refl s) (by decide) (by decide) hs msg st
  exact runs_msg (u := ffeAnswer msg st s) (exec_ffeSet msg) hf lock (by rw [status.1, if_neg status.2]) ⟨sent, frame⟩

/-! ## FFE_APPLY -/

/-- The values of an FFE_SET in force and recorded (R119, R120, R127). -/
def ffeInForce (lane : LaneNo) (msg : BitVec 96) (s : State) : State :=
  askRebuild (modTx lane (fun x => { x with
      act := BitVec.ofNat 128 (fld msg 8 4 + fld msg 16 5 * 2 ^ 4), shd := BitVec.ofNat 128 (fld msg 8 4 + fld msg 16 5 * 2 ^ 4) })
    (modTlr (fun t => { t with ffeDue := t.ffeDue.filter (·.1 != lane) }) s))

theorem exec_ffeApply (lane : LaneNo) (s : State) : exec (.ffeApply lane) s = whenLane lane s fun s =>
    match (if s.freezing then none else s.tlr.ffeDue.find? (·.1 == lane)) with
    | some (_, msg) => ffeInForce lane msg s
    | none => s := rfl

theorem tx_askRebuild (s : State) : (askRebuild s).tlr.tx = s.tlr.tx ∧ (askRebuild s).tlr.ffeDue = s.tlr.ffeDue := by
  unfold askRebuild
  split <;> exact ⟨rfl, rfl⟩

theorem tx_modTx_same {n : LaneNo} (ok : n.toNat < 72) (f : TlrLane → TlrLane) (s : State) :
    (modTx n f s).tlr.tx[n.toNat]? = (s.tlr.tx[n.toNat]?).map f := by
  simp [modTx, vmod, ok]

theorem onlyChanges_modTx (n : LaneNo) (f : TlrLane → TlrLane) (s : State) : OnlyChanges [.tlr] s (modTx n f s) := onlyChanges_modTlr _ s

theorem runs_ffeApply {lane : LaneNo} (ok : lane.toNat < 72) (hf : s.functional = true) (hs : Settled s) (free : s.freezing = false)
    (due : s.tlr.ffeDue.find? (·.1 == lane) = some (lane, msg)) :
    Runs (.ffeApply lane) s fun t =>
      (t.tlr.tx[lane.toNat]?).map (·.act) = some (BitVec.ofNat 128 (fld msg 8 4 + fld msg 16 5 * 2 ^ 4)) ∧
        (∀ x ∈ t.tlr.ffeDue, x.1 ≠ lane) ∧ OnlyChanges [.tlr, .outs, .slp] s t := by
  have frame : OnlyChanges [.tlr] s (ffeInForce lane msg s) :=
    (((onlyChanges_modTlr _ s).trans (onlyChanges_modTx _ _ _)).trans (onlyChanges_askRebuild _)).mono (by decide)
  refine runs_lane (u := ffeInForce lane msg s) (exec_ffeApply lane) ok hf (by rw [free, due]; rfl) ⟨?_, ?_,
    onlyChanges_settle_of frame hs (by decide)⟩
  · change ((ffeInForce lane msg s).tlr.tx[lane.toNat]?).map (·.act) = _
    rw [ffeInForce, (tx_askRebuild _).1, tx_modTx_same ok]
    simp [ok]
  · change ∀ x ∈ (ffeInForce lane msg s).tlr.ffeDue, x.1 ≠ lane
    rw [ffeInForce, (tx_askRebuild _).2]
    intro x mem
    simpa using (List.mem_filter.mp mem).2

theorem runs_ffeApply_frozen {lane : LaneNo} (ok : lane.toNat < 72) (hf : s.functional = true) (hs : Settled s)
    (frozen : s.freezing = true) : Runs (.ffeApply lane) s fun t => t = s :=
  runs_lane (exec_ffeApply lane) ok hf (by rw [frozen]; rfl) (settle_eq_self hs)

/-! ## FFE_DONE -/

/-- The pass on a lane may be measured, from now on (R110). -/
def ffeHeard (n : LaneNo) (s : State) : State := modPass n (fun p => { p with ffeWait := false, since := s.mark }) s

theorem exec_ffeDone (msg : BitVec 96) (s : State) : exec (.ffeDone msg) s = whenMsg s fun s =>
    match (if fld msg 0 7 < 72 then s.passOn (bits msg 0 7) else none) with
    | some p =>
      if !p.ffeWait then s
      else
        match p.step with
        | .attempt i up best steps =>
          if fld msg 64 8 = 0 then ffeHeard (bits msg 0 7) s else notKept p i best steps up false (ffeHeard (bits msg 0 7) s)
        | _ => ffeHeard (bits msg 0 7) s
    | none => s := rfl

theorem runs_ffeDone {p : Pass} (hf : s.functional = true) (lock : s.slp.lock = true) (hs : Settled s) (lane : fld msg 0 7 < 72)
    (on : s.passOn (bits msg 0 7) = some p) (waits : p.ffeWait = true)
    (done : fld msg 64 8 = 0 ∨ ∀ i up best steps, p.step ≠ .attempt i up best steps) :
    Runs (.ffeDone msg) s fun t =>
      t.passOn (bits msg 0 7) = some { p with ffeWait := false, since := s.mark } ∧ OnlyChanges [.tlr, .outs, .slp] s t := by
  refine runs_msg (u := ffeHeard (bits msg 0 7) s) (exec_ffeDone msg) hf lock ?_
    ⟨?_, onlyChanges_settle_of (onlyChanges_modPass _ _ s) hs (by decide)⟩
  · rw [if_pos lane, on]
    refine (if_neg (by simp [waits])).trans ?_
    split
    next i up best steps step => exact if_pos (done.resolve_right fun no => no i up best steps step)
    next => rfl
  · exact (passOn_modPass _ (f := fun p => { p with ffeWait := false, since := s.mark }) (fun _ => rfl) s).trans (by rw [on]; rfl)

end

/-- Settles O35: an FFE_SET meets the answer of its checks, and its values are in force at their slot unless a freeze holds. -/
theorem ffeIsExchanged : Obligations.FfeIsExchanged :=
  ⟨fun _ _ hf lock hs lane opened range => runs_ffeSet_taken hf lock hs lane opened range,
    fun _ _ _ hf lock hs cases => runs_ffeSet_refused hf lock hs cases,
    fun _ _ _ ok hf hs free due => runs_ffeApply ok hf hs free due,
    fun _ _ ok hf hs frozen => runs_ffeApply_frozen ok hf hs frozen,
    fun _ _ _ hf lock hs lane on waits done => runs_ffeDone hf lock hs lane on waits done⟩

end Sys2Proof.Machine
end

section
/-!
SUPPORT. TLR_CTRL: the measure-only run and the manual commit by the register port (R114, R119, R124).
-/
namespace Sys2Proof.Machine

/-- TLR_CTRL written, with MEASURE as it stands (R133). -/
def ctrlWritten (data : Word) (s : State) : State :=
  s.setReg R.TLR_CTRL ((s.reg R.TLR_CTRL &&& 0x00000200) ||| (data &&& 0x017F000F))

theorem onlyChanges_ctrlWritten (data : Word) (s : State) : OnlyChanges [.regs] s (ctrlWritten data s) := onlyChanges_setReg _ _ s

theorem flags_ctrlWritten (data : Word) (s : State) :
    (ctrlWritten data s).flag F.TLR_CTRL.DIR = bit data 24 ∧ (ctrlWritten data s).flag F.TLR_CTRL.MANUAL = bit data 3 := by
  have reg : (ctrlWritten data s).reg R.TLR_CTRL = (s.reg R.TLR_CTRL &&& 0x00000200) ||| (data &&& 0x017F000F) := reg_setReg_same _ _ _
  constructor
  · change ((ctrlWritten data s).reg R.TLR_CTRL).getLsbD 24 = data.getLsbD 24
    rw [reg]
    simp
  · change ((ctrlWritten data s).reg R.TLR_CTRL).getLsbD 3 = data.getLsbD 3
    rw [reg]
    simp

theorem laneSel_ctrlWritten (data : Word) (s : State) : (ctrlWritten data s).laneSel = bits data 16 7 := by
  have reg : (ctrlWritten data s).reg R.TLR_CTRL = (s.reg R.TLR_CTRL &&& 0x00000200) ||| (data &&& 0x017F000F) := reg_setReg_same _ _ _
  have sel : (ctrlWritten data s).laneSel = bits ((ctrlWritten data s).reg R.TLR_CTRL) 16 7 :=
    (BitVec.ofNat_toNat 7 _).trans (BitVec.setWidth_eq _)
  rw [sel, reg]
  apply BitVec.eq_of_getLsbD_eq
  intro i hi
  interval_cases i <;> simp [bits]

/-! ## MEASURE (R124) -/

/-- The measure-only run of a lane begins. -/
def measureBegun (n : LaneNo) (s : State) : State :=
  (modTlr (fun t => { t with measuring := some n, measureFrom := s.mark }) s).setFld F.TLR_CTRL.MEASURE 1

section
variable {data : Word} {s : State}

theorem tlrCtrlWrite_measures (measure : bit data 9 = true) (commit : bit data 8 = false) (manual : bit data 3 = false)
    (lane : fld data 16 7 < 72) (receive : bit data 24 = false) (idle : s.tlr.measuring = none) :
    tlrCtrlWrite data s = measureBegun (bits data 16 7) (ctrlWritten data s) := by
  have write : tlrCtrlWrite data s = startMeasure (ctrlWritten data s) := by
    simp only [bit] at measure commit manual
    simp only [tlrCtrlWrite, measure, commit, manual, if_true, Bool.false_eq_true, if_false]
    rfl
  have none : (ctrlWritten data s).tlr.measuring = none := by rw [onlyChanges_ctrlWritten data s .tlr (by decide)]; exact idle
  have there : ¬71 < (bits data 16 7).toNat := Nat.not_lt.mpr (Nat.le_of_lt_succ lane)
  rw [write]
  simp only [startMeasure, laneSel_ctrlWritten, (flags_ctrlWritten data s).1, receive, none, there, decide_false, Option.isSome_none,
    Bool.or_self, Bool.false_eq_true, if_false]
  rfl

theorem runs_tlrCtrlMeasure (hf : s.functional = true) (on : s.regOn R.TLR_CTRL = true) (measure : bit data 9 = true)
    (commit : bit data 8 = false) (manual : bit data 3 = false) (lane : fld data 16 7 < 72) (receive : bit data 24 = false)
    (idle : s.tlr.measuring = none) :
    Runs (.tlrCtrlMeasure data) s fun t =>
      t.tlr.measuring = some (bits data 16 7) ∧ t.tlr.measureFrom = s.mark ∧ t.flag F.TLR_CTRL.MEASURE = true ∧
        t.outs.regAck = true ∧ t.outs.regErr = false := by
  let u := modTlr (fun t => { t with measuring := some (bits data 16 7), measureFrom := (ctrlWritten data s).mark }) (ctrlWritten data s)
  have flag : (measureBegun (bits data 16 7) (ctrlWritten data s)).flag F.TLR_CTRL.MEASURE = true :=
    flag_setFld_same u (f := F.TLR_CTRL.MEASURE) rfl (by decide) 1
  exact runs_functional (u := (measureBegun (bits data 16 7) (ctrlWritten data s)).answer false) (fun _ => rfl) hf
    ((portWrite_on measure on _).trans (by rw [tlrCtrlWrite_measures measure commit manual lane receive idle]))
    ⟨rfl, rfl, flag, rfl, rfl⟩

/-! ## COMMIT (R114) -/

theorem haltPasses_idle (idle : s.tlr.passes = []) : haltPasses s = s := by
  rw [haltPasses, idle]
  rfl

theorem tlrCtrlWrite_commits (commit : bit data 8 = true) (measure : bit data 9 = false) (manual : bit data 3 = true)
    (idle : s.tlr.passes = []) : tlrCtrlWrite data s = manualCommit (ctrlWritten data s) := by
  have none : (ctrlWritten data s).tlr.passes = [] := by rw [onlyChanges_ctrlWritten data s .tlr (by decide)]; exact idle
  have halt := haltPasses_idle none
  simp only [bit] at measure commit manual
  simp only [tlrCtrlWrite, measure, commit, manual, if_true, Bool.false_eq_true, if_false]
  exact congrArg manualCommit halt

/-- The station asked for the FFE values that a commit of a receive lane changes (R119). -/
def ffeAsked (n : LaneNo) (r : TlrLane) (s : State) : State := if ffeOf r.shd != ffeOf r.act then sendFfe n (ffeOf r.shd) s else s

theorem onlyChanges_ffeAsked (n : LaneNo) (r : TlrLane) (s : State) : OnlyChanges [.slp, .free] s (ffeAsked n r s) :=
  .ite (fun _ => onlyChanges_sendFfe _ _ s) fun _ => (OnlyChanges.refl s).mono (by decide)

/-- Under MANUAL and no freeze a lane that exists is committed, by its direction (R114). -/
theorem manualCommit_eq (manual : s.flag F.TLR_CTRL.MANUAL = true) (free : s.freezing = false) (lane : s.laneSel.toNat < 72) :
    manualCommit s = if s.flag F.TLR_CTRL.DIR then
        if ((s.tlr.tx[s.laneSel.toNat]?).map fun r => txOk (bits r.shd 0 32)).getD false then
          askRebuild (modTx s.laneSel (fun r => { r with
            act := r.shd, commits := if r.commits = 0xFF then 0xFF else r.commits + 1, time := BitVec.ofNat 64 s.now }) s)
        else s
      else if rxOk (s.rx s.laneSel).shd then ffeAsked s.laneSel (s.rx s.laneSel) (commitLane s.laneSel none s) else s := by
  obtain ⟨host, brown⟩ := Bool.or_eq_false_iff.mp free
  have there : ¬71 < s.laneSel.toNat := by omega
  unfold manualCommit
  simp only [manual, host, brown, there, Bool.not_true, decide_false, Bool.or_self, Bool.false_eq_true, if_false]
  rfl

theorem rebuild_askRebuild (free : s.freezing = false) : (askRebuild s).tlr.rebuild = some 0 := by
  rw [askRebuild, if_neg (show ¬(s.tlr.frozenHost || s.tlr.frozenBrown) = true from ne_true_of_eq_false free)]
  rfl

theorem freezing_congr {s t : State} (h : t.tlr = s.tlr) : t.freezing = s.freezing := by rw [State.freezing, h, State.freezing]

/-- What the station is sent when a lane's commit changes its FFE values, and otherwise nothing (R119). -/
theorem out_ffeAsked (quiet : s.slp.queue = []) (n : LaneNo) (r : TlrLane) :
    (ffeOf r.shd ≠ ffeOf r.act → ∃ slot, (settle (ffeAsked n r s)).out =
        .sleeper 0x18 s.slp.mseq (ffeMsg n (ffeOf r.shd).1 (ffeOf r.shd).2 slot 0) :: s.out) ∧
      (ffeOf r.shd = ffeOf r.act → (settle (ffeAsked n r s)).out = s.out) := by
  refine ⟨fun differ => ⟨Config.applySlot s.free, ?_⟩, fun same => ?_⟩
  · rw [ffeAsked, if_pos (by simpa using differ), sendFfe]
    exact out_settle_sendSlp (s := s.draw) quiet rfl _
  · rw [ffeAsked, if_neg (by simp [same])]
    exact out_settle quiet

theorem runs_tlrCtrlCommit_rx (hf : s.functional = true) (on : s.regOn R.TLR_CTRL = true) (commit : bit data 8 = true)
    (measure : bit data 9 = false) (manual : bit data 3 = true) (lane : fld data 16 7 < 72) (receive : bit data 24 = false)
    (idle : s.tlr.passes = []) (free : s.freezing = false) (hs : Settled s) (range : rxOk (s.rx (bits data 16 7)).shd = true) :
    Runs (.tlrCtrlCommit data) s fun t =>
      (t.rx (bits data 16 7)).act = (s.rx (bits data 16 7)).shd ∧ t.tlr.rebuild = some 0 ∧
        (ffeOf (s.rx (bits data 16 7)).shd ≠ ffeOf (s.rx (bits data 16 7)).act → ∃ slot, t.out = .sleeper 0x18 s.slp.mseq
          (ffeMsg (bits data 16 7) (ffeOf (s.rx (bits data 16 7)).shd).1 (ffeOf (s.rx (bits data 16 7)).shd).2 slot 0) :: s.out) ∧
        (ffeOf (s.rx (bits data 16 7)).shd = ffeOf (s.rx (bits data 16 7)).act → t.out = s.out) ∧ t.outs.regAck = true ∧
        t.outs.regErr = false := by
  let n : LaneNo := bits data 16 7
  let w := ctrlWritten data s
  have wrote := onlyChanges_ctrlWritten data s
  have sel : w.laneSel = n := laneSel_ctrlWritten data s
  have free' : w.freezing = false := (freezing_congr (wrote .tlr (by decide))).trans free
  have record : w.rx n = s.rx n := wrote.rx (by decide) n
  have eq : tlrCtrlWrite data s = ffeAsked n (s.rx n) (commitLane n none w) := by
    rw [tlrCtrlWrite_commits commit measure manual idle,
      manualCommit_eq ((flags_ctrlWritten data s).2.trans manual) free' (by rw [laneSel_ctrlWritten]; exact lane),
      if_neg (by rw [(flags_ctrlWritten data s).1, receive]; decide), laneSel_ctrlWritten, if_pos (by rw [record]; exact range), record]
  have done := onlyChanges_commitLane n none w
  have asked := onlyChanges_ffeAsked n (s.rx n) (commitLane n none w)
  have slp : (commitLane n none w).slp = s.slp := (wrote.trans done) .slp (by decide)
  have out : (commitLane n none w).out = s.out := (wrote.trans done) .out (by decide)
  obtain ⟨sent, silent⟩ := out_ffeAsked (s := commitLane n none w) (by rw [slp]; exact hs.2) n (s.rx n)
  rw [slp, out] at sent
  rw [out] at silent
  refine runs_functional (u := (ffeAsked n (s.rx n) (commitLane n none w)).answer false) (fun _ => rfl) hf
    ((portWrite_on commit on _).trans (by rw [eq])) ⟨?_, ?_, sent, silent, rfl, rfl⟩
  · change ((ffeAsked n (s.rx n) (commitLane n none w)).rx n).act = (s.rx n).shd
    rw [asked.rx (by decide), (rx_commitLane (n := n) lane none w).1, record]
    rfl
  · change (ffeAsked n (s.rx n) (commitLane n none w)).tlr.rebuild = some 0
    rw [asked .tlr (by decide)]
    exact rebuild_askRebuild (free' : (modRx _ _ (keepRecord n w)).freezing = false)

theorem runs_tlrCtrlCommit_tx {r : TlrLane} (hf : s.functional = true) (on : s.regOn R.TLR_CTRL = true) (commit : bit data 8 = true)
    (measure : bit data 9 = false) (manual : bit data 3 = true) (transmit : bit data 24 = true) (idle : s.tlr.passes = [])
    (free : s.freezing = false) (record : s.tlr.tx[fld data 16 7]? = some r) (range : txOk (bits r.shd 0 32) = true) :
    Runs (.tlrCtrlCommit data) s fun t =>
      (t.tlr.tx[fld data 16 7]?).map (·.act) = some r.shd ∧ t.tlr.rebuild = some 0 ∧ t.outs.regAck = true ∧ t.outs.regErr = false := by
  let n : LaneNo := bits data 16 7
  let w := ctrlWritten data s
  have wrote := onlyChanges_ctrlWritten data s
  have lane : n.toNat < 72 := (Vector.getElem?_eq_some_iff.mp record).1
  have sel : w.laneSel = n := laneSel_ctrlWritten data s
  have free' : w.freezing = false := (freezing_congr (wrote .tlr (by decide))).trans free
  have record' : w.tlr.tx[n.toNat]? = some r := by rw [wrote .tlr (by decide)]; exact record
  let u := modTx n (fun r => { r with
    act := r.shd, commits := if r.commits = 0xFF then 0xFF else r.commits + 1, time := BitVec.ofNat 64 w.now }) w
  have eq : tlrCtrlWrite data s = askRebuild u := by
    rw [tlrCtrlWrite_commits commit measure manual idle,
      manualCommit_eq ((flags_ctrlWritten data s).2.trans manual) free' (by rw [laneSel_ctrlWritten]; exact lane),
      if_pos (by rw [(flags_ctrlWritten data s).1, transmit]), laneSel_ctrlWritten, if_pos (by rw [record']; exact range)]
  refine runs_functional (u := (askRebuild u).answer false) (fun _ => rfl) hf ((portWrite_on commit on _).trans (by rw [eq]))
    ⟨?_, rebuild_askRebuild (free' : u.freezing = false), rfl, rfl⟩
  change ((askRebuild u).tlr.tx[n.toNat]?).map (·.act) = some r.shd
  rw [(tx_askRebuild u).1, tx_modTx_same lane, record']
  rfl

end

end Sys2Proof.Machine
end

section
/-!
SUPPORT. TLR_SNAP_CTRL: a freeze and its release (R121, R129).
-/
namespace Sys2Proof.Machine

/-- TLR_SNAP_CTRL written (R133). -/
def snapWritten (data : Word) (s : State) : State := s.setReg R.TLR_SNAP_CTRL (data &&& 0x3)

theorem onlyChanges_snapWritten (data : Word) (s : State) : OnlyChanges [.regs] s (snapWritten data s) := onlyChanges_setReg _ _ s

theorem tlr_snap_ctrl_plain : R.TLR_SNAP_CTRL ∉ causeRegs := by decide +kernel

theorem flag_snapWritten (data : Word) (s : State) : (snapWritten data s).flag F.TLR_SNAP_CTRL.FREEZE = bit data 0 := by
  change ((snapWritten data s).reg R.TLR_SNAP_CTRL).getLsbD 0 = data.getLsbD 0
  rw [snapWritten, reg_setReg_same]
  simp

theorem snapCtrlWrite_eq {data : Word} (keep : bit data 2 = false) (s : State) :
    snapCtrlWrite data s = heedFreeze (snapWritten data s) := by
  simp only [bit] at keep
  simp only [snapCtrlWrite, keep, Bool.false_eq_true, if_false]
  rfl

/-! ## Commits withheld (R121) -/

/-- The committed values of a lane as they were before a commit of this AO cycle. -/
def uncommit (x : LaneNo × TlrLane) (s : State) : State :=
  modRx x.1 (fun r => { r with act := x.2.act, commits := x.2.commits, time := x.2.time }) s

/-- A lane with one record kept has its committed values back from it. -/
theorem act_foldr_uncommit {l : List (LaneNo × TlrLane)} {x : LaneNo × TlrLane} (ok : x.1.toNat < 72)
    (one : l.filter (·.1 == x.1) = [x]) (s : State) : ((l.foldr uncommit s).rx x.1).act = x.2.act := by
  induction l with
  | nil => exact nomatch one
  | cons y ys ih =>
    rw [List.foldr_cons]
    by_cases same : y.1 = x.1
    · rw [List.filter_cons_of_pos (by simpa using same)] at one
      obtain rfl := (List.cons.inj one).1
      rw [uncommit, rx_modRx_same ok]
    · rw [List.filter_cons_of_neg (by simpa using same)] at one
      rw [uncommit, rx_modRx_other same]
      exact ih one

theorem onlyChanges_uncommit (x : LaneNo × TlrLane) (s : State) : OnlyChanges [.tlr] s (uncommit x s) := onlyChanges_modRx _ _ s

/-- The commits of this AO cycle undone, their shadow values still there. -/
def uncommitted (s : State) : State := s.tlr.recent.foldr uncommit s

theorem withholdCommits_eq (s : State) : withholdCommits s =
    if s.tlr.recentAt = s.aoCycles then
      (uncommitted s).tlr.recent.foldl (fun s x => discardShadow x.1 s) (modTlr (fun t => { t with recent := [] }) (uncommitted s))
    else s := rfl

theorem onlyChanges_uncommitted (s : State) : OnlyChanges [.tlr] s (uncommitted s) := by
  unfold uncommitted
  induction s.tlr.recent with
  | nil => exact (OnlyChanges.refl s).mono (by decide)
  | cons x xs ih => exact (ih.trans (onlyChanges_uncommit x _)).mono (by decide)

theorem onlyChanges_withholdCommits (s : State) : OnlyChanges [.tlr, .slp, .free] s (withholdCommits s) := by
  rw [withholdCommits_eq]
  refine .ite (fun _ => ?_) fun _ => (OnlyChanges.refl s).mono (by decide)
  have gone := (onlyChanges_uncommitted s).trans (onlyChanges_modTlr (fun t => { t with recent := [] }) _)
  exact (gone.trans (onlyChanges_foldl (fun s (x : LaneNo × TlrLane) => onlyChanges_discardShadow x.1 s) _ _)).mono (by decide)

theorem keepsLanes_foldl {α : Type} {f : State → α → State} (h : ∀ s x, KeepsLanes s (f s x)) (l : List α) (s : State) :
    KeepsLanes s (l.foldl f s) := by
  induction l generalizing s with
  | nil => exact KeepsLanes.refl s
  | cons x xs ih => exact (h s x).trans (ih (f s x))

/-- A lane committed once in this AO cycle has its committed values of before (R121). -/
theorem act_withholdCommits {s : State} (now : s.tlr.recentAt = s.aoCycles) {x : LaneNo × TlrLane} (ok : x.1.toNat < 72)
    (one : s.tlr.recent.filter (·.1 == x.1) = [x]) : ((withholdCommits s).rx x.1).act = x.2.act := by
  have discarded := keepsLanes_foldl (fun s (x : LaneNo × TlrLane) => keepsLanes_discardShadow x.1 s) (uncommitted s).tlr.recent
    (modTlr (fun t => { t with recent := [] }) (uncommitted s))
  rw [withholdCommits_eq, if_pos now, discarded.act]
  exact act_foldr_uncommit ok one s

/-! ## Freezes (R129) -/

theorem mends_haltPasses (s : State) : Mends s (haltPasses s) :=
  mends_foldl (f := fun s (x : SleeveNo × Pass) => returnLane x.1 x.2 (abandonPass x.1 s))
    (fun s x => (mends_abandonPass x.1 s).trans (exOnly_returnLane x.1 x.2 _).mends) _ s

/-- The state that a first freeze leaves before it is in force: no pass runs, and the commits of this AO cycle are withheld. -/
def stilled (s : State) : State := haltPasses (withholdCommits s)

theorem freeze_host {s : State} (free : s.freezing = false) : freeze false s = modTlr (fun t => { t with
    frozenHost := true, rebuild := some 1 }) (stilled s) := by
  unfold freeze stilled
  simp [free]

theorem heedFreeze_freezes {s : State} (ready : s.sbx.ready = true) (on : s.flag F.TLR_SNAP_CTRL.FREEZE = true)
    (free : s.freezing = false) : heedFreeze s = freeze false s := by
  obtain ⟨host, -⟩ := Bool.or_eq_false_iff.mp free
  simp [heedFreeze, ready, on, host]

section
variable {data : Word} {s : State}

theorem runs_snapFreeze (hf : s.functional = true) (on : s.regOn R.TLR_SNAP_CTRL = true) (set : bit data 0 = true)
    (keep : bit data 2 = false) (free : s.freezing = false) (ready : s.sbx.ready = true) :
    Runs (.snapFreeze data) s fun t =>
      t.tlr.frozenHost = true ∧ t.tlr.rebuild = some 1 ∧ t.flag F.TLR_SNAP_CTRL.FREEZE = true ∧ t.outs.regAck = true ∧
        t.outs.regErr = false ∧ (s.tlr.recentAt = s.aoCycles → ∀ x ∈ s.tlr.recent, x.1.toNat < 72 →
          (s.tlr.recent.filter (·.1 == x.1)) = [x] → (t.rx x.1).act = x.2.act) := by
  let w := snapWritten data s
  have wrote := onlyChanges_snapWritten data s
  have tlr : w.tlr = s.tlr := wrote .tlr (by decide)
  have free' : w.freezing = false := (freezing_congr tlr).trans free
  have flag : w.flag F.TLR_SNAP_CTRL.FREEZE = true := (flag_snapWritten data s).trans set
  have eq : snapCtrlWrite data s = freeze false w :=
    (snapCtrlWrite_eq keep s).trans (heedFreeze_freezes (by rw [wrote .sbx (by decide)]; exact ready) flag free')
  have halt := mends_haltPasses (withholdCommits w)
  have notes : Notes [] w (stilled w) := ((onlyChanges_withholdCommits w).notes (by decide) (by decide)).trans halt.keeps.notes
  refine runs_functional (u := (freeze false w).answer false) (fun _ => rfl) hf ((portWrite_on set on _).trans (by rw [eq])) ?_
  rw [freeze_host free']
  refine ⟨rfl, rfl, (notes.flag tlr_snap_ctrl_plain (by decide)).trans flag, rfl, rfl, fun now x _ ok one => ?_⟩
  refine (halt.lanes.act x.1).trans (act_withholdCommits (s := w) ?_ ok ?_)
  · rw [tlr, wrote .aoCycles (by decide)]
    exact now
  · rw [tlr]
    exact one

/-! ## A release (R129) -/

theorem onlyChanges_commitWaiting (s : State) : OnlyChanges [.tlr] s (commitWaiting s) :=
  ((onlyChanges_modTlr _ s).trans (onlyChanges_foldl (fun s (x : LaneNo × Nat) => onlyChanges_commitLane x.1 (some x.2) s) _ _)).mono
    (by decide)

theorem frozenHost_commitLane (n : LaneNo) (eye : Option Nat) (s : State) : (commitLane n eye s).tlr.frozenHost = s.tlr.frozenHost :=
  (keepsLanes_askRebuild _).frozenHost.trans rfl

theorem frozenHost_commitWaiting (s : State) : (commitWaiting s).tlr.frozenHost = s.tlr.frozenHost := by
  have all (l : List (LaneNo × Nat)) (u : State) :
      (l.foldl (fun s x => commitLane x.1 (some x.2) s) u).tlr.frozenHost = u.tlr.frozenHost := by
    induction l generalizing u with
    | nil => rfl
    | cons x xs ih => exact (ih _).trans (frozenHost_commitLane _ _ u)
  exact (all _ _).trans rfl

/-- The host's freeze gone, its waiting commits not made yet. -/
def hostReleased (s : State) : State := modTlr (fun t => { t with frozenHost := false, frozenBrown := false }) s

theorem unfreeze_host (host : s.tlr.frozenHost = true) (brown : s.tlr.frozenBrown = false) :
    unfreeze false s = modTlr (fun t => { t with frozen := false, rebuild := some 0 }) (commitWaiting (hostReleased s)) := by
  have was : s.freezing = true := by rw [State.freezing, host, Bool.true_or]
  have same : modTlr (fun t => { t with frozenHost := t.frozenHost && false, frozenBrown := t.frozenBrown && true }) s =
      hostReleased s := by simp only [hostReleased, modTlr, host, brown, Bool.and_false, Bool.false_and]
  unfold unfreeze
  simp only [was, same, Bool.not_false, Bool.true_and]
  exact if_pos rfl

theorem runs_snapRelease (hf : s.functional = true) (on : s.regOn R.TLR_SNAP_CTRL = true) (clear : bit data 0 = false)
    (keep : bit data 2 = false) (host : s.tlr.frozenHost = true) (brown : s.tlr.frozenBrown = false) (ready : s.sbx.ready = true) :
    Runs (.snapRelease data) s fun t =>
      t.tlr.frozenHost = false ∧ t.tlr.frozen = false ∧ t.tlr.rebuild = some 0 ∧ t.flag F.TLR_SNAP_CTRL.FREEZE = false ∧
        t.outs.regAck = true ∧ t.outs.regErr = false := by
  let w := snapWritten data s
  have wrote := onlyChanges_snapWritten data s
  have tlr : w.tlr = s.tlr := wrote .tlr (by decide)
  have host' : w.tlr.frozenHost = true := by rw [tlr]; exact host
  have ready' : w.sbx.ready = true := by rw [wrote .sbx (by decide)]; exact ready
  have flag : w.flag F.TLR_SNAP_CTRL.FREEZE = false := (flag_snapWritten data s).trans clear
  have eq : snapCtrlWrite data s = unfreeze false w := by
    rw [snapCtrlWrite_eq keep]
    change heedFreeze w = _
    simp [heedFreeze, ready', flag, host']
  have frame := (onlyChanges_modTlr _ w : OnlyChanges [.tlr] w (hostReleased w)).trans (onlyChanges_commitWaiting _)
  have notes : Notes [] w (commitWaiting (hostReleased w)) := frame.notes (by decide) (by decide)
  refine runs_functional (u := (unfreeze false w).answer false) (fun _ => rfl) hf
    ((portWrite_on (by simpa [bit] using clear) on _).trans (by rw [eq])) ?_
  rw [unfreeze_host host' (by rw [tlr]; exact brown)]
  exact ⟨(frozenHost_commitWaiting _).trans rfl, rfl, rfl, (notes.flag tlr_snap_ctrl_plain (by decide)).trans flag, rfl, rfl⟩

end

end Sys2Proof.Machine
end

section
/-!
SUPPORT. The image of the snapshot window: its bytes as they are written and read back, a rebuild, and a restore (R126 to R132).
-/
namespace Sys2Proof.Machine

/-! ## Little-endian bytes read back -/

theorem leNat_lt (bs : List Byte) : leNat bs < 256 ^ bs.length := by
  induction bs with
  | nil => exact Nat.one_pos
  | cons b bs ih =>
    have := b.isLt
    rw [leNat, List.length_cons, Nat.pow_succ]
    omega

theorem leBytes_leNat (bs : List Byte) : leBytes bs.length (leNat bs) = bs := by
  induction bs with
  | nil => rfl
  | cons b bs ih =>
    have small := b.isLt
    rw [List.length_cons, leBytes, leNat, show (b.toNat + 256 * leNat bs) / 256 = leNat bs by omega, ih]
    congr 1
    apply BitVec.eq_of_toNat_eq
    rw [BitVec.toNat_ofNat]
    omega

/-- The word of four bytes of a structure holds these bytes. -/
theorem bvBytes_leWord {b : List Byte} {off : Nat} (room : off + 4 ≤ b.length) : bvBytes (leWord 32 b off 4) = (b.drop off).take 4 := by
  have four : ((b.drop off).take 4).length = 4 := by simp; omega
  have small := leNat_lt ((b.drop off).take 4)
  rw [four] at small
  replace small : leNat ((b.drop off).take 4) < 2 ^ 32 := small
  calc bvBytes (leWord 32 b off 4) = leBytes 4 (leNat ((b.drop off).take 4)) := by
        rw [bvBytes, leWord, leAt, BitVec.toNat_ofNat, Nat.mod_eq_of_lt small]
    _ = (b.drop off).take 4 := by
        have back := leBytes_leNat ((b.drop off).take 4)
        rwa [four] at back

theorem flatMap_words (b : List Byte) (n : Nat) : ((List.range n).flatMap fun i => (b.drop (4 * i)).take 4) = b.take (4 * n) := by
  induction n with
  | zero => simp
  | succ n ih => rw [List.range_succ, List.flatMap_append, ih, Nat.mul_succ, List.take_add]; simp

/-! ## The window -/

/-- What the first words of the window hold once they are put there. -/
theorem reg_foldl_words (v : Nat → Word) (n : Nat) (s : State) {i : Nat} (hi : i < n) :
    ((List.range n).foldl (fun s i => s.setReg (R.TLR_SNAP_WIN + 4 * i) (v i)) s).reg (R.TLR_SNAP_WIN + 4 * i) = v i := by
  induction n with
  | zero => exact absurd hi (Nat.not_lt_zero i)
  | succ n ih =>
    rw [List.range_succ, List.foldl_append, List.foldl_cons, List.foldl_nil]
    by_cases last : i = n
    · rw [last, reg_setReg_same]
    · rw [reg_setReg_other _ _ _ _ (by omega), ih (by omega)]

theorem reg_putWindow (b : List Byte) (s : State) {i : Nat} (hi : i < 394) :
    (putWindow b s).reg (R.TLR_SNAP_WIN + 4 * i) = leWord 32 b (4 * i) 4 := reg_foldl_words (fun i => leWord 32 b (4 * i) 4) 394 s hi

theorem window1576_congr {s t : State} (h : ∀ i < 394, t.reg (R.TLR_SNAP_WIN + 4 * i) = s.reg (R.TLR_SNAP_WIN + 4 * i)) :
    t.window1576 = s.window1576 :=
  List.flatMap_congr fun i hi => by rw [h i (List.mem_range.mp hi)]

theorem window1576_modTlr (f : Tlr → Tlr) (s : State) : (modTlr f s).window1576 = s.window1576 := window1576_congr fun _ _ => rfl

theorem window1576_settle (s : State) : (settle s).window1576 = s.window1576 := window1576_congr fun _ _ => rfl

/-- An image put into the window is what the window then holds. -/
theorem window1576_putWindow {b : List Byte} (size : b.length = 1576) (s : State) : (putWindow b s).window1576 = b := by
  calc (putWindow b s).window1576 = (List.range 394).flatMap fun i => (b.drop (4 * i)).take 4 :=
        List.flatMap_congr fun i hi => by
          have := List.mem_range.mp hi
          rw [reg_putWindow b s this, bvBytes_leWord (by omega)]
    _ = b := by rw [flatMap_words, List.take_of_length_le (by omega)]

/-- No register of a cause lies in the window. -/
theorem causeRegs_outside_window : ∀ a ∈ causeRegs, a < R.TLR_SNAP_WIN ∨ R.TLR_SNAP_WIN + 1576 ≤ a := by decide +kernel

theorem Notes.window1576 {s t : State} (h : Notes [] s t) : t.window1576 = s.window1576 :=
  window1576_congr fun i hi => h.2 _ fun m => by
    rcases causeRegs_outside_window _ (by simpa using m) with low | high <;> omega

theorem length_imageOf (gen : BitVec 32) (cause : BitVec 2) (temp : BitVec 16) (s : State) : (imageOf gen cause temp s).length = 1576 := by
  have sleeves : allSleeves.length = 8 := by decide
  simp [imageOf, imageBody, List.length_flatMap, length_bvBytes, sleeves]

/-! ## A rebuild (R128) -/

/-- The window with the image of the next generation. -/
def rebuilt (cause : BitVec 2) (s : State) : State :=
  modTlr (fun x => { x with gen := nextGen s.tlr.gen, imageCause := cause, rebuild := none })
    (putWindow (imageOf (nextGen s.tlr.gen) cause (Config.seamTemp s.free) s) (senseTemp s).2)

theorem rebuildNow_eq (cause : BitVec 2) (s : State) : rebuildNow cause s =
    if (rebuilt cause s).freezing then
      wake .freeze 0 (bvBytes (nextGen s.tlr.gen)) (raise C.TLR.SNAP_FROZEN 0 (modTlr (fun x => { x with frozen := true }) (rebuilt cause s)))
    else rebuilt cause s := rfl

theorem onlyChanges_putWindow (b : List Byte) (s : State) : OnlyChanges [.regs] s (putWindow b s) :=
  onlyChanges_foldl (fun s _ => onlyChanges_setReg _ _ s) _ s

theorem freezing_modTlr {f : Tlr → Tlr} (same : ∀ t, (f t).frozenHost = t.frozenHost ∧ (f t).frozenBrown = t.frozenBrown) (s : State) :
    (modTlr f s).freezing = s.freezing := congrArg₂ Bool.or (same s.tlr).1 (same s.tlr).2

theorem freezing_putWindow (b : List Byte) (s : State) : (putWindow b s).freezing = s.freezing :=
  freezing_congr (onlyChanges_putWindow b s .tlr (by decide))

theorem freezing_rebuilt (cause : BitVec 2) (s : State) : (rebuilt cause s).freezing = s.freezing := by
  rw [rebuilt, freezing_modTlr, freezing_putWindow]
  · rfl
  · exact fun _ => ⟨rfl, rfl⟩

theorem window1576_rebuilt (cause : BitVec 2) (s : State) :
    (rebuilt cause s).window1576 = imageOf (nextGen s.tlr.gen) cause (Config.seamTemp s.free) s :=
  (window1576_modTlr _ _).trans (window1576_putWindow (length_imageOf _ _ _ _) _)

/-- What follows the image under a freeze leaves the image and the tailoring block as they are. -/
theorem keeps_frozen (gen : List Byte) (s : State) :
    Keeps [] endParts [] s (wake .freeze 0 gen (raise C.TLR.SNAP_FROZEN 0 s)) :=
  ((keeps_raise (by decide) 0 s).trans (keeps_wake _ _ _ _)).mono (by decide) (by decide) (by decide)

theorem runs_snapshotRebuild {cause : BitVec 2} {s : State} (hf : s.functional = true) (due : s.tlr.rebuild = some cause) :
    Runs .snapshotRebuild s fun t =>
      t.tlr.gen = (if s.tlr.gen = 0xFFFFFFFF then 1 else s.tlr.gen + 1) ∧ t.tlr.imageCause = cause ∧ t.tlr.rebuild = none ∧
        t.window1576 = imageOf t.tlr.gen cause (Config.seamTemp s.free) s ∧
        (s.freezing = true → t.tlr.frozen = true ∧ Raised C.TLR.SNAP_FROZEN t) := by
  refine runs_functional (u := rebuildNow cause s) (fun _ => rfl) hf (by simp only [due]) ?_
  rw [window1576_settle, rebuildNow_eq, freezing_rebuilt]
  split
  case isFalse thawed => exact ⟨rfl, rfl, rfl, window1576_rebuilt cause s, fun f => absurd f thawed⟩
  case isTrue =>
    let u := modTlr (fun x => { x with frozen := true }) (rebuilt cause s)
    have kept := keeps_frozen (bvBytes (nextGen s.tlr.gen)) u
    have tlr := kept.frame .tlr (by decide)
    have gen := congrArg Tlr.gen tlr
    have window := (kept.notes.window1576.trans (window1576_modTlr _ _)).trans (window1576_rebuilt cause s)
    refine ⟨gen, congrArg Tlr.imageCause tlr, congrArg Tlr.rebuild tlr, ?_, fun _ => ⟨congrArg Tlr.frozen tlr, ?_⟩⟩
    · exact window.trans (congrArg (fun g => imageOf g cause (Config.seamTemp s.free) s) gen.symm)
    · exact (keeps_wake _ _ _ _).notes.1 _ (by decide) (raised_raise_self (by decide) 0 u)

/-! ## A restore (R131) -/

/-- The temperature read for the checks of a restore, which is no longer due. -/
def restoreSensed (s : State) : State := (senseTemp (modTlr (fun x => { x with restoreDue := false }) s)).2

/-- An image loaded. -/
def restoreLoaded (s : State) : State :=
  let b := s.window1576
  let s := modTlr (fun x => { x with
    gen := leWord 32 b 8 4, imageCause := leWord 2 b 26 1, restored := true, reject := 0, committed := true }) (loadImage b (restoreSensed s))
  { s with boot := { s.boot with restore := true } }

/-- The code of R131 for the window's image. -/
def State.rejectCode (s : State) : BitVec 4 := imageReject s.window1576 (Config.seamTemp s.free) s

theorem restoreNow_rejects {s : State} (bad : s.rejectCode ≠ 0) : restoreNow s =
    wake .restore 0x0262 [s.rejectCode.setWidth 8]
      (raise C.TLR.RESTORE_REJECTED 0 (modTlr (fun x => { x with reject := s.rejectCode }) (restoreSensed s))) := if_neg bad

theorem restoreNow_loads {s : State} (good : s.rejectCode = 0) : restoreNow s =
    (List.range 72).foldl (fun s i => sendFfe (BitVec.ofNat 7 i) (ffeOf (s.rx (BitVec.ofNat 7 i)).act) s) (restoreLoaded s) := if_pos good

theorem act_restoreLoaded (s : State) {lane : LaneNo} (ok : lane.toNat < 72) :
    ((restoreLoaded s).rx lane).act = leWord 128 s.window1576 (128 + 16 * lane.toNat) 16 := by
  change (((Vector.ofFn _ : Vector TlrLane 72)[lane.toNat]?).getD _).act = _
  simp [ok]

/-- FREEZE as it stands is no freeze and no release. -/
theorem heedFreeze_same {s : State} (same : s.flag F.TLR_SNAP_CTRL.FREEZE = s.tlr.frozenHost) : heedFreeze s = s := by
  unfold heedFreeze
  rw [same]
  cases s.tlr.frozenHost <;> simp

section
variable {data : Word} {s : State}

theorem window1576_snapWritten (data : Word) (s : State) : (snapWritten data s).window1576 = s.window1576 :=
  window1576_congr fun i _ => reg_setReg_other _ _ _ _ (by unfold R.TLR_SNAP_WIN R.TLR_SNAP_CTRL; omega)

theorem rejectCode_snapWritten (data : Word) (s : State) : (snapWritten data s).rejectCode = s.rejectCode := by
  rw [State.rejectCode, window1576_snapWritten]
  rfl

theorem snapCtrlWrite_restores (set : bit data 2 = true) (same : bit data 0 = s.tlr.frozenHost) (may : s.loadable = true) :
    snapCtrlWrite data s =
      if s.boot.physValid then restoreNow (snapWritten data s) else modTlr (fun t => { t with restoreDue := true }) (snapWritten data s) := by
  have heed := heedFreeze_same (s := snapWritten data s) ((flag_snapWritten data s).trans same)
  have may' : (snapWritten data s).loadable = true := may
  simp only [bit] at set
  calc snapCtrlWrite data s = askRestore (heedFreeze (snapWritten data s)) := by
        simp only [snapCtrlWrite, set, if_true]
        rfl
    _ = _ := by
        rw [heed, askRestore, may']
        rfl

theorem restoreNow_rejected (bad : s.rejectCode ≠ 0) :
    (restoreNow s).tlr.reject = s.rejectCode ∧ (restoreNow s).tlr.rx = s.tlr.rx ∧ Raised C.TLR.RESTORE_REJECTED (restoreNow s) := by
  let u := modTlr (fun x => { x with reject := s.rejectCode }) (restoreSensed s)
  have kept := keeps_wake .restore 0x0262 [s.rejectCode.setWidth 8] (raise C.TLR.RESTORE_REJECTED 0 u)
  have raised := onlyChanges_raise C.TLR.RESTORE_REJECTED 0 u
  have tlr := (kept.frame .tlr (by decide)).trans (raised .tlr (by decide))
  rw [restoreNow_rejects bad]
  exact ⟨(congrArg Tlr.reject tlr).trans rfl, (congrArg Tlr.rx tlr).trans rfl, kept.notes.1 _ (by decide) (raised_raise_self (by decide) 0 u)⟩

theorem restoreNow_loaded (good : s.rejectCode = 0) :
    (restoreNow s).tlr.restored = true ∧ (restoreNow s).tlr.gen = leWord 32 s.window1576 8 4 ∧
      ∀ lane : LaneNo, lane.toNat < 72 → ((restoreNow s).rx lane).act = leWord 128 s.window1576 (128 + 16 * lane.toNat) 16 := by
  have sent : OnlyChanges [.slp, .free] (restoreLoaded s) (restoreNow s) := by
    rw [restoreNow_loads good]
    exact onlyChanges_foldl (fun s _ => onlyChanges_sendFfe _ _ s) _ _
  have tlr := sent .tlr (by decide)
  refine ⟨(congrArg Tlr.restored tlr).trans rfl, (congrArg Tlr.gen tlr).trans rfl, fun lane ok => ?_⟩
  rw [rx_congr (congrArg Tlr.rx tlr)]
  exact act_restoreLoaded s ok

theorem runs_snapRestore (hf : s.functional = true) (on : s.regOn R.TLR_SNAP_CTRL = true) (set : bit data 2 = true)
    (same : bit data 0 = s.tlr.frozenHost) (may : s.loadable = true) : Runs (.snapRestore data) s fun t =>
      t.outs.regAck = true ∧ t.outs.regErr = false ∧ (s.boot.physValid = false → t.tlr.restoreDue = true) ∧
        (s.boot.physValid = true → s.rejectCode ≠ 0 →
          t.tlr.reject = s.rejectCode ∧ t.tlr.rx = s.tlr.rx ∧ Raised C.TLR.RESTORE_REJECTED t) ∧
        (s.boot.physValid = true → s.rejectCode = 0 → t.tlr.restored = true ∧ t.tlr.gen = leWord 32 s.window1576 8 4 ∧
          ∀ lane : LaneNo, lane.toNat < 72 → (t.rx lane).act = leWord 128 s.window1576 (128 + 16 * lane.toNat) 16) := by
  refine runs_functional (u := (snapCtrlWrite data s).answer false) (fun _ => rfl) hf (portWrite_on set on _) ?_
  rw [snapCtrlWrite_restores set same may]
  refine ⟨rfl, rfl, fun unknown => ?_, fun known bad => ?_, fun known good => ?_⟩
  · rw [if_neg (ne_true_of_eq_false unknown)]
    rfl
  · rw [if_pos known]
    have rejected := restoreNow_rejected (s := snapWritten data s) (by rwa [rejectCode_snapWritten])
    rw [rejectCode_snapWritten] at rejected
    generalize restoreNow (snapWritten data s) = u at rejected ⊢
    exact rejected
  · rw [if_pos known]
    have loaded := restoreNow_loaded (s := snapWritten data s) (by rwa [rejectCode_snapWritten])
    rw [window1576_snapWritten] at loaded
    generalize restoreNow (snapWritten data s) = u at loaded ⊢
    exact loaded

end

/-- Settles O36: each write of TLR_CTRL and TLR_SNAP_CTRL runs to the state its rules name, and a rebuild puts the image of R126. -/
theorem snapshotAndManual : Obligations.SnapshotAndManual :=
  ⟨fun _ _ hf on measure commit manual lane receive idle => runs_tlrCtrlMeasure hf on measure commit manual lane receive idle,
    fun _ _ hf on commit measure manual lane receive idle free hs range =>
      runs_tlrCtrlCommit_rx hf on commit measure manual lane receive idle free hs range,
    fun _ _ _ hf on commit measure manual transmit idle free record range =>
      runs_tlrCtrlCommit_tx hf on commit measure manual transmit idle free record range,
    fun _ _ hf on set keep free ready => runs_snapFreeze hf on set keep free ready,
    fun _ _ hf on clear keep host brown ready => runs_snapRelease hf on clear keep host brown ready,
    fun _ _ hf on set same may => runs_snapRestore hf on set same may,
    fun _ _ hf due => runs_snapshotRebuild hf due⟩

end Sys2Proof.Machine
end

section
/-!
SUPPORT. The ends of training: the messages that leave, and what the operations at these ends leave as it is (R76, R92, R123, R413).
-/
namespace Sys2Proof.Machine

/-! ## Messages that leave -/

theorem mem_slpEmit {m : Byte × List Word} {ms : List (Byte × List Word)} (h : m ∈ ms) (n : Byte) (acc : List Emit) :
    ∃ q, Emit.sleeper m.1 q m.2 ∈ slpEmit ms n acc := by
  induction ms generalizing n acc with
  | nil => exact absurd h (by simp)
  | cons x xs ih =>
    rcases List.mem_cons.mp h with rfl | later
    · exact ⟨n, by rw [slpEmit, slpEmit_append]; simp⟩
    · exact ih later (n + 1) _

theorem slpClass_range (type : Byte) : slpClass type ∈ [1, 2, 3, 4, 5, 6, 7] := by
  unfold slpClass
  repeat' split
  all_goals decide

/-- A message in a queue of the Sleeper transmitter leaves with the command (R406). -/
theorem sent_settle {type : Byte} {ws : List Word} {s : State} (h : (slpClass type, type, ws) ∈ s.slp.queue) :
    ∃ n : Byte, Emit.sleeper type n ws ∈ (settle s).out := by
  refine mem_slpEmit (m := (type, ws)) ?_ _ _
  exact List.mem_map.mpr ⟨_, List.mem_flatMap.mpr ⟨slpClass type, slpClass_range type, List.mem_filter.mpr ⟨h, by simp⟩⟩, rfl⟩

theorem mem_queue_sendSlp (type : Byte) (ws : List Word) (s : State) : (slpClass type, type, ws) ∈ (sendSlp type ws s).slp.queue :=
  List.mem_append_right _ (List.mem_singleton_self _)

/-! ## TRAIN_DONE to the station (R413) -/

/-- What may follow once both ends' TRAIN_DONE are known: start-up holds, or the first width state is taken. -/
theorem bothTrained_cases (s : State) :
    bothTrained s = s ∨ bothTrained s = holdStart 7 0x01 s ∨ ∃ f, bothTrained s = modSeam f s := by
  unfold bothTrained
  split
  · dsimp only
    split
    · exact .inr (.inl rfl)
    · exact .inr (.inr ⟨_, rfl⟩)
  · exact .inl rfl

theorem onlyChanges_startHold (code : Nat) (region : Byte) (s : State) : OnlyChanges [.boot, .flt] s (startHold code region s) := by
  intro p hp
  cases p <;> simp_all [Part.same, startHold, pushOcc]

/-- A hold of start-up leaves flags, the tailoring block and the Sleeper line, and the block's own TRAIN_DONE as recorded. -/
theorem holdStart_keeps (code : Nat) (region : Byte) (s : State) :
    Notes [] s (holdStart code region s) ∧ OnlyChanges (.boot :: endParts) s (holdStart code region s) ∧
      (holdStart code region s).boot.ownUsable = s.boot.ownUsable := by
  have held := onlyChanges_startHold code region s
  have woken := keeps_wake .linkUp 0x0259 [] (startHold code region s)
  refine ⟨((held.notes (by decide) (by decide)).trans woken.notes), (held.trans woken.frame).mono (by decide), ?_⟩
  exact (congrArg Boot.ownUsable (woken.frame .boot (by decide))).trans rfl

/-- The parts that the end of training may touch beyond the block's TRAIN_DONE. -/
def trainedParts : List Part := .boot :: .seam :: endParts

theorem bothTrained_keeps (s : State) :
    Notes [] s (bothTrained s) ∧ OnlyChanges trainedParts s (bothTrained s) ∧ (bothTrained s).boot.ownUsable = s.boot.ownUsable := by
  rcases bothTrained_cases s with e | e | ⟨f, e⟩ <;> rw [e]
  · exact ⟨Notes.refl s, (OnlyChanges.refl s).mono (by decide), rfl⟩
  · obtain ⟨notes, frame, own⟩ := holdStart_keeps 7 0x01 s
    exact ⟨notes, frame.mono (by decide), own⟩
  · have frame := onlyChanges_modSeam f s
    exact ⟨frame.notes (by decide) (by decide), frame.mono (by decide), rfl⟩

/-- The block's TRAIN_DONE: its mask is recorded and goes, flags and the tailoring block stay. -/
theorem sendTrainDone_sends (usable : Byte) (s : State) :
    Notes [] s (sendTrainDone usable s) ∧ (sendTrainDone usable s).tlr = s.tlr ∧
      (sendTrainDone usable s).boot.ownUsable = some usable ∧
      ∃ n : Byte, Emit.sleeper 0x21 n [usable.setWidth 32] ∈ (settle (sendTrainDone usable s)).out := by
  let u := sendDone usable { s with boot := { s.boot with ownUsable := some usable, trainSends := 1 } }
  have first : OnlyChanges [.boot, .slp] s u := by
    intro p hp
    cases p <;> simp_all [Part.same, u, sendDone, sendSlp]
  obtain ⟨notes, frame, own⟩ := bothTrained_keeps u
  refine ⟨(first.notes (by decide) (by decide)).trans notes, (frame .tlr (by decide)).trans rfl, own.trans rfl, sent_settle ?_⟩
  have queue : (sendTrainDone usable s).slp = u.slp := frame .slp (by decide)
  rw [queue]
  exact mem_queue_sendSlp 0x21 _ _

/-! ## Sleeves that join (R92, R132) -/

/-- The parts that a width change touches as it begins or is queued. -/
def joinParts : List Part := .pcm :: .seam :: endParts

/-- What the asking for a width change leaves: the flags set, all registers but its own and PCM_CTRL, and every other unit. -/
structure Joins (s t : State) : Prop where
  notes : Notes widthRegs s t
  frame : OnlyChanges joinParts s t

theorem Joins.refl (s : State) : Joins s s := ⟨(Notes.refl s).mono (by decide), (OnlyChanges.refl s).mono (by decide)⟩

theorem Joins.trans {s t u : State} (h : Joins s t) (k : Joins t u) : Joins s u :=
  ⟨(h.notes.trans k.notes).mono (by simp), (h.frame.trans k.frame).mono (by simp)⟩

theorem Keeps.joins {as : List Nat} {ps : List Part} {qs : List SeamPart} {s t : State} (h : Keeps as ps qs s t) (ha : as ⊆ widthRegs)
    (hp : ps ⊆ joinParts) : Joins s t := ⟨h.notes.mono ha, h.frame.mono hp⟩

theorem joins_modSeam (f : Seam → Seam) (s : State) : Joins s (modSeam f s) :=
  ⟨((onlyChanges_modSeam f s).notes (by decide) (by decide)).mono (by simp), (onlyChanges_modSeam f s).mono (by decide)⟩

theorem joins_setWidthFld {f : Field} (reg : f.reg = R.SEAM_WIDTH_CTRL) (v : Nat) (s : State) : Joins s (s.setFld f v) :=
  (keeps_setFld (reg ▸ seam_width_ctrl_plain) v s).joins (by rw [reg]; decide) (by decide)

theorem joins_widthResult (r : Nat) (s : State) : Joins s (widthResult r s) := (keeps_widthResult r s).joins (by decide) (by decide)

theorem joins_wakeWidened (r : Nat) (s : State) : Joins s (wakeWidened r s) := (keeps_wakeWidened r s).joins (by decide) (by decide)

theorem joins_startWidth (t : Byte) (byPcm : Bool) (s : State) : Joins s (startWidth t byPcm s) :=
  ((joins_setWidthFld (f := F.SEAM_WIDTH_CTRL.RESULT) rfl 1 s).trans (joins_modSeam _ _)).trans
    ((exOnly_startWidth t byPcm s).keeps.joins (by decide) (by decide))

theorem joins_beginWidth (target : Nat) (force byPcm : Bool) (s : State) : Joins s (beginWidth target force byPcm s) := by
  refine (joins_setWidthFld (f := F.SEAM_WIDTH_CTRL.GO) rfl 0 s).trans ?_
  unfold beginWidth
  dsimp only
  split
  case isTrue =>
    split
    · exact (joins_widthResult _ _).trans (joins_wakeWidened _ _)
    · exact joins_widthResult _ _
  case isFalse =>
    split
    · exact (joins_widthResult _ _).trans (joins_wakeWidened _ _)
    · exact joins_startWidth _ _ _

theorem joins_queueWidth (target : BitVec 4) (force : Bool) (s : State) : Joins s (queueWidth target force s) :=
  (((keeps_wake .widthQueued 0x0255 s.usableByte s).joins (by decide) (by decide)).trans
    (joins_setWidthFld (f := F.SEAM_WIDTH_CTRL.GO) rfl 1 _)).trans
    (joins_modSeam (fun m => { m with queued := some { target := target, force := force } }) _)

theorem joins_addTrained (s : State) : Joins s (addTrained s) := by
  unfold addTrained
  split
  · exact Joins.refl s
  · split
    · exact joins_beginWidth 8 true true s
    · split
      · exact joins_queueWidth 8 true s
      · exact Joins.refl s

/-! ## Masks -/

theorem slvBit_within {m : Byte} {k : SleeveNo} (h : m.getLsbD k.toNat = true) : slvBit k &&& ~~~m = 0 := by
  apply BitVec.eq_of_getLsbD_eq
  intro i hi
  by_cases own : i = k.toNat
  · subst own
    simp [h]
  · have other : (slvBit k).getLsbD i = false := by
      simp only [slvBit, BitVec.getLsbD_shiftLeft, BitVec.getLsbD_one, Bool.and_eq_false_iff, decide_eq_false_iff_not, Bool.not_eq_false',
        decide_eq_true_eq]
      omega
    simp [other]

theorem foldl_within {α : Type} {m : Byte} {f : Byte → α → Byte} (h : ∀ acc x, acc &&& ~~~m = 0 → f acc x &&& ~~~m = 0) (l : List α)
    {acc : Byte} (start : acc &&& ~~~m = 0) : l.foldl f acc &&& ~~~m = 0 := by
  induction l generalizing acc with
  | nil => exact start
  | cons x xs ih => exact ih (h acc x start)

/-- Only sleeves of the mask are lost (R76). -/
theorem lostSleeves_within (s : State) (m : Byte) (late : List SleeveNo) : s.lostSleeves m late &&& ~~~m = 0 := by
  refine foldl_within (fun acc k inside => ?_) _ (BitVec.zero_and)
  dsimp only
  split
  case isTrue bad =>
    have member : m.getLsbD k.toNat = true := (Bool.and_eq_true_iff.mp bad).1
    calc (acc ||| slvBit k) &&& ~~~m = (acc &&& ~~~m) ||| (slvBit k &&& ~~~m) := BitVec.and_or_distrib_right ..
      _ = 0 := by rw [inside, slvBit_within member]; rfl
  case isFalse => exact inside

end Sys2Proof.Machine
end

section
/-!
SUPPORT. The ends of training, of a restore's verification and of a retrain's share (R123, R132, R157, R413).
-/
namespace Sys2Proof.Machine

/-! ## The end that every training has -/

/-- Lanes that did not pass fail, each by `f`, and then the sleeves that are late ask to be retired (R76, R84). -/
def failedLanes (f : State → LaneNo → State) (bad : List LaneNo) (late : List SleeveNo) (s : State) : State :=
  late.foldl (fun s k => wantRetire k s) (bad.foldl f s)

/-- TRAIN_DONE raised, with a rebuild asked for (R128). -/
def trainNoted (s : State) : State := askRebuild (raise C.TLR.TRAIN_DONE 0 s)

theorem mends_failedLanes {f : State → LaneNo → State} (h : ∀ s n, Mends s (f s n)) (bad : List LaneNo) (late : List SleeveNo) (s : State) :
    Mends s (failedLanes f bad late s) :=
  (mends_foldl h bad s).trans (mends_foldl (fun s k => mends_wantRetire k s) late _)

theorem mends_trainNoted (s : State) : Mends s (trainNoted s) := by
  have raised := (keeps_raise (c := C.TLR.TRAIN_DONE) (by decide) 0 s).mono (bs := []) (ps' := repairParts) (qs' := repairSeam) (by decide)
    (by decide) (by decide)
  have frame := onlyChanges_raise C.TLR.TRAIN_DONE 0 s
  exact Mends.trans ⟨fun k j marked => by rwa [frame.slv (by decide)], frame.keepsLanes (by decide), raised⟩ (mends_askRebuild _)

theorem raised_trainNoted (s : State) : Raised C.TLR.TRAIN_DONE (trainNoted s) :=
  (mends_askRebuild _).keeps.notes.1 _ (by decide) (raised_raise_self (by decide) 0 s)

theorem and_within (m b : Byte) : (m &&& b) &&& ~~~m = 0 := by
  rw [BitVec.and_comm m b, BitVec.and_assoc, BitVec.and_not_self]
  exact BitVec.and_zero

/-! ## Training (R413) -/

/-- The lanes of a mask that fail at the end of their training. -/
def State.untrained (s : State) (m : Byte) (lanes : List LaneReport) : List LaneNo :=
  (s.soundLanes m).filter fun n => (s.unverified m (s.soundReports m lanes)).contains n || !s.trained n

/-- The values that a training found are committed, and its passes over. -/
def trainCommitted (m : Byte) (lanes : List LaneReport) (s : State) : State :=
  endTraining m (modTlr (fun t => { t with committed := true }) (noteSkew (s.soundReports m lanes)
    (((s.soundReports m lanes).filter fun r => !(s.untrained m lanes).contains r.lane).foldl (fun s r => trainLane r s) s)))

/-- The state at the end of a training of a mask, before its result goes where it belongs. -/
def trainEnded (m : Byte) (lanes : List LaneReport) (s : State) : State :=
  trainNoted (failedLanes (fun s n => failLane n s) (s.untrained m lanes) (lateSleeves (s.soundReports m lanes)) (trainCommitted m lanes s))

/-- The sleeves that a training of a mask loses. -/
def trainLost (m : Byte) (lanes : List LaneReport) (s : State) : Byte :=
  (trainEnded m lanes s).lostSleeves m (lateSleeves (s.soundReports m lanes))

theorem trainEnded_done (m : Byte) (lanes : List LaneReport) (s : State) :
    (trainEnded m lanes s).tlr.committed = true ∧ Raised C.TLR.TRAIN_DONE (trainEnded m lanes s) := by
  have failed := mends_failedLanes (fun s n => mends_failLane n s) (s.untrained m lanes) (lateSleeves (s.soundReports m lanes))
    (trainCommitted m lanes s)
  exact ⟨(failed.trans (mends_trainNoted _)).lanes.committed.trans rfl, raised_trainNoted _⟩

/-- The sleeves that a training is of. -/
def State.endMask (s : State) : Byte :=
  if s.tlr.mode != .training then s.tlr.leftOut else if s.pcm.st == .waking then s.pcm.wakeTarget else s.trainMask

/-- What a training leaves, by what it was for: sleeves of a restore join, a wake goes on, or the block's TRAIN_DONE goes. -/
def trainingOver (lanes : List LaneReport) (s : State) : State :=
  let m := s.endMask
  if (if s.tlr.mode != .training then s.tlr.leftOut == 0 else !(s.pcm.st == .waking) && s.boot.peerMask.isNone) then s
  else if s.tlr.mode != .training then addTrained (modTlr (fun t => { t with leftOut := trainLost m lanes s }) (trainEnded m lanes s))
  else if s.pcm.st == .waking then modTlr (fun t => { t with mode := .service }) (trainEnded m lanes s)
  else sendTrainDone (m &&& ~~~trainLost m lanes s) (trainEnded m lanes s)

theorem exec_trainingDone (lanes : List LaneReport) (s : State) :
    exec (.trainingDone lanes) s = whenFunctional s (trainingOver lanes) := rfl

section
variable {lanes : List LaneReport} {s : State}

theorem runs_trainingDone_service (hf : s.functional = true) (mode : s.tlr.mode = .training) (service : s.pcm.st ≠ .waking)
    (peer : s.boot.peerMask.isSome = true) : Runs (.trainingDone lanes) s fun t =>
      t.tlr.committed = true ∧ Raised C.TLR.TRAIN_DONE t ∧
        ∃ (m : Byte) (n : Byte), t.boot.ownUsable = some m ∧ m &&& ~~~s.trainMask = 0 ∧ Emit.sleeper 0x21 n [m.setWidth 32] ∈ t.out := by
  have none : s.boot.peerMask.isNone = false := by rw [← Option.not_isSome, peer]; rfl
  have result : trainingOver lanes s =
      sendTrainDone (s.trainMask &&& ~~~trainLost s.trainMask lanes s) (trainEnded s.trainMask lanes s) := by
    simp [trainingOver, State.endMask, mode, service, none]
  obtain ⟨committed, raised⟩ := trainEnded_done s.trainMask lanes s
  obtain ⟨notes, tlr, own, n, sent⟩ :=
    sendTrainDone_sends (s.trainMask &&& ~~~trainLost s.trainMask lanes s) (trainEnded s.trainMask lanes s)
  refine runs_functional (exec_trainingDone lanes) hf result ⟨(congrArg Tlr.committed tlr).trans committed, ?_, _, n, own, ?_, sent⟩
  · exact raised_settle.mpr (notes.1 _ (by decide) raised)
  · exact and_within _ _

theorem runs_trainingDone_waking (hf : s.functional = true) (mode : s.tlr.mode = .training) (waking : s.pcm.st = .waking) :
    Runs (.trainingDone lanes) s fun t => t.tlr.mode = .service ∧ t.tlr.committed = true ∧ Raised C.TLR.TRAIN_DONE t := by
  have result : trainingOver lanes s =
      modTlr (fun t => { t with mode := .service }) (trainEnded s.pcm.wakeTarget lanes s) := by
    simp [trainingOver, State.endMask, mode, waking]
  obtain ⟨committed, raised⟩ := trainEnded_done s.pcm.wakeTarget lanes s
  exact runs_functional (exec_trainingDone lanes) hf result ⟨rfl, committed, raised⟩

theorem runs_trainingDone_alone (hf : s.functional = true) (mode : s.tlr.mode ≠ .training) (left : s.tlr.leftOut ≠ 0) :
    Runs (.trainingDone lanes) s fun t =>
      t.tlr.leftOut &&& ~~~s.tlr.leftOut = 0 ∧ t.tlr.committed = true ∧ Raised C.TLR.TRAIN_DONE t := by
  let u := modTlr (fun t => { t with leftOut := trainLost s.tlr.leftOut lanes s }) (trainEnded s.tlr.leftOut lanes s)
  have result : trainingOver lanes s = addTrained u := by
    have nonzero : (s.tlr.leftOut == 0) = false := by simpa using left
    rw [trainingOver, State.endMask, if_pos (show (s.tlr.mode != .training) = true by simpa using mode), nonzero]
    simp [mode, u]
  obtain ⟨committed, raised⟩ := trainEnded_done s.tlr.leftOut lanes s
  have joins := joins_addTrained u
  have tlr : (addTrained u).tlr = u.tlr := joins.frame .tlr (by decide)
  refine runs_functional (exec_trainingDone lanes) hf result ⟨?_, (congrArg Tlr.committed tlr).trans committed, ?_⟩
  · change (addTrained u).tlr.leftOut &&& _ = _
    rw [tlr]
    exact lostSleeves_within _ _ _
  · exact raised_settle.mpr (joins.notes.1 _ (by decide) raised)

end

/-! ## The verification of a restore (R132) -/

/-- A restore verified, before the block's TRAIN_DONE goes. -/
def restoreVerified (lanes : List LaneReport) (s : State) : State :=
  let ls := s.soundReports s.trainMask lanes
  let u := (s.unverified s.trainMask ls).foldl (fun s n => failRestored n s) (noteSkew ls s)
  (lateSleeves ls).foldl (fun s k => wantRetire k s)
    (wake .restore 0 [0] (raise C.TLR.RESTORE_DONE 0 (startTraining u.tlr.leftOut u)))

/-- The sleeves usable once a restore has been verified. -/
def restoreUsable (lanes : List LaneReport) (s : State) : Byte :=
  let u := restoreVerified lanes s
  s.trainMask &&& ~~~u.tlr.leftOut &&& ~~~(u.lostSleeves s.trainMask (lateSleeves (s.soundReports s.trainMask lanes)))

/-- What the end of a restore's verification leaves. -/
def restoreOver (lanes : List LaneReport) (s : State) : State :=
  if s.tlr.mode != .restoring || s.boot.peerMask.isNone then s
  else sendTrainDone (restoreUsable lanes s) (restoreVerified lanes s)

theorem raised_restoreVerified (lanes : List LaneReport) (s : State) : Raised C.TLR.RESTORE_DONE (restoreVerified lanes s) := by
  have woken (u : State) : Raised C.TLR.RESTORE_DONE (wake .restore 0 [0] (raise C.TLR.RESTORE_DONE 0 u)) :=
    (keeps_wake .restore 0 [0] _).notes.1 _ (by decide) (raised_raise_self (by decide) 0 u)
  exact (mends_foldl (fun s k => mends_wantRetire k s) _ _).keeps.notes.1 _ (by decide) (woken _)

theorem runs_restoreVerifyDone {lanes : List LaneReport} {s : State} (hf : s.functional = true) (mode : s.tlr.mode = .restoring)
    (peer : s.boot.peerMask.isSome = true) : Runs (.restoreVerifyDone lanes) s fun t =>
      Raised C.TLR.RESTORE_DONE t ∧
        ∃ (m : Byte) (n : Byte), t.boot.ownUsable = some m ∧ m &&& ~~~s.trainMask = 0 ∧ Emit.sleeper 0x21 n [m.setWidth 32] ∈ t.out := by
  have none : s.boot.peerMask.isNone = false := by rw [← Option.not_isSome, peer]; rfl
  have result : restoreOver lanes s = sendTrainDone (restoreUsable lanes s) (restoreVerified lanes s) := by simp [restoreOver, mode, none]
  obtain ⟨notes, -, own, n, sent⟩ := sendTrainDone_sends (restoreUsable lanes s) (restoreVerified lanes s)
  refine runs_functional (k := restoreOver lanes) (fun _ => rfl) hf result ⟨?_, _, n, own, ?_, sent⟩
  · exact raised_settle.mpr (notes.1 _ (by decide) (raised_restoreVerified lanes s))
  · rw [restoreUsable, BitVec.and_assoc s.trainMask]
    exact and_within _ _

/-! ## A retrain's share (R123, R157) -/

/-- The lanes of a retrain are centred. -/
def retrainCentred (lanes : List LaneReport) (s : State) : State :=
  let ls := s.soundReports s.seam.usable lanes
  noteSkew ls (ls.foldl (fun s r => centreLane r s) s)

/-- A lane does not pass the verification of a retrain (R88). -/
def failVerified (s : State) (n : LaneNo) : State := failLane n (raiseLane C.TLR.VERIFY_FAIL .down (slvOf n) (placeOf n) s)

/-- The state in which a retrain's share ends, before LINK_READY goes. -/
def retrainEnded (lanes : List LaneReport) (s : State) : State :=
  let ls := s.soundReports s.seam.usable lanes
  trainNoted (failedLanes failVerified (s.unverified s.seam.usable ls) (lateSleeves ls) (retrainCentred lanes s))

/-- What the end of a retrain's tailoring leaves, with LINK_READY to the station (R157). -/
def retrainOver (lanes : List LaneReport) (s : State) : State :=
  match s.lnk.retraining with
  | none => s
  | some r =>
    if r.tailored then s
    else sendSlp 0x29 [0, 0] (modLnk (fun l => { l with retraining := some { r with tailored := true } }) (retrainEnded lanes s))

theorem exec_retrainTailoringDone (lanes : List LaneReport) (s : State) :
    exec (.retrainTailoringDone lanes) s = whenFunctional s (retrainOver lanes) := rfl

theorem mends_failVerified (s : State) (n : LaneNo) : Mends s (failVerified s n) :=
  (mends_raiseLane (by decide) _ _ _ s).trans (mends_failLane n _)

theorem retired_mends {s t : State} (h : Mends s t) : t.seam.retired = s.seam.retired := h.keeps.seam .retired (by decide)

theorem failVerified_fails {n : LaneNo} {s : State} (kept : s.seam.retired.getLsbD (slvOf n).toNat = false) :
    ((failVerified s n).slv .down (slvOf n)).failed.getLsbD (placeOf n) = true :=
  failLane_fails (by rwa [retired_mends (mends_raiseLane (by decide) _ _ _ s)])

/-- Every lane that failed its verification is marked, in a sleeve that is not retired. -/
theorem foldl_failVerified_fails {bad : List LaneNo} {n : LaneNo} (mem : n ∈ bad) {s : State}
    (kept : s.seam.retired.getLsbD (slvOf n).toNat = false) :
    ((bad.foldl failVerified s).slv .down (slvOf n)).failed.getLsbD (placeOf n) = true := by
  induction bad generalizing s with
  | nil => exact absurd mem (by simp)
  | cons x xs ih =>
    rcases List.mem_cons.mp mem with rfl | later
    · exact (mends_foldl mends_failVerified xs _).marks _ _ (failVerified_fails kept)
    · exact ih later (by rwa [retired_mends (mends_failVerified s x)])

/-- A skew measured touches its register alone (R76, R103). -/
theorem keeps_noteSkew (ls : List LaneReport) (s : State) : Keeps [] [.seam] [.skew] s (noteSkew ls s) := by
  refine keeps_foldl (fun s k => .ite (fun _ => .self _ _ _ s) fun _ => OnlySeam.keeps ?_ (onlyChanges_modSeam _ s)) _ s
  intro p hp
  cases p <;> simp_all [SeamPart.same, modSeam]

/-! ### Lanes centred (R123) -/

theorem onlyChanges_centreLane (r : LaneReport) (s : State) : OnlyChanges [.tlr] s (centreLane r s) := onlyChanges_modRx _ _ s

/-- A lane centred: its committed values with phase and thresholds from its report, but for a freeze (R123, R129). -/
theorem act_centreLane_same {r : LaneReport} {s : State} (ok : r.lane.toNat < 72) (free : s.freezing = false) :
    ((centreLane r s).rx r.lane).act = s.centrePhase r.hist (s.putThresholds r.hist (s.rx r.lane).act) := by
  simp only [centreLane, rx_modRx_same ok, free, Bool.false_eq_true, if_false]

theorem rx_centreLane_other {r : LaneReport} {n : LaneNo} (other : r.lane ≠ n) (s : State) : (centreLane r s).rx n = s.rx n :=
  rx_modRx_other other _ s

theorem freezing_centreLane (r : LaneReport) (s : State) : (centreLane r s).freezing = s.freezing := rfl

theorem rx_foldl_centreLane_other {ls : List LaneReport} {n : LaneNo} (none : ls.filter (·.lane == n) = []) (s : State) :
    (ls.foldl (fun s r => centreLane r s) s).rx n = s.rx n := by
  induction ls generalizing s with
  | nil => rfl
  | cons y ys ih =>
    have other : y.lane ≠ n := by simpa using List.filter_eq_nil_iff.mp none y List.mem_cons_self
    rw [List.filter_cons_of_neg (by simpa using other)] at none
    exact (ih none _).trans (rx_centreLane_other other s)

/-- A lane with one report among those taken is centred once, by that report. -/
theorem act_foldl_centreLane {ls : List LaneReport} {x : LaneReport} (ok : x.lane.toNat < 72) (one : ls.filter (·.lane == x.lane) = [x])
    {s : State} (free : s.freezing = false) :
    ((ls.foldl (fun s r => centreLane r s) s).rx x.lane).act = s.centrePhase x.hist (s.putThresholds x.hist (s.rx x.lane).act) := by
  induction ls generalizing s with
  | nil => exact nomatch one
  | cons y ys ih =>
    rw [List.foldl_cons]
    by_cases same : y.lane = x.lane
    · rw [List.filter_cons_of_pos (by simpa using same)] at one
      obtain ⟨rfl, rest⟩ := List.cons.inj one
      rw [rx_foldl_centreLane_other rest]
      exact act_centreLane_same ok free
    · rw [List.filter_cons_of_neg (by simpa using same)] at one
      rw [ih one ((freezing_centreLane y s).trans free), rx_centreLane_other same]
      rfl

/-- The reports of sound lanes are of lanes that exist. -/
theorem lane_of_soundReports {m : Byte} {lanes : List LaneReport} {x : LaneReport} {s : State} (h : x ∈ s.soundReports m lanes) :
    x.lane.toNat < 72 := by
  simp only [State.soundReports, reportsOf, List.mem_filter, Bool.and_eq_true, decide_eq_true_eq] at h
  exact h.1.2.1

/-- A lane's only report is its only one among those of sound lanes. -/
theorem soundReports_one {m : Byte} {lanes : List LaneReport} {x : LaneReport} {s : State} (mem : x ∈ s.soundReports m lanes)
    (one : lanes.filter (·.lane == x.lane) = [x]) : (s.soundReports m lanes).filter (·.lane == x.lane) = [x] := by
  have sub : ((s.soundReports m lanes).filter (·.lane == x.lane)).Sublist [x] := by
    rw [← one]
    exact ((List.filter_sublist).trans List.filter_sublist).filter _
  rcases List.sublist_singleton.mp sub with none | single
  · exact absurd (beq_self_eq_true x.lane) (List.filter_eq_nil_iff.mp none x mem)
  · exact single

/-- A sound lane without a report does not pass the verification. -/
theorem mem_unverified {m : Byte} {lanes : List LaneReport} {n : LaneNo} {s : State} (sound : n ∈ s.soundLanes m)
    (none : ∀ x ∈ lanes, x.lane ≠ n) : n ∈ s.unverified m (s.soundReports m lanes) := by
  refine List.mem_filter.mpr ⟨sound, ?_⟩
  rw [Bool.not_eq_true', List.any_eq_false]
  intro x mem
  have given : x ∈ lanes := List.mem_of_mem_filter (List.mem_of_mem_filter mem)
  simp [none x given]

theorem mends_retrainEnded (lanes : List LaneReport) (s : State) : Mends (retrainCentred lanes s) (retrainEnded lanes s) :=
  (mends_failedLanes mends_failVerified _ _ _).trans (mends_trainNoted _)

section
variable {lanes : List LaneReport} {s : State}

/-- A lane that does not pass a retrain's verification is marked at its end, in a sleeve that is not retired. -/
theorem retrainEnded_fails {n : LaneNo} (bad : n ∈ s.unverified s.seam.usable (s.soundReports s.seam.usable lanes))
    (kept : s.seam.retired.getLsbD (slvOf n).toNat = false) :
    ((retrainEnded lanes s).slv .down (slvOf n)).failed.getLsbD (placeOf n) = true := by
  have centred := onlyChanges_foldl (fun s r => onlyChanges_centreLane r s) (s.soundReports s.seam.usable lanes) s
  have retired : (retrainCentred lanes s).seam.retired = s.seam.retired :=
    ((keeps_noteSkew _ _).seam .retired (by decide)).trans (congrArg Seam.retired (centred .seam (by decide)))
  exact ((mends_foldl (fun s k => mends_wantRetire k s) _ _).trans (mends_trainNoted _)).marks _ _
    (foldl_failVerified_fails bad (by rwa [retired]))

/-- A sound lane with one report has its committed values centred at the end of a retrain. -/
theorem retrainEnded_centred {x : LaneReport} (mem : x ∈ s.soundReports s.seam.usable lanes) (free : s.freezing = false)
    (one : lanes.filter (·.lane == x.lane) = [x]) :
    ((retrainEnded lanes s).rx x.lane).act = s.centrePhase x.hist (s.putThresholds x.hist (s.rx x.lane).act) := by
  rw [(mends_retrainEnded lanes s).lanes.act, retrainCentred, (keeps_noteSkew _ _).frame.rx (by decide)]
  exact act_foldl_centreLane (lane_of_soundReports mem) (soundReports_one mem one) free

theorem runs_retrainTailoringDone {r : Retrain} (hf : s.functional = true) (runs : s.lnk.retraining = some r) (fresh : r.tailored = false) :
    Runs (.retrainTailoringDone lanes) s fun t =>
      t.lnk.retraining = some { r with tailored := true } ∧ Raised C.TLR.TRAIN_DONE t ∧ (∃ n : Byte, Emit.sleeper 0x29 n [0, 0] ∈ t.out) ∧
        (∀ lane ∈ s.soundLanes s.seam.usable, s.seam.retired.getLsbD (slvOf lane).toNat = false → (∀ x ∈ lanes, x.lane ≠ lane) →
          (t.slv .down (slvOf lane)).failed.getLsbD (placeOf lane) = true) ∧
        (∀ x ∈ s.soundReports s.seam.usable lanes, s.freezing = false → lanes.filter (·.lane == x.lane) = [x] →
          (t.rx x.lane).act = s.centrePhase x.hist (s.putThresholds x.hist (s.rx x.lane).act)) := by
  have result : retrainOver lanes s =
      sendSlp 0x29 [0, 0] (modLnk (fun l => { l with retraining := some { r with tailored := true } }) (retrainEnded lanes s)) := by
    simp only [retrainOver, runs, fresh, Bool.false_eq_true, if_false]
  have raised : Raised C.TLR.TRAIN_DONE (retrainEnded lanes s) := raised_trainNoted _
  have fails {n : LaneNo} := retrainEnded_fails (lanes := lanes) (s := s) (n := n)
  have centred {x : LaneReport} := retrainEnded_centred (lanes := lanes) (s := s) (x := x)
  generalize retrainEnded lanes s = u at result raised fails centred
  refine runs_functional (exec_retrainTailoringDone lanes) hf result ⟨rfl, raised, ?_, ?_, ?_⟩
  · exact sent_settle (mem_queue_sendSlp 0x29 _ _)
  · exact fun lane sound kept none => fails (mem_unverified sound none) kept
  · exact fun x mem free one => centred mem free one

end

/-- Settles O37: each end runs to the state with its event raised and its message to the station sent, and a retrain's lanes are centred
or fail. -/
theorem trainingEnds : Obligations.TrainingEnds :=
  ⟨fun _ _ hf mode service peer => runs_trainingDone_service hf mode service peer,
    fun _ _ hf mode waking => runs_trainingDone_waking hf mode waking,
    fun _ _ hf mode left => runs_trainingDone_alone hf mode left,
    fun _ _ hf mode peer => runs_restoreVerifyDone hf mode peer,
    fun _ _ _ hf runs fresh => runs_retrainTailoringDone hf runs fresh⟩

end Sys2Proof.Machine
end

section
/-!
SUPPORT. What operations leave of the link layer: all of it but the outbound queues, which take packets only while the link holds
traffic (R160, R161).
-/
namespace Sys2Proof.Machine

/-- Nothing of the link layer changes but its outbound queues, and these only while the link holds traffic for the seam. -/
structure Queues (s t : State) : Prop where
  rest : ∃ q h, t.lnk = { s.lnk with outq := q, heldFrom := h }
  closed : s.linkOpen = false → t.lnk.outq = s.lnk.outq

section
variable {s t u : State}

theorem Queues.of_eq (h : t.lnk = s.lnk) : Queues s t := ⟨⟨s.lnk.outq, s.lnk.heldFrom, h⟩, fun _ => congrArg Lnk.outq h⟩

theorem Queues.refl (s : State) : Queues s s := .of_eq rfl

theorem Queues.linkOpen (h : Queues s t) : t.linkOpen = s.linkOpen := by
  obtain ⟨q, f, e⟩ := h.rest
  simp only [State.linkOpen, e]

theorem Queues.trans (h : Queues s t) (k : Queues t u) : Queues s u := by
  refine ⟨?_, fun shut => (k.closed (h.linkOpen.trans shut)).trans (h.closed shut)⟩
  obtain ⟨_, _, e⟩ := h.rest
  obtain ⟨q, f, e'⟩ := k.rest
  exact ⟨q, f, by rw [e', e]⟩

/-- A change away from the link layer comes first. -/
theorem Queues.after (k : Queues t u) (h : t.lnk = s.lnk) : Queues s u := (Queues.of_eq h).trans k

/-- What is no outbound queue is the same. -/
theorem Queues.same {α : Type} (h : Queues s t) (f : Lnk → α) (blind : ∀ l q m, f { l with outq := q, heldFrom := m } = f l) :
    f t.lnk = f s.lnk := by
  obtain ⟨q, m, e⟩ := h.rest
  rw [e, blind]

theorem Queues.ite {c : Prop} [Decidable c] (ht : c → Queues s t) (hu : ¬c → Queues s u) : Queues s (if c then t else u) := by
  split
  next h => exact ht h
  next h => exact hu h

theorem queues_foldl {α : Type} {f : State → α → State} (h : ∀ s x, Queues s (f s x)) (l : List α) (s : State) :
    Queues s (l.foldl f s) := by
  induction l generalizing s with
  | nil => exact Queues.refl s
  | cons x xs ih => exact (h s x).trans (ih (f s x))

theorem OnlyChanges.queues {ps : List Part} (h : OnlyChanges ps s t) (away : .lnk ∉ ps) : Queues s t := .of_eq (h .lnk away)

theorem Keeps.queues {as : List Nat} {ps : List Part} {qs : List SeamPart} (h : Keeps as ps qs s t) (away : .lnk ∉ ps) : Queues s t :=
  h.frame.queues away

theorem Repairs.queues (h : Repairs s t) : Queues s t := h.keeps.queues (by decide)

end

/-! ## Packets sent, and commands that complete -/

theorem queues_queuePacket (t : Nat) (bs : List Byte) (s : State) : Queues s (queuePacket t bs s) := by
  unfold queuePacket
  split
  next taken =>
    have holds : s.linkOpen = true := (Bool.and_eq_true_iff.mp taken).1
    exact ⟨⟨_, _, rfl⟩, fun shut => by simp [holds] at shut⟩
  next => exact Queues.refl s

theorem queues_sendT0 {dest : BitVec 14} {rtag : BitVec 16} {op : Byte} {data : List Byte} {s t : State}
    (h : sendT0 dest rtag op data s = some t) : Queues s t := by
  unfold sendT0 at h
  split at h
  · cases h
    exact queues_queuePacket _ _ s
  · cases h

theorem queues_trySendT0 (dest : BitVec 14) (rtag : BitVec 16) (op : Byte) (data : List Byte) (s : State) :
    Queues s (trySendT0 dest rtag op data s) := by
  unfold trySendT0
  cases h : sendT0 dest rtag op data s with
  | none => exact Queues.refl s
  | some t => exact queues_sendT0 h

theorem queues_raise (c : Cause) (d : BitVec 80) (s : State) : Queues s (raise c d s) := (onlyChanges_raise c d s).queues (by decide)

theorem queues_authFail (c : List Byte) (status : BitVec 16) (s : State) : Queues s (authFail c status s) :=
  .ite (fun _ => queues_raise _ _ s) fun _ => Queues.refl s

theorem queues_cplPush (t : BitVec 16) (s : State) : Queues s (cplPush t s) :=
  .ite (fun _ => .of_eq rfl) fun _ => queues_raise _ _ s

theorem queues_sendReply (c : Ctx) (s : State) : Queues s (sendReply c s) := by
  unfold sendReply
  extract_lets b
  split
  next sent => exact queues_sendT0 sent
  next => exact queues_raise _ _ s

theorem queues_vtx (v : Vtx) (s : State) : Queues s { s with vtx := v } := .of_eq rfl

theorem queues_dropWait (r : CmdRef) (s : State) : Queues s (dropWait r s) := .of_eq rfl

theorem queues_commitNow (s : State) : Queues s (commitNow s) := .of_eq rfl

theorem queues_completeNow (r : CmdRef) (status : BitVec 16) (data : List Byte) (s : State) :
    Queues s (completeNow r status data s) := by
  cases r with
  | tag t =>
    dsimp only [completeNow]
    split
    next sl _ =>
      refine .ite (fun _ => ?_) fun _ => Queues.refl s
      exact (((queues_vtx _ s).trans (queues_dropWait _ _)).trans ((queues_cplPush _ _).trans (queues_commitNow _))).trans
        ((queues_raise _ _ _).trans (queues_authFail _ _ _))
    next => exact Queues.refl s
  | context n =>
    dsimp only [completeNow]
    split
    next c _ =>
      refine .ite (fun _ => ?_) fun _ => Queues.refl s
      exact (((queues_vtx _ s).trans (queues_dropWait _ _)).trans (queues_commitNow _)).trans
        ((queues_sendReply _ _).trans (queues_authFail _ _ _))
    next => exact Queues.refl s

theorem queues_wake (w : Wait) (status : BitVec 16) (data : List Byte) (s : State) : Queues s (wake w status data s) :=
  queues_foldl (fun s (_ : CmdRef × Wait) => .ite (fun _ => queues_completeNow _ status data s) fun _ => Queues.refl s) _ s

/-! ## Width changes, passes and exchanges that end -/

theorem queues_setFld (f : Field) (v : Nat) (s : State) : Queues s (s.setFld f v) := .of_eq rfl

theorem queues_sleepEnds (status : BitVec 16) (s : State) : Queues s (sleepEnds status s) :=
  (queues_wake .sleep status [] _).after rfl

theorem queues_widthResult (r : Nat) (s : State) : Queues s (widthResult r s) := by
  rw [widthResult_eq]
  have told := ((keeps_resultNoted r s).queues (by decide)).trans (queues_wake .width (widthStatus r) (resultNoted r s).usableByte _)
  exact .ite (fun _ => (told.trans (queues_raise _ _ _)).trans (queues_sleepEnds _ _)) fun _ => told

theorem queues_wakeWidened (r : Nat) (s : State) : Queues s (wakeWidened r s) :=
  .ite (fun _ => (queues_setFld _ 0 s).trans (queues_wake _ _ _ _)) fun _ => Queues.refl s

theorem queues_finishWake (s : State) : Queues s (finishWake s) := by
  have raised : Queues s (raise C.PCM.WOKE 0 ((wokenUp s).setFld F.PCM_CTRL.WAKE 0)) := (queues_raise _ _ _).after rfl
  have told : Queues s (wakeTold (wokenUp s)) := raised.trans (queues_wake _ _ _ _)
  rw [finishWake_eq]
  exact (told.trans (repairs_repairAgain _).queues).trans (exOnly_nextEx _).repairs.queues

theorem queues_endWidth (r : Nat) (s : State) : Queues s (endWidth r s) := by
  cases h : s.seam.width with
  | none =>
    rw [endWidth_none h]
    exact Queues.refl s
  | some w =>
    rw [endWidth_some h]
    have gone : Queues s (widthGone r w s) := .of_eq rfl
    have result : Queues s (if w.mine then widthResult r (widthGone r w s) else widthGone r w s) :=
      .ite (fun _ => gone.trans (queues_widthResult r _)) fun _ => gone
    have told : Queues s (widthTold r w (widthGone r w s)) :=
      .ite (fun _ => result.trans (queues_wakeWidened r _)) fun _ => result
    exact told.trans (.ite (fun _ => queues_finishWake _) fun _ => Queues.refl _)

theorem queues_abandonPasses (s : State) : Queues s (abandonPasses s) :=
  queues_foldl (fun s k => (repairs_abandonPass k s).queues) _ s

/-! ## Entries that a flush completes -/

theorem queues_segDone (p : PortId) (n i : Nat) (status : Byte) (data : List Byte) (poison : Bool) (s : State) :
    Queues s (segDone p n i status data poison s) := by
  unfold segDone
  split
  · exact Queues.refl s
  · refine .ite (fun _ => Queues.refl s) fun _ => ?_
    extract_lets _ _ segs u
    have put : Queues s u := .of_eq rfl
    refine put.trans (.ite (fun _ => .ite (fun _ => Queues.refl u) fun _ => ?_) fun _ => ?_)
    · exact .ite (fun _ => .of_eq rfl) fun _ => (onlyChanges_failReq _ _ _ u).queues (by decide)
    · exact .ite (fun _ => (onlyChanges_endReq _ _ _ u).queues (by decide)) fun _ => Queues.refl u

theorem queues_noteFull (s : State) : Queues s (noteFull s) := (onlyChanges_noteFull s).queues (by decide)

theorem queues_modRec (slot : Nat) (f : DirRec → DirRec) (s : State) : Queues s (modRec slot f s) := .of_eq rfl

theorem queues_abandonMig (s : State) : Queues s (abandonMig s) := by
  unfold abandonMig
  refine .ite (fun _ => ?_) fun _ => Queues.refl s
  extract_lets dest base u v w
  clear_value dest
  have cleared : Queues s v := .of_eq rfl
  have told : Queues v w := by
    dsimp only [w]
    split
    · exact queues_trySendT0 _ _ _ _ v
    · exact Queues.refl v
  exact (cleared.trans told).trans (queues_raise _ 0 w)

theorem queues_endMig (s : State) : Queues s (endMig s) := by
  unfold endMig
  extract_lets m u v
  have full : Queues s u := (queues_noteFull _).after rfl
  have marked : Queues u v := .ite (fun _ => queues_modRec _ _ u) fun _ => Queues.refl u
  split
  · exact (full.trans marked).trans (.of_eq rfl)
  · extract_lets b w x
    have told : Queues v x := (queues_foldl (fun s d => queues_trySendT0 d 0 0x63 b s) _ v).trans (.of_eq rfl)
    exact ((full.trans marked).trans told).trans (.ite (fun _ => queues_raise _ _ x) fun _ => queues_raise _ 0 x)

theorem queues_readPages (r : DirRec) (n : Nat) (s : State) : Queues s (readPages r n s) := by
  induction n generalizing s with
  | zero => exact Queues.refl s
  | succ n ih =>
    unfold readPages
    split
    · exact Queues.refl s
    · refine .ite (fun _ => Queues.trans ?_ (ih _)) fun _ => Queues.refl s
      exact ((onlyChanges_addBreq _ _ _).queues (by decide)).after rfl

theorem queues_endRound (s : State) : Queues s (endRound s) := by
  refine .ite (fun _ => ?_) fun _ => .ite (fun _ => queues_abandonMig s) fun _ => .of_eq rfl
  exact .ite (fun _ => Queues.refl s) fun _ => (queues_noteFull _).after rfl

theorem queues_pumpMig (s : State) : Queues s (pumpMig s) := by
  unfold pumpMig
  split
  · exact Queues.refl s
  next r _ =>
    extract_lets quiet u v done
    have round : Queues s u := .ite (fun _ => queues_endRound s) fun _ => Queues.refl s
    have final : Queues u v := .ite (fun _ => .of_eq rfl) fun _ => Queues.refl u
    refine (round.trans final).trans (.ite (fun _ => ?_) fun _ => ?_)
    · exact (queues_endMig _).after rfl
    · exact .ite (fun _ => queues_readPages r _ v) fun _ => Queues.refl v

theorem queues_copyFail (page : Nat) (s : State) : Queues s (copyFail page s) :=
  .ite (fun _ => queues_abandonMig s) fun _ =>
    .ite (fun _ => (queues_pumpMig _).after rfl) fun _ => Queues.refl s

theorem queues_flushOne (tag : Nat) (s : State) : Queues s (flushOne tag s) := by
  unfold flushOne
  split
  next o _ =>
    refine .ite (fun _ => Queues.refl s) fun _ => ?_
    extract_lets u v
    have freed : Queues s v := ((onlyChanges_freeEntry tag u).queues (by decide)).after rfl
    split
    · exact freed.trans (queues_copyFail _ v)
    · exact freed.trans (.ite (fun _ => Queues.refl v) fun _ => queues_segDone _ _ _ _ _ _ v)
  next => exact Queues.refl s

end Sys2Proof.Machine
end

section
/-!
SUPPORT. What retrains, the link down and its flush leave of the link layer, and how each of them ends (R88, R141, R156 to R161).
-/
namespace Sys2Proof.Machine

/-! ## A link layer but for its outbound queues -/

/-- A state's link layer is `l` but for the outbound queues. -/
def HasLink (l : Lnk) (s : State) : Prop := ∃ q h, s.lnk = { l with outq := q, heldFrom := h }

section
variable {l : Lnk} {s t : State}

theorem HasLink.refl (s : State) : HasLink s.lnk s := ⟨s.lnk.outq, s.lnk.heldFrom, rfl⟩

theorem HasLink.queues (h : HasLink l s) (k : Queues s t) : HasLink l t := by
  obtain ⟨_, _, e⟩ := h
  obtain ⟨q, m, e'⟩ := k.rest
  exact ⟨q, m, by rw [e', e]⟩

/-- A change of the link layer that neither reads nor writes the outbound queues. -/
theorem HasLink.mod {f : Lnk → Lnk} (h : HasLink l s)
    (blind : ∀ l q m, f { l with outq := q, heldFrom := m } = { f l with outq := q, heldFrom := m }) :
    HasLink (f l) (modLnk f s) := by
  obtain ⟨q, m, e⟩ := h
  exact ⟨q, m, by rw [← blind, ← e]; rfl⟩

/-- What is no outbound queue is that of the link layer named. -/
theorem HasLink.same {α : Type} (h : HasLink l s) (f : Lnk → α) (blind : ∀ l q m, f { l with outq := q, heldFrom := m } = f l) :
    f s.lnk = f l := by
  obtain ⟨q, m, e⟩ := h
  rw [e, blind]

theorem HasLink.st (h : HasLink l s) : s.lnk.st = l.st := h.same Lnk.st fun _ _ _ => rfl

theorem HasLink.retraining (h : HasLink l s) : s.lnk.retraining = l.retraining := h.same Lnk.retraining fun _ _ _ => rfl

theorem HasLink.retrainFails (h : HasLink l s) : s.lnk.retrainFails = l.retrainFails := h.same Lnk.retrainFails fun _ _ _ => rfl

theorem HasLink.retrainDue (h : HasLink l s) : s.lnk.retrainDue = l.retrainDue := h.same Lnk.retrainDue fun _ _ _ => rfl

theorem HasLink.downCause (h : HasLink l s) : s.lnk.downCause = l.downCause := h.same Lnk.downCause fun _ _ _ => rfl

theorem HasLink.downAt (h : HasLink l s) : s.lnk.downAt = l.downAt := h.same Lnk.downAt fun _ _ _ => rfl

theorem HasLink.siding (h : HasLink l s) : s.lnk.siding = l.siding := h.same Lnk.siding fun _ _ _ => rfl

theorem HasLink.graceFrom (h : HasLink l s) : s.lnk.graceFrom = l.graceFrom := h.same Lnk.graceFrom fun _ _ _ => rfl

theorem HasLink.ctlDue (h : HasLink l s) : s.lnk.ctlDue = l.ctlDue := h.same Lnk.ctlDue fun _ _ _ => rfl

end

section
variable {s t u : State}

/-- A flag raised before the link's larger operations stays. -/
theorem Links.raised {c : Cause} (h : Links s t) (hc : c ∈ causes) (r : Raised c s) : Raised c t := h.keeps.notes.1 c hc r

theorem Links.now (h : Links s t) : t.now = s.now := congrArg Rwt.now (h.keeps.frame .rwt (by decide))

theorem lnk_grace_plain : R.LNK_GRACE ∉ causeRegs := by decide +kernel

theorem Links.graceUs (h : Links s t) : t.graceUs = s.graceUs := by
  rw [State.graceUs, State.graceUs, h.keeps.notes.fld lnk_grace_plain (by decide)]

end

/-! ## Flits due again (R141) -/

/-- The siding with the flits that meet a test due to be sent again. -/
def dueAgain (p : SideFlit → Bool) (l : List SideFlit) : List SideFlit := mapIf p (fun f => { f with again := true }) l

/-- Where every flit that meets the test is due already, the siding stays. -/
theorem dueAgain_of_all {p : SideFlit → Bool} {l : List SideFlit} (h : l.all (fun f => !p f || f.again) = true) : dueAgain p l = l := by
  unfold dueAgain mapIf
  conv_rhs => rw [← List.map_id l]
  refine List.map_congr_left fun f mem => ?_
  have due := List.all_eq_true.mp h f mem
  split
  next hit =>
    have again : f.again = true := by simpa [hit] using due
    exact congrArg (fun b => { f with again := b }) again.symm
  next => rfl

section
variable (p : SideFlit → Bool) (s : State)

/-- Either every flit that meets the test is due already, or they become due with REPLAY. -/
theorem resend_cases : resend p s = s ∧ dueAgain p s.lnk.siding = s.lnk.siding ∨
    resend p s = raise C.LNK.REPLAY (detLink 0 s) (modLnk (fun l => { l with siding := dueAgain p l.siding }) s) := by
  unfold resend
  split
  next h => exact .inl ⟨rfl, dueAgain_of_all h⟩
  next => exact .inr rfl

theorem lnk_resend : (resend p s).lnk = { s.lnk with siding := dueAgain p s.lnk.siding } := by
  rcases resend_cases p s with ⟨e, same⟩ | e
  · rw [e, same]
  · rw [e]
    exact onlyChanges_raise _ _ _ .lnk (by decide)

theorem onlyChanges_modLnk (f : Lnk → Lnk) (s : State) : OnlyChanges [.lnk] s (modLnk f s) := onlyChanges_lnk _ s

theorem onlyChanges_resend : OnlyChanges [.lnk, .regs, .flt] s (resend p s) := by
  rcases resend_cases p s with ⟨e, -⟩ | e <;> rw [e]
  · exact (OnlyChanges.refl s).mono (by decide)
  · exact ((onlyChanges_modLnk _ s).trans (onlyChanges_raise _ _ _)).mono (by decide)

theorem regsBut_resend : RegsBut C.LNK.REPLAY.regs s (resend p s) := by
  rcases resend_cases p s with ⟨e, -⟩ | e <;> rw [e]
  · exact fun _ _ => rfl
  · exact regsBut_raise C.LNK.REPLAY (detLink 0 s) (modLnk (fun l => { l with siding := dueAgain p l.siding }) s)

/-- Where one flit that meets the test was not due, REPLAY is raised (R141). -/
theorem raised_resend {p : SideFlit → Bool} {s : State} {f : SideFlit} (mem : f ∈ s.lnk.siding) (hit : p f = true)
    (new : f.again = false) : Raised C.LNK.REPLAY (resend p s) := by
  have fresh : ¬(s.lnk.siding.all fun f => !p f || f.again) = true := by
    intro all
    have := List.all_eq_true.mp all f mem
    simp [hit, new] at this
  rw [resend, if_neg fresh]
  exact raised_raise_self (by decide) _ _

theorem notes_resend : Notes [] s (resend p s) := by
  rcases resend_cases p s with ⟨e, -⟩ | e <;> rw [e]
  · exact Notes.refl s
  · exact ((onlyChanges_modLnk _ s).notes (by decide) (by decide)).trans (notes_raise (by decide) _ _)

end

/-! ## A retrain begins, and is lost (R157) -/

/-- The link layer in a retrain that has begun. -/
def Lnk.retrained (l : Lnk) (send : Bool) (r : Retrain) : Lnk := { l with
  st := if l.st == .grace then .grace else .retrain, retrains := if l.retrains = 0xFFFF then 0xFFFF else l.retrains + 1,
  retraining := some r, retrainDue := send }

theorem hasLink_retrainLost (s : State) : HasLink { s.lnk with retraining := none } (retrainLost s) := by
  unfold retrainLost
  split
  · exact HasLink.queues ⟨s.lnk.outq, s.lnk.heldFrom, rfl⟩ (queues_wake .retrain 0x0256 [] (modLnk _ s))
  next idle =>
    have gone : s.lnk.retraining = none := Option.not_isSome_iff_eq_none.mp idle
    exact ⟨s.lnk.outq, s.lnk.heldFrom, by rw [← gone]⟩

/-- A retrain begins with RETRAIN and its tailoring, and of the link layer it changes the retrain's own fields alone. -/
theorem beginRetrain_begins (send : Bool) (s : State) :
    (∃ r, HasLink (s.lnk.retrained send r) (beginRetrain send s)) ∧ Raised C.LNK.RETRAIN (beginRetrain send s) ∧
      (beginRetrain send s).tlr.mode = .retrain := by
  unfold beginRetrain
  extract_lets u v w r x y
  have link : HasLink s.lnk w :=
    (HasLink.refl s).queues (((queues_abandonPasses s).trans (queues_endWidth 5 _)).trans (.of_eq rfl))
  have begun : HasLink (s.lnk.retrained send r) x := link.mod fun _ _ _ => rfl
  have sent : OnlyChanges [.slp] y (if send = true then sendSlp 0x28 [] y else y) :=
    .ite (fun _ => onlyChanges_sendSlp 0x28 [] y) fun _ => (OnlyChanges.refl y).mono (by decide)
  refine ⟨⟨r, (begun.queues (queues_raise _ _ x)).queues (sent.queues (by decide))⟩, ?_, ?_⟩
  · exact (sent.notes (by decide) (by decide)).1 _ (by decide) (raised_raise_self (by decide) _ x)
  · exact (sent.mode (by decide)).trans (((onlyChanges_raise _ _ x).mode (by decide)).trans rfl)

/-- What a retrain that begins leaves to see: its state, its record, and what it owes the peer (R157). -/
structure Retrains (send : Bool) (s t : State) : Prop where
  st : t.lnk.st = if s.lnk.st == .grace then .grace else .retrain
  runs : t.lnk.retraining.isSome = true
  due : t.lnk.retrainDue = send
  fails : t.lnk.retrainFails = s.lnk.retrainFails
  downCause : t.lnk.downCause = s.lnk.downCause
  downAt : t.lnk.downAt = s.lnk.downAt
  graceFrom : t.lnk.graceFrom = s.lnk.graceFrom
  raised : Raised C.LNK.RETRAIN t
  mode : t.tlr.mode = .retrain

theorem retrains_beginRetrain (send : Bool) (s : State) : Retrains send s (beginRetrain send s) := by
  obtain ⟨⟨r, link⟩, raised, mode⟩ := beginRetrain_begins send s
  exact ⟨link.st, by rw [link.retraining]; rfl, link.retrainDue, link.retrainFails, link.downCause, link.downAt, link.graceFrom,
    raised, mode⟩

/-- While the link is up a retrain that is asked for begins (R156). -/
theorem startRetrain_up {send : Bool} {s : State} (up : s.lnk.st = .up) (free : s.lnk.retraining = none) :
    startRetrain send s = beginRetrain send s := if_pos (by rw [up, free]; rfl)

theorem startRetrain_not_up {send : Bool} {s : State} (down : s.lnk.st ≠ .up) : startRetrain send s = s := if_neg (by simp [down])

/-! ## The flush (R161) -/

/-- Of the link `l` nothing is left to send, and it takes no packet any more (R161). -/
structure Emptied (l : Lnk) (t : State) : Prop where
  st : t.lnk.st = .flushed
  siding : t.lnk.siding = []
  outq : t.lnk.outq = Vector.replicate 6 []
  fails : t.lnk.retrainFails = l.retrainFails
  downCause : t.lnk.downCause = l.downCause

/-- What a flush has emptied stays empty, for the link takes no packet from then on. -/
theorem Emptied.queues {l : Lnk} {s t : State} (h : Emptied l s) (k : Queues s t) : Emptied l t where
  st := (k.same Lnk.st fun _ _ _ => rfl).trans h.st
  siding := (k.same Lnk.siding fun _ _ _ => rfl).trans h.siding
  outq := (k.closed (by rw [State.linkOpen, h.st]; rfl)).trans h.outq
  fails := (k.same Lnk.retrainFails fun _ _ _ => rfl).trans h.fails
  downCause := (k.same Lnk.downCause fun _ _ _ => rfl).trans h.downCause

theorem emptied_discardLink (s : State) : Emptied s.lnk (discardLink (retrainLost s)) :=
  ⟨rfl, rfl, rfl, (hasLink_retrainLost s).retrainFails, (hasLink_retrainLost s).downCause⟩

theorem emptied_flushEntries {l : Lnk} {s : State} (h : Emptied l s) : Emptied l (flushEntries s) := by
  unfold flushEntries
  extract_lets tags u
  have left : Emptied l u := h.queues (queues_foldl (fun s t => queues_flushOne t s) tags s)
  exact ⟨left.st, left.siding, left.outq, left.fails, left.downCause⟩

theorem queues_stopAtPath {reason : BitVec 4} (other : reason ≠ 1) (s : State) : Queues s (stopAtPath reason s) := by
  have no : ¬(s.ttb.st == .startArmed && reason == 1) = true := by
    rw [beq_eq_false_iff_ne.mpr other, Bool.and_false]
    decide
  rw [stopAtPath, askStop, if_neg no]
  exact .ite (fun _ => .of_eq rfl) fun _ => Queues.refl s

theorem queues_raiseAs (c : Cause) (cls cost : Byte) (d : BitVec 80) (s : State) : Queues s (raiseAs c cls cost d s) :=
  (onlyChanges_raiseAs c cls cost d s).queues (by decide)

theorem onlyChanges_raiseMulti (c : Cause) (others : List Cause) (cls cost : Byte) (d : BitVec 80) (s : State) :
    OnlyChanges [.regs, .flt] s (raiseMulti c others cls cost d s) :=
  (onlyChanges_foldl (fun s c => onlyChanges_setCause c s) (c :: others) s).trans (onlyChanges_pushOcc _ _)

theorem raised_raiseMulti_self {c : Cause} {others : List Cause} (hc : c ∈ causes) (ho : ∀ d ∈ others, d ∈ causes) (cls cost : Byte)
    (d : BitVec 80) (s : State) : Raised c (raiseMulti c others cls cost d s) := by
  obtain ⟨ne, lt⟩ := causes_sound c hc
  exact (keeps_setCauses ho (setCause c s)).notes.1 c hc (flag_setCause c s ne lt)

/-- The link with nothing left of it to send, its entries completed and the timetable asked to stop (R161, R212). -/
def linkGone (s : State) : State := stopAtPath 7 (flushEntries (discardLink (retrainLost s)))

theorem emptied_linkGone (s : State) : Emptied s.lnk (linkGone s) :=
  (emptied_flushEntries (emptied_discardLink s)).queues (queues_stopAtPath (by decide) _)

/-- A flush raises FLUSHED, alone or with other causes, and tells those who wait for it. -/
theorem flush_eq (s : State) : ∃ u, (Queues (linkGone s) u ∧ Raised C.LNK.FLUSHED u) ∧ ∃ data, flush s = wake .flush 0 data u := by
  unfold flush
  extract_lets running u n others v
  refine ⟨v, ?_, _, rfl⟩
  have known : ∀ d ∈ others, d ∈ causes := by
    intro d hd
    have one : d = C.MNF.LINK_FLUSH ∨ d = C.TTB.STOPPED := by
      simp only [others, List.mem_append] at hd
      rcases hd with hd | hd <;> split at hd <;> simp_all
    rcases one with rfl | rfl <;> decide
  dsimp only [v]
  split
  · exact ⟨queues_raiseAs _ _ _ _ u, raised_raiseAs_self (by decide) _ _ _ u⟩
  · exact ⟨(onlyChanges_raiseMulti _ others _ _ _ u).queues (by decide), raised_raiseMulti_self (by decide) known _ _ _ u⟩

/-- The link after its flush: nothing of it is left to send, and FLUSHED is raised (R161). -/
structure Flushed (s t : State) : Prop extends Emptied s.lnk t where
  raised : Raised C.LNK.FLUSHED t

theorem flushed_flush (s : State) : Flushed s (flush s) := by
  obtain ⟨u, ⟨told, raised⟩, data, e⟩ := flush_eq s
  rw [e]
  exact ⟨((emptied_linkGone s).queues told).queues (queues_wake .flush 0 data u), (links_wake .flush 0 data u).raised (by decide) raised⟩

/-! ## The link down (R159, R160) -/

/-- The link as it goes down, before its grace hold begins. -/
def linkLost (cause : Byte) (send : Bool) (s : State) : State :=
  let s := endWidth 5 (retrainLost s)
  let s := modSeam (fun m => { m with mine := none, want := [], ctlOut := [] }) s
  let s := modLnk (fun l => { l with st := .grace, downAt := s.now, downCause := cause, retrainDue := false, graceFrom := s.mark }) s
  let s := raise C.LNK.LINK_DOWN (detLink cause.toNat s) s
  if send then sendSlp 0x2A [cause.setWidth 32] s else s

theorem declareDown_eq {cause : Byte} {send : Bool} {s : State} (live : s.lnk.st = .up ∨ s.lnk.st = .retrain) :
    declareDown cause send s = if (linkLost cause send s).graceUs = 0 then flush (linkLost cause send s)
      else if (linkLost cause send s).slp.lock || !(linkLost cause send s).asleep then beginRetrain true (linkLost cause send s)
      else linkLost cause send s :=
  if_neg (by rcases live with e | e <;> simp [e])

/-- The link has gone down: LINK_DOWN with its cause, and a hold unless its grace period is none (R159, R160). -/
structure GoneDown (cause : Byte) (s t : State) : Prop where
  raised : Raised C.LNK.LINK_DOWN t
  downCause : t.lnk.downCause = cause
  fails : t.lnk.retrainFails = s.lnk.retrainFails
  held : s.graceUs ≠ 0 → t.lnk.st = .grace ∧ t.lnk.downAt = s.now
  gone : s.graceUs = 0 → t.lnk.st = .flushed

/-- What the link's loss itself leaves. -/
theorem linkLost_keeps (cause : Byte) (send : Bool) (s : State) :
    Links s (linkLost cause send s) ∧ Raised C.LNK.LINK_DOWN (linkLost cause send s) ∧
      ∃ m, HasLink { s.lnk with retraining := none, st := .grace, downAt := s.now, downCause := cause, retrainDue := false, graceFrom := m }
        (linkLost cause send s) := by
  unfold linkLost
  extract_lets u v w x
  have lost : Links s v := ((links_retrainLost s).trans (links_endWidth 5 _)).trans (links_exchangesLost u)
  have link : HasLink { s.lnk with retraining := none } v := (hasLink_retrainLost s).queues ((queues_endWidth 5 _).trans (.of_eq rfl))
  have down : HasLink { s.lnk with
      retraining := none, st := .grace, downAt := v.now, downCause := cause, retrainDue := false, graceFrom := v.mark } x :=
    (link.mod fun _ _ _ => rfl).queues (queues_raise _ _ w)
  have raised : Links s x := (lost.trans (links_lnk _ v)).trans (links_raise (by decide) _ w)
  have sent : OnlyChanges [.slp] x (if send = true then sendSlp 0x2A [cause.setWidth 32] x else x) :=
    .ite (fun _ => onlyChanges_sendSlp _ _ x) fun _ => (OnlyChanges.refl x).mono (by decide)
  refine ⟨raised.trans (.ite (fun _ => links_sendSlp _ _ x) fun _ => Links.refl x), ?_, v.mark, ?_⟩
  · exact (sent.notes (by decide) (by decide)).1 _ (by decide) (raised_raise_self (by decide) _ w)
  · rw [← lost.now]
    exact down.queues (sent.queues (by decide))

theorem goneDown_declareDown {cause : Byte} {send : Bool} {s : State} (live : s.lnk.st = .up ∨ s.lnk.st = .retrain) :
    GoneDown cause s (declareDown cause send s) := by
  obtain ⟨links, raised, m, link⟩ := linkLost_keeps cause send s
  have grace : s.graceUs = (linkLost cause send s).graceUs := links.graceUs.symm
  rw [declareDown_eq live]
  generalize linkLost cause send s = u at links raised link grace
  split
  next zero =>
    have flushed := flushed_flush u
    exact ⟨(links_flush u).raised (by decide) raised, flushed.downCause.trans link.downCause, flushed.fails.trans link.retrainFails,
      fun long => absurd (grace.trans zero) long, fun _ => flushed.st⟩
  next long =>
    have no : s.graceUs ≠ 0 := by rwa [grace]
    split
    · have begun := retrains_beginRetrain true u
      refine ⟨(links_beginRetrain true u).raised (by decide) raised, begun.downCause.trans link.downCause,
        begun.fails.trans link.retrainFails, fun _ => ⟨?_, begun.downAt.trans link.downAt⟩, fun zero => absurd zero no⟩
      rw [begun.st, link.st]
      rfl
    · exact ⟨raised, link.downCause, link.retrainFails, fun _ => ⟨link.st, link.downAt⟩, fun zero => absurd zero no⟩

/-! ## A retrain fails (R158, R162) -/

/-- A failed retrain counted, with RETRAIN_FAIL. -/
def retrainFailed (s : State) : State :=
  let s := modLnk (fun l => { l with retrainFails := s.lnk.retrainFails + 1 }) s
  retrainLost (raise C.LNK.RETRAIN_FAIL (detLink 0 s) s)

theorem retrainFailed_keeps (s : State) : Links s (retrainFailed s) ∧ Raised C.LNK.RETRAIN_FAIL (retrainFailed s) ∧
    HasLink { s.lnk with retrainFails := s.lnk.retrainFails + 1, retraining := none } (retrainFailed s) := by
  unfold retrainFailed
  extract_lets u
  have told := links_raise (c := C.LNK.RETRAIN_FAIL) (by decide) (detLink 0 u) u
  refine ⟨(links_lnk _ s).trans (told.trans (links_retrainLost _)), ?_, ?_⟩
  · exact (links_retrainLost _).raised (by decide) (raised_raise_self (by decide) _ u)
  · have same : (raise C.LNK.RETRAIN_FAIL (detLink 0 u) u).lnk = u.lnk := onlyChanges_raise _ _ _ .lnk (by decide)
    have lost := hasLink_retrainLost (raise C.LNK.RETRAIN_FAIL (detLink 0 u) u)
    rwa [same] at lost

theorem failRetrain_eq {s : State} {r : Retrain} (runs : s.lnk.retraining = some r) :
    failRetrain s = if (retrainFailed s).lnk.st == .grace then retrainFailed s
      else if s.lnk.retrainFails + 1 = 3 then declareDown 0x01 true (retrainFailed s)
      else if r.downAfter then declareDown 0x02 true (retrainFailed s) else beginRetrain true (retrainFailed s) := by
  rw [failRetrain, runs]
  rfl

section
variable {s : State} {r : Retrain}

/-- In a grace hold a retrain that fails is counted, and the hold goes on (R160). -/
theorem failRetrain_grace (runs : s.lnk.retraining = some r) (held : s.lnk.st = .grace) : failRetrain s = retrainFailed s := by
  obtain ⟨-, -, link⟩ := retrainFailed_keeps s
  rw [failRetrain_eq runs, if_pos (by rw [link.st, held]; rfl)]

/-- The third failure takes the link down (R158). -/
theorem failRetrain_third (runs : s.lnk.retraining = some r) (st : s.lnk.st = .retrain) (third : s.lnk.retrainFails = 2) :
    failRetrain s = declareDown 0x01 true (retrainFailed s) := by
  obtain ⟨-, -, link⟩ := retrainFailed_keeps s
  rw [failRetrain_eq runs, if_neg (by rw [link.st, st]; decide), if_pos (by rw [third])]

/-- Before that another retrain begins (R158). -/
theorem failRetrain_again (runs : s.lnk.retraining = some r) (st : s.lnk.st = .retrain) (few : s.lnk.retrainFails ≠ 2)
    (stays : r.downAfter = false) : failRetrain s = beginRetrain true (retrainFailed s) := by
  obtain ⟨-, -, link⟩ := retrainFailed_keeps s
  rw [failRetrain_eq runs, if_neg (by rw [link.st, st]; decide), if_neg (by omega), if_neg (by rw [stays]; decide)]

/-- A failure of a retrain is told and counted, whatever follows it. -/
theorem failRetrain_counts (runs : s.lnk.retraining = some r) (st : s.lnk.st = .retrain ∨ s.lnk.st = .grace) :
    Links s (failRetrain s) ∧ Raised C.LNK.RETRAIN_FAIL (failRetrain s) ∧ (failRetrain s).lnk.retrainFails = s.lnk.retrainFails + 1 := by
  obtain ⟨links, raised, link⟩ := retrainFailed_keeps s
  rw [failRetrain_eq runs]
  generalize retrainFailed s = u at links raised link
  have down (cause : Byte) (live : u.lnk.st = .retrain) : Links s (declareDown cause true u) ∧
      Raised C.LNK.RETRAIN_FAIL (declareDown cause true u) ∧ (declareDown cause true u).lnk.retrainFails = s.lnk.retrainFails + 1 :=
    ⟨links.trans (links_declareDown _ _ u), (links_declareDown _ _ u).raised (by decide) raised,
      (goneDown_declareDown (.inr live)).fails.trans link.retrainFails⟩
  split
  · exact ⟨links, raised, link.retrainFails⟩
  next other =>
    have live : u.lnk.st = .retrain := by
      rw [link.st] at other ⊢
      exact st.resolve_right (by simpa using other)
    split
    · exact down _ live
    · split
      · exact down _ live
      · exact ⟨links.trans (links_beginRetrain true u), (links_beginRetrain true u).raised (by decide) raised,
          (retrains_beginRetrain true u).fails.trans link.retrainFails⟩

end

/-! ## The link resumes (R88, R157, R160) -/

/-- The link layer as the link resumes: in service, its siding due again. -/
def Lnk.resumed (l : Lnk) (m : Mark) : Lnk :=
  let grace := l.st == .grace
  { l with
    st := .up, retraining := none, retrainFails := 0, gapFrom := m, replayFrom := m, rxCount := if grace then 0 else l.rxCount, ctlDue := true
    siding := l.siding.map fun f => { f with again := false, replays := if grace then 0 else f.replays } }

/-- The link in service again, before its siding is due again. -/
def linkBack (s : State) : State :=
  let s := modTlr (fun t => { t with mode := .service }) (modLnk (fun l => l.resumed s.mark) s)
  let s := (sleevesOf 0xFF).foldl (fun s k => endRolling .up k (endRolling .down k s)) s
  nextEx (repairAgain (wake .retrain 0 [] s))

theorem resumeLink_eq {s : State} {r : Retrain} (runs : s.lnk.retraining = some r) (used : s.seam.usable ≠ 0) (stays : r.downAfter = false) :
    resumeLink s = resend (fun _ => true) (linkBack s) := by
  rw [resumeLink, runs]
  refine (if_neg used).trans (if_neg ?_)
  rw [stays]
  decide

theorem linkBack_keeps (s : State) : HasLink (s.lnk.resumed s.mark) (linkBack s) ∧ (linkBack s).tlr.mode = .service ∧
    (linkBack s).seam.upSlot = s.seam.upSlot ∧ (linkBack s).seam.dnSlot = s.seam.dnSlot := by
  unfold linkBack
  extract_lets u v
  have rolled : Repairs u v := repairs_foldl (fun s k => (repairs_endRolling .down k s).trans (repairs_endRolling .up k _)) _ u
  have woken := keeps_wake .retrain 0 [] v
  have again : Repairs (wake .retrain 0 [] v) (nextEx (repairAgain (wake .retrain 0 [] v))) :=
    (repairs_repairAgain _).trans (exOnly_nextEx _).repairs
  have seam : Links u (nextEx (repairAgain (wake .retrain 0 [] v))) := (rolled.links.trans (links_wake _ _ _ v)).trans again.links
  refine ⟨?_, ?_, seam.keeps.seam .upSlot (by decide), seam.keeps.seam .dnSlot (by decide)⟩
  · exact HasLink.queues ⟨_, _, rfl⟩ ((rolled.queues.trans (queues_wake _ _ _ v)).trans again.queues)
  · exact ((again.mode.trans (woken.frame.mode (by decide))).trans rolled.mode).trans rfl

/-- The link that resumes is up, in service and with its whole siding due again (R157, R160). -/
theorem resumeLink_resumes {s : State} {r : Retrain} (runs : s.lnk.retraining = some r) (used : s.seam.usable ≠ 0)
    (stays : r.downAfter = false) :
    HasLink { s.lnk.resumed s.mark with
      siding := s.lnk.siding.map fun f => { f with again := true, replays := if s.lnk.st == .grace then 0 else f.replays } } (resumeLink s) ∧
      (resumeLink s).tlr.mode = .service ∧ (resumeLink s).seam.upSlot = s.seam.upSlot ∧ (resumeLink s).seam.dnSlot = s.seam.dnSlot := by
  obtain ⟨⟨q, h, link⟩, mode, up, dn⟩ := linkBack_keeps s
  have frame := onlyChanges_resend (fun _ => true) (linkBack s)
  have seam : (resend (fun _ => true) (linkBack s)).seam = (linkBack s).seam := frame .seam (by decide)
  rw [resumeLink_eq runs used stays, seam]
  refine ⟨⟨q, h, ?_⟩, (frame.mode (by decide)).trans mode, up, dn⟩
  rw [lnk_resend, link]
  simp [Lnk.resumed, dueAgain, mapIf, Function.comp_def]

end Sys2Proof.Machine
end

section
/-!
SUPPORT. The link's timers (R141 to R143, R145, R156, R159, R164).
-/
namespace Sys2Proof.Machine

section
variable {s t : State}

theorem OnlyChanges.mark {ps : List Part} (h : OnlyChanges ps s t) (rwt : .rwt ∉ ps) (ao : .aoCycles ∉ ps) : t.mark = s.mark := by
  have time : t.rwt = s.rwt := h .rwt rwt
  have cycles : t.aoCycles = s.aoCycles := h .aoCycles ao
  simp only [State.mark, State.now, State.ticks, time, cycles]

theorem lnk_lapse (m : Mark) (ns : Nat) (s : State) : (s.lapse m ns).lnk = s.lnk := onlyChanges_lapse m ns s .lnk (by decide)

end

/-! ## REPLAY_TIMER (R141 to R143) -/

/-- The flits that the replay timer makes due: all of the siding, or in selective mode its oldest. -/
def replayed (l : Lnk) (f x : SideFlit) : Bool := !l.selective || x.seq == f.seq

theorem replayed_goBack {l : Lnk} (mode : l.selective = false) (f : SideFlit) : replayed l f = fun _ => true :=
  funext fun x => by simp [replayed, mode]

theorem replayed_selective {l : Lnk} (mode : l.selective = true) (f : SideFlit) : replayed l f = fun x => x.seq == f.seq :=
  funext fun x => by simp [replayed, mode]

/-- The replay timer started again at its expiry. -/
def replayLapsed (s : State) : State :=
  modLnk (fun l => { l with replayFrom := (s.lapse s.lnk.replayFrom s.replayNs).mark }) (s.lapse s.lnk.replayFrom s.replayNs)

theorem lnk_replayLapsed (s : State) : (replayLapsed s).lnk = { s.lnk with replayFrom := (replayLapsed s).mark } := by
  have same := lnk_lapse s.lnk.replayFrom s.replayNs s
  change ({ (s.lapse s.lnk.replayFrom s.replayNs).lnk with replayFrom := _ } : Lnk) = _
  rw [same]
  rfl

theorem exec_replayTimer (s : State) : exec .replayTimer s = whenPlat s fun s =>
    if s.lnk.st != .up then s
    else match s.lnk.siding with
      | [] => s
      | f :: _ => if (replayLapsed s).lnk.selective then resend (fun x => x.seq == f.seq) (replayLapsed s)
          else resend (fun _ => true) (replayLapsed s) := rfl

theorem runs_replayTimer {f : SideFlit} {fs : List SideFlit} {s : State} (hl : s.platLive = true) (up : s.lnk.st = .up)
    (siding : s.lnk.siding = f :: fs) (hs : Settled s) : Runs .replayTimer s fun t =>
      t.lnk = { s.lnk with
        replayFrom := t.mark,
        siding := s.lnk.siding.map fun x => if s.lnk.selective = false ∨ x.seq = f.seq then { x with again := true } else x } ∧
      (f.again = false → Raised C.LNK.REPLAY t) ∧ (s.byAo = false → s.lnk.replayFrom.rail + s.replayNs ≤ t.now) ∧
      OnlyChanges [.lnk, .regs, .flt, .rwt, .aoCycles, .outs, .slp] s t ∧ RegsBut C.LNK.REPLAY.regs s t := by
  have link := lnk_replayLapsed s
  have result : (if s.lnk.st != .up then s
      else match s.lnk.siding with
        | [] => s
        | f :: _ => if (replayLapsed s).lnk.selective then resend (fun x => x.seq == f.seq) (replayLapsed s)
            else resend (fun _ => true) (replayLapsed s)) = resend (replayed s.lnk f) (replayLapsed s) := by
    rw [if_neg (by simp [up]), siding, link]
    cases mode : s.lnk.selective with
    | false => rw [replayed_goBack mode]; rfl
    | true => rw [replayed_selective mode]; rfl
  have lapsed : OnlyChanges [.lnk, .rwt, .aoCycles] s (replayLapsed s) :=
    ((onlyChanges_lapse _ _ s).trans (onlyChanges_modLnk _ _)).mono (by decide)
  have frame := onlyChanges_resend (replayed s.lnk f) (replayLapsed s)
  have mark : (resend (replayed s.lnk f) (replayLapsed s)).mark = (replayLapsed s).mark := frame.mark (by decide) (by decide)
  have after : (resend (replayed s.lnk f) (replayLapsed s)).lnk = { s.lnk with
      replayFrom := (resend (replayed s.lnk f) (replayLapsed s)).mark,
      siding := s.lnk.siding.map fun x => if s.lnk.selective = false ∨ x.seq = f.seq then { x with again := true } else x } := by
    rw [lnk_resend, mark, link]
    simp [dueAgain, mapIf, replayed]
  refine runs_plat exec_replayTimer hl result ⟨after, fun new => ?_, fun rail => ?_, ?_, ?_⟩
  · refine raised_settle.mpr (raised_resend (f := f) ?_ ?_ new)
    · rw [link]
      exact siding ▸ List.mem_cons_self
    · simp [replayed]
  · have now : (resend (replayed s.lnk f) (replayLapsed s)).now = (replayLapsed s).now := congrArg Mark.rail mark
    exact (le_now_lapse rail _ _).trans (Nat.le_of_eq now.symm)
  · exact (onlyChanges_settle_of (lapsed.trans frame) hs (by decide)).mono (by decide)
  · exact RegsBut.settle fun a other => (regsBut_resend _ _ a other).trans (reg_lapse _ _ s a)

theorem runs_replayTimer_empty {s : State} (hl : s.platLive = true) (up : s.lnk.st = .up) (siding : s.lnk.siding = [])
    (hs : Settled s) : Runs .replayTimer s fun t => t = s := by
  refine runs_plat exec_replayTimer hl (u := s) ?_ (settle_eq_self hs)
  rw [if_neg (by simp [up]), siding]

/-! ## ACK_TIMER and KEEPALIVE_TIMER (R145) -/

/-- A limit of a link control flit runs out, and one is due. -/
def ctlLapsed (m : Mark) (ns : Nat) (s : State) : State := modLnk (fun l => { l with ctlDue := true }) (s.lapse m ns)

theorem settle_ctlLapsed {s : State} (hs : Settled s) (m : Mark) (ns : Nat) :
    (settle (ctlLapsed m ns s)).lnk = { s.lnk with ctlDue := true } ∧
      (s.byAo = false → m.rail + ns ≤ (settle (ctlLapsed m ns s)).now) ∧
      OnlyChanges [.lnk, .rwt, .aoCycles, .outs, .slp] s (settle (ctlLapsed m ns s)) := by
  have frame : OnlyChanges [.lnk, .rwt, .aoCycles] s (ctlLapsed m ns s) :=
    ((onlyChanges_lapse m ns s).trans (onlyChanges_modLnk _ _)).mono (by decide)
  refine ⟨?_, fun rail => le_now_lapse rail m ns, (onlyChanges_settle_of frame hs (by decide)).mono (by decide)⟩
  change ({ (s.lapse m ns).lnk with ctlDue := true } : Lnk) = _
  rw [lnk_lapse]

theorem runs_ackTimer {s : State} (hl : s.platLive = true) (up : s.lnk.st = .up) (dirty : s.lnk.ackDirty = true) (hs : Settled s) :
    Runs .ackTimer s fun t => t.lnk = { s.lnk with ctlDue := true } ∧ (s.byAo = false → s.lnk.dirtyFrom.rail + s.ackMaxNs ≤ t.now) ∧
      OnlyChanges [.lnk, .rwt, .aoCycles, .outs, .slp] s t :=
  runs_plat (u := ctlLapsed s.lnk.dirtyFrom s.ackMaxNs s) (fun _ => rfl) hl (if_pos (by rw [up, dirty]; rfl)) (settle_ctlLapsed hs _ _)

theorem runs_keepaliveTimer {s : State} (hl : s.platLive = true) (up : s.lnk.st = .up) (hs : Settled s) :
    Runs .keepaliveTimer s fun t => t.lnk = { s.lnk with ctlDue := true } ∧ (s.byAo = false → s.lnk.ctlFrom.rail + s.keepaliveNs ≤ t.now) ∧
      OnlyChanges [.lnk, .rwt, .aoCycles, .outs, .slp] s t :=
  runs_plat (u := ctlLapsed s.lnk.ctlFrom s.keepaliveNs s) (fun _ => rfl) hl (if_pos (by rw [up]; rfl)) (settle_ctlLapsed hs _ _)

/-! ## RECEIVER_REPLAY_PERIOD (R156, R159) -/

/-- One period more in which the awaited flit has not been accepted. -/
def gapLapsed (s : State) : State :=
  modLnk (fun l => { l with rxCount := s.lnk.rxCount + 1, gapFrom := (s.lapse s.lnk.gapFrom s.replayNs).mark }) (s.lapse s.lnk.gapFrom s.replayNs)

theorem lnk_gapLapsed (s : State) : (gapLapsed s).lnk = { s.lnk with rxCount := s.lnk.rxCount + 1, gapFrom := (gapLapsed s).mark } := by
  have same := lnk_lapse s.lnk.gapFrom s.replayNs s
  change ({ (s.lapse s.lnk.gapFrom s.replayNs).lnk with rxCount := _, gapFrom := _ } : Lnk) = _
  rw [same]
  rfl

theorem exec_receiverReplayPeriod (s : State) : exec .receiverReplayPeriod s = whenPlat s fun s =>
    if s.lnk.st == .up && s.lnk.gap then replayLimits [s.lnk.rxCount + 1] (gapLapsed s) else s := rfl

section
variable {s : State} (hl : s.platLive = true) (up : s.lnk.st = .up) (gap : s.lnk.gap = true)
include hl up gap

/-- Each period counts against the limits of R156 and R159. -/
theorem runs_receiverReplayPeriod {u : State} {P : State → Prop} (limits : replayLimits [s.lnk.rxCount + 1] (gapLapsed s) = u)
    (goal : P (settle u)) : Runs .receiverReplayPeriod s P :=
  runs_plat exec_receiverReplayPeriod hl ((if_pos (by rw [up, gap]; rfl)).trans limits) goal

theorem runs_receiverReplayPeriod_counts (hs : Settled s) (few : retrainAt (s.lnk.rxCount + 1) = false) (last : s.lnk.rxCount ≠ 15) :
    Runs .receiverReplayPeriod s fun t =>
      t.lnk = { s.lnk with rxCount := s.lnk.rxCount + 1, gapFrom := t.mark } ∧
        (s.byAo = false → s.lnk.gapFrom.rail + s.replayNs ≤ t.now) ∧ OnlyChanges [.lnk, .rwt, .aoCycles, .outs, .slp] s t := by
  have same : replayLimits [s.lnk.rxCount + 1] (gapLapsed s) = gapLapsed s := by simp [replayLimits, few, last]
  have frame : OnlyChanges [.lnk, .rwt, .aoCycles] s (gapLapsed s) :=
    ((onlyChanges_lapse _ _ s).trans (onlyChanges_modLnk _ _)).mono (by decide)
  exact runs_receiverReplayPeriod hl up gap same ⟨lnk_gapLapsed s, fun rail => le_now_lapse rail _ _,
    (onlyChanges_settle_of frame hs (by decide)).mono (by decide)⟩

theorem runs_receiverReplayPeriod_retrains (fourth : retrainAt (s.lnk.rxCount + 1) = true) (free : s.lnk.retraining = none) :
    Runs .receiverReplayPeriod s fun t => t.lnk.st = .retrain ∧ Raised C.LNK.RETRAIN t := by
  have link := lnk_gapLapsed s
  have up' : (gapLapsed s).lnk.st = .up := by rw [link]; exact up
  have few : s.lnk.rxCount + 1 ≠ 16 := by
    intro e
    rw [e] at fourth
    exact absurd fourth (by decide)
  have begins : replayLimits [s.lnk.rxCount + 1] (gapLapsed s) = beginRetrain true (gapLapsed s) := by
    rw [replayLimits, if_neg (by simpa using few), if_pos (by simp [fourth])]
    exact startRetrain_up up' (by rw [link]; exact free)
  have begun := retrains_beginRetrain true (gapLapsed s)
  refine runs_receiverReplayPeriod hl up gap begins ⟨begun.st.trans ?_, raised_settle.mpr begun.raised⟩
  rw [up']
  rfl

theorem runs_receiverReplayPeriod_down (last : s.lnk.rxCount = 15) (free : s.lnk.retraining = none) :
    Runs .receiverReplayPeriod s fun t => t.lnk.downCause = 0x02 ∧ Raised C.LNK.LINK_DOWN t := by
  have link := lnk_gapLapsed s
  have falls : replayLimits [s.lnk.rxCount + 1] (gapLapsed s) = declareDown 0x02 true (gapLapsed s) := by
    rw [replayLimits, if_pos (by simp [last]), if_neg (by rw [link]; simp [free])]
  have down := goneDown_declareDown (cause := 0x02) (send := true) (s := gapLapsed s) (.inl (by rw [link]; exact up))
  exact runs_receiverReplayPeriod hl up gap falls ⟨down.downCause, raised_settle.mpr down.raised⟩

end

/-- Settles O41: each timer of the link has run out at its limit and does what its rule says, and the receiver's count meets its limits. -/
theorem linkTimers : Obligations.LinkTimers :=
  ⟨fun _ _ _ hl up siding hs => runs_replayTimer hl up siding hs,
    fun _ hl up siding hs => runs_replayTimer_empty hl up siding hs,
    fun _ hl up dirty hs => runs_ackTimer hl up dirty hs,
    fun _ hl up hs => runs_keepaliveTimer hl up hs,
    fun _ hl up gap hs few last => runs_receiverReplayPeriod_counts hl up gap hs few last,
    fun _ hl up gap fourth free => runs_receiverReplayPeriod_retrains hl up gap fourth free,
    fun _ hl up gap last free => runs_receiverReplayPeriod_down hl up gap last free⟩

end Sys2Proof.Machine
end

section
/-!
SUPPORT. Retrains as they are asked for, resume, fail and are tried again in a grace hold (R74, R88, R156 to R160, R412, R419).
-/
namespace Sys2Proof.Machine

/-! ## LNK_CTRL (R164) -/

/-- The state with REPLAY_MODE written. -/
def modeWritten (data : Word) (s : State) : State := s.setFld F.LNK_CTRL.REPLAY_MODE (b2n (bit data 0))

/-- What FLUSH_NOW does: a flush, in a grace hold. -/
def flushAsked (data : Word) (s : State) : State := if bit data 1 && s.lnk.st == .grace then flush s else s

/-- What RETRAIN does. -/
def retrainAsked (data : Word) (s : State) : State := if bit data 2 then startRetrain true s else s

/-- What RESTART does. -/
def restartAsked (data : Word) (s : State) : State :=
  if bit data 3 && s.canRestart then (if s.lnk.st == .flushed then negotiate true s else resumeStart s) else s

theorem lnkCtrlWrite_eq (data : Word) (s : State) :
    lnkCtrlWrite data s = restartAsked data (retrainAsked data (flushAsked data (modeWritten data s))) := rfl

section
variable {data : Word} {s : State}

theorem flushAsked_not_held (other : s.lnk.st ≠ .grace) : flushAsked data s = s := if_neg (by simp [other])

theorem retrainAsked_not_up (down : s.lnk.st ≠ .up) : retrainAsked data s = s := by
  unfold retrainAsked
  rw [startRetrain_not_up down, ite_self]

theorem restartAsked_not (stay : bit data 3 = false) : restartAsked data s = s := if_neg (by simp [stay])

theorem lnkCtrlWrite_retrain (ask : bit data 2 = true) (stay : bit data 3 = false) (up : s.lnk.st = .up) (free : s.lnk.retraining = none) :
    lnkCtrlWrite data s = beginRetrain true (modeWritten data s) := by
  have up' : (modeWritten data s).lnk.st = .up := up
  rw [lnkCtrlWrite_eq, restartAsked_not stay, flushAsked_not_held (by rw [up']; decide), retrainAsked, if_pos ask]
  exact startRetrain_up up' free

theorem lnkCtrlWrite_flush (ask : bit data 1 = true) (stay : bit data 3 = false) (held : s.lnk.st = .grace) :
    lnkCtrlWrite data s = flush (modeWritten data s) := by
  have held' : (modeWritten data s).lnk.st = .grace := held
  have flushes : flushAsked data (modeWritten data s) = flush (modeWritten data s) := if_pos (by rw [ask, held']; rfl)
  rw [lnkCtrlWrite_eq, restartAsked_not stay, flushes]
  exact retrainAsked_not_up (by rw [(flushed_flush _).st]; decide)

theorem lnkCtrlWrite_restart (ask : bit data 3 = true) (gone : s.lnk.st = .flushed) :
    lnkCtrlWrite data s = negotiate true (modeWritten data s) := by
  have gone' : (modeWritten data s).lnk.st = .flushed := gone
  have may : (modeWritten data s).canRestart = true := by rw [State.canRestart, gone']; rfl
  rw [lnkCtrlWrite_eq, flushAsked_not_held (by rw [gone']; decide), retrainAsked_not_up (by rw [gone']; decide), restartAsked,
    if_pos (by rw [ask, may]; rfl), if_pos (by rw [gone']; rfl)]

end

/-! ## A retrain asked for -/

theorem runs_lnkCtrlRetrain {data : Word} {s : State} (hf : s.functional = true) (on : s.regOn R.LNK_CTRL = true)
    (ask : bit data 2 = true) (stay : bit data 3 = false) (up : s.lnk.st = .up) (free : s.lnk.retraining = none) :
    Runs (.lnkCtrlRetrain data) s fun t =>
      t.lnk.st = .retrain ∧ t.lnk.retraining.isSome = true ∧ t.lnk.retrainDue = true ∧ Raised C.LNK.RETRAIN t ∧
        t.tlr.mode = .retrain ∧ t.outs.regAck = true ∧ t.outs.regErr = false := by
  have begun := retrains_beginRetrain true (modeWritten data s)
  have st : (beginRetrain true (modeWritten data s)).lnk.st = .retrain := by
    rw [begun.st, show (modeWritten data s).lnk.st = .up from up]
    rfl
  refine runs_functional (u := (beginRetrain true (modeWritten data s)).answer false) (fun _ => rfl) hf
    ((portWrite_on ask on _).trans (by rw [lnkCtrlWrite_retrain ask stay up free])) ?_
  exact ⟨st, begun.runs, begun.due, raised_settle.mpr begun.raised, begun.mode, rfl, rfl⟩

theorem runs_sleeperLinkRetrain {s : State} (hf : s.functional = true) (lock : s.slp.lock = true) (later : s.boot.step ≠ 7)
    (live : s.lnk.st = .up ∨ s.lnk.st = .grace) (free : s.lnk.retraining = none) : Runs .sleeperLinkRetrain s fun t =>
      t.lnk.retraining.isSome = true ∧ t.lnk.st = (if s.lnk.st = .up then .retrain else .grace) ∧ t.lnk.retrainDue = false ∧
        Raised C.LNK.RETRAIN t := by
  have begun := retrains_beginRetrain false s
  have begins : (if s.boot.step = 7 then trainAgain s
      else if s.lnk.st == .grace && s.lnk.retraining.isNone then beginRetrain false s else startRetrain false s) = beginRetrain false s := by
    rw [if_neg later]
    rcases live with up | held
    · rw [if_neg (by simp [up]), startRetrain_up up free]
    · rw [if_pos (by simp [held, free])]
  refine runs_msg (fun _ => rfl) hf lock begins ⟨begun.runs, begun.st.trans ?_, begun.due, raised_settle.mpr begun.raised⟩
  rcases live with e | e <;> rw [e] <;> rfl

/-- In CALIBRATING the station's LINK_RETRAIN is taken as silence, and training starts from the beginning (R419). -/
theorem runs_sleeperLinkRetrain_calibrating {s : State} (hf : s.functional = true) (lock : s.slp.lock = true) (step : s.boot.step = 7)
    (few : s.boot.trainSends < 10) : Runs .sleeperLinkRetrain s fun t =>
      t.boot.peerMask = none ∧ t.boot.ownUsable = none ∧ t.boot.trainSends = s.boot.trainSends + 1 ∧ t.boot.step = 7 := by
  have again : trainAgain s = trainFresh { s with boot := { s.boot with trainSends := s.boot.trainSends + 1 } } := if_neg (by omega)
  exact runs_msg (fun _ => rfl) hf lock ((if_pos step).trans again) ⟨rfl, rfl, rfl, step⟩

/-! ## LINK_READY (R74, R157, R412) -/

/-- The end of calibration: the slot counters begin, and a link control flit is due (R74, R412). -/
def calibrated (s : State) : State :=
  modLnk (fun l => { l with ctlDue := true }) (modSeam (fun m => { m with upSlot := 0, dnSlot := 0, counting := true }) (toStep 8 s))

/-- The slots at which the link resumes, as the station has named them (R157). -/
def slotsNamed (msg : BitVec 64) (s : State) : State :=
  modLnk (fun l => { l with retraining := l.retraining.map fun r => { r with resume := some (bits msg 0 32, bits msg 32 32) } }) s

theorem exec_linkReady (msg : BitVec 64) (s : State) : exec (.linkReady msg) s = whenMsg s fun s =>
    if s.boot.step == 7 && s.boot.ownUsable.isSome && s.boot.peerUsable.isSome && s.seam.usable != 0 then calibrated s
    else slotsNamed msg s := rfl

theorem lnk_slotsNamed {msg : BitVec 64} {r : Retrain} {s : State} (runs : s.lnk.retraining = some r) :
    (slotsNamed msg s).lnk = { s.lnk with retraining := some { r with resume := some (bits msg 0 32, bits msg 32 32) } } := by
  simp only [slotsNamed, modLnk, runs, Option.map_some]

theorem onlyChanges_toStep (n : BitVec 4) (s : State) : OnlyChanges [.boot] s (toStep n s) := by
  intro p hp
  cases p <;> simp_all [Part.same, toStep]

theorem onlyChanges_calibrated (s : State) : OnlyChanges [.boot, .seam, .lnk] s (calibrated s) :=
  ((onlyChanges_toStep 8 s).trans (onlyChanges_modSeam _ _)).trans (onlyChanges_modLnk _ _)

theorem runs_linkReady_retrain {msg : BitVec 64} {r : Retrain} {s : State} (hf : s.functional = true) (lock : s.slp.lock = true)
    (hs : Settled s) (later : s.boot.step ≠ 7) (runs : s.lnk.retraining = some r) : Runs (.linkReady msg) s fun t =>
      t.lnk = { s.lnk with retraining := some { r with resume := some (bits msg 0 32, bits msg 32 32) } } ∧
        OnlyChanges [.lnk, .outs, .slp] s t := by
  have other : ¬(s.boot.step == 7 && s.boot.ownUsable.isSome && s.boot.peerUsable.isSome && s.seam.usable != 0) = true := by
    rw [beq_eq_false_iff_ne.mpr later]
    simp
  exact runs_msg (exec_linkReady msg) hf lock (if_neg other)
    ⟨lnk_slotsNamed runs, onlyChanges_settle_of (onlyChanges_modLnk _ s) hs (by decide)⟩

theorem runs_linkReady_calibrated {msg : BitVec 64} {s : State} (hf : s.functional = true) (lock : s.slp.lock = true) (hs : Settled s)
    (step : s.boot.step = 7) (own : s.boot.ownUsable.isSome = true) (peer : s.boot.peerUsable.isSome = true) (used : s.seam.usable ≠ 0) :
    Runs (.linkReady msg) s fun t =>
      t.boot.step = 8 ∧ t.seam.counting = true ∧ t.seam.upSlot = 0 ∧ t.seam.dnSlot = 0 ∧ t.lnk.ctlDue = true ∧
        OnlyChanges [.boot, .seam, .lnk, .outs, .slp] s t := by
  have all : (s.boot.step == 7 && s.boot.ownUsable.isSome && s.boot.peerUsable.isSome && s.seam.usable != 0) = true := by
    rw [step, own, peer, bne_iff_ne.mpr used]
    rfl
  exact runs_msg (exec_linkReady msg) hf lock (if_pos all)
    ⟨rfl, rfl, rfl, rfl, rfl, onlyChanges_settle_of (onlyChanges_calibrated s) hs (by decide)⟩

/-! ## LINK_RESUME (R157, R160) -/

/-- What LINK_RESUME does. -/
def resumes (s : State) : State :=
  match s.lnk.retraining with
  | none => s
  | some r =>
    match r.resume with
    | some (u, d) => if r.tailored then resumeLink (modSeam (fun m => { m with upSlot := u, dnSlot := d }) s) else s
    | none => s

theorem exec_linkResume (s : State) : exec .linkResume s = whenPlat s resumes := rfl

section
variable {s : State} {r : Retrain}

theorem runs_linkResume {u d : BitVec 32} (hl : s.platLive = true) (runs : s.lnk.retraining = some r) (named : r.resume = some (u, d))
    (tailored : r.tailored = true) (stays : r.downAfter = false) (used : s.seam.usable ≠ 0) : Runs .linkResume s fun t =>
      t.lnk.st = .up ∧ t.lnk.retraining = none ∧ t.lnk.retrainFails = 0 ∧ t.tlr.mode = .service ∧ t.seam.upSlot = u ∧
        t.seam.dnSlot = d ∧ t.lnk.ctlDue = true ∧
        t.lnk.siding = s.lnk.siding.map fun f => { f with again := true, replays := if s.lnk.st = .grace then 0 else f.replays } := by
  have result : resumes s = resumeLink (modSeam (fun m => { m with upSlot := u, dnSlot := d }) s) := by
    simp only [resumes, runs, named, tailored, if_true]
  obtain ⟨link, mode, up, dn⟩ := resumeLink_resumes (s := modSeam (fun m => { m with upSlot := u, dnSlot := d }) s) runs used stays
  refine runs_plat exec_linkResume hl result ⟨link.st, link.retraining, link.retrainFails, mode, up, dn, link.ctlDue, link.siding.trans ?_⟩
  simp only [beq_iff_eq]
  rfl

/-- Before the tailoring share has ended, or without its slots, the link does not resume. -/
theorem runs_linkResume_early (hl : s.platLive = true) (hs : Settled s) (runs : s.lnk.retraining = some r)
    (early : r.tailored = false ∨ r.resume = none) : Runs .linkResume s fun t => t = s := by
  refine runs_plat exec_linkResume hl (u := s) ?_ (settle_eq_self hs)
  simp only [resumes, runs]
  rcases early with fresh | unnamed
  · split
    · exact if_neg (by rw [fresh]; decide)
    · rfl
  · rw [unnamed]

/-! ## RETRAIN_TIMEOUT (R158) -/

theorem lnk_reach (m : Nat) (s : State) : (s.reach m).lnk = s.lnk := onlyChanges_reach m s .lnk (by decide)

theorem runs_retrainTimeout' {P : State → Prop} (hl : s.platLive = true) (runs : s.lnk.retraining = some r)
    (goal : P (settle (failRetrain (s.reach (r.startedAt + 100000))))) : Runs .retrainTimeout s P := by
  refine runs_plat (k := fun s => match s.lnk.retraining with
    | none => s
    | some r => failRetrain (s.reach (r.startedAt + 100000))) (fun _ => rfl) hl ?_ goal
  rw [runs]

theorem runs_retrainTimeout (hl : s.platLive = true) (runs : s.lnk.retraining = some r) (st : s.lnk.st = .retrain) :
    Runs .retrainTimeout s fun t =>
      Raised C.LNK.RETRAIN_FAIL t ∧ t.lnk.retrainFails = s.lnk.retrainFails + 1 ∧ r.startedAt + 100000 ≤ t.now ∧
        (s.lnk.retrainFails ≠ 2 → r.downAfter = false → t.lnk.st = .retrain ∧ t.lnk.retraining.isSome = true) ∧
        (s.lnk.retrainFails = 2 → t.lnk.downCause = 0x01 ∧ Raised C.LNK.LINK_DOWN t) := by
  have late := le_now_reach (r.startedAt + 100000) s
  have link := lnk_reach (r.startedAt + 100000) s
  refine runs_retrainTimeout' hl runs ?_
  generalize s.reach (r.startedAt + 100000) = u at late link
  rw [← link] at runs st ⊢
  obtain ⟨links, raised, fails⟩ := failRetrain_counts runs (.inl st)
  obtain ⟨-, -, failed⟩ := retrainFailed_keeps u
  refine ⟨raised_settle.mpr raised, fails, late.trans (Nat.le_of_eq links.now.symm), fun few stays => ?_, fun third => ?_⟩
  · have begun := retrains_beginRetrain true (retrainFailed u)
    rw [failRetrain_again runs st few stays]
    refine ⟨begun.st.trans ?_, begun.runs⟩
    rw [failed.st, st]
    rfl
  · have down := goneDown_declareDown (cause := 0x01) (send := true) (.inr (failed.st.trans st))
    rw [failRetrain_third runs st third]
    exact ⟨down.downCause, raised_settle.mpr down.raised⟩

theorem runs_retrainTimeout_grace (hl : s.platLive = true) (runs : s.lnk.retraining = some r) (held : s.lnk.st = .grace) :
    Runs .retrainTimeout s fun t =>
      Raised C.LNK.RETRAIN_FAIL t ∧ t.lnk.retrainFails = s.lnk.retrainFails + 1 ∧ t.lnk.st = .grace ∧ t.lnk.retraining = none := by
  have link := lnk_reach (r.startedAt + 100000) s
  refine runs_retrainTimeout' hl runs ?_
  generalize s.reach (r.startedAt + 100000) = u at link
  rw [← link] at runs held ⊢
  obtain ⟨-, raised, failed⟩ := retrainFailed_keeps u
  rw [failRetrain_grace runs held]
  exact ⟨raised_settle.mpr raised, failed.retrainFails, failed.st.trans held, failed.retraining⟩

/-! ## GRACE_RETRAIN_TIMER (R160) -/

/-- The hold's timer started again at its expiry. -/
def graceLapsed (s : State) : State :=
  modLnk (fun l => { l with graceFrom := (s.lapse s.lnk.graceFrom 1000000).mark }) (s.lapse s.lnk.graceFrom 1000000)

theorem onlyChanges_graceLapsed (s : State) : OnlyChanges [.rwt, .aoCycles, .lnk] s (graceLapsed s) :=
  (onlyChanges_lapse _ _ s).trans (onlyChanges_modLnk _ _)

theorem lnk_graceLapsed (s : State) : (graceLapsed s).lnk = { s.lnk with graceFrom := (graceLapsed s).mark } := by
  have same := lnk_lapse s.lnk.graceFrom 1000000 s
  change ({ (s.lapse s.lnk.graceFrom 1000000).lnk with graceFrom := _ } : Lnk) = _
  rw [same]
  rfl

/-- A timer of the hold begins a retrain where none runs, in Sleeper mode while the Sleeper lane is in lock. -/
def graceRetrained (s : State) : State :=
  if (graceLapsed s).lnk.retraining.isNone && ((graceLapsed s).slp.lock || !(graceLapsed s).asleep) then beginRetrain true (graceLapsed s)
  else graceLapsed s

theorem links_graceRetrained (s : State) : Links (graceLapsed s) (graceRetrained s) :=
  .ite (fun _ => links_beginRetrain true _) fun _ => Links.refl _

theorem mark_graceRetrained (s : State) : (graceRetrained s).mark = (graceLapsed s).mark :=
  (links_graceRetrained s).keeps.frame.mark (by decide) (by decide)

/-- The hold goes on, whether or not a retrain begins. -/
theorem graceRetrained_holds (held : s.lnk.st = .grace) :
    (graceRetrained s).lnk.st = .grace ∧ (graceRetrained s).lnk.graceFrom = (graceLapsed s).mark := by
  have link := lnk_graceLapsed s
  have st : (graceLapsed s).lnk.st = .grace := by rw [link]; exact held
  have from_ : (graceLapsed s).lnk.graceFrom = (graceLapsed s).mark := congrArg Lnk.graceFrom link
  unfold graceRetrained
  split
  · have begun := retrains_beginRetrain true (graceLapsed s)
    refine ⟨begun.st.trans ?_, begun.graceFrom.trans from_⟩
    rw [st]
    rfl
  · exact ⟨st, from_⟩

theorem graceRetrained_begins (free : s.lnk.retraining = none) (heard : s.slp.lock = true ∨ s.asleep = false) :
    graceRetrained s = beginRetrain true (graceLapsed s) := by
  have link := lnk_graceLapsed s
  have frame := onlyChanges_graceLapsed s
  have slp : (graceLapsed s).slp = s.slp := frame .slp (by decide)
  have pcm : (graceLapsed s).pcm = s.pcm := frame .pcm (by decide)
  have asleep : (graceLapsed s).asleep = s.asleep := by simp only [State.asleep, pcm]
  refine if_pos ?_
  rw [link, slp, asleep]
  rcases heard with e | e <;> simp [free, e]

theorem runs_graceRetrainTimer (hl : s.platLive = true) (held : s.lnk.st = .grace) : Runs .graceRetrainTimer s fun t =>
    t.lnk.st = .grace ∧ t.lnk.graceFrom = t.mark ∧ (s.byAo = false → s.lnk.graceFrom.rail + 1000000 ≤ t.now) ∧
      (s.lnk.retraining = none → (s.slp.lock = true ∨ s.asleep = false) → t.lnk.retraining.isSome = true ∧ Raised C.LNK.RETRAIN t) := by
  obtain ⟨st, from_⟩ := graceRetrained_holds held
  have mark := mark_graceRetrained s
  refine runs_plat (u := graceRetrained s) (fun _ => rfl) hl (if_pos (by rw [held]; rfl)) ⟨st, from_.trans mark.symm, fun rail => ?_,
    fun free heard => ?_⟩
  · have now : (graceRetrained s).now = (graceLapsed s).now := congrArg Mark.rail mark
    exact (le_now_lapse rail _ _).trans (Nat.le_of_eq now.symm)
  · have begun := retrains_beginRetrain true (graceLapsed s)
    rw [graceRetrained_begins free heard]
    exact ⟨begun.runs, raised_settle.mpr begun.raised⟩

end

/-- Settles O42: a retrain begins for each that may ask, resumes at the slots named or fails by its count, and LINK_READY ends calibration. -/
theorem retrains : Obligations.Retrains :=
  ⟨fun _ _ hf on ask stay up free => runs_lnkCtrlRetrain hf on ask stay up free,
    fun _ hf lock later live free => runs_sleeperLinkRetrain hf lock later live free,
    fun _ hf lock step few => runs_sleeperLinkRetrain_calibrating hf lock step few,
    fun _ _ _ hf lock hs later runs => runs_linkReady_retrain hf lock hs later runs,
    fun _ _ hf lock hs step own peer used => runs_linkReady_calibrated hf lock hs step own peer used,
    fun _ _ _ _ hl runs named tailored stays used => runs_linkResume hl runs named tailored stays used,
    fun _ _ hl hs runs early => runs_linkResume_early hl hs runs early,
    fun _ _ hl runs st => runs_retrainTimeout hl runs st,
    fun _ _ hl runs held => runs_retrainTimeout_grace hl runs held,
    fun _ hl held => runs_graceRetrainTimer hl held⟩

end Sys2Proof.Machine
end

section
/-!
SUPPORT. The grace hold, the flush and the restart at negotiation (R159 to R162, R409, R414).
-/
namespace Sys2Proof.Machine

/-! ## The hold and its end -/

theorem runs_sleeperLinkDown {msg : BitVec 32} {s : State} (hf : s.functional = true) (lock : s.slp.lock = true) (later : s.boot.step ≠ 7)
    (live : s.lnk.st = .up ∨ s.lnk.st = .retrain) : Runs (.sleeperLinkDown msg) s fun t =>
      Raised C.LNK.LINK_DOWN t ∧ t.lnk.downCause = bits msg 0 8 ∧ (s.graceUs ≠ 0 → t.lnk.st = .grace ∧ t.lnk.downAt = s.now) ∧
        (s.graceUs = 0 → t.lnk.st = .flushed) := by
  have down := goneDown_declareDown (cause := bits msg 0 8) (send := false) live
  exact runs_msg (fun _ => rfl) hf lock (if_neg later) ⟨raised_settle.mpr down.raised, down.downCause, down.held, down.gone⟩

/-- The end of a grace period. -/
def graceOver (s : State) : State := s.reach (s.lnk.downAt + 1000 * s.graceUs)

/-- What a flush leaves stands at the end of the meaning that it is part of. -/
theorem Flushed.settled {s t : State} (h : Flushed s t) :
    (settle t).lnk.st = .flushed ∧ (settle t).lnk.siding = [] ∧ (settle t).lnk.outq = Vector.replicate 6 [] ∧
      Raised C.LNK.FLUSHED (settle t) :=
  ⟨h.st, h.siding, h.outq, raised_settle.mpr h.raised⟩

theorem Flushed.answer {s t : State} (h : Flushed s t) (err : Bool) : Flushed s (t.answer err) :=
  ⟨⟨h.st, h.siding, h.outq, h.fails, h.downCause⟩, h.raised⟩

/-- What GRACE_EXPIRY does. -/
def holdOver (s : State) : State :=
  if s.lnk.st == .grace then (if (graceOver s).canResume then resumeLink (graceOver s) else flush (graceOver s)) else s

theorem exec_graceExpiry (s : State) : exec .graceExpiry s = whenPlat s holdOver := rfl

theorem onlyChanges_graceOver (s : State) : OnlyChanges [.rwt, .aoCycles] s (graceOver s) := onlyChanges_reach _ s

theorem lnk_graceOver (s : State) : (graceOver s).lnk = s.lnk := onlyChanges_graceOver s .lnk (by decide)

theorem le_now_graceOver (s : State) : s.lnk.downAt + 1000 * s.graceUs ≤ (graceOver s).now := by
  rw [graceOver]
  exact le_now_reach _ s

theorem canResume_graceOver (s : State) : (graceOver s).canResume = s.canResume := by
  have seam : (graceOver s).seam = s.seam := onlyChanges_graceOver s .seam (by decide)
  simp only [State.canResume, lnk_graceOver, seam]

theorem holdOver_flush {s : State} (held : s.lnk.st = .grace) (lost : s.canResume = false) : holdOver s = flush (graceOver s) := by
  rw [holdOver, if_pos (by rw [held]; rfl), if_neg (by rw [canResume_graceOver, lost]; decide)]

theorem holdOver_resume {s : State} (held : s.lnk.st = .grace) (can : s.canResume = true) : holdOver s = resumeLink (graceOver s) := by
  rw [holdOver, if_pos (by rw [held]; rfl), if_pos (by rw [canResume_graceOver, can])]

theorem now_settle (s : State) : (settle s).now = s.now := rfl

theorem le_now_holdOver {s : State} (held : s.lnk.st = .grace) (lost : s.canResume = false) :
    s.lnk.downAt + 1000 * s.graceUs ≤ (settle (holdOver s)).now := by
  rw [holdOver_flush held lost, now_settle, (links_flush (graceOver s)).now]
  exact le_now_graceOver s

theorem flushed_holdOver {s : State} (held : s.lnk.st = .grace) (lost : s.canResume = false) : Flushed (graceOver s) (holdOver s) := by
  rw [holdOver_flush held lost]
  exact flushed_flush _

theorem runs_graceExpiry_flush {s : State} (hl : s.platLive = true) (held : s.lnk.st = .grace) (lost : s.canResume = false) :
    Runs .graceExpiry s fun t =>
      t.lnk.st = .flushed ∧ t.lnk.siding = [] ∧ t.lnk.outq = Vector.replicate 6 [] ∧ Raised C.LNK.FLUSHED t ∧
        s.lnk.downAt + 1000 * s.graceUs ≤ t.now := by
  obtain ⟨st, siding, outq, raised⟩ := (flushed_holdOver held lost).settled
  have late := le_now_holdOver held lost
  generalize done : holdOver s = u at st siding outq raised late
  generalize s.lnk.downAt + 1000 * s.graceUs = limit at late ⊢
  exact runs_plat exec_graceExpiry hl done ⟨st, siding, outq, raised, late⟩

/-- A retrain that can resume has a record, and sleeves to resume on. -/
theorem canResume_runs {s : State} (can : s.canResume = true) : ∃ r, s.lnk.retraining = some r ∧ s.seam.usable ≠ 0 := by
  unfold State.canResume at can
  split at can
  next r runs => exact ⟨r, runs, by simpa using (Bool.and_eq_true_iff.mp can).2⟩
  next => cases can

theorem runs_graceExpiry_resume {s : State} (hl : s.platLive = true) (held : s.lnk.st = .grace) (can : s.canResume = true)
    (stays : ∀ r, s.lnk.retraining = some r → r.downAfter = false) :
    Runs .graceExpiry s fun t => t.lnk.st = .up ∧ t.lnk.siding.map (·.seq) = s.lnk.siding.map (·.seq) := by
  have link : (graceOver s).lnk = s.lnk := lnk_graceOver s
  obtain ⟨r, runs, used⟩ := canResume_runs ((canResume_graceOver s).trans can)
  obtain ⟨back, -, -, -⟩ := resumeLink_resumes runs used (stays r (link ▸ runs))
  refine runs_plat exec_graceExpiry hl (holdOver_resume held can) ⟨back.st, (congrArg (List.map (·.seq)) back.siding).trans ?_⟩
  rw [link, List.map_map]
  rfl

theorem runs_flushNow {data : Word} {s : State} (hf : s.functional = true) (on : s.regOn R.LNK_CTRL = true) (ask : bit data 1 = true)
    (stay : bit data 3 = false) (held : s.lnk.st = .grace) : Runs (.flushNow data) s fun t =>
      t.lnk.st = .flushed ∧ t.lnk.siding = [] ∧ t.lnk.outq = Vector.replicate 6 [] ∧ Raised C.LNK.FLUSHED t ∧ t.outs.regAck = true ∧
        t.outs.regErr = false := by
  obtain ⟨st, siding, outq, raised⟩ := ((flushed_flush (modeWritten data s)).answer false).settled
  exact runs_functional (fun _ => rfl) hf ((portWrite_on ask on _).trans (by rw [lnkCtrlWrite_flush ask stay held]))
    ⟨st, siding, outq, raised, rfl, rfl⟩

/-! ## The restart (R161, R409, R414) -/

/-- Registers of an array set to zero. -/
def zeroRegs (f : Nat → Nat) (l : List Nat) (s : State) : State := l.foldl (fun s n => s.setReg (f n) 0) s

theorem zero_setReg {a : Nat} {s : State} (b : Nat) (zero : s.reg a = 0) : (s.setReg b 0).reg a = 0 := by
  by_cases same : a = b
  · rw [same, reg_setReg_same]
  · rw [reg_setReg_other s b a 0 same, zero]

theorem zero_zeroRegs {a : Nat} {s : State} (f : Nat → Nat) (l : List Nat) (zero : s.reg a = 0) : (zeroRegs f l s).reg a = 0 := by
  induction l generalizing s with
  | nil => exact zero
  | cons n ns ih => exact ih (zero_setReg (f n) zero)

theorem zeroRegs_zeroes {n : Nat} {l : List Nat} (mem : n ∈ l) (f : Nat → Nat) (s : State) : (zeroRegs f l s).reg (f n) = 0 := by
  induction l generalizing s with
  | nil => exact absurd mem (by simp)
  | cons x xs ih =>
    rcases List.mem_cons.mp mem with rfl | later
    · exact zero_zeroRegs f xs (reg_setReg_same s (f n) 0)
    · exact ih later _

theorem onlyChanges_zeroRegs (f : Nat → Nat) (l : List Nat) (s : State) : OnlyChanges [.regs] s (zeroRegs f l s) :=
  onlyChanges_foldl (fun s n => onlyChanges_setReg (f n) 0 s) l s

/-- The counters of the link layer in registers. -/
structure LinkCountsZero (s : State) : Prop where
  evt : ∀ n, n < 9 → s.reg (R.LNK_EVT_CNT + 4 * n) = 0
  crc : ∀ k, k < 8 → s.reg (R.LNK_CRC_ERR + 4 * k) = 0
  corr : s.reg R.LNK_FEC_CORR = 0
  uncorr : s.reg R.LNK_FEC_UNCORR = 0

theorem resetLnkCounts_eq (s : State) : resetLnkCounts s = zeroRegs (R.LNK_CRC_ERR + 4 * ·) (List.range 8)
    (((zeroRegs (R.LNK_EVT_CNT + 4 * ·) (List.range 9) s).setReg R.LNK_FEC_CORR 0).setReg R.LNK_FEC_UNCORR 0) := rfl

theorem linkCountsZero_resetLnkCounts (s : State) : LinkCountsZero (resetLnkCounts s) := by
  rw [resetLnkCounts_eq]
  generalize events : zeroRegs (R.LNK_EVT_CNT + 4 * ·) (List.range 9) s = u
  refine ⟨fun n hn => ?_, fun k hk => zeroRegs_zeroes (List.mem_range.mpr hk) (R.LNK_CRC_ERR + 4 * ·) _, ?_, ?_⟩
  · have zero : u.reg (R.LNK_EVT_CNT + 4 * n) = 0 := events ▸ zeroRegs_zeroes (List.mem_range.mpr hn) (R.LNK_EVT_CNT + 4 * ·) s
    exact zero_zeroRegs _ _ (zero_setReg _ (zero_setReg _ zero))
  · exact zero_zeroRegs _ _ (zero_setReg _ (reg_setReg_same u _ 0))
  · exact zero_zeroRegs _ _ (reg_setReg_same _ _ 0)

theorem onlyChanges_resetLnkCounts (s : State) : OnlyChanges [.regs] s (resetLnkCounts s) := by
  rw [resetLnkCounts_eq]
  exact ((((onlyChanges_zeroRegs _ _ s).trans (onlyChanges_setReg _ _ _)).trans (onlyChanges_setReg _ _ _)).trans
    (onlyChanges_zeroRegs _ _ _)).mono (by decide)

/-- The seam and tailoring cleared for a new agreement. -/
def seamCleared (s : State) : State :=
  modSeam (fun m => { m with
    usable := 0, counting := false, mine := none, want := [], answered := none, ctlOut := [], subst := [], retireAt := [] })
    (modTlr (fun t => { t with mode := .idle, passes := [] }) (endWidth 5 { s with pcm := { s.pcm with joining := false } }))

/-- The link begins afresh at negotiation, and the block offers. -/
def negotiated (again : Bool) (s : State) : State :=
  let s := { s with lnk := Lnk.reset, pcm := { s.pcm with st := .start } }
  sendOffer (toStep 6 { s with boot := { s.boot with
    offers := 0, again := again, peerMask := none, ownUsable := none, peerUsable := none, trainSends := 0 } })

theorem negotiate_again (s : State) : negotiate true s = negotiated true (resetLnkCounts (seamCleared s)) := rfl

theorem runs_lnkCtrlRestart {data : Word} {s : State} (hf : s.functional = true) (on : s.regOn R.LNK_CTRL = true) (ask : bit data 3 = true)
    (gone : s.lnk.st = .flushed) : Runs (.lnkCtrlRestart data) s fun t =>
      t.lnk = Lnk.reset ∧ t.boot.step = 6 ∧ t.boot.again = true ∧ t.boot.offers = 1 ∧ t.seam.usable = 0 ∧ t.tlr.passes = [] ∧
        (∀ n, n < 9 → t.reg (R.LNK_EVT_CNT + 4 * n) = 0) ∧ (∀ k, k < 8 → t.reg (R.LNK_CRC_ERR + 4 * k) = 0) ∧
        t.reg R.LNK_FEC_CORR = 0 ∧ t.reg R.LNK_FEC_UNCORR = 0 ∧ t.outs.regAck = true ∧ t.outs.regErr = false := by
  have result : lnkCtrlWrite data s = negotiated true (resetLnkCounts (seamCleared (modeWritten data s))) := by
    rw [lnkCtrlWrite_restart ask gone, negotiate_again]
  have zero := linkCountsZero_resetLnkCounts (seamCleared (modeWritten data s))
  have frame := onlyChanges_resetLnkCounts (seamCleared (modeWritten data s))
  have usable : (resetLnkCounts (seamCleared (modeWritten data s))).seam.usable = 0 := congrArg Seam.usable (frame .seam (by decide))
  have passes : (resetLnkCounts (seamCleared (modeWritten data s))).tlr.passes = [] := congrArg Tlr.passes (frame .tlr (by decide))
  generalize resetLnkCounts (seamCleared (modeWritten data s)) = u at result zero usable passes
  exact runs_functional (u := (negotiated true u).answer false) (fun _ => rfl) hf ((portWrite_on ask on _).trans (by rw [result]))
    ⟨rfl, rfl, rfl, rfl, usable, passes, zero.evt, zero.crc, zero.corr, zero.uncorr, rfl, rfl⟩

/-- Settles O43: the link goes down into its hold with its cause, the hold ends in a flush or in service, and a restart begins afresh. -/
theorem holdFlushRestart : Obligations.HoldFlushRestart :=
  ⟨fun _ _ hf lock later live => runs_sleeperLinkDown hf lock later live,
    fun _ hl held lost => runs_graceExpiry_flush hl held lost,
    fun _ hl held can stays => runs_graceExpiry_resume hl held can stays,
    fun _ _ hf on ask stay held => runs_flushNow hf on ask stay held,
    fun _ _ hf on ask gone => runs_lnkCtrlRestart hf on ask gone⟩

end Sys2Proof.Machine
end

section
/-!
SUPPORT. What the timetable's check of a T6 flit leaves of the registers: all but those of causes and the deadline counters (R154,
R217, R218, R249, R254, R267 to R273).
-/
namespace Sys2Proof.Machine

/-- The deadline counters, one for each kind of fault (R217). -/
def deadlineCounters : List Nat := (List.range 6).map (R.TTB_DL_CNT + 4 * ·)

/-- The counters of faults are not those of causes. -/
theorem deadlineCounters_plain {a : Nat} (mem : a ∈ deadlineCounters) : a ∉ causeRegs := by
  have plain : ∀ a ∈ deadlineCounters, a ∉ causeRegs := by decide +kernel
  exact plain a mem

/-- What an operation of the timetable and its groups may write of the registers: those of causes and the deadline counters. -/
def Reports (s t : State) : Prop := Notes deadlineCounters s t

section
variable {s t u : State}

theorem Notes.reports (h : Notes [] s t) : Reports s t := h.mono (by simp)

theorem OnlyChanges.reports {ps : List Part} (h : OnlyChanges ps s t) (regs : .regs ∉ ps) (par : .par ∉ ps) : Reports s t :=
  (h.notes regs par).reports

theorem Keeps.reports {ps : List Part} {qs : List SeamPart} (h : Keeps [] ps qs s t) : Reports s t := h.notes.reports

theorem Serves.reports (h : Serves s t) : Reports s t := h.keeps.reports

theorem Reports.refl (s : State) : Reports s s := (Notes.refl s).reports

theorem Reports.trans (h : Reports s t) (k : Reports t u) : Reports s u := (Notes.trans h k).mono (by simp)

theorem Reports.ite {c : Prop} [Decidable c] (ht : c → Reports s t) (hu : ¬c → Reports s u) : Reports s (if c then t else u) := by
  split
  next h => exact ht h
  next h => exact hu h

/-- A register that is neither a cause's nor a deadline counter stays. -/
theorem Reports.reg (h : Reports s t) {a : Nat} (other : a ∉ causeRegs ++ deadlineCounters) : t.reg a = s.reg a := h.2 a other

theorem reports_foldl {α : Type} {f : State → α → State} (h : ∀ s x, Reports s (f s x)) (l : List α) (s : State) :
    Reports s (l.foldl f s) := by
  induction l generalizing s with
  | nil => exact Reports.refl s
  | cons x xs ih => exact (h s x).trans (ih (f s x))

end

/-! ## Changes away from the registers, causes and counters -/

theorem reports_jct (j : Jct) (s : State) : Reports s { s with jct := j } := (onlyChanges_jct j s).reports (by decide) (by decide)

theorem reports_modGroup (g : BitVec 12) (f : JGroup → JGroup) (s : State) : Reports s (modGroup g f s) := reports_jct _ s

theorem onlyChanges_asp (a : Asp) (s : State) : OnlyChanges [.asp] s { s with asp := a } := by
  intro p hp
  cases p <;> simp_all [Part.same]

theorem reports_asp (a : Asp) (s : State) : Reports s { s with asp := a } := (onlyChanges_asp a s).reports (by decide) (by decide)

theorem reports_modDest (g : BitVec 12) (f : AspDest → AspDest) (s : State) : Reports s (modDest g f s) := reports_asp _ s

theorem reports_dropCtls (g : BitVec 12) (j : Nat) (s : State) : Reports s (dropCtls g j s) := reports_asp _ s

theorem onlyChanges_modTtb (f : Ttb → Ttb) (s : State) : OnlyChanges [.ttb] s (modTtb f s) := by
  intro p hp
  cases p <;> simp_all [Part.same, modTtb]

theorem reports_modTtb (f : Ttb → Ttb) (s : State) : Reports s (modTtb f s) := (onlyChanges_modTtb f s).reports (by decide) (by decide)

theorem reports_modRecv (r : OpenRecv) (f : OpenRecv → OpenRecv) (s : State) : Reports s (modRecv r f s) := reports_modTtb _ s

theorem reports_draw (s : State) : Reports s s.draw := (onlyChanges_draw s).reports (by decide) (by decide)

theorem reports_sendSlp (type : Byte) (ws : List Word) (s : State) : Reports s (sendSlp type ws s) :=
  (onlyChanges_sendSlp type ws s).reports (by decide) (by decide)

theorem reports_wake (w : Wait) (status : BitVec 16) (data : List Byte) (s : State) : Reports s (wake w status data s) :=
  (keeps_wake w status data s).reports

theorem reports_raise {c : Cause} (hc : c ∈ causes) (d : BitVec 80) (s : State) : Reports s (raise c d s) := (notes_raise hc d s).reports

/-- A cause raised where a condition holds. -/
theorem reports_raiseIf {c : Cause} (hc : c ∈ causes) (p : Prop) [Decidable p] (d : BitVec 80) (s : State) :
    Reports s (if p then raise c d s else s) := .ite (fun _ => reports_raise hc d s) fun _ => Reports.refl s

theorem reports_setCause {c : Cause} (hc : c ∈ causes) (s : State) : Reports s (setCause c s) := (notes_setCause hc s).reports

theorem reports_pushOcc (o : Occ) (s : State) : Reports s (pushOcc o s) := (onlyChanges_pushOcc o s).reports (by decide) (by decide)

theorem reports_raiseMulti {c : Cause} {others : List Cause} (known : ∀ d ∈ c :: others, d ∈ causes) (cls cost : Byte) (d : BitVec 80)
    (s : State) : Reports s (raiseMulti c others cls cost d s) :=
  ((keeps_setCauses known s).reports).trans (reports_pushOcc _ _)

theorem onlyChanges_flt (f : Flt) (s : State) : OnlyChanges [.flt] s { s with flt := f } := onlyChanges_modFlt (fun _ => f) s

theorem onlyChanges_bumpOcc (p : Occ → Bool) (s : State) : OnlyChanges [.flt] s (bumpOcc p s) := by
  unfold bumpOcc
  split
  · exact onlyChanges_flt _ s
  · split
    · exact onlyChanges_flt _ s
    · split
      · exact onlyChanges_flt _ s
      · exact (OnlyChanges.refl s).mono (by simp)

theorem reports_deadlineCounter {kind : Nat} (known : kind < 6) (v : Word) (s : State) :
    Reports s (s.setReg (R.TTB_DL_CNT + 4 * kind) v) := by
  have mem : R.TTB_DL_CNT + 4 * kind ∈ deadlineCounters := List.mem_map.mpr ⟨kind, List.mem_range.mpr known, rfl⟩
  exact (notes_setReg (deadlineCounters_plain mem) v s).mono (by simpa using mem)

theorem reports_dlFault {kind : Nat} (known : kind < 6) (w : DlWhere) (fec : Bool) (late : Option Nat) (s : State) :
    Reports s (dlFault kind w fec late s) := by
  unfold dlFault
  extract_lets a u v d mine x y c o p
  have counted : Reports s u := reports_deadlineCounter known _ s
  have shown : Reports u v := reports_modTtb _ u
  have bumped : Reports v x := (onlyChanges_bumpOcc mine v).reports (by decide) (by decide)
  have logged : Reports v y := reports_modTtb _ v
  have cause : c ∈ causes := by cases fec <;> decide
  clear_value u v p o x y mine d c
  refine (counted.trans shown).trans (.ite (fun _ => bumped.trans ?_) fun _ => logged.trans ?_)
  · exact .ite (fun _ => reports_setCause (by decide) x) fun _ => Reports.refl x
  · refine Reports.trans ?_ (reports_pushOcc _ _)
    exact .ite (fun _ => (reports_setCause cause y).trans (reports_setCause (by decide) _)) fun _ => reports_setCause cause y

/-! ## Blocks written to a port -/

theorem reports_addBreq (p : PortId) (b : Breq) (s : State) : Reports s (addBreq p b s) := (serves_addBreq p b s).reports

theorem reports_postWrite (p : PortId) (addr : BitVec 64) (data : List Byte) (poison : Bool) (s : State) :
    Reports s (postWrite p addr data poison s) :=
  .ite (fun _ => reports_foldl (fun s _ => reports_addBreq _ _ s) _ s) fun _ => Reports.refl s

theorem reports_writeT6 (e : TtEntry) (i : Nat) (data : List Byte) (poison : Bool) (s : State) : Reports s (writeT6 e i data poison s) :=
  .ite (fun _ => reports_foldl (fun s _ => reports_addBreq _ _ s) _ s) fun _ => Reports.refl s

/-! ## Groups of the junction (R247 to R254) -/

theorem reports_groupEvents (g : JGroup) (m : Nat) (s : State) : Reports s (groupEvents g m s) := by
  unfold groupEvents
  extract_lets r j u d v w x y z q
  have last : Reports s u := .ite (fun _ => Reports.refl s) fun _ => reports_jct _ s
  have done : Reports u v := reports_raiseIf (by decide) _ d u
  have skipped : Reports v w := reports_raiseIf (by decide) _ d v
  have counted : Reports w x := reports_raiseIf (by decide) _ d w
  have failed : Reports x y := reports_raiseIf (by decide) _ d x
  have cast : Reports y z := reports_raiseIf (by decide) _ d y
  have castPart : Reports z q := reports_raiseIf (by decide) _ d z
  exact (((last.trans done).trans (skipped.trans counted)).trans (failed.trans cast)).trans (castPart.trans (reports_wake _ _ _ q))

theorem reports_finishAt (num : BitVec 12) (result : BitVec 4) (m : Nat) (s : State) : Reports s (finishAt num result m s) := by
  unfold finishAt finishMap
  split
  · exact Reports.refl s
  · exact .ite (fun _ => Reports.refl s) fun _ => (reports_modGroup _ _ s).trans (reports_groupEvents _ _ _)

theorem reports_accumulate (num : BitVec 12) (member off n f : Nat) (bs : List Byte) (w : Nat) (poison : Bool) (s : State) :
    Reports s (accumulate num member off n f bs w poison s) := by
  unfold accumulate
  split
  · exact Reports.refl s
  · exact .ite (fun _ => reports_finishAt _ _ _ s) fun _ => (reports_modGroup _ _ s).trans (reports_jct _ _)

theorem reports_roundOut (g : JGroup) (f off : Nat) (as : List (BitVec 384)) (s : State) : Reports s (roundOut g f off as s).2 :=
  reports_raiseIf (by decide) _ _ s

theorem reports_sendT5 (h : JHdr) (data : List Byte) (s : State) : Reports s (sendT5 h data s) :=
  (onlyChanges_queuePacket _ _ s).reports (by decide) (by decide)

theorem reports_sendOut (g : JGroup) (h : JHdr) (f n off : Nat) (as : List (BitVec 384)) (s : State) :
    Reports s (sendOut g h f n off as s) := by
  induction n generalizing off as s with
  | zero => exact Reports.refl s
  | succ n ih =>
    unfold sendOut
    refine .ite (fun _ => Reports.refl s) fun _ => ?_
    exact ((reports_roundOut _ _ _ _ s).trans (reports_sendT5 _ _ _)).trans (ih _ _ _)

theorem reports_deliver (g : JGroup) (poison : Bool) (s : State) : Reports s (deliver g poison s) := by
  unfold deliver
  refine .ite (fun _ => Reports.refl s) fun _ => ?_
  dsimp only
  split
  · exact (reports_roundOut _ _ _ _ s).trans (reports_postWrite _ _ _ _ _)
  · exact reports_sendOut _ _ _ _ _ _ s
  · exact reports_sendOut _ _ _ _ _ _ s

theorem reports_checkDone (num : BitVec 12) (s : State) : Reports s (checkDone num s) := by
  unfold checkDone
  split
  · exact Reports.refl s
  · refine .ite (fun _ => Reports.refl s) fun _ => .ite (fun _ => Reports.refl s) fun _ => ?_
    extract_lets r u
    have gone : Reports s u := reports_deliver _ _ s
    exact gone.trans (.ite (fun _ => reports_modGroup _ _ u) fun _ => reports_finishAt _ _ _ u)

theorem reports_localPiece (num : BitVec 12) (off : Nat) (data : List Byte) (poison : Bool) (s : State) :
    Reports s (localPiece num off data poison s) := by
  unfold localPiece
  split
  · exact Reports.refl s
  · refine .ite (fun _ => Reports.refl s) fun _ => ?_
    extract_lets f buf u bytes bad v
    have kept : Reports s u := reports_modGroup _ _ s
    refine kept.trans (.ite (fun _ => Reports.refl u) fun _ => ?_)
    exact ((reports_modGroup _ _ u).trans (reports_accumulate _ _ _ _ _ _ _ _ v)).trans (reports_checkDone _ _)

theorem reports_readLocal (num : BitVec 12) (s : State) : Reports s (readLocal num s) := by
  unfold readLocal
  split
  · exact Reports.refl s
  · refine .ite (fun _ => Reports.refl s) fun _ => .ite (fun _ => ?_) fun _ => reports_localPiece _ _ _ _ s
    exact (reports_jct _ s).trans (serves_readOperands _).reports

theorem reports_t6Complete (num : BitVec 12) (s : State) : Reports s (t6Complete num s) := by
  unfold t6Complete
  split
  · exact Reports.refl s
  · refine .ite (fun _ => Reports.refl s) fun _ => ?_
    exact ((reports_deliver _ _ s).trans (reports_modGroup _ _ _)).trans ((reports_groupEvents _ _ _).trans (reports_readLocal _ _))

theorem reports_recvJct (r : OpenRecv) (s : State) : Reports s (recvJct r s) := by
  unfold recvJct
  dsimp only
  split
  · exact reports_raise (by decide) _ s
  · refine .ite (fun _ => reports_raise (by decide) _ s) fun _ => .ite (fun _ => reports_raise (by decide) _ s) fun _ => ?_
    exact reports_accumulate _ _ _ _ _ _ _ _ s

theorem reports_intake (f len : Nat) (s : State) : Reports s (intake f len s).2 := by
  unfold intake
  dsimp only
  split <;> exact reports_jct _ s

/-! ## Control of analog groups (R267 to R273) -/

theorem reports_sendCtl (g : BitVec 12) (j : Nat) (mode : BitVec 3) (frm : BitVec 16 × BitVec 16) (s : State) :
    Reports s (sendCtl g j mode frm s) := by
  unfold sendCtl
  split
  · exact Reports.refl s
  · split
    · exact Reports.refl s
    · exact ((reports_modDest _ _ s).trans (reports_asp _ _)).trans (reports_sendSlp _ _ _)

theorem reports_sendTrim (g : BitVec 12) (j : Nat) (t : BitVec 16) (frm : BitVec 16 × BitVec 16) (s : State) :
    Reports s (sendTrim g j t frm s) := (reports_modDest _ _ s).trans (reports_sendCtl _ _ _ _ _)

theorem reports_sendCtlAll (g : BitVec 12) (mode : BitVec 3) (frm : BitVec 16 × BitVec 16) (s : State) :
    Reports s (sendCtlAll g mode frm s) := by
  unfold sendCtlAll
  split
  · exact Reports.refl s
  · exact reports_foldl (fun s _ => .ite (fun _ => reports_sendCtl _ _ _ _ s) fun _ => Reports.refl s) _ s

theorem reports_startRecal (g : BitVec 12) (returning : Bool) (s : State) : Reports s (startRecal g returning s) := by
  unfold startRecal
  split
  · exact Reports.refl s
  · exact .ite (fun _ => Reports.refl s) fun _ => (reports_modDest _ _ s).trans (reports_sendCtlAll _ _ _ _)

theorem reports_announceFallback (g : BitVec 12) (s : State) : Reports s (announceFallback g s) :=
  (reports_modDest _ _ s).trans (reports_sendCtlAll _ _ _ _)

theorem reports_startFallback (g : BitVec 12) (residual win epoch : Nat) (s : State) : Reports s (startFallback g residual win epoch s) :=
  .ite (fun _ => (reports_raise (by decide) _ s).trans (reports_announceFallback _ _)) fun _ => Reports.refl s

theorem reports_failContrib (g : BitVec 12) (j win epoch : Nat) (s : State) : Reports s (failContrib g j win epoch s) := by
  unfold failContrib
  split
  · exact Reports.refl s
  · refine .ite (fun _ => Reports.refl s) fun _ => ?_
    extract_lets u d
    have failed : Reports s u := reports_modDest _ _ s
    refine failed.trans (.ite (fun _ => ?_) fun _ => reports_raise (by decide) _ u)
    exact (reports_raiseMulti (by decide) _ _ _ u).trans (reports_announceFallback _ _)

theorem reports_takeOff (g : BitVec 12) (j : Nat) (s : State) : Reports s (takeOff g j s) := by
  unfold takeOff
  extract_lets u
  have off : Reports s u := (reports_modDest _ _ s).trans (reports_dropCtls _ _ _)
  split
  · exact off.trans (.ite (fun _ => reports_startRecal _ _ _) fun _ => Reports.refl _)
  · exact off

theorem reports_windowBegins (g : BitVec 12) (win epoch : BitVec 16) (played : Nat) (s : State) :
    Reports s (windowBegins g win epoch played s) := by
  unfold windowBegins
  split
  · exact Reports.refl s
  · exact (reports_modDest _ _ s).trans (reports_foldl (fun s _ => reports_takeOff _ _ s) _ _)

/-! ## Windows of an analog group -/

theorem reports_putRecord (d : AspDest) (epoch win : BitVec 16) (residual flags clips : Nat) (s : State) :
    Reports s (putRecord d epoch win residual flags clips s) := reports_postWrite _ _ _ _ s

theorem reports_afterWindow (g : BitVec 12) (win epoch : BitVec 16) (before : AspDest) (s : State) :
    Reports s (afterWindow g win epoch before s) := by
  unfold afterWindow
  split
  · exact Reports.refl s
  · extract_lets near u left st
    have steered : Reports s u := by
      refine reports_foldl (fun s j => ?_) _ s
      split
      · exact Reports.refl s
      · refine .ite (fun _ => Reports.refl s) fun _ => .ite (fun _ => reports_failContrib _ _ _ _ s) fun _ => ?_
        exact .ite (fun _ => reports_sendTrim _ _ _ _ s) fun _ => Reports.refl s
    exact steered.trans (.ite (fun _ => reports_startRecal _ _ u) fun _ => Reports.refl u)

theorem reports_dataWindow (g : BitVec 12) (win epoch : BitVec 16) (off n : Nat) (data : List Byte) (stale : Bool) (s : State) :
    Reports s (dataWindow g win epoch off n data stale s) := by
  unfold dataWindow
  split
  · exact Reports.refl s
  · extract_lets drawn alpha turn d1 ws valid sums ys dd d2 sq g2 dTerm residual bad d3 put breach written flags recorded told
    have tracked : Reports s put := (reports_draw s).trans (reports_modDest _ _ _)
    have out : Reports put written := .ite (fun _ => reports_postWrite _ _ _ _ put) fun _ => Reports.refl put
    have noted : Reports written recorded := reports_putRecord _ _ _ _ _ _ written
    have events : Reports recorded told := by
      refine .ite (fun _ => ?_) fun _ => .ite (fun _ => ?_) fun _ => Reports.refl recorded
      · exact (reports_raise (by decide) _ _).trans (reports_startFallback _ _ _ _ _)
      · exact (reports_modDest _ _ _).trans (reports_raise (by decide) _ _)
    exact ((tracked.trans out).trans (noted.trans events)).trans (reports_afterWindow _ _ _ _ told)

theorem reports_endRecal (g : BitVec 12) (win epoch : BitVec 16) (s : State) : Reports s (endRecal g win epoch s) := by
  unfold endRecal
  split
  · exact Reports.refl s
  · extract_lets drawn d want fit heal put told frm on trimmed failed
    have back : Reports s told := ((reports_draw s).trans (reports_modDest _ _ _)).trans (reports_raise (by decide) _ _)
    have sent : Reports told trimmed := reports_foldl (fun s _ => reports_sendTrim _ _ _ _ s) _ told
    have lost : Reports trimmed failed := reports_foldl (fun s _ => reports_failContrib _ _ _ _ s) _ trimmed
    exact (back.trans (sent.trans lost)).trans (.ite (fun _ => Reports.refl failed) fun _ => reports_startFallback _ _ _ _ failed)

theorem reports_recalWindow (g : BitVec 12) (win epoch : BitVec 16) (data : List Byte) (s : State) :
    Reports s (recalWindow g win epoch data s) := by
  unfold recalWindow
  split
  · exact Reports.refl s
  · extract_lets _ drawn _ _ _ _ _ _ _ _ _ _ _ recorded
    have noted : Reports s recorded := ((reports_draw s).trans (reports_modDest _ _ _)).trans (reports_putRecord _ _ _ _ _ _ _)
    exact noted.trans (.ite (fun _ => reports_endRecal _ _ _ recorded) fun _ => Reports.refl recorded)

/-- A window's record, after which a calibration that goes on begins again. -/
theorem reports_recordRecal (d : AspDest) (g : BitVec 12) (epoch win : BitVec 16) (residual flags clips : Nat) (again : Prop) [Decidable again]
    (s : State) : Reports s (if again then startRecal g d.returning (putRecord d epoch win residual flags clips s)
      else putRecord d epoch win residual flags clips s) := by
  have noted := reports_putRecord d epoch win residual flags clips s
  exact .ite (fun _ => noted.trans (reports_startRecal _ _ _)) fun _ => noted

theorem reports_takeWindow (g : BitVec 12) (win epoch : BitVec 16) (off n played : Nat) (w : WindowIn) (s : State) :
    Reports s (takeWindow g win epoch off n played w s) := by
  unfold takeWindow
  split
  · exact Reports.refl s
  next d _ =>
    extract_lets stale used begun recal
    refine .ite (fun _ => Reports.refl s) fun _ => .ite (fun _ => ?_) fun _ => ?_
    · have fell : Reports used begun := .ite (fun _ => reports_modDest _ _ used) fun _ => Reports.refl used
      exact ((reports_modDest _ _ s).trans fell).trans (reports_putRecord _ _ _ _ _ _ _)
    · split
      · refine .ite (fun _ => reports_recordRecal d _ _ _ _ _ _ _ s) fun _ => .ite (fun _ => reports_recalWindow _ _ _ _ s) fun _ => ?_
        exact .ite (fun _ => reports_putRecord _ _ _ _ _ _ s) fun _ => reports_dataWindow _ _ _ _ _ _ _ s
      · exact reports_recordRecal d _ _ _ _ _ _ _ s
      · exact reports_recordRecal d _ _ _ _ _ _ _ s

theorem reports_aspRecv (g : BitVec 12) (win epoch : BitVec 16) (off n t : Nat) (w : WindowIn) (s : State) :
    Reports s (aspRecv g win epoch off n t w s) := by
  refine .ite (fun _ => ?_) fun _ => Reports.refl s
  have taken := (reports_windowBegins g win epoch (t - 64) s).trans (reports_takeWindow g win epoch off n (t - 64) w _)
  exact taken.trans (.ite (fun _ => reports_modDest _ _ _) fun _ => Reports.refl _)

/-! ## T6 flits (R154, R217, R218) -/

theorem reports_recvWhole (r : OpenRecv) (s : State) : Reports s (recvWhole r s) :=
  .ite (fun _ => reports_recvJct r s) fun _ => .ite (fun _ => reports_aspRecv _ _ _ _ _ _ _ s) fun _ => Reports.refl s

theorem reports_recvBad (r : OpenRecv) (s : State) : Reports s (recvBad r s) :=
  .ite (fun _ => reports_modGroup _ _ s) fun _ => Reports.refl s

theorem reports_closeRecv (r : OpenRecv) (s : State) : Reports s (closeRecv r s) := by
  unfold closeRecv
  extract_lets u missing v whole
  have counted : Reports s v := (reports_modRecv _ _ s).trans (reports_foldl (fun s _ => reports_dlFault (by decide) _ _ _ s) _ u)
  refine counted.trans (.ite (fun _ => Reports.refl v) fun _ => .ite (fun _ => ?_) fun _ => reports_recvBad r v)
  exact reports_aspRecv _ _ _ _ _ _ _ v

theorem reports_closeDue (s : State) : Reports s (closeDue s) :=
  (reports_foldl (fun s r => reports_closeRecv r s) _ s).trans (reports_foldl (fun s g => reports_t6Complete g s) _ _)

theorem reports_entryProtocol (e : TtEntry) (h : T6Hdr) (s : State) : Reports s (entryProtocol e h s) := by
  unfold entryProtocol
  refine reports_raise ?_ _ s
  split <;> decide

theorem reports_deliverT6 (r : OpenRecv) (i : Nat) (data : List Byte) (bad : Bool) (s : State) : Reports s (deliverT6 r i data bad s) := by
  unfold deliverT6
  extract_lets d u v full
  have seen : Reports s v := (reports_modRecv _ _ s).trans (.ite (fun _ => reports_dlFault (by decide) _ _ _ u) fun _ => Reports.refl u)
  have overrun (s : State) : Reports s (full s) := reports_dlFault (by decide) _ _ _ s
  refine seen.trans (.ite (fun _ => .ite (fun _ => overrun v) fun _ => reports_writeT6 _ _ _ _ v) fun _ => ?_)
  have drained : Reports v (if r.e.kind = 4 then intake r.e.jctFormat d.length v else (true, v)).2 := by
    split
    · exact reports_intake _ _ v
    · exact Reports.refl v
  generalize (if r.e.kind = 4 then intake r.e.jctFormat d.length v else (true, v)) = taken at drained ⊢
  obtain ⟨ok, w⟩ := taken
  refine drained.trans (.ite (fun _ => (overrun w).trans (reports_recvBad r _)) fun _ => ?_)
  exact (reports_modRecv _ _ w).trans (.ite (fun _ => reports_recvWhole _ _) fun _ => Reports.refl _)

theorem reports_t6Arrive (h : T6Hdr) (data : List Byte) (s : State) : Reports s (t6Arrive h data s) := by
  refine .ite (fun _ => Reports.refl s) fun _ => ?_
  extract_lets u hits pick place
  have closed : Reports s u := reports_closeDue s
  clear_value pick u
  refine closed.trans ?_
  split
  · exact reports_dlFault (by decide) _ _ _ u
  · refine .ite (fun _ => reports_dlFault (by decide) _ _ _ u) fun _ => .ite (fun _ => reports_dlFault (by decide) _ _ _ u) fun _ => ?_
    refine .ite (fun _ => ?_) fun _ => reports_deliverT6 _ _ _ _ u
    exact (reports_modRecv _ _ u).trans (reports_entryProtocol _ _ _)

theorem reports_t6Lost (k : SleeveNo) (slot : Nat) (flit : BitVec 2048) (s : State) : Reports s (t6Lost k slot flit s) := by
  refine .ite (fun _ => reports_raise (by decide) _ s) fun _ => (reports_closeDue s).trans ?_
  split
  · exact reports_dlFault (by decide) _ _ _ _
  · refine .ite (fun _ => ?_) fun _ => reports_deliverT6 _ _ _ _ _
    exact ((reports_modRecv _ _ _).trans (reports_dlFault (by decide) _ _ _ _)).trans (reports_entryProtocol _ _ _)

end Sys2Proof.Machine
end

section
/-!
SUPPORT. Link control flits and T6 flits received (R73, R135, R137, R139, R140, R145, R149, R154, R157, R160, R412).
-/
namespace Sys2Proof.Machine

/-! ## Counters of flits -/

theorem toNat_countReg (a : Nat) (s : State) : ((countReg a s).reg a).toNat = min 0xFFFFFFFF ((s.reg a).toNat + 1) := by
  rw [countReg, reg_setReg_same]
  split
  next full =>
    rw [full]
    decide
  next room =>
    have lt : (s.reg a).toNat ≠ 0xFFFFFFFF := fun e => room (BitVec.eq_of_toNat_eq e)
    have bound := (s.reg a).isLt
    rw [BitVec.toNat_add, show (1 : Word).toNat = 1 from rfl]
    omega

theorem reg_countReg_other {a b : Nat} (other : b ≠ a) (s : State) : (countReg a s).reg b = s.reg b := reg_setReg_other s a b _ other

/-- A CRC-64 failure counted, and noted in its window. -/
def crcCounted (k : SleeveNo) (s : State) : State :=
  modSeam (fun m => { m with crcWin := vmod m.crcWin k.toNat (· + 1) }) (countReg (R.LNK_CRC_ERR + 4 * k.toNat) s)

theorem crcFail_cases (k : SleeveNo) (s : State) :
    crcFail k s = crcCounted k s ∨ crcFail k s = raiseLane C.SEAM.UNATTRIBUTED .down k 0xF (crcCounted k s) := by
  unfold crcFail
  extract_lets a u v n w t
  split
  · exact .inr rfl
  · exact .inl rfl

theorem crcErr_plain (k : SleeveNo) : R.LNK_CRC_ERR + 4 * k.toNat ∉ causeRegs := by
  have plain : ∀ n < 8, R.LNK_CRC_ERR + 4 * n ∉ causeRegs := by decide +kernel
  exact plain k.toNat k.isLt

theorem lnk_crcFail (k : SleeveNo) (s : State) : (crcFail k s).lnk = s.lnk := by
  rcases crcFail_cases k s with e | e <;> rw [e]
  · rfl
  · exact onlyChanges_raiseLane _ _ _ _ (crcCounted k s) .lnk (by decide)

theorem toNat_crcFail (k : SleeveNo) (s : State) : ((crcFail k s).reg (R.LNK_CRC_ERR + 4 * k.toNat)).toNat =
    min 0xFFFFFFFF ((s.reg (R.LNK_CRC_ERR + 4 * k.toNat)).toNat + 1) := by
  have told : (crcFail k s).reg (R.LNK_CRC_ERR + 4 * k.toNat) = (crcCounted k s).reg (R.LNK_CRC_ERR + 4 * k.toNat) := by
    rcases crcFail_cases k s with e | e <;> rw [e]
    exact (notes_raise (c := C.SEAM.UNATTRIBUTED) (by decide) _ (crcCounted k s)).2 _ (by simpa using crcErr_plain k)
  rw [told]
  exact toNat_countReg _ s

/-! ## Acknowledgements, tickets and NAKs (R139, R140, R142, R149) -/

/-- What the siding holds of a flit, whether or not it is due again. -/
def SideFlit.kept (f : SideFlit) : BitVec 12 × OutFlit × Nat := (f.seq, f.flit, f.replays)

/-- What a received flit's acknowledgement, tickets and NAK leave: the link's state, and all but it, causes and their log. -/
structure Hears (s t : State) : Prop where
  frame : OnlyChanges [.lnk, .regs, .flt] s t
  notes : Notes [] s t
  st : t.lnk.st = s.lnk.st
  retraining : t.lnk.retraining = s.lnk.retraining

/-- What the tickets and the NAK leave besides: what is acknowledged, and what the siding holds. -/
structure Answered (s t : State) : Prop extends Hears s t where
  acked : t.lnk.acked = s.lnk.acked
  kept : t.lnk.siding.map SideFlit.kept = s.lnk.siding.map SideFlit.kept

section
variable {s t u : State}

theorem Hears.trans (h : Hears s t) (k : Hears t u) : Hears s u :=
  ⟨(h.frame.trans k.frame).mono (by decide), h.notes.trans k.notes, k.st.trans h.st, k.retraining.trans h.retraining⟩

theorem Hears.refl (s : State) : Hears s s := ⟨(OnlyChanges.refl s).mono (by decide), Notes.refl s, rfl, rfl⟩

theorem Answered.refl (s : State) : Answered s s := ⟨Hears.refl s, rfl, rfl⟩

theorem Answered.trans (h : Answered s t) (k : Answered t u) : Answered s u :=
  ⟨h.toHears.trans k.toHears, k.acked.trans h.acked, k.kept.trans h.kept⟩

/-- A change of the link layer. -/
theorem hears_modLnk {f : Lnk → Lnk} (same : ∀ l, (f l).st = l.st ∧ (f l).retraining = l.retraining) (s : State) :
    Hears s (modLnk f s) :=
  ⟨(onlyChanges_modLnk f s).mono (by decide), (onlyChanges_modLnk f s).notes (by decide) (by decide), (same s.lnk).1, (same s.lnk).2⟩

theorem answered_raise {c : Cause} (hc : c ∈ causes) (d : BitVec 80) (s : State) : Answered s (raise c d s) := by
  have same : (raise c d s).lnk = s.lnk := onlyChanges_raise c d s .lnk (by decide)
  exact ⟨⟨(onlyChanges_raise c d s).mono (by decide), notes_raise hc d s, congrArg Lnk.st same, congrArg Lnk.retraining same⟩,
    congrArg Lnk.acked same, congrArg (fun l => l.siding.map SideFlit.kept) same⟩

end

theorem answered_noteStall (s : State) : Answered s (noteStall s) := by
  unfold noteStall
  extract_lets full u
  have marked : Answered s u := ⟨hears_modLnk (by exact fun _ => ⟨rfl, rfl⟩) s, rfl, rfl⟩
  split
  · exact marked.trans (answered_raise (by decide) _ u)
  · exact marked

theorem answered_onCount (i : Fin 6) (c : BitVec 12) (s : State) : Answered s (onCount i c s) := by
  unfold onCount
  extract_lets l n most u
  have counted : Answered s u := ⟨hears_modLnk (by exact fun _ => ⟨rfl, rfl⟩) s, rfl, rfl⟩
  split
  · exact counted.trans (answered_raise (by decide) _ u)
  · exact counted

theorem answered_resend (p : SideFlit → Bool) (s : State) : Answered s (resend p s) := by
  have same := lnk_resend p s
  refine ⟨⟨onlyChanges_resend p s, notes_resend p s, by rw [same], by rw [same]⟩, by rw [same], ?_⟩
  rw [same]
  simp only [dueAgain, mapIf, List.map_map]
  refine List.map_congr_left fun f _ => ?_
  dsimp only [Function.comp_apply]
  split <;> rfl

theorem answered_onNak (missing : BitVec 256) (s : State) : Answered s (onNak missing s) := by
  unfold onNak
  split <;> exact answered_resend _ s

/-- The link layer with the flits up to an acknowledged one gone from its siding (R139). -/
def ackTaken (a : BitVec 12) (s : State) : State :=
  modLnk (fun l => { l with
    replayFrom := if (a - s.lnk.acked).toNat = 0 then l.replayFrom else s.mark
    acked := a
    siding := l.siding.filter fun f => (a - s.lnk.acked).toNat < (f.seq - l.acked).toNat }) s

/-- An acknowledgement that names a flit sent empties the siding up to it (R139, R140). -/
theorem onAck_sent {a : BitVec 12} {s : State} (sent : (a - s.lnk.acked).toNat ≤ (s.lnk.nextSeq - 1 - s.lnk.acked).toNat) :
    onAck a s = noteStall (ackTaken a s) := if_neg (by simpa using sent)

theorem hears_onAck (a : BitVec 12) (s : State) : Hears s (onAck a s) := by
  unfold onAck
  extract_lets n
  split
  · exact Hears.refl s
  · exact (hears_modLnk (by exact fun _ => ⟨rfl, rfl⟩) s).trans (answered_noteStall _).toHears

theorem answered_onHeader (h : DHdr) (s : State) : Answered (onAck h.ack s) (onHeader h s) := by
  unfold onHeader
  extract_lets u
  split
  · exact answered_onCount _ _ u
  · exact Answered.refl u

theorem answered_foldl {α : Type} {f : State → α → State} (h : ∀ s x, Answered s (f s x)) (l : List α) (s : State) :
    Answered s (l.foldl f s) := by
  induction l generalizing s with
  | nil => exact Answered.refl s
  | cons x xs ih => exact (h s x).trans (ih (f s x))

/-- The header of a flit (R136). -/
def hdrOf (flit : BitVec 2048) : DHdr := DHdr.ofBits (bits flit 0 64)

/-- A link control flit's header, tickets and NAK, without its RETRAIN (R145, R149). -/
def ctlHeard (flit : BitVec 2048) (s : State) : State :=
  let c := LinkCtl.ofBits (payloadOf flit)
  let s := ([0, 1, 2, 3, 4, 5] : List (Fin 6)).foldl (fun s i => onCount i c.counts[i] s) (onHeader (hdrOf flit) s)
  if (hdrOf flit).nak = 1 then onNak c.missing s else s

theorem linkCtl_eq (flit : BitVec 2048) (s : State) :
    linkCtl flit s = if (LinkCtl.ofBits (payloadOf flit)).retrain then startRetrain false (ctlHeard flit s) else ctlHeard flit s := rfl

theorem answered_ctlHeard (flit : BitVec 2048) (s : State) : Answered (onAck (hdrOf flit).ack s) (ctlHeard flit s) := by
  unfold ctlHeard
  extract_lets c u
  have told : Answered (onAck (hdrOf flit).ack s) u :=
    (answered_onHeader _ s).trans (answered_foldl (fun s i => answered_onCount i _ s) _ _)
  split
  · exact told.trans (answered_onNak _ u)
  · exact told

theorem hears_ctlHeard (flit : BitVec 2048) (s : State) : Hears s (ctlHeard flit s) :=
  (hears_onAck _ s).trans (answered_ctlHeard flit s).toHears

/-! ## LINK_UP (R412) -/

/-- The link is in service, and the ports may take commands (R47, R163, R412). -/
structure InService (s : State) : Prop where
  st : s.lnk.st = .up
  pcm : s.pcm.st = .awake
  mode : s.tlr.mode = .service
  raised : Raised C.LNK.LINK_UP s
  step : s.boot.step = 8 ∨ s.boot.step = 9
  live : s.platLive = true

section
variable {s t : State}

/-- The platform runs while the block is awake, if it ran before. -/
theorem platLive_awake (live : s.platLive = true) (pins : t.pins = s.pins) (wrapped : t.wrapped = s.wrapped)
    (awake : t.pcm.st = .awake) : t.platLive = true := by
  simp only [State.platLive, State.functional, State.up, pins, wrapped, awake] at live ⊢
  exact Bool.and_eq_true_iff.mpr ⟨(Bool.and_eq_true_iff.mp live).1, rfl⟩

/-- What changes neither the power manager nor start-up leaves the link in service. -/
theorem InService.keep {ps : List Part} (h : InService s) (frame : OnlyChanges ps s t)
    (away : .pcm ∉ ps ∧ .boot ∉ ps ∧ .pins ∉ ps ∧ .wrapped ∉ ps) (notes : Notes [] s t) (st : t.lnk.st = s.lnk.st)
    (mode : t.tlr.mode = s.tlr.mode) : InService t := by
  obtain ⟨pcm, boot, pins, wrapped⟩ := away
  have pcm : t.pcm = s.pcm := frame .pcm pcm
  have boot : t.boot = s.boot := frame .boot boot
  have awake : t.pcm.st = .awake := pcm ▸ h.pcm
  exact ⟨st.trans h.st, awake, mode.trans h.mode, notes.1 _ (by decide) h.raised, boot ▸ h.step,
    platLive_awake h.live (frame .pins pins) (frame .wrapped wrapped) awake⟩

theorem InService.hears (h : InService s) (k : Hears s t) : InService t :=
  h.keep k.frame (by decide) k.notes k.st (k.frame.mode (by decide))

theorem InService.repairs (h : InService s) (k : Repairs s t) : InService t :=
  h.keep k.keeps.frame (by decide) k.keeps.notes (congrArg Lnk.st (k.keeps.frame .lnk (by decide))) k.mode

theorem InService.noteReady (h : InService s) : InService (noteReady s) := by
  unfold Machine.noteReady
  split
  · exact ⟨h.st, h.pcm, h.mode, h.raised, .inr rfl, h.live⟩
  · exact h

/-- A block in service has its ports ready (R47). -/
theorem InService.portsReady (h : InService s) : (settle s).outs.portsReady = true := by
  have ready : s.portsReady = true := by
    unfold State.portsReady
    rcases h.step with e | e <;> simp [h.live, h.st, h.pcm, e]
  exact ready

end

/-- The power manager as the link comes up: awake, with no use counted yet (R412). -/
def pcmAwake (s : State) : Pcm :=
  { s.pcm with st := .awake, lastDyn := s.now, windowAt := s.now, useUp := 0, capUp := 0, useDn := 0, capDn := 0 }

/-- The link in service, before LINK_UP is raised. -/
def linkBegun (s : State) : State :=
  let s := modTlr (fun t => { t with mode := .service }) (modLnk (fun l => { l with st := .up, ctlFrom := s.mark }) s)
  { s with pcm := pcmAwake s }

/-- The link as it comes up, before those who wait for it are told. -/
def cameUp (s : State) : State :=
  let s := raise C.LNK.LINK_UP 0 (linkBegun s)
  { s with boot := { s.boot with reached := if s.boot.reached < 9 then 9 else s.boot.reached } }

theorem linkUp_eq (s : State) : linkUp s = nextEx (repairAgain (noteReady (wake .linkUp 0 (cameUp s).genTracks (cameUp s)))) := rfl

theorem inService_cameUp {s : State} (step : s.boot.step = 8) (live : s.platLive = true) : InService (cameUp s) := by
  have frame : OnlyChanges [.regs, .flt] (linkBegun s) (raise C.LNK.LINK_UP 0 (linkBegun s)) := onlyChanges_raise _ _ _
  have raised := raised_raise_self (c := C.LNK.LINK_UP) (by decide) 0 (linkBegun s)
  unfold cameUp
  generalize raise C.LNK.LINK_UP 0 (linkBegun s) = u at frame raised
  have lnk : u.lnk = (linkBegun s).lnk := frame .lnk (by decide)
  have pcm : u.pcm = (linkBegun s).pcm := frame .pcm (by decide)
  have boot : u.boot = s.boot := frame .boot (by decide)
  have awake : u.pcm.st = .awake := by
    rw [pcm]
    rfl
  refine ⟨by rw [lnk]; rfl, awake, frame.mode (by decide), raised, .inl ?_, ?_⟩
  · exact (congrArg Boot.step boot).trans step
  · exact platLive_awake live (frame .pins (by decide)) (frame .wrapped (by decide)) awake

theorem inService_linkUp {s : State} (step : s.boot.step = 8) (live : s.platLive = true) : InService (linkUp s) := by
  have up := inService_cameUp step live
  rw [linkUp_eq]
  generalize cameUp s = u at up
  have told := keeps_wake .linkUp 0 u.genTracks u
  have st : (wake .linkUp 0 u.genTracks u).lnk.st = u.lnk.st := (queues_wake _ _ _ u).same Lnk.st fun _ _ _ => rfl
  have woken := up.keep told.frame (by decide) told.notes st (told.frame.mode (by decide))
  exact woken.noteReady.repairs ((repairs_repairAgain _).trans (exOnly_nextEx _).repairs)

/-! ## Link control flits (R137, R145, R157, R160, R412) -/

/-- What a good link control flit does (R157, R160, R412). -/
def ctlTaken (flit : BitVec 2048) (s : State) : State :=
  if s.lnk.st == .up || (s.lnk.st == .notUp && s.boot.step == 8) then
    linkCtl flit (if s.lnk.st == .notUp then linkUp s else s)
  else if s.lnk.st == .grace && (LinkCtl.ofBits (payloadOf flit)).retrain && s.lnk.retraining.isNone then beginRetrain false s
  else s

theorem exec_linkControlReceive (k : SleeveNo) (line : BitVec 2304) (s : State) :
    exec (.linkControlReceive k line) s = whenPlat s fun s => onFlit 3 k line id ctlTaken s := rfl

section
variable {k : SleeveNo} {line : BitVec 2304} {p : BitVec 1920} {f : BitVec 2048} {s : State} {P : State → Prop}

theorem runs_linkControlReceive (hl : s.platLive = true) (h : Brings 3 k line p s) (result : P (settle (ctlTaken (s.slotOf k line) s))) :
    Runs (.linkControlReceive k line) s P :=
  runs_plat (exec_linkControlReceive k line) hl (onFlit_of_brings h (by decide) id ctlTaken) result

theorem Brings.payload (h : Brings 3 k line p s) : payloadOf (s.slotOf k line) = p := by
  obtain ⟨-, -, -, -, -, -, payload⟩ := h
  exact payload

theorem ctlTaken_starts (st : s.lnk.st = .notUp) (step : s.boot.step = 8) (plain : (LinkCtl.ofBits (payloadOf f)).retrain = false) :
    ctlTaken f s = ctlHeard f (linkUp s) := by
  rw [ctlTaken, if_pos (by simp [st, step]), if_pos (by simp [st]), linkCtl_eq, plain]
  rfl

theorem ctlTaken_up (st : s.lnk.st = .up) (plain : (LinkCtl.ofBits (payloadOf f)).retrain = false) : ctlTaken f s = ctlHeard f s := by
  rw [ctlTaken, if_pos (by simp [st]), if_neg (by simp [st]), linkCtl_eq, plain]
  rfl

theorem ctlTaken_up_retrain (st : s.lnk.st = .up) (ask : (LinkCtl.ofBits (payloadOf f)).retrain = true) :
    ctlTaken f s = startRetrain false (ctlHeard f s) := by
  rw [ctlTaken, if_pos (by simp [st]), if_neg (by simp [st]), linkCtl_eq, if_pos ask]

theorem ctlTaken_grace_retrain (st : s.lnk.st = .grace) (ask : (LinkCtl.ofBits (payloadOf f)).retrain = true)
    (free : s.lnk.retraining = none) : ctlTaken f s = beginRetrain false s := by
  rw [ctlTaken, if_neg (by simp [st]), if_pos (by simp [st, ask, free])]

/-- The first link control flit of start-up's last step brings the link up (R412). -/
theorem runs_linkControl_starts (hl : s.platLive = true) (h : Brings 3 k line p s) (st : s.lnk.st = .notUp) (step : s.boot.step = 8)
    (plain : (LinkCtl.ofBits p).retrain = false) : Runs (.linkControlReceive k line) s fun t =>
      t.lnk.st = .up ∧ t.pcm.st = .awake ∧ t.tlr.mode = .service ∧ Raised C.LNK.LINK_UP t ∧ t.outs.portsReady = true := by
  have serves : InService (ctlTaken (s.slotOf k line) s) := by
    rw [ctlTaken_starts st step (h.payload ▸ plain)]
    exact (inService_linkUp step hl).hears (hears_ctlHeard _ _)
  exact runs_linkControlReceive hl h ⟨serves.st, serves.pcm, serves.mode, raised_settle.mpr serves.raised, serves.portsReady⟩

/-- While the link is up its acknowledgement empties the siding (R139, R140, R145). -/
theorem runs_linkControl_acks (hl : s.platLive = true) (h : Brings 3 k line p s) (st : s.lnk.st = .up)
    (plain : (LinkCtl.ofBits p).retrain = false)
    (sent : ((hdrOf (s.slotOf k line)).ack - s.lnk.acked).toNat ≤ (s.lnk.nextSeq - 1 - s.lnk.acked).toNat) :
    Runs (.linkControlReceive k line) s fun t =>
      t.lnk.acked = (hdrOf (s.slotOf k line)).ack ∧ t.lnk.st = .up ∧ t.lnk.siding.map SideFlit.kept =
        (s.lnk.siding.filter fun f =>
          ((hdrOf (s.slotOf k line)).ack - s.lnk.acked).toNat < (f.seq - s.lnk.acked).toNat).map SideFlit.kept := by
  have answered := answered_ctlHeard (s.slotOf k line) s
  rw [onAck_sent sent] at answered
  have heard := (answered_noteStall (ackTaken _ s)).trans answered
  refine runs_linkControlReceive hl h ?_
  rw [ctlTaken_up st (h.payload ▸ plain)]
  exact ⟨heard.acked, heard.st.trans st, heard.kept⟩

/-- One with RETRAIN begins a retrain, in a grace hold too (R157, R160). -/
theorem runs_linkControl_retrains (hl : s.platLive = true) (h : Brings 3 k line p s) (st : s.lnk.st = .up ∨ s.lnk.st = .grace)
    (ask : (LinkCtl.ofBits p).retrain = true) (free : s.lnk.retraining = none) : Runs (.linkControlReceive k line) s fun t =>
      t.lnk.st = (if s.lnk.st = .grace then .grace else .retrain) ∧ t.lnk.retraining.isSome = true ∧ t.lnk.retrainDue = false ∧
        Raised C.LNK.RETRAIN t := by
  obtain ⟨u, begins, same⟩ : ∃ u, ctlTaken (s.slotOf k line) s = beginRetrain false u ∧ u.lnk.st = s.lnk.st := by
    rcases st with up | held
    · have heard := hears_ctlHeard (s.slotOf k line) s
      refine ⟨ctlHeard (s.slotOf k line) s, ?_, heard.st⟩
      rw [ctlTaken_up_retrain up (h.payload ▸ ask), startRetrain_up (heard.st.trans up) (heard.retraining.trans free)]
    · exact ⟨s, ctlTaken_grace_retrain held (h.payload ▸ ask) free, rfl⟩
  have begun := retrains_beginRetrain false u
  rw [← begins] at begun
  refine runs_linkControlReceive hl h ⟨begun.st.trans ?_, begun.runs, begun.due, raised_settle.mpr begun.raised⟩
  rw [same]
  rcases st with e | e <;> simp [e]

/-- One that fails its CRC-64 is counted against its sleeve, and brings nothing (R137). -/
theorem runs_linkControl_bad (hl : s.platLive = true) (h : Comes k line f s) (kind : kindOf f = 3) (bad : crcOk f = false) :
    Runs (.linkControlReceive k line) s fun t => t.lnk = s.lnk ∧
      (t.reg (R.LNK_CRC_ERR + 4 * k.toNat)).toNat = min 0xFFFFFFFF ((s.reg (R.LNK_CRC_ERR + 4 * k.toNat)).toNat + 1) := by
  have failed : onFlit 3 k line id ctlTaken s = crcFail k s := by
    obtain ⟨-, used, free, slot, flit⟩ := h
    simp [onFlit, used, free, slot, flit, kind, bad]
  exact runs_plat (exec_linkControlReceive k line) hl failed ⟨lnk_crcFail k s, toNat_crcFail k s⟩

end

/-! ## T6 flits (R73, R154, R162) -/

/-- The FEC counters are neither registers of causes nor deadline counters. -/
theorem fec_plain : R.LNK_FEC_CORR ∉ causeRegs ++ deadlineCounters ∧ R.LNK_FEC_UNCORR ∉ causeRegs ++ deadlineCounters := by
  decide +kernel

section
variable {k : SleeveNo} {got : SlotLine} {s t : State}

/-- The decoding of a slot: nothing on a sleeve in the slot in which it is retired (R73, R154). -/
def State.t6Got (s : State) (k : SleeveNo) (got : SlotLine) : Option (BitVec 64 × BitVec 1600 × Nat) :=
  if s.seam.lastRetired = some (k, s.seam.dnSlot) then none else t6Decode (s.slotOf k got.line)

/-- A slot that reaches the decoder: the link is up, and it is no filler on a sleeve in use or just retired. -/
def T6Comes (k : SleeveNo) (got : SlotLine) (s : State) : Prop :=
  s.lnk.st = .up ∧ bits (s.slotOf k got.line) 0 64 ≠ 0#64 ∧
    (s.seam.lastRetired = some (k, s.seam.dnSlot) ∨ s.seam.usable.getLsbD k.toNat = true)

theorem T6Comes.reaches (h : T6Comes k got s) :
    ¬(s.lnk.st != .up || bits (s.slotOf k got.line) 0 64 == 0 ||
      !(s.seam.lastRetired = some (k, s.seam.dnSlot) || s.seam.usable.getLsbD k.toNat)) = true := by
  obtain ⟨st, flit, used⟩ := h
  rcases used with e | e <;> simp [st, flit, e]

/-- A slot that cannot be decoded is counted as uncorrectable (R154). -/
theorem runs_t6_lost (hl : s.platLive = true) (comes : T6Comes k got s) (lost : s.t6Got k got = none) :
    Runs (.t6FlitReceive k got) s fun t =>
      (t.reg R.LNK_FEC_UNCORR).toNat = min 0xFFFFFFFF ((s.reg R.LNK_FEC_UNCORR).toNat + 1) ∧
        t.reg R.LNK_FEC_CORR = s.reg R.LNK_FEC_CORR := by
  have told := reports_t6Lost k got.place.toNat (s.slotOf k got.line) (countReg R.LNK_FEC_UNCORR s)
  refine runs_plat (u := t6Lost k got.place.toNat (s.slotOf k got.line) (countReg R.LNK_FEC_UNCORR s)) (fun _ => rfl) hl
    ((if_neg comes.reaches).trans ?_) ?_
  · rw [State.t6Got] at lost
    rw [lost]
  · rw [reg_settle, reg_settle, told.reg fec_plain.1, told.reg fec_plain.2]
    exact ⟨toNat_countReg _ s, reg_countReg_other (by decide) s⟩

/-- A flit whose symbols were corrected is counted as corrected (R154). -/
theorem runs_t6_decoded {h : BitVec 64} {p : BitVec 1600} {n : Nat} (hl : s.platLive = true) (comes : T6Comes k got s)
    (decoded : s.t6Got k got = some (h, p, n)) : Runs (.t6FlitReceive k got) s fun t => n ≠ 0 →
      (t.reg R.LNK_FEC_CORR).toNat = min 0xFFFFFFFF ((s.reg R.LNK_FEC_CORR).toNat + 1) ∧
        t.reg R.LNK_FEC_UNCORR = s.reg R.LNK_FEC_UNCORR := by
  refine runs_plat (u := t6Arrive (T6Hdr.ofBits h) ((bvBytes p).take ((T6Hdr.ofBits h).len.toNat + 1))
    (if n = 0 then s else countReg R.LNK_FEC_CORR s)) (fun _ => rfl) hl ((if_neg comes.reaches).trans ?_) fun wrong => ?_
  · rw [State.t6Got] at decoded
    rw [decoded]
  · rw [if_neg wrong]
    have told := reports_t6Arrive (T6Hdr.ofBits h) ((bvBytes p).take ((T6Hdr.ofBits h).len.toNat + 1)) (countReg R.LNK_FEC_CORR s)
    rw [reg_settle, reg_settle, told.reg fec_plain.1, told.reg fec_plain.2]
    exact ⟨toNat_countReg _ s, reg_countReg_other (by decide) s⟩

/-- Filler in a slot is no flit (R73). -/
theorem runs_t6_filler (hl : s.platLive = true) (hs : Settled s) (filler : bits (s.slotOf k got.line) 0 64 = 0#64) :
    Runs (.t6FlitReceive k got) s fun t => t = s :=
  runs_plat (fun _ => rfl) hl (if_pos (by simp [filler])) (settle_eq_self hs)

end

/-- Settles O40: the first link control flit brings the link up, later ones acknowledge or begin a retrain, and a T6 flit is counted by
its decoding. -/
theorem controlFlitsArrive : Obligations.ControlFlitsArrive := by
  refine ⟨fun _ _ _ _ hl brings st step plain => runs_linkControl_starts hl brings st step plain, ?_,
    fun _ _ _ _ hl brings st ask free => runs_linkControl_retrains hl brings st ask free,
    fun _ _ _ _ hl comes kind bad => runs_linkControl_bad hl comes kind bad, ?_, ?_,
    fun _ _ _ _ hl hs filler => runs_t6_filler hl hs filler⟩
  · rintro _ _ _ _ _ hl brings st rfl plain sent
    exact runs_linkControl_acks hl brings st plain sent
  · intro k place line s hl st flit used stays
    have got : s.t6Got k ⟨place, line⟩ = t6Decode (s.slotOf k line) := if_neg stays
    have comes : T6Comes k ⟨place, line⟩ s := ⟨st, flit, .inr used⟩
    cases decoded : t6Decode (s.slotOf k line) with
    | none =>
      obtain ⟨t, ran, counted⟩ := runs_t6_lost hl comes (got.trans decoded)
      exact ⟨t, ran, fun _ => counted, fun _ _ _ same => absurd same.symm (Option.some_ne_none _)⟩
    | some x =>
      obtain ⟨h, p, n⟩ := x
      obtain ⟨t, ran, counted⟩ := runs_t6_decoded hl comes (got.trans decoded)
      refine ⟨t, ran, fun lost => absurd lost (Option.some_ne_none _), fun _ _ n' same wrong => counted ?_⟩
      have number : n = n' := congrArg (fun x => x.2.2) (Option.some.inj same)
      rwa [number]
  · intro k place line s hl st flit cut
    exact runs_t6_lost hl ⟨st, flit, .inl cut⟩ (if_pos cut)

end Sys2Proof.Machine
end

section
/-!
SUPPORT. Packets that join an outbound queue, packets taken out of the receive pool, and entries of the manifest: what each operation makes
and what it leaves (R148, R160, R165, R171 to R174).
-/
namespace Sys2Proof.Machine

/-! ## Outbound queues -/

/-- The outbound queues are the same, and so is what says whether they take packets. -/
structure SameQueues (l m : Lnk) : Prop where
  outq : m.outq = l.outq
  st : m.st = l.st
  trackMask : m.trackMask = l.trackMask

theorem SameQueues.refl (l : Lnk) : SameQueues l l := ⟨rfl, rfl, rfl⟩

theorem SameQueues.trans {l m n : Lnk} (h : SameQueues l m) (k : SameQueues m n) : SameQueues l n :=
  ⟨k.outq.trans h.outq, k.st.trans h.st, k.trackMask.trans h.trackMask⟩

theorem SameQueues.linkOpen {s t : State} (h : SameQueues s.lnk t.lnk) : t.linkOpen = s.linkOpen := by
  simp only [State.linkOpen, h.st]

theorem SameQueues.room {s t : State} (h : SameQueues s.lnk t.lnk) (n : Nat) : t.room n = s.room n := by
  simp only [State.room, h.outq]

/-- A link that holds traffic takes a packet on a track of the negotiated set (R160, R163). -/
theorem outq_queuePacket {t : Nat} {s : State} (link : s.linkOpen = true) (mask : s.lnk.trackMask.getLsbD t = true) (bs : List Byte) :
    (queuePacket t bs s).lnk.outq = vmod s.lnk.outq t (· ++ pktFlits t bs) := by
  simp [queuePacket, link, mask]

/-! ## Flits that leave their buffers -/

theorem onlyChanges_returnTicket (f : RxFlit) (s : State) : OnlyChanges [.lnk] s (returnTicket f s) := by
  unfold returnTicket
  extract_lets k
  cases k with
  | none => exact (OnlyChanges.refl s).mono (by decide)
  | some i => exact onlyChanges_lnk _ s

theorem sameQueues_returnTicket (f : RxFlit) (s : State) : SameQueues s.lnk (returnTicket f s).lnk := by
  unfold returnTicket
  extract_lets k
  cases k with
  | none => exact SameQueues.refl _
  | some i => exact ⟨rfl, rfl, rfl⟩

theorem onlyChanges_freeFlits (fs : List RxFlit) (s : State) : OnlyChanges [.lnk] s (freeFlits fs s) :=
  onlyChanges_foldl (fun s f => onlyChanges_returnTicket f s) fs s

theorem sameQueues_freeFlits (fs : List RxFlit) (s : State) : SameQueues s.lnk (freeFlits fs s).lnk := by
  induction fs generalizing s with
  | nil => exact SameQueues.refl _
  | cons f fs ih => exact (sameQueues_returnTicket f s).trans (ih (returnTicket f s))

/-- A packet taken leaves the receive pool, and nothing else changes (R148). -/
theorem takePacket_eq (t : BitVec 3) (s : State) : ∃ fs pool, takePacket t s = (fs, { s with lnk := { s.lnk with pool := pool } }) := by
  unfold takePacket
  split
  · exact ⟨_, _, rfl⟩
  · exact ⟨[], s.lnk.pool, rfl⟩

/-! ## Entries -/

/-- FULL follows the entries in use; nothing else of the manifest changes (R173). -/
theorem mnf_noteFull (s : State) : (noteFull s).mnf = { s.mnf with full := s.mnfFull } := by
  dsimp only [noteFull]
  split
  · simp
  · rfl

theorem onlyChanges_alloc (e : Entry) (s : State) : OnlyChanges [.mnf, .regs, .flt] s (alloc e s).2 := by
  dsimp only [alloc, putEntry]
  exact ((onlyChanges_mnf _ s).trans (onlyChanges_noteFull _)).mono (by decide)

/-- A new entry stands under the tag that it is given. -/
theorem cellsGet_alloc (e : Entry) (s : State) : cellsGet (alloc e s).1 (alloc e s).2.mnf.entries = some e := by
  simp only [alloc, mnf_noteFull, putEntry]
  exact cellsGet_cellsPut_same _ _ _

/-- A new entry leaves the requests and replies that wait. -/
theorem queues_mnf_alloc (e : Entry) (s : State) :
    (alloc e s).2.mnf.ready = s.mnf.ready ∧ (alloc e s).2.mnf.waiting = s.mnf.waiting := by
  simp only [alloc, mnf_noteFull, putEntry, and_self]

/-- A migration that does not run does nothing. -/
theorem pumpMig_of_idle {s : State} (idle : s.msh.mig.st = .idle) : pumpMig s = s := by
  unfold pumpMig
  split
  · rfl
  · simp [idle]

end Sys2Proof.Machine
end

section
/-!
SUPPORT. TRANSACTION_ISSUE: the route of a request, and the head of a port's issue queue as it is sent (R165, R166, R170, R173, R188, R189).
-/
namespace Sys2Proof.Machine

/-! ## Routes -/

theorem onlyChanges_salt (d : BitVec 14) (s : State) : OnlyChanges [.free, .mnf] s (salt d s).2 := by
  have fresh (m : Mnf) : OnlyChanges [.free, .mnf] s { s.draw with mnf := m } := (onlyChanges_draw s).trans (onlyChanges_mnf m _)
  unfold salt
  extract_lets v
  split
  · exact fresh _
  · split
    · exact fresh _
    · exact (OnlyChanges.refl s).mono (by decide)

/-- A route may draw a SALT, and changes nothing else (R188, R189). -/
theorem onlyChanges_routeTo (d : BitVec 14) (s : State) : OnlyChanges [.free, .mnf] s (routeTo d s).2 := by
  have same : OnlyChanges [.free, .mnf] s s := (OnlyChanges.refl s).mono (by decide)
  unfold routeTo
  split
  · exact same
  · split
    · dsimp only
      split
      · exact onlyChanges_salt d s
      · exact same
    · exact same

/-- A request of the block's own leaves on T1, T3 or T4 (R188). -/
theorem track_routeTo (d : BitVec 14) (s : State) : (routeTo d s).1.track = 1 ∨ (routeTo d s).1.track = 3 ∨ (routeTo d s).1.track = 4 := by
  unfold routeTo
  split
  · exact .inl rfl
  · split
    · dsimp only
      split
      · exact .inr (.inl rfl)
      · exact .inr (.inr rfl)
    · exact .inr (.inr rfl)

/-! ## The head of an issue queue -/

/-- The entry that a transaction takes with a route (R171, R173). -/
def Txn.entry (x : Txn) (d : Dest) (r : Route) : Orig :=
  { owner := x.owner, op := x.op, dest := d, len := x.len, attempt := x.attempt, sweeps := 0, quarantined := false, withdrawn := false,
    valiant := r.valiant }

/-- A transaction's entry stands under its own tag, where it has one, else under a new one. -/
def tagged (x : Txn) (o : Orig) (s : State) : Nat × State :=
  match x.tag with
  | some tag => (tag, putEntry tag (.orig o) s)
  | none => alloc (.orig o) s

theorem onlyChanges_tagged (x : Txn) (o : Orig) (s : State) : OnlyChanges [.mnf, .regs, .flt] s (tagged x o s).2 := by
  unfold tagged
  split
  · exact (onlyChanges_mnf _ s).mono (by decide)
  · exact onlyChanges_alloc _ s

theorem cellsGet_tagged (x : Txn) (o : Orig) (s : State) : cellsGet (tagged x o s).1 (tagged x o s).2.mnf.entries = some (.orig o) := by
  unfold tagged
  split
  · exact cellsGet_cellsPut_same _ _ _
  · exact cellsGet_alloc _ s

theorem tagged_own {x : Txn} {g : Nat} (own : x.tag = some g) (o : Orig) (s : State) : (tagged x o s).1 = g := by
  simp only [tagged, own]

/-- A request's packet on its way: out of its issue queue, in the outbound queue of its route, its segment marked as sent. -/
def packetSent (port : PortId) (n i : Nat) (track : Nat) (bytes : List Byte) (s : State) : State :=
  modReq port n (fun x => { x with segs := x.segs.modify i fun g => { g with st := .sent } }) (queuePacket track bytes (dropHead port s))

/-- The packet of a transaction of the block's own under a tag (R165, R166). -/
def Txn.packet (x : Txn) (own : BitVec 14) (tag : Nat) (d : Dest) (r : Route) : List Byte :=
  bvBytes (reqHdr own tag x.op d x.len x.attempt r false).toBits ++ x.data

/-- The head of a port's issue queue obtains its entry and leaves on its route, where both have room (R160, R173). -/
theorem sendHead_host {port : PortId} {x : Txn} {d : Dest} {s u : State} {n i : Nat} {r : Route} (own : x.owner = .host port n i)
    (route : routeTo d.phys s = (r, u)) (room : s.room r.track = true) (entry : x.tag = none → s.canAlloc (.port port) = true) :
    sendHead port x d s =
      packetSent port n i r.track (x.packet s.own (tagged x (x.entry d r) u).1 d r) (tagged x (x.entry d r) u).2 := by
  unfold sendHead tagged packetSent Txn.packet Txn.entry
  cases tag : x.tag with
  | none =>
    simp only [own, route, room, entry tag, Option.isNone_none, Bool.not_true, Bool.and_false, Bool.false_and, Bool.or_false,
      Bool.false_eq_true, if_false]
  | some g =>
    simp only [own, route, room, Option.isNone_some, Bool.not_true, Bool.false_and, Bool.or_false, Bool.false_eq_true, if_false]

/-- The head of a port's issue queue whose destination is known, and which is admitted, is sent (R173, R176). -/
theorem issueHead_sends {port : PortId} {s : State} {x : Txn} {d : Dest} {rest : List Txn} {n i : Nat} (link : s.linkOpen = true)
    (head : (s.port port).issue = x :: rest) (own : x.owner = .host port n i) (dest : x.dest = some d)
    (admitted : opReads x.op = true → ((s.req port n).bind fun q => q.segs[i]?).map (·.admitted) = some true)
    (reach : s.reachable d.phys = true) : issueHead port s = sendHead port x d s := by
  have may : (!opReads x.op || (((s.req port n).bind fun q => q.segs[i]?).map (·.admitted)).getD false) = true := by
    cases reads : opReads x.op with
    | false => rfl
    | true => simp [admitted reads]
  simp only [issueHead, link, head, own, dest, may, reach, Option.isNone_some, Bool.false_and, Bool.not_true, Bool.false_eq_true, if_false,
    Bool.true_and, beq_self_eq_true, if_true]

/-! ## What the packet sent leaves -/

section
variable (port : PortId) (n i track : Nat) (bytes : List Byte) (s : State)

theorem onlyChanges_packetSent : OnlyChanges [.ports, .lnk] s (packetSent port n i track bytes s) :=
  (((onlyChanges_modPort port _ s).trans (onlyChanges_queuePacket track bytes _)).trans (onlyChanges_modReq port n _ _)).mono (by decide)

theorem issue_packetSent : ((packetSent port n i track bytes s).port port).issue = (s.port port).issue.tail := by
  rw [packetSent, modReq, port_modPort_same, (onlyChanges_queuePacket track bytes _).port (by decide), dropHead, port_modPort_same]

theorem outq_packetSent (link : s.linkOpen = true) (mask : s.lnk.trackMask.getLsbD track = true) :
    (packetSent port n i track bytes s).lnk.outq = vmod s.lnk.outq track (· ++ pktFlits track bytes) := by
  have taken := outq_queuePacket (s := dropHead port s) link mask bytes
  rw [packetSent, modReq, (onlyChanges_modPort port _ _) .lnk (by decide), taken]
  rfl

end

theorem runs_transactionIssue {port : PortId} {s u : State} {x : Txn} {d : Dest} {rest : List Txn} {n i : Nat} {r : Route}
    (hl : s.platLive = true) (idle : s.msh.mig.st = .idle) (link : s.linkOpen = true) (head : (s.port port).issue = x :: rest)
    (own : x.owner = .host port n i) (dest : x.dest = some d)
    (admitted : opReads x.op = true → ((s.req port n).bind fun q => q.segs[i]?).map (·.admitted) = some true)
    (reach : s.reachable d.phys = true) (route : routeTo d.phys s = (r, u)) (mask : s.lnk.trackMask.getLsbD r.track = true)
    (room : s.room r.track = true) (entry : x.tag = none → s.canAlloc (.port port) = true) :
    Runs (.transactionIssue port) s fun t =>
      (t.port port).issue = rest ∧
        ∃ tag, cellsGet tag t.mnf.entries = some (.orig (x.entry d r)) ∧ (∀ g, x.tag = some g → tag = g) ∧
          t.lnk.outq.toList.getD r.track [] = s.lnk.outq.toList.getD r.track [] ++ pktFlits r.track (x.packet s.own tag d r) := by
  have routed : OnlyChanges [.free, .mnf] s u := by simpa [route] using onlyChanges_routeTo d.phys s
  have track : r.track = 1 ∨ r.track = 3 ∨ r.track = 4 := by simpa [route] using track_routeTo d.phys s
  set o := x.entry d r
  set v := (tagged x o u).2 with hv
  set tag := (tagged x o u).1 with htag
  have entered : OnlyChanges [.free, .mnf, .regs, .flt] s v := (routed.trans (onlyChanges_tagged x o u)).mono (by decide)
  have lnk : v.lnk = s.lnk := entered .lnk (by decide)
  have issued : issueHead port s = packetSent port n i r.track (x.packet s.own tag d r) v := by
    rw [issueHead_sends link head own dest admitted reach, sendHead_host own route room entry]
  have sent := onlyChanges_packetSent port n i r.track (x.packet s.own tag d r) v
  have still : (issueHead port s).msh.mig.st = .idle := by
    rw [issued, sent .msh (by decide), entered .msh (by decide)]
    exact idle
  refine runs_plat (fun _ => rfl) hl ((pumpMig_of_idle still).trans issued) ⟨?_, tag, ?_, fun g its => tagged_own its o u, ?_⟩
  · rw [port_settle, issue_packetSent, entered.port (by decide), head, List.tail_cons]
  · have kept : (packetSent port n i r.track (x.packet s.own tag d r) v).mnf = v.mnf := sent .mnf (by decide)
    exact (congrArg (fun m : Mnf => cellsGet tag m.entries) kept).trans (cellsGet_tagged x o u)
  · have joined := outq_packetSent port n i r.track (x.packet s.own tag d r) v (by rw [State.linkOpen, lnk]; exact link)
      (by rw [lnk]; exact mask)
    refine (congrArg (fun q => q.toList.getD r.track []) joined).trans ?_
    rw [toList_getD_vmod _ _ _ (by omega), lnk]

end Sys2Proof.Machine
end

section
/-!
SUPPORT. REQUEST_PACKET_RECEIVE: how a packet is taken and judged, how the one request that waits is served, and what a refusal leaves
(R166, R167, R173, R174, R182, R193).
-/
namespace Sys2Proof.Machine

/-! ## A packet taken and judged -/

/-- A packet taken from the pool is discarded, kept for another die, or waits to be served (R167, R190). -/
theorem runs_requestPacketReceive {track : BitVec 3} {hdr : BitVec 256} {data : List Byte} {flits : Nat} {s u : State} {fs : List RxFlit}
    {P : State → Prop} (hf : s.functional = true) (took : takePacket track s = (fs, u)) (own : u.own = s.own)
    (h : P (settle (
      if badRequest s.own track (THdr.ofBits hdr) data flits then discardPacket hdr (THdr.ofBits hdr).src (freeFlits fs u)
      else if (THdr.ofBits hdr).dest ≠ s.own then { u with mnf := { u.mnf with fwd := u.mnf.fwd ++ [⟨track, hdr, data, fs⟩] } }
      else pumpMig (pumpMnf { u with mnf := { u.mnf with waiting := u.mnf.waiting ++ [⟨track, hdr, data, fs⟩] } })))) :
    Runs (.requestPacketReceive track hdr data flits) s P := by
  refine runs_functional (fun _ => rfl) hf ?_ h
  simp only [took, own, bne_iff_ne]

/-- A request that is not malformed comes on T1, T3 or T4 (R167). -/
theorem track_of_good {own : BitVec 14} {track : BitVec 3} {h : THdr} {data : List Byte} {flits : Nat}
    (good : badRequest own track h data flits = false) : track = 1 ∨ track = 3 ∨ track = 4 := by
  simp only [badRequest, Bool.or_eq_false_iff, Bool.not_eq_false', Bool.or_eq_true, beq_iff_eq] at good
  obtain ⟨⟨⟨⟨⟨⟨⟨⟨-, track⟩, -⟩, -⟩, -⟩, -⟩, -⟩, -⟩, -⟩ := good
  exact or_assoc.mp track

/-! ## Requests that wait -/

/-- A track on which no request waits serves none. -/
theorem serveTrack_of_other {t : BitVec 3} {s : State} (none_waits : ∀ p ∈ s.mnf.waiting, p.track ≠ t) (n : Nat) :
    serveTrack t n s = s := by
  cases n with
  | zero => rfl
  | succ n =>
    have found : s.mnf.waiting.find? (·.track == t) = none := List.find?_eq_none.mpr (by simpa using none_waits)
    simp only [serveTrack, found]

/-- The one request that waits on its track is served. -/
theorem serveTrack_of_one {p : RxPacket} {s u : State} (waiting : s.mnf.waiting = [p])
    (served : serve p { s with mnf := { s.mnf with waiting := [] } } = some u) : serveTrack p.track 1 s = u := by
  simp [serveTrack, waiting, served]

/-- The one request that waits, on a track of requests, is served (R193). -/
theorem serveWaiting_of_one {p : RxPacket} {s u : State} (waiting : s.mnf.waiting = [p])
    (track : p.track = 1 ∨ p.track = 3 ∨ p.track = 4)
    (served : serve p { s with mnf := { s.mnf with waiting := [] } } = some u) (rest : u.mnf.waiting = []) : serveWaiting 1 s = u := by
  have own := serveTrack_of_one waiting served
  have before (t : BitVec 3) (ne : p.track ≠ t) : serveTrack t 1 s = s := serveTrack_of_other (by simpa [waiting] using ne) 1
  have after (t : BitVec 3) : serveTrack t 1 u = u := serveTrack_of_other (by simp [rest]) 1
  unfold serveWaiting
  obtain e | e | e := track <;> rw [e] at own before
  · rw [before 4 (by decide), before 3 (by decide), own]
  · rw [before 4 (by decide), own, after]
  · rw [own, after, after]

/-- A request that finds nothing else waiting is served at once, and the replies that are complete then go (R173, R174). -/
theorem pumpMnf_of_one {p : RxPacket} {s u : State} (ready : s.mnf.ready = []) (waiting : s.mnf.waiting = [p])
    (track : p.track = 1 ∨ p.track = 3 ∨ p.track = 4)
    (served : serve p { s with mnf := { s.mnf with waiting := [] } } = some u) (rest : u.mnf.waiting = []) :
    pumpMnf s = handReplies u.mnf.ready.length u := by
  simp only [pumpMnf, ready, waiting, List.length_nil, List.length_singleton, handReplies, serveWaiting_of_one waiting track served rest]

/-- A reply that is complete goes to T2 while that has room, and its entry is freed (R174, R180). -/
theorem handReplies_one {tag : Nat} {v : Served} {s : State} (ready : s.mnf.ready = [tag]) (room : s.room 2 = true)
    (entry : cellsGet tag s.mnf.entries = some (.served v)) :
    handReplies 1 s = freeEntry tag (queuePacket 2 (replyPacket v) { s with mnf := { s.mnf with ready := [] } }) := by
  simp [handReplies, ready, room, entry]

/-- A request for this die, with nothing else waiting, is served in the state as its packet was taken (R173). -/
theorem runs_requestServed {track : BitVec 3} {hdr : BitVec 256} {data : List Byte} {flits : Nat} {s : State} {P : State → Prop}
    (hf : s.functional = true) (hq : Quiet s) (good : badRequest s.own track (THdr.ofBits hdr) data flits = false)
    (here : (THdr.ofBits hdr).dest = s.own)
    (h : ∀ fs pool, ∃ u, serve ⟨track, hdr, data, fs⟩ { s with lnk := { s.lnk with pool := pool } } = some u ∧ u.mnf.waiting = [] ∧
      (handReplies u.mnf.ready.length u).msh.mig.st = .idle ∧ P (settle (handReplies u.mnf.ready.length u))) :
    Runs (.requestPacketReceive track hdr data flits) s P := by
  obtain ⟨ready, waiting, -⟩ := hq
  obtain ⟨fs, pool, took⟩ := takePacket_eq track s
  obtain ⟨u, served, rest, idle, p⟩ := h fs pool
  have cleared : { s.mnf with waiting := [] } = s.mnf := by rw [← waiting]
  have pumped : pumpMnf { s with
      lnk := { s.lnk with pool := pool }, mnf := { s.mnf with waiting := [⟨track, hdr, data, fs⟩] } } =
      handReplies u.mnf.ready.length u := by
    refine pumpMnf_of_one ready rfl (track_of_good good) ?_ rest
    rw [← served]
    exact congrArg (fun m => serve ⟨track, hdr, data, fs⟩ { s with lnk := { s.lnk with pool := pool }, mnf := m }) cleared
  refine runs_requestPacketReceive hf took rfl ?_
  rw [if_neg (by simp [good]), if_neg (by simp [here])]
  dsimp only
  rw [waiting, List.nil_append, pumped, pumpMig_of_idle idle]
  exact p

/-! ## A request refused (R182) -/

theorem serve_refuses {p : RxPacket} {h : THdr} {st : Byte} {s : State} (hdr : h = THdr.ofBits p.hdr) (fresh : h.fwd = 0)
    (entry : s.canAlloc .served = true)
    (unfit : (h.gen ≠ bGen (s.bindOf h.ldest) ∧ st = 0x08) ∨
      (h.gen = bGen (s.bindOf h.ldest) ∧ s.boundTo h.ldest = false ∧ st = 0x06)) : serve p s = some (refuse p h st s) := by
  subst hdr
  obtain ⟨old, rfl⟩ | ⟨fits, unbound, rfl⟩ := unfit
  · simp [serve, entry, fresh, old]
  · simp [serve, entry, fresh, fits, unbound]

/-- The entry of a request that is answered and not performed. -/
def refusal (p : RxPacket) (h : THdr) (st : Byte) : Served :=
  { hdr := h.toBits, track := p.track, left := 0, data := [], poison := false, status := st, ring := none }

/-- The reply to a request that is not performed carries its fields and the status, and no data (R166, R182). -/
theorem replyPacket_refusal (p : RxPacket) (h : THdr) (st : Byte) :
    replyPacket (refusal p h st) =
      bvBytes { h with op := h.op + 0x80, status := st, poison := 0, via := 0, vsite := 0 : THdr }.toBits := by
  simp [replyPacket, refusal, tHdr_ofBits_toBits]

theorem refuse_eq (p : RxPacket) (h : THdr) (st : Byte) (s : State) :
    refuse p h st s = replyReady (alloc (.served (refusal p h st)) (freeFlits p.held s)).1
      (alloc (.served (refusal p h st)) (freeFlits p.held s)).2 := by
  dsimp only [refuse, refusal]

theorem onlyChanges_replyReady (tag : Nat) (s : State) : OnlyChanges [.mnf] s (replyReady tag s) := onlyChanges_mnf _ s

theorem onlyChanges_refuse (p : RxPacket) (h : THdr) (st : Byte) (s : State) :
    OnlyChanges [.lnk, .mnf, .regs, .flt] s (refuse p h st s) := by
  rw [refuse_eq]
  exact (((onlyChanges_freeFlits p.held s).trans (onlyChanges_alloc _ _)).trans (onlyChanges_replyReady _ _)).mono (by decide)

theorem sameQueues_refuse (p : RxPacket) (h : THdr) (st : Byte) (s : State) : SameQueues s.lnk (refuse p h st s).lnk := by
  rw [refuse_eq, onlyChanges_replyReady _ _ .lnk (by decide), onlyChanges_alloc _ _ .lnk (by decide)]
  exact sameQueues_freeFlits p.held s

/-- A request refused has an entry, whose reply is complete. -/
theorem refuse_ready (p : RxPacket) (h : THdr) (st : Byte) (s : State) : ∃ tag,
    cellsGet tag (refuse p h st s).mnf.entries = some (.served (refusal p h st)) ∧
      (refuse p h st s).mnf.ready = s.mnf.ready ++ [tag] ∧ (refuse p h st s).mnf.waiting = s.mnf.waiting := by
  have mnf : (freeFlits p.held s).mnf = s.mnf := onlyChanges_freeFlits p.held s .mnf (by decide)
  have entry := cellsGet_alloc (.served (refusal p h st)) (freeFlits p.held s)
  obtain ⟨ready, waiting⟩ := queues_mnf_alloc (.served (refusal p h st)) (freeFlits p.held s)
  rw [mnf] at ready waiting
  rw [refuse_eq]
  generalize alloc (.served (refusal p h st)) (freeFlits p.held s) = made at entry ready waiting
  exact ⟨made.1, entry, congrArg (· ++ [made.1]) ready, waiting⟩

/-- A request refused is answered at once where T2 has room, and its entry is gone. -/
theorem handReplies_refuse {p : RxPacket} {h : THdr} {st : Byte} {s : State} (none_ready : s.mnf.ready = [])
    (link : s.linkOpen = true) (mask : s.lnk.trackMask.getLsbD 2 = true) (room : s.room 2 = true) :
    let t := handReplies 1 (refuse p h st s)
    t.lnk.outq = vmod s.lnk.outq 2 (· ++ pktFlits 2 (bvBytes { h with
        op := h.op + 0x80, status := st, poison := 0, via := 0, vsite := 0 : THdr }.toBits)) ∧
      t.mnf.waiting = s.mnf.waiting ∧ t.mnf.ready = [] ∧ OnlyChanges [.lnk, .mnf, .regs, .flt] s t := by
  intro t
  obtain ⟨tag, entry, ready, waiting⟩ := refuse_ready p h st s
  have refused := onlyChanges_refuse p h st s
  have same := sameQueues_refuse p h st s
  rw [none_ready, List.nil_append] at ready
  have eq := handReplies_one ready ((same.room 2).trans room) entry
  change t = _ at eq
  clear_value t
  generalize refuse p h st s = w at *
  rw [replyPacket_refusal] at eq
  generalize bvBytes _ = bytes at *
  have emptied := onlyChanges_mnf { w.mnf with ready := [] } w
  have joined := outq_queuePacket (s := { w with mnf := { w.mnf with ready := [] } }) (same.linkOpen.trans link)
    ((congrArg (·.getLsbD 2) same.trackMask).trans mask) bytes
  have sent := onlyChanges_queuePacket 2 bytes { w with mnf := { w.mnf with ready := [] } }
  have mnf := sent .mnf (by decide)
  generalize queuePacket 2 bytes { w with mnf := { w.mnf with ready := [] } } = v at *
  have freed := onlyChanges_freeEntry tag v
  subst eq
  refine ⟨?_, ?_, ?_, (((refused.trans emptied).trans sent).trans freed).mono (by decide)⟩
  · rw [freed .lnk (by decide), joined]
    exact congrArg (fun q => vmod q 2 (· ++ pktFlits 2 bytes)) same.outq
  · rw [freeEntry, mnf_noteFull]
    exact (congrArg Mnf.waiting mnf).trans waiting
  · rw [freeEntry, mnf_noteFull]
    exact congrArg Mnf.ready mnf

end Sys2Proof.Machine
end

section
/-!
SUPPORT. A request served by block requests, one for each 4 KiB block that it touches (R173, R179, R180).
-/
namespace Sys2Proof.Machine

/-! ## Block requests at their ports' queues -/

/-- A block request `c` is the one asked for, `b`: it has a source and an order of its own (R187, R299). -/
def Breq.Asked (b c : Breq) : Prop := c = { b with src := c.src, order := c.order }

/-- A block request put at a queue counts towards the order of those forwarded; nothing else of the manifest changes (R299). -/
theorem mnf_addBreq (p : PortId) (b : Breq) (s : State) : ∃ n, (addBreq p b s).mnf = { s.mnf with nextOrder := n } := ⟨_, rfl⟩

theorem breqs_addBreq_self (p : PortId) (b : Breq) (s : State) : ∃ c ∈ ((addBreq p b s).port p).breqs, b.Asked c := by
  have queue : ∃ c, ((addBreq p b s).port p).breqs = (s.port p).breqs ++ [c] ∧ b.Asked c :=
    ⟨_, congrArg Port.breqs (port_modPort_same s p _), rfl⟩
  obtain ⟨c, queue, asked⟩ := queue
  exact ⟨c, by simp [queue], asked⟩

theorem breqs_addBreq_keeps {q : PortId} {c : Breq} {s : State} (mem : c ∈ (s.port q).breqs) (p : PortId) (b : Breq) :
    c ∈ ((addBreq p b s).port q).breqs := by
  by_cases e : p = q
  · subst e
    have queue : ∃ d, ((addBreq p b s).port p).breqs = (s.port p).breqs ++ [d] := ⟨_, congrArg Port.breqs (port_modPort_same s p _)⟩
    obtain ⟨d, queue⟩ := queue
    simp [queue, mem]
  · have same : (addBreq p b s).port q = s.port q := port_modPort_other s p q _ e
    rwa [same]

/-- The port that serves an address is fixed by a field that no cause writes (R179). -/
theorem servePort_of_notes {s t : State} (notes : Notes [] s t) (par : t.par = s.par) (addr : BitVec 64) :
    t.servePort addr = s.servePort addr := by
  have shift : t.fld F.MNF_SVC_CFG.SHIFT = s.fld F.MNF_SVC_CFG.SHIFT := notes.fld (by decide +kernel) (by decide)
  simp only [State.servePort, shift, par]

theorem Serves.servePort {s t : State} (h : Serves s t) (addr : BitVec 64) : t.servePort addr = s.servePort addr :=
  servePort_of_notes h.keeps.notes (h.keeps.frame .par (by decide)) addr

/-- Block requests put at the queues of the ports that serve them, one for each element of a list. -/
def addAll {α : Type} (req : α → Breq) (xs : List α) (s : State) : State :=
  xs.foldl (fun s x => addBreq (s.servePort (req x).addr) (req x) s) s

section
variable {α : Type} (req : α → Breq)

theorem onlyChanges_addAll (xs : List α) (s : State) : OnlyChanges [.ports, .mnf] s (addAll req xs s) :=
  onlyChanges_foldl (fun _ _ => onlyChanges_addBreq _ _ _) xs s

theorem mnf_addAll (xs : List α) (s : State) : ∃ n, (addAll req xs s).mnf = { s.mnf with nextOrder := n } := by
  induction xs generalizing s with
  | nil => exact ⟨s.mnf.nextOrder, rfl⟩
  | cons x xs ih =>
    obtain ⟨_, first⟩ := mnf_addBreq (s.servePort (req x).addr) (req x) s
    obtain ⟨n, rest⟩ := ih (addBreq (s.servePort (req x).addr) (req x) s)
    exact ⟨n, by rw [addAll, List.foldl_cons, ← addAll, rest, first]⟩

theorem breqs_addAll_keeps {q : PortId} {c : Breq} (xs : List α) {s : State} (mem : c ∈ (s.port q).breqs) :
    c ∈ ((addAll req xs s).port q).breqs := by
  induction xs generalizing s with
  | nil => exact mem
  | cons x xs ih => exact ih (breqs_addBreq_keeps mem _ _)

/-- Each block request of the list stands at the port that serves its address. -/
theorem breqs_addAll (xs : List α) (s : State) :
    ∀ x ∈ xs, ∃ c ∈ ((addAll req xs s).port (s.servePort (req x).addr)).breqs, (req x).Asked c := by
  induction xs generalizing s with
  | nil => simp
  | cons y ys ih =>
    have first := serves_addBreq (s.servePort (req y).addr) (req y) s
    intro x mem
    obtain rfl | mem := List.mem_cons.mp mem
    · obtain ⟨c, queued, asked⟩ := breqs_addBreq_self (s.servePort (req x).addr) (req x) s
      exact ⟨c, breqs_addAll_keeps req ys queued, asked⟩
    · have later := ih (addBreq (s.servePort (req y).addr) (req y) s) x mem
      rwa [first.servePort] at later

end

/-- The block request for a run of bytes within a block: its place in the range, and its length (R179). -/
def runReq (write : Bool) (addr : BitVec 64) (data : List Byte) (mk : Nat → Purpose) (x : Nat × Nat) : Breq :=
  { write := write, addr := addr + BitVec.ofNat 64 x.1, len := x.2, data := (data.drop x.1).take x.2, poison := false, purpose := mk x.1 }

theorem addBlocks_eq (write : Bool) (addr : BitVec 64) (len : Nat) (data : List Byte) (mk : Nat → Purpose) (s : State) :
    addBlocks write addr len data false mk s = addAll (runReq write addr data mk) (blocks4k addr.toNat len) s := rfl

/-! ## A request served in place -/

theorem onlyChanges_countHeat (addr : BitVec 64) (len : Nat) (src : BitVec 14) (s : State) :
    OnlyChanges [.msh] s (countHeat addr len src s) := by
  refine .ite (fun _ => ?_) fun _ => (OnlyChanges.refl s).mono (by decide)
  split
  · exact (OnlyChanges.refl s).mono (by decide)
  · exact onlyChanges_msh _ s

/-- The count of requests leaves the migration. -/
theorem mig_countHeat (addr : BitVec 64) (len : Nat) (src : BitVec 14) (s : State) : (countHeat addr len src s).msh.mig = s.msh.mig := by
  unfold countHeat
  split
  · split <;> rfl
  · rfl

/-- A write marks no page while no migration copies (R298). -/
theorem markDirty_of_idle {s : State} (idle : s.msh.mig.st = .idle) (addr : BitVec 64) (len : Nat) : markDirty addr len s = s := by
  unfold markDirty
  split
  · rfl
  · simp [idle]

/-- A request that is served has an entry that awaits its blocks, and each of them is asked for (R173, R179, R180). -/
theorem serveHere_eq {p : RxPacket} {h : THdr} {s : State} (idle : s.msh.mig.st = .idle)
    (fits : opReads h.op = true → s.assembling + (h.len.toNat + 1) ≤ 65536) : ∃ (v : Served) (c : State),
      serveHere p h s = some (addBlocks (!opReads h.op) h.addr (h.len.toNat + 1) p.data false
        (fun o => .served (alloc (.served v) c).1 o) (alloc (.served v) c).2) ∧
      v.hdr = h.toBits ∧ v.status = 0 ∧ v.left = (blocks4k h.addr.toNat (h.len.toNat + 1)).length ∧
      c.mnf = s.mnf ∧ c.msh.mig = s.msh.mig ∧ Serves s c := by
  have freed := onlyChanges_freeFlits p.held s
  have mig := mig_countHeat h.addr (h.len.toNat + 1) h.src (freeFlits p.held s)
  rw [freed .msh (by decide)] at mig
  have counted := onlyChanges_countHeat h.addr (h.len.toNat + 1) h.src (freeFlits p.held s)
  have serves := (serves_freeFlits p.held s).trans (serves_countHeat h.addr (h.len.toNat + 1) h.src _)
  have room : ¬(opReads h.op && decide (65536 < s.assembling + (h.len.toNat + 1))) = true := by
    simpa using fits
  dsimp only [serveHere]
  rw [if_neg room]
  generalize countHeat h.addr (h.len.toNat + 1) h.src (freeFlits p.held s) = c at *
  rw [markDirty_of_idle (by rw [mig]; exact idle), ite_self]
  exact ⟨_, c, rfl, rfl, rfl, rfl, (counted .mnf (by decide)).trans (freed .mnf (by decide)), mig, serves⟩

/-- A request for this die that fits its binding, and into no record whose owner is elsewhere, is served here (R182, R191). -/
theorem serve_eq_serveHere {p : RxPacket} {h : THdr} {s : State} (hdr : h = THdr.ofBits p.hdr) (fresh : h.fwd = 0)
    (entry : s.canAlloc .served = true) (gen : h.gen = bGen (s.bindOf h.ldest)) (bound : s.boundTo h.ldest = true) (op : h.op ≠ 4#8)
    (owned : ∀ r ∈ s.localRecs h.addr (h.len.toNat + 1), s.candidate r = false) : serve p s = serveHere p h s := by
  subst hdr
  have none_moved := List.find?_eq_none.mpr fun r mem => by simpa using owned r mem
  simp [serve, entry, fresh, gen, bound, op, none_moved]

/-- What a request that is served leaves: an entry that awaits its blocks, a block request for each, and nothing that waits. -/
theorem serveHere_blocks {p : RxPacket} {h : THdr} {s : State} (idle : s.msh.mig.st = .idle)
    (fits : opReads h.op = true → s.assembling + (h.len.toNat + 1) ≤ 65536) : ∃ (u : State) (tag : Nat) (v : Served),
      serveHere p h s = some u ∧ cellsGet tag u.mnf.entries = some (.served v) ∧ v.hdr = h.toBits ∧ v.status = 0 ∧
      v.left = (blocks4k h.addr.toNat (h.len.toNat + 1)).length ∧
      (∀ x ∈ blocks4k h.addr.toNat (h.len.toNat + 1), ∃ b ∈ (u.port (s.servePort (h.addr + BitVec.ofNat 64 x.1))).breqs,
        (runReq (!opReads h.op) h.addr p.data (.served tag) x).Asked b) ∧
      u.mnf.ready = s.mnf.ready ∧ u.mnf.waiting = s.mnf.waiting ∧ u.msh.mig = s.msh.mig := by
  obtain ⟨v, c, eq, hdr, status, left, mnf, mig, serves⟩ := serveHere_eq (p := p) idle fits
  have entry := cellsGet_alloc (.served v) c
  have made := onlyChanges_alloc (.served v) c
  have msh := made .msh (by decide)
  have placed := serves.trans (serves_alloc (.served v) c)
  obtain ⟨ready, waiting⟩ := queues_mnf_alloc (.served v) c
  rw [mnf] at ready waiting
  rw [addBlocks_eq] at eq
  generalize alloc (.served v) c = m at *
  have all := breqs_addAll (runReq (!opReads h.op) h.addr p.data (.served m.1)) (blocks4k h.addr.toNat (h.len.toNat + 1)) m.2
  have frame := onlyChanges_addAll (runReq (!opReads h.op) h.addr p.data (.served m.1)) (blocks4k h.addr.toNat (h.len.toNat + 1)) m.2
  obtain ⟨n, kept⟩ := mnf_addAll (runReq (!opReads h.op) h.addr p.data (.served m.1)) (blocks4k h.addr.toNat (h.len.toNat + 1)) m.2
  generalize addAll _ _ m.2 = u at *
  refine ⟨u, m.1, v, eq, ?_, hdr, status, left, fun x mem => ?_, ?_, ?_, ?_⟩
  · rw [kept]
    exact entry
  · have asked := all x mem
    rw [placed.servePort] at asked
    exact asked
  · rw [kept]
    exact ready
  · rw [kept]
    exact waiting
  · rw [frame .msh (by decide), msh]
    exact mig

end Sys2Proof.Machine
end

section
/-!
SUPPORT. REQUEST_PACKET_RECEIVE and VALIANT_FORWARD as they run, one lemma for each of their ends, and with TRANSACTION_ISSUE the
statement of how transactions move (R165 to R167, R173, R179, R182, R190).
-/
namespace Sys2Proof.Machine

/-- A packet that breaks R165 or R167 leaves the pool and raises PROTOCOL. -/
theorem runs_requestDiscarded {track : BitVec 3} {hdr : BitVec 256} {data : List Byte} {flits : Nat} {s : State} (hf : s.functional = true)
    (hs : Settled s) (bad : badRequest s.own track (THdr.ofBits hdr) data flits = true) :
    Runs (.requestPacketReceive track hdr data flits) s fun t =>
      Raised C.MNF.PROTOCOL t ∧ OnlyChanges [.lnk, .regs, .flt, .outs, .slp] s t ∧ RegsBut C.MNF.PROTOCOL.regs s t := by
  obtain ⟨fs, pool, took⟩ := takePacket_eq track s
  have freed := (onlyChanges_lnk { s.lnk with pool := pool } s).trans (onlyChanges_freeFlits fs _)
  refine runs_requestPacketReceive hf took rfl ?_
  rw [if_pos bad, discardPacket]
  exact ⟨raised_settle.mpr (raised_raise_self (by decide) _ _),
    (onlyChanges_settle_of (freed.trans (onlyChanges_raise _ _ _)) hs (by decide)).mono (by decide),
    ((freed.regsBut (by decide) (by decide) _).trans (regsBut_raise _ _ _)).settle⟩

/-- A request for another die is kept to be forwarded (R190). -/
theorem runs_requestKept {track : BitVec 3} {hdr : BitVec 256} {data : List Byte} {flits : Nat} {s : State} (hf : s.functional = true)
    (hs : Settled s) (good : badRequest s.own track (THdr.ofBits hdr) data flits = false) (other : (THdr.ofBits hdr).dest ≠ s.own) :
    Runs (.requestPacketReceive track hdr data flits) s fun t =>
      (∃ p : RxPacket, t.mnf.fwd = s.mnf.fwd ++ [p] ∧ p.hdr = hdr ∧ p.data = data) ∧ OnlyChanges [.lnk, .mnf, .outs, .slp] s t := by
  obtain ⟨fs, pool, took⟩ := takePacket_eq track s
  have kept := (onlyChanges_lnk { s.lnk with pool := pool } s).trans
    (onlyChanges_mnf { s.mnf with fwd := s.mnf.fwd ++ [⟨track, hdr, data, fs⟩] } _)
  refine runs_requestPacketReceive hf took rfl ?_
  rw [if_neg (by simp [good]), if_pos other]
  exact ⟨⟨⟨track, hdr, data, fs⟩, rfl, rfl, rfl⟩, (onlyChanges_settle_of kept hs (by decide)).mono (by decide)⟩

/-- A request whose generation or binding does not fit is answered on T2 and not performed (R182). -/
theorem runs_requestRefused {track : BitVec 3} {hdr : BitVec 256} {data : List Byte} {flits : Nat} {s : State} {h : THdr} {st : Byte}
    (hf : s.functional = true) (hq : Quiet s) (eq : h = THdr.ofBits hdr) (good : badRequest s.own track h data flits = false)
    (here : h.dest = s.own) (fresh : h.fwd = 0) (entry : s.canAlloc .served = true) (link : s.linkOpen = true)
    (mask : s.lnk.trackMask.getLsbD 2 = true) (room : s.room 2 = true)
    (unfit : (h.gen ≠ bGen (s.bindOf h.ldest) ∧ st = 0x08) ∨
      (h.gen = bGen (s.bindOf h.ldest) ∧ s.boundTo h.ldest = false ∧ st = 0x06)) :
    Runs (.requestPacketReceive track hdr data flits) s fun t =>
      t.lnk.outq[2] = s.lnk.outq[2] ++ pktFlits 2 (bvBytes { h with
        op := h.op + 0x80, status := st, poison := 0, via := 0, vsite := 0 : THdr }.toBits) ∧
      t.ports = s.ports ∧ t.mnf.waiting = [] ∧ t.mnf.ready = [] := by
  subst eq
  obtain ⟨none_ready, none_waits, idle⟩ := hq
  refine runs_requestServed hf ⟨none_ready, none_waits, idle⟩ good here fun fs pool => ?_
  set p : RxPacket := ⟨track, hdr, data, fs⟩
  set v : State := { s with lnk := { s.lnk with pool := pool } }
  obtain ⟨_, -, ready, waiting⟩ := refuse_ready p (THdr.ofBits hdr) st v
  obtain ⟨outq, waits, gone, frame⟩ := handReplies_refuse (p := p) (h := THdr.ofBits hdr) (st := st) (s := v) none_ready link mask room
  have one : (refuse p (THdr.ofBits hdr) st v).mnf.ready.length = 1 := by rw [ready, List.length_append, none_ready]; rfl
  refine ⟨_, serve_refuses (p := p) (s := v) rfl fresh entry unfit, waiting.trans none_waits, ?_⟩
  rw [one]
  generalize handReplies 1 (refuse p (THdr.ofBits hdr) st v) = t at *
  refine ⟨by rw [frame .msh (by decide)]; exact idle, ?_, frame .ports (by decide), waits.trans none_waits, gone⟩
  have joined : (settle t).lnk.outq = _ := outq
  simp only [joined]
  exact vmod_same _ _ _ _

/-- A READ or WRITE that is served awaits a block request for each 4 KiB block that it touches (R173, R179). -/
theorem runs_requestBlocks {track : BitVec 3} {hdr : BitVec 256} {data : List Byte} {flits : Nat} {s : State} {h : THdr}
    (hf : s.functional = true) (hq : Quiet s) (eq : h = THdr.ofBits hdr) (good : badRequest s.own track h data flits = false)
    (here : h.dest = s.own) (fresh : h.fwd = 0) (op : h.op = 0x01 ∨ h.op = 0x02) (entry : s.canAlloc .served = true)
    (gen : h.gen = bGen (s.bindOf h.ldest)) (bound : s.boundTo h.ldest = true)
    (owned : ∀ r ∈ s.localRecs h.addr (h.len.toNat + 1), s.candidate r = false)
    (fits : h.op = 0x01 → s.assembling + (h.len.toNat + 1) ≤ 65536) : Runs (.requestPacketReceive track hdr data flits) s fun t =>
      ∃ tag v, cellsGet tag t.mnf.entries = some (.served v) ∧ v.hdr = h.toBits ∧ v.status = 0 ∧
        v.left = (blocks4k h.addr.toNat (h.len.toNat + 1)).length ∧
        ∀ x ∈ blocks4k h.addr.toNat (h.len.toNat + 1), ∃ b ∈ (t.port (s.servePort (h.addr + BitVec.ofNat 64 x.1))).breqs,
          (runReq (h.op == 0x02) h.addr data (.served tag) x).Asked b := by
  have write : (!opReads h.op) = (h.op == 0x02) := by rcases op with e | e <;> simp [opReads, e]
  have no_ticket : h.op ≠ 4#8 := by rcases op with e | e <;> simp [e]
  have reads : opReads h.op = true → h.op = 0x01 := by rcases op with e | e <;> simp [opReads, e]
  subst eq
  obtain ⟨none_ready, none_waits, idle⟩ := hq
  refine runs_requestServed hf ⟨none_ready, none_waits, idle⟩ good here fun fs pool => ?_
  set p : RxPacket := ⟨track, hdr, data, fs⟩
  set w : State := { s with lnk := { s.lnk with pool := pool } }
  obtain ⟨u, tag, v, served, found, hdrs, status, left, asked, ready, waiting, mig⟩ :=
    serveHere_blocks (p := p) (h := THdr.ofBits hdr) (s := w) idle fun r => fits (reads r)
  rw [write] at asked
  have none_done : u.mnf.ready.length = 0 := by rw [ready]; exact congrArg List.length none_ready
  refine ⟨u, (serve_eq_serveHere (p := p) (s := w) rfl fresh entry gen bound no_ticket owned).trans served, waiting.trans none_waits, ?_⟩
  rw [none_done]
  exact ⟨(congrArg Mig.st mig).trans idle, tag, v, found, hdrs, status, left, asked⟩

/-- A request kept for another die leaves on T4 as it came (R190). -/
theorem runs_valiantForward {s : State} {p : RxPacket} {ps : List RxPacket} (hf : s.functional = true) (hs : Settled s)
    (link : s.linkOpen = true) (mask : s.lnk.trackMask.getLsbD 4 = true) (kept : s.mnf.fwd = p :: ps) (room : s.room 4 = true) :
    Runs .valiantForward s fun t =>
      t.mnf = { s.mnf with fwd := ps } ∧ t.lnk.outq[4] = s.lnk.outq[4] ++ pktFlits 4 (bvBytes p.hdr ++ p.data) ∧
        OnlyChanges [.lnk, .mnf, .outs, .slp] s t := by
  set v : State := { s with mnf := { s.mnf with fwd := ps } }
  set w := queuePacket 4 (bvBytes p.hdr ++ p.data) v
  have left : OnlyChanges [.mnf] s v := onlyChanges_mnf _ s
  have sent : OnlyChanges [.lnk] v w := onlyChanges_queuePacket 4 _ v
  have joined : w.lnk.outq = vmod s.lnk.outq 4 (· ++ pktFlits 4 (bvBytes p.hdr ++ p.data)) := outq_queuePacket (s := v) link mask _
  have freed := onlyChanges_freeFlits p.held w
  have same := (sameQueues_freeFlits p.held w).outq
  refine runs_functional (u := freeFlits p.held w) (fun _ => rfl) hf ?_ ⟨?_, ?_,
    (onlyChanges_settle_of ((left.trans sent).trans freed) hs (by decide)).mono (by decide)⟩
  · simp only [kept, room, if_true]
    rfl
  · exact (freed .mnf (by decide)).trans (sent .mnf (by decide))
  · have queue : (settle (freeFlits p.held w)).lnk.outq = _ := same.trans joined
    simp only [queue]
    exact vmod_same _ _ _ _

/-- Settles O25: the head of an issue queue is sent under its entry's tag; a packet taken is discarded, kept, refused or served by its
blocks; and one that was kept leaves on T4. -/
theorem transactionsMove : Obligations.TransactionsMove := by
  refine ⟨fun port s x d rest n i r u hl idle link head own dest admitted reach route mask room entry => ?_,
    fun track hdr data flits s hf hs bad => runs_requestDiscarded hf hs bad,
    fun track hdr data flits s hf hs good other => runs_requestKept hf hs good other,
    fun track hdr data flits s h st hf hq eq good here fresh entry link mask room unfit =>
      runs_requestRefused hf hq eq good here fresh entry link mask room unfit,
    fun track hdr data flits s h hf hq eq good here fresh op entry gen bound owned fits => ?_,
    fun s p ps hf hs link mask kept room => runs_valiantForward hf hs link mask kept room⟩
  · obtain ⟨t, run, issue, tag, found, own_tag, queue⟩ :=
      runs_transactionIssue hl idle link head own dest admitted reach route mask room entry
    exact ⟨t, run, issue, tag, _, found, own_tag, rfl, rfl, rfl, rfl, rfl, rfl, rfl, queue⟩
  · obtain ⟨t, run, tag, v, found, hdrs, status, left, asked⟩ :=
      runs_requestBlocks hf hq eq good here fresh op entry gen bound owned fits
    refine ⟨t, run, tag, v, found, hdrs, status, left, fun x mem => ?_⟩
    obtain ⟨b, queued, same⟩ := asked x mem
    rw [Breq.Asked] at same
    exact ⟨b, queued, by rw [same]; exact ⟨rfl, rfl, rfl, rfl, rfl⟩⟩

end Sys2Proof.Machine
end

section
/-!
SUPPORT. A step on an empty queue: the tick of the railway clock (R196, R201).
-/
namespace Sys2Proof.Machine

theorem onlyChanges_tickTime (s : State) : OnlyChanges [.rwt, .aoCycles] s (tickTime s) := by
  intro p hp
  cases p <;> simp_all [Part.same, tickTime]

/-- A step on an empty queue is a tick. -/
theorem step_empty {s : State} (empty : s.pending = []) : step s = .next (tick s) := by simp only [step, empty]

/-- A tick out of AO reset moves the counts on; deadlines and releases are looked at in functional operation alone. -/
theorem tick_up {s : State} (up : s.up = true) :
    tick s = settle (if (tickTime s).functional then
      releaseIfDue (if (tickTime s).ttb.st == .running then closeDue (tickTime s) else tickTime s) else tickTime s) := by
  simp only [tick, up, Bool.not_true, Bool.false_eq_true, if_false]

/-- With no release awaited none takes effect. -/
theorem releaseIfDue_none {s : State} (none : s.msh.release = none) : releaseIfDue s = s := by simp only [releaseIfDue, none]

/-- Where no deadline and no release can fall, a tick moves the counts alone. -/
theorem tick_counts {s : State} (up : s.up = true) (rest : s.ttb.st ≠ .running) (none : s.msh.release = none) :
    tick s = settle (tickTime s) := by
  have idle : ¬((tickTime s).ttb.st == .running) = true := fun e => rest (eq_of_beq e)
  rw [tick_up up, if_neg idle, releaseIfDue_none (s := tickTime s) none, ite_self]

theorem tick_wrapped {s : State} (up : s.up = true) (wrapped : s.wrapped = true) : tick s = settle (tickTime s) := by
  have out : (tickTime s).functional = false := functional_of_wrapped wrapped
  rw [tick_up up, out]
  rfl

/-- Settles O2: an empty queue gives a tick, which moves the counts and, with nothing due, nothing else. -/
theorem emptyQueueTicks : Obligations.EmptyQueueTicks := by
  refine fun s empty => ⟨fun down => ?_, fun up => ⟨rfl, rfl, rfl, onlyChanges_tickTime s, fun wrapped => ?_, fun _ rest none => ?_⟩⟩
  · rw [step_empty empty, tick, down]
    rfl
  · rw [step_empty empty, tick_wrapped up wrapped]
  · rw [step_empty empty, tick_counts up rest none]

end Sys2Proof.Machine
end

section
/-!
SUPPORT. Sets of time exchanges: how one begins, what each exchange brings, and what a set's end makes of the lock (R198, R200, R201).
-/
namespace Sys2Proof.Machine

/-! ## Time that passes -/

/-- Nothing but the counts of time has moved on. -/
def Later (s t : State) : Prop :=
  ∃ now hold sub cycles, t = { s with rwt := { s.rwt with now := now, hold := hold, sub := sub }, aoCycles := cycles }

theorem Later.refl (s : State) : Later s s := ⟨_, _, _, _, rfl⟩

theorem Later.trans {s t u : State} (h : Later s t) (k : Later t u) : Later s u := by
  obtain ⟨_, _, _, _, rfl⟩ := h
  obtain ⟨_, _, _, _, rfl⟩ := k
  exact ⟨_, _, _, _, rfl⟩

theorem later_reach (m : Nat) (s : State) : Later s (s.reach m) := by
  unfold State.reach
  split
  · exact ⟨_, _, _, _, rfl⟩
  · exact Later.refl s

theorem later_lapse (m : Mark) (ns : Nat) (s : State) : Later s (s.lapse m ns) := by
  unfold State.lapse
  split
  · exact ⟨_, _, _, _, rfl⟩
  · exact later_reach _ s

theorem later_foldl {α : Type} {f : State → α → State} (h : ∀ s x, Later s (f s x)) (l : List α) (s : State) :
    Later s (l.foldl f s) := by
  induction l generalizing s with
  | nil => exact Later.refl s
  | cons x xs ih => exact (h s x).trans (ih (f s x))

theorem Later.onlyChanges {s t : State} (h : Later s t) : OnlyChanges [.rwt, .aoCycles] s t := by
  obtain ⟨_, _, _, _, rfl⟩ := h
  intro p hp
  cases p <;> simp_all [Part.same]

theorem onlyChanges_modRwt (f : Rwt → Rwt) (s : State) : OnlyChanges [.rwt] s (modRwt f s) := by
  intro p hp
  cases p <;> simp_all [Part.same]

/-! ## A set begins -/

/-- The moment of a set's start: INTERVAL_US after the start of the one before (R198, R225). -/
def setMoment (s : State) : State :=
  if s.rwt.sets then s.lapse s.rwt.setFrom (1000 * max 16 (s.fld F.RWT_SYNC_CFG.INTERVAL_US)) else s

theorem later_setMoment (s : State) : Later s (setMoment s) := by
  unfold setMoment
  split
  · exact later_lapse _ _ s
  · exact Later.refl s

theorem setMoment_first {s : State} (first : s.rwt.sets = false) : setMoment s = s := by rw [setMoment, first]; rfl

theorem le_now_setMoment {s : State} (again : s.rwt.sets = true) (rail : s.byAo = false) :
    s.rwt.setFrom.rail + 1000 * max 16 (s.fld F.RWT_SYNC_CFG.INTERVAL_US) ≤ (setMoment s).now := by
  rw [setMoment, if_pos again]
  exact le_now_lapse rail _ _

/-- The record of a set that begins now. -/
def setBegun (s : State) : State :=
  modRwt (fun r => { r with
    inSet := true, sets := true, setFrom := s.mark, exch := [], st := if r.st == .unlocked then .locking else r.st }) s

theorem runs_syncSetStart {s : State} (hf : s.functional = true) (hs : Settled s) (between : s.rwt.inSet = false)
    (agreed : 7 ≤ s.boot.reached.toNat) : Runs .syncSetStart s fun t =>
      t.rwt = { s.rwt with
        now := t.rwt.now, hold := t.rwt.hold, sub := t.rwt.sub, inSet := true, sets := true, setFrom := t.mark, exch := [],
        st := if s.rwt.st = .unlocked then .locking else s.rwt.st } ∧
      (s.rwt.sets = false → t.now = s.now ∧ t.ticks = s.ticks) ∧
      (s.rwt.sets = true → s.byAo = false → s.rwt.setFrom.rail + 1000 * max 16 (s.fld F.RWT_SYNC_CFG.INTERVAL_US) ≤ t.now) ∧
      OnlyChanges [.rwt, .aoCycles, .outs, .slp] s t := by
  have may : ¬(s.rwt.inSet || decide (s.boot.reached.toNat < 7)) = true := by simp [between, agreed]
  refine runs_functional (u := setBegun (setMoment s)) (fun _ => rfl) hf (if_neg may) ⟨?_, fun first => ?_, le_now_setMoment, ?_⟩
  · obtain ⟨_, _, _, _, moved⟩ := later_setMoment s
    simp [setBegun, moved, State.mark, State.now, State.ticks]
  · rw [setMoment_first first]
    exact ⟨rfl, rfl⟩
  · exact (onlyChanges_settle_of ((later_setMoment s).onlyChanges.trans (onlyChanges_modRwt _ _)) hs (by decide)).mono (by decide)

/-! ## Exchanges of a set -/

/-- The moment of the next exchange: 1 µs after the one before (R198). -/
def exchMoment (s : State) : State :=
  match s.rwt.exch.getLast? with
  | some x => s.reach (x.t1.toNat + 1000)
  | none => s

theorem later_exchMoment (s : State) : Later s (exchMoment s) := by
  unfold exchMoment
  split
  · exact later_reach _ s
  · exact Later.refl s

theorem le_now_exchMoment {s : State} {x : TimeExch} (last : s.rwt.exch.getLast? = some x) : x.t1.toNat + 1000 ≤ (exchMoment s).now := by
  simp only [exchMoment, last]
  exact le_now_reach _ s

/-- An exchange begun now joins its set. -/
def exchBegun (s : State) : State :=
  modRwt (fun r => { r with exch := r.exch ++ [{ mseq := s.slp.mseq, t1 := s.now, got := none, dead := false }] }) s

theorem runs_timeReqSend {s : State} (hf : s.functional = true) (hs : Settled s) (inSet : s.rwt.inSet = true)
    (few : s.rwt.exch.length < 8) : Runs .timeReqSend s fun t =>
      t.out = .sleeper 0x10 s.slp.mseq [] :: s.out ∧ t.rwt.exch = s.rwt.exch ++ [⟨s.slp.mseq, (t.now : Int), none, false⟩] ∧
      (∀ x, s.rwt.exch.getLast? = some x → x.t1.toNat + 1000 ≤ t.now) ∧ OnlyChanges [.rwt, .aoCycles, .out, .outs, .slp] s t := by
  have begun := (later_exchMoment s).onlyChanges.trans (onlyChanges_modRwt _ _ : OnlyChanges [.rwt] _ (exchBegun (exchMoment s)))
  have sent := onlyChanges_sendSlp 0x10 [] (exchBegun (exchMoment s))
  refine runs_functional (u := sendSlp 0x10 [] (exchBegun (exchMoment s))) (fun _ => rfl) hf (if_pos (by simp [inSet, few]))
    ⟨?_, ?_, fun x last => le_now_exchMoment last, ((begun.trans sent).trans (onlyChanges_settle_out _)).mono (by decide)⟩
  · obtain ⟨_, _, _, _, moved⟩ := later_exchMoment s
    simp [settle, slpOrder, slpClass, slpEmit, hs.2, exchBegun, moved]
  · obtain ⟨_, _, _, _, moved⟩ := later_exchMoment s
    simp [exchBegun, moved, State.now]

/-- Where the last element alone meets a test, it alone is replaced. -/
theorem mapIf_last {α : Type} {p : α → Bool} (f : α → α) {xs : List α} {x : α} (others : ∀ y ∈ xs, p y = false)
    (last : p x = true) :
    mapIf p f (xs ++ [x]) = xs ++ [f x] := by
  rw [show mapIf p f (xs ++ [x]) = mapIf p f xs ++ mapIf p f [x] from List.map_append, mapIf_none p f xs others]
  simp [mapIf, last]

theorem runs_timeResp {msg : BitVec 160} {x : TimeExch} {xs : List TimeExch} {s : State} (hf : s.functional = true)
    (lock : s.slp.lock = true) (hs : Settled s) (inSet : s.rwt.inSet = true) (exch : s.rwt.exch = xs ++ [x])
    (mine : x.mseq = bits msg 152 8) (others : ∀ y ∈ xs, y.mseq ≠ bits msg 152 8) (waits : x.got = none) (alive : x.dead = false)
    (window : (s.now : Int) ≤ x.t1 + 10000) : Runs (.timeResp msg) s fun t =>
      t.rwt.exch = xs ++ [{ x with got := some (((fld msg 0 64 : Int) - x.t1) + ((s.now : Int) - (fld msg 64 64 : Int)),
        (x.t1 - (fld msg 0 64 : Int)) + ((s.now : Int) - (fld msg 64 64 : Int)) - (bits msg 128 16 : BitVec 16).toInt,
        bits msg 144 2) }] ∧ OnlyChanges [.rwt, .outs, .slp] s t := by
  refine runs_msg (fun _ => rfl) hf lock (if_pos inSet) ⟨?_, ?_⟩
  · refine (congrArg (mapIf _ _) exch).trans (mapIf_last _ (fun y mem => ?_) ?_)
    · simp [others y mem]
    · simp [mine, waits, alive, window]
  · exact (onlyChanges_settle_of (onlyChanges_modRwt _ s) hs (by decide)).mono (by decide)

/-- The exchange of a number is discarded, if it has no answer. -/
def exchDead (n : Byte) (s : State) : State :=
  modRwt (fun r => { r with exch := mapIf (·.mseq == n) (fun x => { x with dead := x.got.isNone }) r.exch }) s

theorem runs_timeExchangeTimeout {x : TimeExch} {s : State} (hf : s.functional = true) (hs : Settled s)
    (oldest : (s.rwt.exch.find? fun x => x.got.isNone && !x.dead) = some x) : Runs .timeExchangeTimeout s fun t =>
      (∀ y ∈ t.rwt.exch, y.mseq = x.mseq → y.got = none → y.dead = true) ∧ x.t1.toNat + 10000 ≤ t.now ∧
        t.rwt.exch.length = s.rwt.exch.length ∧ OnlyChanges [.rwt, .aoCycles, .outs, .slp] s t := by
  have later := later_reach (x.t1.toNat + 10000) s
  refine runs_functional (u := exchDead x.mseq (s.reach (x.t1.toNat + 10000))) (fun _ => rfl) hf (by simp only [oldest, exchDead])
    ⟨fun y mem same none => ?_, le_now_reach _ s, ?_, ?_⟩
  · obtain ⟨z, -, rfl⟩ := List.mem_map.mp mem
    by_cases hit : (z.mseq == x.mseq) = true
    · simp only [hit, if_true] at none ⊢
      rw [none]
      rfl
    · rw [if_neg hit] at same
      exact absurd (beq_iff_eq.mpr same) hit
  · obtain ⟨_, _, _, _, moved⟩ := later
    simp [exchDead, moved]
  · have dead : OnlyChanges [.rwt] _ (exchDead x.mseq (s.reach (x.t1.toNat + 10000))) := onlyChanges_modRwt _ _
    exact (onlyChanges_settle_of (later.onlyChanges.trans dead) hs (by decide)).mono (by decide)

/-! ## The end of a set -/

/-- A set ends once each exchange that still waits has run out (R198). -/
def setWaited (s : State) : State :=
  (s.rwt.exch.filter (fun x => x.got.isNone && !x.dead)).foldl (fun s x => s.reach (x.t1.toNat + 10000)) s

theorem later_setWaited (s : State) : Later s (setWaited s) := later_foldl (fun s _ => later_reach _ s) _ s

/-- The set is over. -/
def setClosed (s : State) : State := modRwt (fun r => { r with inSet := false, exch := [] }) (setWaited s)

theorem later_setClosed (s : State) : Later { s with rwt := { s.rwt with inSet := false, exch := [] } } (setClosed s) := by
  obtain ⟨now, hold, sub, cycles, moved⟩ := later_setWaited s
  exact ⟨now, hold, sub, cycles, by rw [setClosed, moved]; rfl⟩

/-- The result of a set stands in the unit's record. -/
def setResult (x : Int × Int × BitVec 2) (s : State) : State :=
  modRwt (fun r => { r with failRun := 0, offset := halfNs (-32768) 32767 x.2.1, delay := halfNs 0 65535 x.1, q := x.2.2 }) s

/-- What a set's offset does to the lock (R200, R201). -/
def setJudged (o : Int) (s : State) : State :=
  match s.rwt.st with
  | .unlocked | .locking => beforeLock o s
  | .locked => whileLocked o s
  | .lost => s

/-- What the end of a set makes of the exchange that it takes. -/
def setEnded (best : Option (Int × Int × BitVec 2)) (s : State) : State :=
  match best with
  | none => failedSet s
  | some x => setJudged x.2.1 (setResult x s)

theorem runs_syncSetEnd {s : State} {best : Option (Int × Int × BitVec 2)} {P : State → Prop} (hf : s.functional = true)
    (inSet : s.rwt.inSet = true) (taken : bestExch (s.rwt.exch.filterMap (·.got)) = best) (h : P (settle (setEnded best (setClosed s)))) :
    Runs .syncSetEnd s P := by
  have same : (setWaited s).rwt.exch = s.rwt.exch := by
    obtain ⟨_, _, _, _, moved⟩ := later_setWaited s
    rw [moved]
  have waited : bestExch ((setWaited s).rwt.exch.filterMap (·.got)) = best := by rw [same, taken]
  refine runs_functional (u := setEnded best (setClosed s)) (fun _ => rfl) hf ((if_neg (by simp [inSet])).trans ?_) h
  show (match bestExch ((setWaited s).rwt.exch.filterMap (·.got)) with
    | none => failedSet (setClosed s)
    | some (d, o, q) => setJudged o (setResult (d, o, q) (setClosed s))) = _
  rw [waited]
  cases best <;> rfl

/-- A failed set counted (R198, R200, R201). -/
def failCounted (s : State) : State := modRwt (fun r => { r with goodRun := 0, lostRun := 0, failRun := r.failRun + 1 }) s

theorem failedSet_eq (s : State) : failedSet s =
    if !s.unlocked && (s.rwt.failRun + 1) % 10 = 0 then raise C.RWT.SYNC_MISSING (detRwt (failCounted s)) (failCounted s)
    else failCounted s := rfl

theorem rwt_failedSet (s : State) :
    (failedSet s).rwt = { s.rwt with goodRun := 0, lostRun := 0, failRun := s.rwt.failRun + 1 } := by
  rw [failedSet_eq]
  split
  · exact onlyChanges_raise _ _ _ .rwt (by decide)
  · rfl

theorem raised_failedSet {s : State} (lock : s.unlocked = false) (tenth : (s.rwt.failRun + 1) % 10 = 0) :
    Raised C.RWT.SYNC_MISSING (failedSet s) := by
  rw [failedSet_eq, if_pos (by simp [lock, tenth])]
  exact raised_raise_self (by decide) _ _

/-! ## Before lock (R200) -/

/-- The count after a step of the lock rules, and the run of good sets begun again. -/
def stepMade (o : Int) (s : State) : State :=
  let step := 2 * ((o.natAbs + 2) / 4)
  modRwt (fun r =>
    if 0 < o then { r with hold := r.hold + step, goodRun := 0 } else { r with now := r.now + step, goodRun := 0 }) s

/-- Railway time is locked. -/
def lockMade (s : State) : State := raise C.RWT.LOCKED 0 (modRwt (fun r => { r with goodRun := 0, lostRun := 0, st := .locked }) s)

theorem beforeLock_step {o : Int} (far : 2 < o.natAbs) (s : State) :
    beforeLock o s = raise C.RWT.STEP (detRwt (stepMade o s)) (stepMade o s) := if_pos far

theorem beforeLock_lock {o : Int} {s : State} (near : o.natAbs ≤ 2)
    (enough : atLeastOne (s.fld F.RWT_SYNC_CFG.LOCK_SETS) ≤ s.rwt.goodRun + 1) : beforeLock o s = noteReady (lockMade s) :=
  (if_neg (by omega)).trans (if_pos enough)

theorem beforeLock_count {o : Int} {s : State} (near : o.natAbs ≤ 2)
    (few : ¬atLeastOne (s.fld F.RWT_SYNC_CFG.LOCK_SETS) ≤ s.rwt.goodRun + 1) :
    beforeLock o s = modRwt (fun r => { r with goodRun := s.rwt.goodRun + 1 }) s := (if_neg (by omega)).trans (if_neg few)

theorem onlyChanges_noteReady (s : State) : OnlyChanges [.boot] s (noteReady s) := by
  refine .ite (fun _ => ?_) fun _ => (OnlyChanges.refl s).mono (by decide)
  intro p hp
  cases p <;> simp_all [Part.same]

theorem raised_noteReady {c : Cause} {s : State} (h : Raised c s) : Raised c (noteReady s) := by
  rwa [Raised, ((onlyChanges_noteReady s).regsBut (by decide) (by decide) []) _ (by simp)]

/-! ## The result of a set stands -/

/-- What a set's result has noted of the unit stays. -/
structure ResultKept (s t : State) : Prop where
  failRun : t.rwt.failRun = s.rwt.failRun
  q : t.rwt.q = s.rwt.q
  offset : t.rwt.offset = s.rwt.offset

theorem ResultKept.refl (s : State) : ResultKept s s := ⟨rfl, rfl, rfl⟩

theorem ResultKept.trans {s t u : State} (h : ResultKept s t) (k : ResultKept t u) : ResultKept s u :=
  ⟨k.failRun.trans h.failRun, k.q.trans h.q, k.offset.trans h.offset⟩

theorem OnlyChanges.resultKept {ps : List Part} {s t : State} (h : OnlyChanges ps s t) (away : .rwt ∉ ps) : ResultKept s t := by
  have same : t.rwt = s.rwt := h .rwt away
  exact ⟨by rw [same], by rw [same], by rw [same]⟩

theorem resultKept_raise (c : Cause) (d : BitVec 80) (s : State) : ResultKept s (raise c d s) :=
  (onlyChanges_raise c d s).resultKept (by decide)

theorem resultKept_stepMade (o : Int) (s : State) : ResultKept s (stepMade o s) := by
  by_cases pos : 0 < o <;> simp only [stepMade, modRwt, pos, if_true, if_false] <;> exact ⟨rfl, rfl, rfl⟩

theorem resultKept_beforeLock (o : Int) (s : State) : ResultKept s (beforeLock o s) := by
  rcases Nat.lt_or_ge 2 o.natAbs with far | near
  · rw [beforeLock_step far]
    exact (resultKept_stepMade o s).trans (resultKept_raise _ _ _)
  · by_cases enough : atLeastOne (s.fld F.RWT_SYNC_CFG.LOCK_SETS) ≤ s.rwt.goodRun + 1
    · rw [beforeLock_lock near enough]
      have set : ResultKept s (modRwt (fun r => { r with goodRun := 0, lostRun := 0, st := .locked }) s) := ⟨rfl, rfl, rfl⟩
      exact (set.trans (resultKept_raise C.RWT.LOCKED 0 _)).trans ((onlyChanges_noteReady _).resultKept (by decide))
    · rw [beforeLock_count near enough]
      exact ⟨rfl, rfl, rfl⟩

theorem beforeLock_locks {o : Int} {s : State} (near : o.natAbs ≤ 2)
    (enough : atLeastOne (s.fld F.RWT_SYNC_CFG.LOCK_SETS) ≤ s.rwt.goodRun + 1) :
    (beforeLock o s).rwt.st = .locked ∧ Raised C.RWT.LOCKED (beforeLock o s) := by
  rw [beforeLock_lock near enough]
  refine ⟨?_, raised_noteReady (raised_raise_self (by decide) _ _)⟩
  rw [onlyChanges_noteReady _ .rwt (by decide), lockMade, onlyChanges_raise _ _ _ .rwt (by decide)]
  rfl

theorem beforeLock_steps {o : Int} (far : 2 < o.natAbs) (s : State) :
    (beforeLock o s).rwt.st = s.rwt.st ∧ (beforeLock o s).rwt.goodRun = 0 ∧ Raised C.RWT.STEP (beforeLock o s) := by
  rw [beforeLock_step far]
  have same : (raise C.RWT.STEP (detRwt (stepMade o s)) (stepMade o s)).rwt = (stepMade o s).rwt :=
    onlyChanges_raise _ _ _ .rwt (by decide)
  refine ⟨?_, ?_, raised_raise_self (by decide) _ _⟩ <;> rw [same] <;>
    by_cases pos : 0 < o <;> simp only [stepMade, modRwt, pos, if_true, if_false]

/-! ## While locked (R201) -/

/-- An offset beyond DRIFT_NS is noted. -/
def driftNoted (o : Int) (s : State) : State :=
  if 2 * s.fld F.RWT_SYNC_CFG.DRIFT_NS < o.natAbs then raise C.RWT.DRIFT (detRwt s) s else s

theorem onlyChanges_driftNoted (o : Int) (s : State) : OnlyChanges [.regs, .flt] s (driftNoted o s) :=
  .ite (fun _ => onlyChanges_raise _ _ s) fun _ => (OnlyChanges.refl s).mono (by decide)

theorem notes_driftNoted (o : Int) (s : State) : Notes [] s (driftNoted o s) := by
  unfold driftNoted
  split
  · exact notes_raise (by decide) _ s
  · exact Notes.refl s

/-- What follows the note of an offset: the second set beyond LOST_NS loses the lock. -/
def lossJudged (o : Int) (s : State) : State :=
  if 2 * s.fld F.RWT_SYNC_CFG.LOST_NS < o.natAbs then
    if s.rwt.lostRun = 0 then modRwt (fun r => { r with lostRun := 1 }) s
    else
      let s := modRwt (fun r => { r with lostRun := 0, st := .lost }) s
      stopAtPath 2 (raise C.RWT.TIME_LOST (detRwt s) s)
  else modRwt (fun r => { r with lostRun := 0 }) s

theorem whileLocked_eq (o : Int) (s : State) : whileLocked o s = lossJudged o (driftNoted o s) := rfl

theorem notes_modRwt (f : Rwt → Rwt) (s : State) : Notes [] s (modRwt f s) := (onlyChanges_modRwt f s).notes (by decide) (by decide)

theorem lossJudged_keeps (o : Int) (s : State) : Notes widthRegs s (lossJudged o s) ∧ ResultKept s (lossJudged o s) := by
  have changed (f : Rwt → Rwt) : Notes widthRegs s (modRwt f s) := (notes_modRwt f s).mono (by simp)
  unfold lossJudged
  split
  · split
    · exact ⟨changed _, ⟨rfl, rfl, rfl⟩⟩
    · set v := modRwt (fun r => { r with lostRun := 0, st := .lost }) s
      have raised := notes_raise (c := C.RWT.TIME_LOST) (by decide) (detRwt v) v
      have stopped := links_stopAtPath (reason := 2) (by decide) (raise C.RWT.TIME_LOST (detRwt v) v)
      have kept : ResultKept s v := ⟨rfl, rfl, rfl⟩
      exact ⟨((changed _).trans (raised.trans stopped.keeps.notes)).mono (by decide),
        kept.trans ((resultKept_raise _ _ v).trans (stopped.keeps.frame.resultKept (by decide)))⟩
  · exact ⟨changed _, ⟨rfl, rfl, rfl⟩⟩

theorem resultKept_whileLocked (o : Int) (s : State) : ResultKept s (whileLocked o s) := by
  rw [whileLocked_eq]
  exact ((onlyChanges_driftNoted o s).resultKept (by decide)).trans (lossJudged_keeps o _).2

theorem raised_drift_whileLocked {o : Int} {s : State} (far : 2 * s.fld F.RWT_SYNC_CFG.DRIFT_NS < o.natAbs) :
    Raised C.RWT.DRIFT (whileLocked o s) := by
  have noted : Raised C.RWT.DRIFT (driftNoted o s) := by
    rw [driftNoted, if_pos far]
    exact raised_raise_self (by decide) _ s
  exact (lossJudged_keeps o _).1.1 _ (by decide) noted

theorem sync_cfg_plain : R.RWT_SYNC_CFG ∉ causeRegs := by decide +kernel

theorem whileLocked_loses {o : Int} {s : State} (far : 2 * s.fld F.RWT_SYNC_CFG.LOST_NS < o.natAbs) (second : s.rwt.lostRun ≠ 0) :
    (whileLocked o s).rwt.st = .lost ∧ Raised C.RWT.TIME_LOST (whileLocked o s) := by
  have rwt : (driftNoted o s).rwt = s.rwt := onlyChanges_driftNoted o s .rwt (by decide)
  have far' : 2 * (driftNoted o s).fld F.RWT_SYNC_CFG.LOST_NS < o.natAbs := by
    rwa [(notes_driftNoted o s).fld sync_cfg_plain (by simp)]
  have second' : ¬(driftNoted o s).rwt.lostRun = 0 := by rwa [rwt]
  rw [whileLocked_eq, lossJudged, if_pos far', if_neg second']
  set v := modRwt (fun r => { r with lostRun := 0, st := .lost }) (driftNoted o s)
  have stopped := links_stopAtPath (reason := 2) (by decide) (raise C.RWT.TIME_LOST (detRwt v) v)
  refine ⟨?_, stopped.keeps.notes.1 _ (by decide) (raised_raise_self (by decide) _ v)⟩
  rw [stopped.keeps.frame .rwt (by decide), onlyChanges_raise _ _ v .rwt (by decide)]
  rfl

/-! ## A set judged -/

section
variable {s : State} {o : Int}

theorem setJudged_locking (st : s.rwt.st = .locking) : setJudged o s = beforeLock o s := by simp only [setJudged, st]

theorem setJudged_locked (st : s.rwt.st = .locked) : setJudged o s = whileLocked o s := by simp only [setJudged, st]

theorem resultKept_setJudged (o : Int) (s : State) : ResultKept s (setJudged o s) := by
  unfold setJudged
  split
  · exact resultKept_beforeLock o s
  · exact resultKept_beforeLock o s
  · exact resultKept_whileLocked o s
  · exact ResultKept.refl s

end

theorem runs_syncSetEnd_failed {s : State} (hf : s.functional = true) (inSet : s.rwt.inSet = true)
    (none : bestExch (s.rwt.exch.filterMap (·.got)) = none) : Runs .syncSetEnd s fun t =>
      t.rwt.inSet = false ∧ t.rwt.exch = [] ∧ t.rwt.goodRun = 0 ∧ t.rwt.lostRun = 0 ∧
      t.rwt.failRun = s.rwt.failRun + 1 ∧ t.rwt.st = s.rwt.st ∧
      (s.unlocked = false → (s.rwt.failRun + 1) % 10 = 0 → Raised C.RWT.SYNC_MISSING t) := by
  refine runs_syncSetEnd hf inSet none ?_
  have rwt := rwt_failedSet (setClosed s)
  have missing := raised_failedSet (s := setClosed s)
  obtain ⟨_, _, _, _, closed⟩ := later_setClosed s
  rw [closed] at rwt missing
  simp only [setEnded, raised_settle, settle_frame, closed, rwt, true_and]
  exact missing

theorem halfNs_fits {lo hi v : Int} (low : lo ≤ v) (high : v ≤ hi) : halfNs lo hi v = BitVec.ofInt 16 v :=
  if_pos (by simp [low, high])

/-- The state that a set's result is judged in: its time moved on, its record noted, all else as it was. -/
theorem setResult_setClosed (x : Int × Int × BitVec 2) (s : State) :
    let v := setResult x (setClosed s)
    v.rwt.st = s.rwt.st ∧ v.rwt.goodRun = s.rwt.goodRun ∧ v.rwt.lostRun = s.rwt.lostRun ∧ v.rwt.failRun = 0 ∧ v.rwt.q = x.2.2 ∧
      v.rwt.offset = halfNs (-32768) 32767 x.2.1 ∧ ∀ f, v.fld f = s.fld f := by
  obtain ⟨_, _, _, _, closed⟩ := later_setClosed s
  rw [closed]
  exact ⟨rfl, rfl, rfl, rfl, rfl, rfl, fun _ => rfl⟩

theorem runs_syncSetEnd_taken {s : State} {d o : Int} {q : BitVec 2} (hf : s.functional = true) (inSet : s.rwt.inSet = true)
    (taken : bestExch (s.rwt.exch.filterMap (·.got)) = some (d, o, q)) : Runs .syncSetEnd s fun t =>
      t.rwt.failRun = 0 ∧ t.rwt.q = q ∧ (-32768 ≤ o → o ≤ 32767 → t.rwt.offset = BitVec.ofInt 16 o) ∧
      (s.rwt.st = .locking → o.natAbs ≤ 2 → atLeastOne (s.fld F.RWT_SYNC_CFG.LOCK_SETS) ≤ s.rwt.goodRun + 1 →
        t.rwt.st = .locked ∧ Raised C.RWT.LOCKED t) ∧
      (s.rwt.st = .locking → 2 < o.natAbs → t.rwt.st = .locking ∧ t.rwt.goodRun = 0 ∧ Raised C.RWT.STEP t) ∧
      (s.rwt.st = .locked → 2 * s.fld F.RWT_SYNC_CFG.DRIFT_NS < o.natAbs → Raised C.RWT.DRIFT t) ∧
      (s.rwt.st = .locked → 2 * s.fld F.RWT_SYNC_CFG.LOST_NS < o.natAbs → s.rwt.lostRun ≠ 0 →
        t.rwt.st = .lost ∧ Raised C.RWT.TIME_LOST t) := by
  refine runs_syncSetEnd hf inSet taken ?_
  obtain ⟨st, good, lost, fail, quality, offset, flds⟩ := setResult_setClosed (d, o, q) s
  simp only [setEnded, settle_frame, raised_settle]
  generalize setResult (d, o, q) (setClosed s) = v at *
  have kept := resultKept_setJudged o v
  refine ⟨kept.failRun.trans fail, kept.q.trans quality, fun low high => ?_, fun locking near enough => ?_, fun locking far => ?_,
    fun locked far => ?_, fun locked far second => ?_⟩
  · exact (kept.offset.trans offset).trans (halfNs_fits low high)
  · rw [setJudged_locking (st.trans locking)]
    exact beforeLock_locks near (by rwa [flds, good])
  · rw [setJudged_locking (st.trans locking)]
    obtain ⟨same, none, stepped⟩ := beforeLock_steps far v
    exact ⟨(same.trans st).trans locking, none, stepped⟩
  · rw [setJudged_locked (st.trans locked)]
    exact raised_drift_whileLocked (by rwa [flds])
  · rw [setJudged_locked (st.trans locked)]
    exact whileLocked_loses (by rwa [flds]) (by rwa [lost])

/-! ## RELOCK (R201) -/

theorem runs_rwtRelock {data : Word} {s : State} (hf : s.functional = true) (hs : Settled s) (on : s.regOn R.RWT_CTRL = true)
    (write : bit data 0 = true) (still : s.ttb.st ≠ .running) (unarmed : s.ttb.st ≠ .startArmed) : Runs (.rwtRelock data) s fun t =>
      t.rwt = { s.rwt with st := .unlocked, goodRun := 0, lostRun := 0, failRun := 0 } ∧ t.outs.regAck = true ∧
        t.outs.regErr = false ∧
        OnlyChanges [.rwt, .outs, .slp] s t := by
  have eq : relock s = modRwt (fun r => { r with st := .unlocked, goodRun := 0, lostRun := 0, failRun := 0 }) s :=
    if_neg (by simp [still, unarmed])
  have answered := (onlyChanges_modRwt (fun r => { r with st := .unlocked, goodRun := 0, lostRun := 0, failRun := 0 }) s).trans
    (onlyChanges_answer false _)
  exact runs_functional (fun _ => rfl) hf ((portWrite_on write on _).trans (by rw [eq]))
    ⟨rfl, rfl, rfl, (onlyChanges_settle_of answered hs (by decide)).mono (by decide)⟩

/-- Settles O44: a set begins, its exchanges are sent, answered or run out, and its end judges the lock by the exchange it takes. -/
theorem timeSets : Obligations.TimeSets :=
  ⟨fun _ hf hs between agreed => runs_syncSetStart hf hs between agreed,
    fun _ hf hs inSet few => runs_timeReqSend hf hs inSet few,
    fun _ _ _ _ hf lock hs inSet exch mine others waits alive window =>
      runs_timeResp hf lock hs inSet exch mine others waits alive window,
    fun _ _ hf hs oldest => runs_timeExchangeTimeout hf hs oldest,
    fun _ hf inSet none => runs_syncSetEnd_failed hf inSet none,
    fun _ _ _ _ hf inSet taken => runs_syncSetEnd_taken hf inSet taken,
    fun _ _ hf hs on write still unarmed => runs_rwtRelock hf hs on write still unarmed⟩

end Sys2Proof.Machine
end

section
/-!
SUPPORT. Loads of a timetable: how each begins and ends, and what the station's answers make of one (R207, R208).
-/
namespace Sys2Proof.Machine

/-! ## Banks -/

theorem b2n_lt (b : Bool) : b2n b < 2 := by cases b <;> decide

theorem b2n_inj {a b : Bool} (h : b2n a = b2n b) : a = b := by
  revert h
  cases a <;> cases b <;> decide

theorem bankAt_eq (s : State) (b : Bool) : s.bankAt b = s.ttb.banks[b2n b]'(b2n_lt b) := getElem!_pos _ _ _

/-- A bank changed in its place, and the other one that stays. -/
theorem bankAt_vmod {s t : State} {a : Bool} {f : Option Bank → Option Bank} (banks : t.ttb.banks = vmod s.ttb.banks (b2n a) f)
    (b : Bool) : t.bankAt b = if b = a then f (s.bankAt b) else s.bankAt b := by
  simp only [bankAt_eq, banks]
  split
  next same =>
    subst same
    exact vmod_same _ _ _ _
  next other => exact vmod_other _ _ _ _ _ fun same => other (b2n_inj same).symm

/-! ## The answer to an access -/

/-- The answer on the port, and the end of the step, leave the registers. -/
@[simp] theorem fld_answered (err : Bool) (f : Field) (s : State) : (settle (s.answer err)).fld f = s.fld f := rfl

theorem raised_answered {c : Cause} {s : State} (h : Raised c s) (err : Bool) : Raised c (settle (s.answer err)) := h

/-! ## The end of a load -/

/-- The record of a load gone, and its RESULT written (R208). -/
def loadOver (r : Nat) (s : State) : State := (modTtb (fun t => { t with load := none }) s).setFld F.TTB_LOAD_CTRL.RESULT r

/-- A load that leaves nothing in its half of the store. -/
def halfEmptied (s : State) : State :=
  modTtb (fun t => { t with banks := vmod t.banks (b2n (!s.ttb.active)) (fun _ => none), standby := .empty }) s

/-- The bank that a load leaves is the ready standby. -/
def bankPlaced (b : Bank) (s : State) : State :=
  modTtb (fun t => { t with banks := vmod t.banks (b2n (!s.ttb.active)) (fun _ => some b), standby := .ready }) s

theorem load_ctrl_plain : R.TTB_LOAD_CTRL ∉ causeRegs := by decide +kernel

theorem result_loadOver (r : Nat) (s : State) : (loadOver r s).fld F.TTB_LOAD_CTRL.RESULT = r % 256 :=
  fld_setFld_same _ (by decide) r

/-- What follows a load's RESULT: its cause, and the reply of the command that waits for it. -/
def loadTold (c : Cause) (d : BitVec 80) (status : BitVec 16) (reply : List Byte) (s : State) : State :=
  wake .load status reply (raise c d s)

section
variable {c : Cause} (d : BitVec 80) (status : BitVec 16) (reply : List Byte) (s : State)

theorem frame_loadTold : OnlyChanges endParts s (loadTold c d status reply s) :=
  ((onlyChanges_raise c d s).trans (keeps_wake .load status reply _).frame).mono (by decide)

theorem raised_loadTold (hc : c ∈ causes) : Raised c (loadTold c d status reply s) :=
  (keeps_wake .load status reply _).notes.1 c hc (raised_raise_self hc d s)

theorem result_loadTold (hc : c ∈ causes) :
    (loadTold c d status reply s).fld F.TTB_LOAD_CTRL.RESULT = s.fld F.TTB_LOAD_CTRL.RESULT :=
  ((notes_raise hc d s).trans (keeps_wake .load status reply _).notes).fld load_ctrl_plain (by simp)

end

/-- What the failure of a load does: RESULT and LOAD_FAIL, and a standby that was not armed is given up. -/
structure LoadFails (r : Nat) (keep : Bool) (s t : State) : Prop where
  load : t.ttb.load = none
  result : t.fld F.TTB_LOAD_CTRL.RESULT = r
  raised : Raised C.TTB.LOAD_FAIL t
  standby : t.ttb.standby = if keep then s.ttb.standby else .empty
  rwt : t.rwt = s.rwt

/-- What the success of a load does: its bank is the ready standby, the other one stays, and LOAD_DONE is raised. -/
structure LoadDone (b : Bank) (s t : State) : Prop where
  load : t.ttb.load = none
  result : t.fld F.TTB_LOAD_CTRL.RESULT = 0
  raised : Raised C.TTB.LOAD_DONE t
  standby : t.ttb.standby = .ready
  banks : t.ttb.banks = vmod s.ttb.banks (b2n (!s.ttb.active)) fun _ => some b

section
variable {s : State} {ld : Load} {r : Nat}

theorem endLoad_fails (load : s.ttb.load = some ld) (small : r < 256) : LoadFails r ld.keep s (endLoad r none s) := by
  set v := if ld.keep then loadOver r s else halfEmptied (loadOver r s)
  have eq : endLoad r none s = loadTold C.TTB.LOAD_FAIL (detTtb 0 0 r v) (loadStatus r) [] v := by
    simp only [endLoad, load]
    rfl
  have told := frame_loadTold (c := C.TTB.LOAD_FAIL) (detTtb 0 0 r v) (loadStatus r) [] v
  have ttb : (endLoad r none s).ttb = v.ttb := by rw [eq]; exact told .ttb (by decide)
  have result : v.fld F.TTB_LOAD_CTRL.RESULT = r :=
    (by by_cases keep : ld.keep = true <;> simp only [v, keep] <;> rfl : _ = (loadOver r s).fld F.TTB_LOAD_CTRL.RESULT).trans
      ((result_loadOver r s).trans (Nat.mod_eq_of_lt small))
  refine ⟨?_, ?_, ?_, ?_, ?_⟩
  · rw [ttb]
    by_cases keep : ld.keep = true <;> simp only [v, keep] <;> rfl
  · rw [eq, result_loadTold _ _ _ _ (by decide), result]
  · rw [eq]
    exact raised_loadTold _ _ _ _ (by decide)
  · rw [ttb]
    by_cases keep : ld.keep = true <;> simp only [v, keep] <;> rfl
  · rw [eq, told .rwt (by decide)]
    by_cases keep : ld.keep = true <;> simp only [v, keep] <;> rfl

theorem endLoad_done (load : s.ttb.load = some ld) (b : Bank) : LoadDone b s (endLoad 0 (some b) s) := by
  set v := placeBranches b.branches (bankPlaced b (loadOver 0 s))
  obtain ⟨reply, eq⟩ : ∃ reply, endLoad 0 (some b) s = loadTold C.TTB.LOAD_DONE 0 0 reply v := by
    simp only [endLoad, load]
    exact ⟨_, rfl⟩
  have ttb : (endLoad 0 (some b) s).ttb = v.ttb := by rw [eq]; exact frame_loadTold _ _ _ v .ttb (by decide)
  refine ⟨?_, ?_, ?_, ?_, ?_⟩
  · rw [ttb]
    rfl
  · rw [eq, result_loadTold _ _ _ _ (by decide)]
    exact result_loadOver 0 s
  · rw [eq]
    exact raised_loadTold _ _ _ _ (by decide)
  · rw [ttb]
    rfl
  · rw [ttb]
    rfl

end

/-! ## GO (R208, R224) -/

/-- The state with PORT and STREAM written. -/
def loadCtrlWritten (data : Word) (s : State) : State :=
  (s.setFld F.TTB_LOAD_CTRL.PORT (Sys2Proof.fld data 8 3)).setFld F.TTB_LOAD_CTRL.STREAM (Sys2Proof.fld data 1 1)

/-- The pair of an address is not the control register. -/
theorem pair_loadCtrlWritten (data : Word) (s : State) :
    (loadCtrlWritten data s).pair R.TTB_LOAD_ADDR_LO = s.pair R.TTB_LOAD_ADDR_LO := by
  have low : R.TTB_LOAD_ADDR_LO ≠ R.TTB_LOAD_CTRL := by decide
  have high : R.TTB_LOAD_ADDR_LO + 4 ≠ R.TTB_LOAD_CTRL := by decide
  simp only [State.pair, loadCtrlWritten]
  rw [reg_setFld_other _ _ _ _ high, reg_setFld_other _ _ _ _ high, reg_setFld_other _ _ _ _ low, reg_setFld_other _ _ _ _ low]

/-- The load that a GO begins. -/
def newLoad (addr : BitVec 64) (data : Word) (s : State) : Load :=
  { addr := addr, port := bits data 8 3, stream := data.getLsbD 1, keep := s.ttb.standby == .armed, bank := none }

/-- The sequencer with a load begun. -/
def loadBegun (ld : Load) (s : State) : State :=
  modTtb (fun t => { t with
    load := some ld, standby := if ld.keep then t.standby else .loading,
    banks := if ld.keep then t.banks else vmod t.banks (b2n (!t.active)) (fun _ => none) }) s

section
variable {data : Word} {s : State}

theorem loadCtrlWrite_busy (go : bit data 0 = true) (busy : s.ttb.load.isSome = true) :
    loadCtrlWrite data s = (loadCtrlWritten data s).setFld F.TTB_LOAD_CTRL.RESULT 0x01 := (if_pos go).trans (if_pos busy)

theorem loadCtrlWrite_begins (go : bit data 0 = true) (idle : s.ttb.load = none) :
    loadCtrlWrite data s =
      let u := loadBegun (newLoad (s.pair R.TTB_LOAD_ADDR_LO) data s) (loadCtrlWritten data s)
      if (s.pair R.TTB_LOAD_ADDR_LO).toNat % 4096 != 0 then endLoad 0x12 none u else u := by
  have free : ¬(loadCtrlWritten data s).ttb.load.isSome = true := by
    rw [show (loadCtrlWritten data s).ttb = s.ttb from rfl, idle]
    decide
  rw [← pair_loadCtrlWritten data s]
  exact (if_pos go).trans (if_neg free)

theorem runs_ttbLoadGo_aligned (hf : s.functional = true) (on : s.regOn R.TTB_LOAD_CTRL = true) (go : bit data 0 = true)
    (idle : s.ttb.load = none) (aligned : (s.pair R.TTB_LOAD_ADDR_LO).toNat % 4096 = 0) : Runs (.ttbLoadGo data) s fun t =>
      t.ttb.load = some ⟨s.pair R.TTB_LOAD_ADDR_LO, bits data 8 3, bit data 1, s.ttb.standby == .armed, none⟩ ∧
        t.ttb.standby = (if s.ttb.standby = .armed then .armed else .loading) ∧ t.outs.regAck = true ∧ t.outs.regErr = false := by
  have eq := loadCtrlWrite_begins go idle
  simp only [aligned, bne_self_eq_false, Bool.false_eq_true, if_false] at eq
  refine runs_functional (fun _ => rfl) hf ((portWrite_on go on _).trans (by rw [eq])) ⟨rfl, ?_, rfl, rfl⟩
  show (if (s.ttb.standby == .armed) = true then s.ttb.standby else .loading) = _
  by_cases armed : s.ttb.standby = .armed <;> simp [armed]

theorem runs_ttbLoadGo_unaligned (hf : s.functional = true) (on : s.regOn R.TTB_LOAD_CTRL = true) (go : bit data 0 = true)
    (idle : s.ttb.load = none) (off : (s.pair R.TTB_LOAD_ADDR_LO).toNat % 4096 ≠ 0) : Runs (.ttbLoadGo data) s fun t =>
      t.ttb.load = none ∧ t.fld F.TTB_LOAD_CTRL.RESULT = 0x12 ∧ Raised C.TTB.LOAD_FAIL t := by
  have eq := loadCtrlWrite_begins go idle
  simp only [bne_iff_ne.mpr off, if_true] at eq
  set u := loadBegun (newLoad (s.pair R.TTB_LOAD_ADDR_LO) data s) (loadCtrlWritten data s)
  obtain ⟨load, result, raised, -, -⟩ := endLoad_fails (s := u) (r := 0x12) rfl (by decide)
  exact runs_functional (u := (endLoad 0x12 none u).answer false) (fun _ => rfl) hf ((portWrite_on go on _).trans (by rw [eq]))
    ⟨load, (fld_answered false _ _).trans result, raised_answered raised false⟩

theorem runs_ttbLoadGo_busy (hf : s.functional = true) (on : s.regOn R.TTB_LOAD_CTRL = true) (go : bit data 0 = true)
    (busy : s.ttb.load.isSome = true) : Runs (.ttbLoadGo data) s fun t =>
      t.ttb = s.ttb ∧ t.fld F.TTB_LOAD_CTRL.RESULT = 0x01 := by
  obtain ⟨u, eq, ttb, result⟩ : ∃ u, loadCtrlWrite data s = u ∧ u.ttb = s.ttb ∧ u.fld F.TTB_LOAD_CTRL.RESULT = 0x01 :=
    ⟨_, loadCtrlWrite_busy go busy, rfl, fld_setFld_same _ (by decide) 0x01⟩
  exact runs_functional (u := u.answer false) (fun _ => rfl) hf ((portWrite_on go on _).trans (by rw [eq])) ⟨ttb, result⟩

end

/-! ## The image read (R207, R208) -/

/-- Each RESULT of the header's checks fits its field. -/
theorem hdrChecks_lt (image : List Byte) (ld : Load) (site : BitVec 14) (free : Nat) : hdrChecks image ld site free < 256 := by
  have either {p : Prop} [Decidable p] {a b : Nat} (ha : a < 256) (hb : b < 256) : (if p then a else b) < 256 := by
    split
    · exact ha
    · exact hb
  exact either (by decide) (either (by decide) (either (by decide) (either (by decide) (either (by decide) (either (by decide)
    (either (by decide) (either (by decide) (by decide))))))))

/-- What an image that has been read, or whose read has failed, makes of the load that waits for it. -/
def fetchEnded (fetched : Bool) (image : List Byte) (ld : Load) (s : State) : State :=
  if !s.hasPort ld.port || (!fetched && image.length < 128) then endLoad 0x35 none s
  else if hdrChecks image ld s.own s.freeEntries != 0 then endLoad (hdrChecks image ld s.own s.freeEntries) none s
  else if !fetched then endLoad 0x35 none s
  else if !s.structureOk image ld then endLoad 0x10 none s
  else if imgBytes image (leAt image 64 8) (leAt image 72 4) = [] then endLoad 0 (some (bankOf image ld)) s
  else sendProg .load (imgBytes image (leAt image 64 8) (leAt image 72 4))
    (modTtb (fun t => { t with load := some { ld with bank := some (bankOf image ld) } }) s)

section
variable {fetched : Bool} {image : List Byte} {ld : Load} {s : State}

theorem runs_fetchEnded {P : State → Prop} (hl : s.platLive = true) (load : s.ttb.load = some ld) (fresh : ld.bank = none)
    (h : P (settle (fetchEnded fetched image ld s))) : Runs (.ttbLoadFetchDone fetched image) s P := by
  refine runs_plat (u := fetchEnded fetched image ld s) (fun _ => rfl) hl ?_ h
  simp only [load, fresh]
  rfl

theorem fetchEnded_header (port : s.hasPort ld.port = true) (enough : fetched = true ∨ 128 ≤ image.length)
    (bad : hdrChecks image ld s.own s.freeEntries ≠ 0) :
    fetchEnded fetched image ld s = endLoad (hdrChecks image ld s.own s.freeEntries) none s := by
  have read : ¬(!s.hasPort ld.port || (!fetched && decide (image.length < 128))) = true := by
    rcases enough with e | e <;> simp [port, e]
  exact (if_neg read).trans (if_pos (bne_iff_ne.mpr bad))

theorem fetchEnded_unread (why : s.hasPort ld.port = false ∨ image.length < 128 ∨ hdrChecks image ld s.own s.freeEntries = 0) :
    fetchEnded false image ld s = endLoad 0x35 none s := by
  by_cases early : (!s.hasPort ld.port || (!false && decide (image.length < 128))) = true
  · exact if_pos early
  · have good : ¬(hdrChecks image ld s.own s.freeEntries != 0) = true := by
      simp only [Bool.not_false, Bool.true_and, Bool.or_eq_true, Bool.not_eq_true', decide_eq_true_eq, not_or] at early
      rcases why with absent | short | good
      · exact absurd absent early.1
      · exact absurd short early.2
      · simp [good]
    exact (if_neg early).trans ((if_neg good).trans (if_pos rfl))

theorem fetchEnded_whole (port : s.hasPort ld.port = true) (good : hdrChecks image ld s.own s.freeEntries = 0)
    (whole : s.structureOk image ld = true) (alone : imgBytes image (leAt image 64 8) (leAt image 72 4) = []) :
    fetchEnded true image ld s = endLoad 0 (some (bankOf image ld)) s := by
  simp only [fetchEnded, port, good, whole, alone, Bool.not_true, Bool.false_and, Bool.or_self, Bool.false_eq_true, if_false,
    bne_self_eq_false,
    if_true]

theorem runs_fetchDone_header (hl : s.platLive = true) (load : s.ttb.load = some ld) (fresh : ld.bank = none)
    (port : s.hasPort ld.port = true) (enough : fetched = true ∨ 128 ≤ image.length)
    (bad : hdrChecks image ld s.own s.freeEntries ≠ 0) : Runs (.ttbLoadFetchDone fetched image) s fun t =>
      t.ttb.load = none ∧ t.fld F.TTB_LOAD_CTRL.RESULT = hdrChecks image ld s.own s.freeEntries ∧ Raised C.TTB.LOAD_FAIL t := by
  obtain ⟨gone, result, raised, -, -⟩ := endLoad_fails load (hdrChecks_lt image ld s.own s.freeEntries)
  refine runs_fetchEnded hl load fresh ?_
  rw [fetchEnded_header port enough bad]
  exact ⟨gone, result, raised⟩

theorem runs_fetchDone_unread (hl : s.platLive = true) (load : s.ttb.load = some ld) (fresh : ld.bank = none)
    (why : s.hasPort ld.port = false ∨ image.length < 128 ∨ hdrChecks image ld s.own s.freeEntries = 0) :
    Runs (.ttbLoadFetchDone false image) s fun t =>
      t.ttb.load = none ∧ t.fld F.TTB_LOAD_CTRL.RESULT = 0x35 ∧ Raised C.TTB.LOAD_FAIL t ∧
        (ld.keep = false → t.ttb.standby = .empty) ∧ (ld.keep = true → t.ttb.standby = s.ttb.standby) := by
  obtain ⟨gone, result, raised, standby, -⟩ := endLoad_fails (r := 0x35) load (by decide)
  refine runs_fetchEnded hl load fresh ?_
  rw [fetchEnded_unread why]
  exact ⟨gone, result, raised, fun free => standby.trans (if_neg (by simp [free])), fun keep => standby.trans (if_pos keep)⟩

theorem runs_fetchDone_whole (hl : s.platLive = true) (load : s.ttb.load = some ld) (fresh : ld.bank = none)
    (port : s.hasPort ld.port = true) (good : hdrChecks image ld s.own s.freeEntries = 0)
    (whole : s.structureOk image ld = true) (alone : imgBytes image (leAt image 64 8) (leAt image 72 4) = []) :
    Runs (.ttbLoadFetchDone true image) s fun t =>
      t.ttb.load = none ∧ t.fld F.TTB_LOAD_CTRL.RESULT = 0 ∧ t.ttb.standby = .ready ∧
        t.bankAt (!s.ttb.active) = some (bankOf image ld) ∧ t.bankAt s.ttb.active = s.bankAt s.ttb.active ∧
        Raised C.TTB.LOAD_DONE t := by
  obtain ⟨gone, result, raised, standby, banks⟩ := endLoad_done load (bankOf image ld)
  refine runs_fetchEnded hl load fresh ?_
  rw [fetchEnded_whole port good whole alone]
  exact ⟨gone, result, standby, (bankAt_vmod (s := s) banks _).trans (if_pos rfl),
    (bankAt_vmod (s := s) banks _).trans (if_neg (by simp)), raised⟩

end

/-! ## The station's answers (R207, R324) -/

theorem onlyChanges_freePacket (t : BitVec 3) (s : State) : OnlyChanges [.lnk] s (freePacket t s) := by
  obtain ⟨fs, pool, took⟩ := takePacket_eq t s
  rw [freePacket, took]
  exact ((onlyChanges_lnk { s.lnk with pool := pool } s).trans (onlyChanges_freeFlits fs _)).mono (by decide)

theorem mgmtBad_congr {s t : State} (boot : t.boot = s.boot) (h : MHdr) (n flits : Nat) : t.mgmtBad h n flits = s.mgmtBad h n flits := by
  simp only [State.mgmtBad, State.own, boot]

/-- A T0 packet that is whole, of the operation asked for, is taken out of the receive pool. -/
theorem takeT0_takes {op : Byte} {hdr : BitVec 128} {data : List Byte} {flits : Nat} {k : MHdr → State → State} {s : State}
    (good : s.mgmtBad (MHdr.ofBits hdr) data.length flits = false) (is : (MHdr.ofBits hdr).op = op) :
    takeT0 op hdr data flits k s = k (MHdr.ofBits hdr) (freePacket 0 s) := by
  have same := mgmtBad_congr (onlyChanges_freePacket 0 s .boot (by decide)) (MHdr.ofBits hdr) data.length flits
  exact (if_neg (by rw [same, good]; decide)).trans (if_pos is)

/-- A programming is over. -/
def progGone (p : Prog) (s : State) : State := { s with vtx := { s.vtx with progs := s.vtx.progs.filter (· != p) } }

theorem endProg_accepts {p : Prog} (what : p.what = .load) (s : State) :
    endProg p 0 s = endLoad 0 (s.ttb.load.bind (·.bank)) (progGone p s) := by
  simp only [endProg, what]
  rfl

theorem endProg_ends {p : Prog} (what : p.what = .load) {status : BitVec 16} (failed : status ≠ 0) (s : State) :
    endProg p status s = endLoad (if status = 0x0214 then 0x36 else 0x37) none (progGone p s) := by
  simp only [endProg, what]
  exact if_neg failed

/-- What a programming becomes where one of its packets has been acknowledged. -/
def Prog.acked (p : Prog) (rtag : BitVec 16) : Prog := { p with rtags := p.rtags.filter (· != rtag) }

/-- The station's answer, noted in its programming. -/
def progAcked (p : Prog) (rtag : BitVec 16) (s : State) : State :=
  { s with vtx := { s.vtx with progs := mapIf (· == p) (fun _ => p.acked rtag) s.vtx.progs } }

/-- What an answer of the station does to the programming of its RTAG. -/
def stationAnswers (data : List Byte) (h : MHdr) (s : State) : State :=
  match s.vtx.progs.find? (fun p => p.rtags.contains h.rtag) with
  | none => s
  | some p =>
    if data = [1] then endProg p 0x0216 s
    else if data = [0] then
      if (p.acked h.rtag).rtags = [] then endProg (p.acked h.rtag) 0 (progAcked p h.rtag s) else progAcked p h.rtag s
    else s

section
variable {hdr : BitVec 128} {flits : Nat} {p : Prog} {ld : Load} {b : Bank} {s : State}

theorem stationAnswers_refused {h : MHdr} (found : (s.vtx.progs.find? fun p => p.rtags.contains h.rtag) = some p) :
    stationAnswers [1] h s = endProg p 0x0216 s := by simp only [stationAnswers, found, if_true]

theorem stationAnswers_last {h : MHdr} (found : (s.vtx.progs.find? fun p => p.rtags.contains h.rtag) = some p) (last : p.rtags = [h.rtag]) :
    stationAnswers [0] h s = endProg (p.acked h.rtag) 0 (progAcked p h.rtag s) := by
  have none : (p.acked h.rtag).rtags = [] := by simp [Prog.acked, last]
  simp only [stationAnswers, found, none, if_true]
  rfl

theorem runs_stationAck {data : List Byte} {P : State → Prop} (hf : s.functional = true)
    (good : s.mgmtBad (MHdr.ofBits hdr) data.length flits = false) (op : (MHdr.ofBits hdr).op = 0x66)
    (h : P (settle (stationAnswers data (MHdr.ofBits hdr) (freePacket 0 s)))) : Runs (.stationAck hdr data flits) s P :=
  runs_functional (fun _ => rfl) hf (takeT0_takes (k := stationAnswers data) good op) h

/-- The packet taken leaves the programmings and the sequencer. -/
theorem freePacket_keeps (t : BitVec 3) (s : State) : (freePacket t s).vtx = s.vtx ∧ (freePacket t s).ttb = s.ttb :=
  ⟨onlyChanges_freePacket t s .vtx (by decide), onlyChanges_freePacket t s .ttb (by decide)⟩

theorem runs_stationAck_accepts (hf : s.functional = true) (good : s.mgmtBad (MHdr.ofBits hdr) 1 flits = false)
    (op : (MHdr.ofBits hdr).op = 0x66) (found : (s.vtx.progs.find? fun p => p.rtags.contains (MHdr.ofBits hdr).rtag) = some p)
    (what : p.what = .load) (load : s.ttb.load = some ld) (bank : ld.bank = some b) (last : p.rtags = [(MHdr.ofBits hdr).rtag]) :
    Runs (.stationAck hdr [0] flits) s fun t =>
      t.ttb.load = none ∧ t.ttb.standby = .ready ∧ t.bankAt (!s.ttb.active) = some b ∧ Raised C.TTB.LOAD_DONE t := by
  refine runs_stationAck (data := [0]) hf good op ?_
  obtain ⟨vtx, ttb⟩ := freePacket_keeps 0 s
  generalize freePacket 0 s = v at *
  generalize MHdr.ofBits hdr = h at *
  rw [← vtx] at found
  set w := progGone (p.acked h.rtag) (progAcked p h.rtag v)
  have same : w.ttb = s.ttb := ttb
  have held : (progAcked p h.rtag v).ttb.load.bind (·.bank) = some b := by
    rw [show (progAcked p h.rtag v).ttb = s.ttb from ttb, load]
    exact bank
  obtain ⟨gone, -, raised, standby, banks⟩ := endLoad_done (s := w) (by rw [same, load]) b
  rw [stationAnswers_last found last, endProg_accepts (p := p.acked h.rtag) what, held]
  refine ⟨gone, standby, ?_, raised⟩
  rw [← same]
  exact (bankAt_vmod (s := w) banks _).trans (if_pos rfl)

theorem runs_stationAck_refuses (hf : s.functional = true) (good : s.mgmtBad (MHdr.ofBits hdr) 1 flits = false)
    (op : (MHdr.ofBits hdr).op = 0x66) (found : (s.vtx.progs.find? fun p => p.rtags.contains (MHdr.ofBits hdr).rtag) = some p)
    (what : p.what = .load) (load : s.ttb.load = some ld) : Runs (.stationAck hdr [1] flits) s fun t =>
      t.ttb.load = none ∧ t.fld F.TTB_LOAD_CTRL.RESULT = 0x37 ∧ Raised C.TTB.LOAD_FAIL t := by
  refine runs_stationAck (data := [1]) hf good op ?_
  obtain ⟨vtx, ttb⟩ := freePacket_keeps 0 s
  rw [← vtx] at found
  have loading : (progGone p (freePacket 0 s)).ttb.load = some ld := (congrArg Ttb.load ttb).trans load
  obtain ⟨gone, result, raised, -, -⟩ := endLoad_fails (r := 0x37) loading (by decide)
  rw [stationAnswers_refused found, endProg_ends (status := 0x0216) what (by decide)]
  exact ⟨gone, result, raised⟩

theorem runs_stationAckTimeout {ps : List Prog} (hf : s.functional = true) (progs : s.vtx.progs = p :: ps) (what : p.what = .load)
    (load : s.ttb.load.isSome = true) : Runs .stationAckTimeout s fun t =>
      t.ttb.load = none ∧ t.fld F.TTB_LOAD_CTRL.RESULT = 0x36 ∧ Raised C.TTB.LOAD_FAIL t ∧
        (s.byAo = false → p.since.rail + 10000000 ≤ t.now) := by
  obtain ⟨ld, load⟩ := Option.isSome_iff_exists.mp load
  set v := s.lapse p.since 10000000
  have loading : (progGone p v).ttb.load = some ld := (congrArg Ttb.load (onlyChanges_lapse _ _ s .ttb (by decide))).trans load
  obtain ⟨gone, result, raised, -, rwt⟩ := endLoad_fails (r := 0x36) loading (by decide)
  refine runs_functional (u := endLoad 0x36 none (progGone p v)) (fun _ => rfl) hf ?_ ⟨gone, result, raised, fun rail => ?_⟩
  · simp only [progs, List.head?_cons]
    exact endProg_ends (status := 0x0214) what (by decide) v
  · have now : (settle (endLoad 0x36 none (progGone p v))).now = v.now := congrArg Rwt.now rwt
    rw [now]
    exact le_now_lapse rail _ _

end

/-- Settles O45: a GO begins a load or ends it at once, the image's checks end it with their RESULT, and the station's answer or its
silence ends the one that waits for it. -/
theorem loads : Obligations.Loads :=
  ⟨fun _ _ hf on go idle aligned => runs_ttbLoadGo_aligned hf on go idle aligned,
    fun _ _ hf on go idle off => runs_ttbLoadGo_unaligned hf on go idle off,
    fun _ _ hf on go busy => runs_ttbLoadGo_busy hf on go busy,
    fun _ _ _ _ hl load fresh port enough bad => runs_fetchDone_header hl load fresh port enough bad,
    fun _ _ _ hl load fresh why => runs_fetchDone_unread hl load fresh why,
    fun _ _ _ hl load fresh port good whole alone => runs_fetchDone_whole hl load fresh port good whole alone,
    fun _ _ _ _ _ _ hf good op found what load bank =>
      ⟨fun last => runs_stationAck_accepts hf good op found what load bank last,
        runs_stationAck_refuses hf good op found what load⟩,
    fun _ _ _ hf progs what load => runs_stationAckTimeout hf progs what load⟩

end Sys2Proof.Machine
end

section
/-!
SUPPORT. The parts of the state that the groups of the junction and of the analog sum touch when the timetable goes on: neither the time nor
the sequencer (R217, R248, R249, R254, R267 to R276). Which registers they write, `Reports` says.
-/
namespace Sys2Proof.Machine

/-- The parts that the groups of a timetable touch: what they keep, read, send and report. -/
def groupParts : List Part := [.jct, .asp, .ports, .mnf, .msh, .lnk, .vtx, .sbx, .slp, .free, .regs, .flt]

/-- Nothing has changed beside the parts of the groups. -/
def Beside (s t : State) : Prop := OnlyChanges groupParts s t

section
variable {s t u : State}

theorem OnlyChanges.beside {ps : List Part} (h : OnlyChanges ps s t) (sub : ps ⊆ groupParts) : Beside s t := h.mono sub

theorem Serves.beside (h : Serves s t) : Beside s t := h.keeps.frame.beside (by decide)

theorem Beside.refl (s : State) : Beside s s := (OnlyChanges.refl s).beside (by decide)

theorem Beside.trans (h : Beside s t) (k : Beside t u) : Beside s u := (OnlyChanges.trans h k).mono (by simp)

theorem Beside.ite {c : Prop} [Decidable c] (ht : c → Beside s t) (hu : ¬c → Beside s u) : Beside s (if c then t else u) :=
  OnlyChanges.ite ht hu

theorem beside_foldl {α : Type} {f : State → α → State} (h : ∀ s x, Beside s (f s x)) (l : List α) (s : State) :
    Beside s (l.foldl f s) := onlyChanges_foldl h l s

end

/-! ## Shared operations -/

theorem beside_jct (j : Jct) (s : State) : Beside s { s with jct := j } := (onlyChanges_jct j s).beside (by decide)

theorem beside_modGroup (g : BitVec 12) (f : JGroup → JGroup) (s : State) : Beside s (modGroup g f s) := beside_jct _ s

theorem beside_asp (a : Asp) (s : State) : Beside s { s with asp := a } := (onlyChanges_asp a s).beside (by decide)

theorem beside_modDest (g : BitVec 12) (f : AspDest → AspDest) (s : State) : Beside s (modDest g f s) := beside_asp _ s

theorem beside_dropCtls (g : BitVec 12) (j : Nat) (s : State) : Beside s (dropCtls g j s) := beside_asp _ s

theorem beside_draw (s : State) : Beside s s.draw := (onlyChanges_draw s).beside (by decide)

theorem beside_sendSlp (type : Byte) (ws : List Word) (s : State) : Beside s (sendSlp type ws s) :=
  (onlyChanges_sendSlp type ws s).beside (by decide)

theorem beside_wake (w : Wait) (status : BitVec 16) (data : List Byte) (s : State) : Beside s (wake w status data s) :=
  (keeps_wake w status data s).frame.beside (by decide)

theorem beside_raise (c : Cause) (d : BitVec 80) (s : State) : Beside s (raise c d s) := (onlyChanges_raise c d s).beside (by decide)

theorem beside_raiseIf (c : Cause) (p : Prop) [Decidable p] (d : BitVec 80) (s : State) : Beside s (if p then raise c d s else s) :=
  .ite (fun _ => beside_raise c d s) fun _ => Beside.refl s

theorem beside_setCause (c : Cause) (s : State) : Beside s (setCause c s) := (onlyChanges_setCause c s).beside (by decide)

theorem beside_pushOcc (o : Occ) (s : State) : Beside s (pushOcc o s) := (onlyChanges_pushOcc o s).beside (by decide)

theorem beside_raiseMulti (c : Cause) (others : List Cause) (cls cost : Byte) (d : BitVec 80) (s : State) :
    Beside s (raiseMulti c others cls cost d s) :=
  (beside_foldl (fun s c => beside_setCause c s) (c :: others) s).trans (beside_pushOcc _ _)

/-! ## Blocks written to a port -/

theorem beside_addBreq (p : PortId) (b : Breq) (s : State) : Beside s (addBreq p b s) := (serves_addBreq p b s).beside

theorem beside_postWrite (p : PortId) (addr : BitVec 64) (data : List Byte) (poison : Bool) (s : State) :
    Beside s (postWrite p addr data poison s) :=
  .ite (fun _ => beside_foldl (fun s _ => beside_addBreq _ _ s) _ s) fun _ => Beside.refl s

/-! ## Groups of the junction (R247 to R254) -/

theorem beside_groupEvents (g : JGroup) (m : Nat) (s : State) : Beside s (groupEvents g m s) := by
  unfold groupEvents
  extract_lets r j u d v w x y z q
  have last : Beside s u := .ite (fun _ => Beside.refl s) fun _ => beside_jct _ s
  have done : Beside u v := beside_raiseIf _ _ d u
  have skipped : Beside v w := beside_raiseIf _ _ d v
  have counted : Beside w x := beside_raiseIf _ _ d w
  have failed : Beside x y := beside_raiseIf _ _ d x
  have cast : Beside y z := beside_raiseIf _ _ d y
  have castPart : Beside z q := beside_raiseIf _ _ d z
  exact (((last.trans done).trans (skipped.trans counted)).trans (failed.trans cast)).trans (castPart.trans (beside_wake _ _ _ q))

theorem beside_finishAt (num : BitVec 12) (result : BitVec 4) (m : Nat) (s : State) : Beside s (finishAt num result m s) := by
  unfold finishAt finishMap
  split
  · exact Beside.refl s
  · exact .ite (fun _ => Beside.refl s) fun _ => (beside_modGroup _ _ s).trans (beside_groupEvents _ _ _)

theorem beside_accumulate (num : BitVec 12) (member off n f : Nat) (bs : List Byte) (w : Nat) (poison : Bool) (s : State) :
    Beside s (accumulate num member off n f bs w poison s) := by
  unfold accumulate
  split
  · exact Beside.refl s
  · exact .ite (fun _ => beside_finishAt _ _ _ s) fun _ => (beside_modGroup _ _ s).trans (beside_jct _ _)

theorem beside_roundOut (g : JGroup) (f off : Nat) (as : List (BitVec 384)) (s : State) : Beside s (roundOut g f off as s).2 :=
  beside_raiseIf _ _ _ s

theorem beside_sendT5 (h : JHdr) (data : List Byte) (s : State) : Beside s (sendT5 h data s) :=
  (onlyChanges_queuePacket _ _ s).beside (by decide)

theorem beside_sendOut (g : JGroup) (h : JHdr) (f n off : Nat) (as : List (BitVec 384)) (s : State) :
    Beside s (sendOut g h f n off as s) := by
  induction n generalizing off as s with
  | zero => exact Beside.refl s
  | succ n ih =>
    unfold sendOut
    refine .ite (fun _ => Beside.refl s) fun _ => ?_
    exact ((beside_roundOut _ _ _ _ s).trans (beside_sendT5 _ _ _)).trans (ih _ _ _)

theorem beside_deliver (g : JGroup) (poison : Bool) (s : State) : Beside s (deliver g poison s) := by
  unfold deliver
  refine .ite (fun _ => Beside.refl s) fun _ => ?_
  dsimp only
  split
  · exact (beside_roundOut _ _ _ _ s).trans (beside_postWrite _ _ _ _ _)
  · exact beside_sendOut _ _ _ _ _ _ s
  · exact beside_sendOut _ _ _ _ _ _ s

theorem beside_checkDone (num : BitVec 12) (s : State) : Beside s (checkDone num s) := by
  unfold checkDone
  split
  · exact Beside.refl s
  · refine .ite (fun _ => Beside.refl s) fun _ => .ite (fun _ => Beside.refl s) fun _ => ?_
    extract_lets r u
    have gone : Beside s u := beside_deliver _ _ s
    exact gone.trans (.ite (fun _ => beside_modGroup _ _ u) fun _ => beside_finishAt _ _ _ u)

theorem beside_localPiece (num : BitVec 12) (off : Nat) (data : List Byte) (poison : Bool) (s : State) :
    Beside s (localPiece num off data poison s) := by
  unfold localPiece
  split
  · exact Beside.refl s
  · refine .ite (fun _ => Beside.refl s) fun _ => ?_
    extract_lets f buf u bytes bad v
    have kept : Beside s u := beside_modGroup _ _ s
    refine kept.trans (.ite (fun _ => Beside.refl u) fun _ => ?_)
    exact ((beside_modGroup _ _ u).trans (beside_accumulate _ _ _ _ _ _ _ _ v)).trans (beside_checkDone _ _)

theorem beside_readLocal (num : BitVec 12) (s : State) : Beside s (readLocal num s) := by
  unfold readLocal
  split
  · exact Beside.refl s
  · refine .ite (fun _ => Beside.refl s) fun _ => .ite (fun _ => ?_) fun _ => beside_localPiece _ _ _ _ s
    exact (beside_jct _ s).trans (serves_readOperands _).beside

theorem beside_t6Complete (num : BitVec 12) (s : State) : Beside s (t6Complete num s) := by
  unfold t6Complete
  split
  · exact Beside.refl s
  · refine .ite (fun _ => Beside.refl s) fun _ => ?_
    exact ((beside_deliver _ _ s).trans (beside_modGroup _ _ _)).trans ((beside_groupEvents _ _ _).trans (beside_readLocal _ _))

/-! ## Control of analog groups (R267 to R273) -/

theorem beside_sendCtl (g : BitVec 12) (j : Nat) (mode : BitVec 3) (frm : BitVec 16 × BitVec 16) (s : State) :
    Beside s (sendCtl g j mode frm s) := by
  unfold sendCtl
  split
  · exact Beside.refl s
  · split
    · exact Beside.refl s
    · exact ((beside_modDest _ _ s).trans (beside_asp _ _)).trans (beside_sendSlp _ _ _)

theorem beside_sendTrim (g : BitVec 12) (j : Nat) (t : BitVec 16) (frm : BitVec 16 × BitVec 16) (s : State) :
    Beside s (sendTrim g j t frm s) := (beside_modDest _ _ s).trans (beside_sendCtl _ _ _ _ _)

theorem beside_sendCtlAll (g : BitVec 12) (mode : BitVec 3) (frm : BitVec 16 × BitVec 16) (s : State) :
    Beside s (sendCtlAll g mode frm s) := by
  unfold sendCtlAll
  split
  · exact Beside.refl s
  · exact beside_foldl (fun s _ => .ite (fun _ => beside_sendCtl _ _ _ _ s) fun _ => Beside.refl s) _ s

theorem beside_startRecal (g : BitVec 12) (returning : Bool) (s : State) : Beside s (startRecal g returning s) := by
  unfold startRecal
  split
  · exact Beside.refl s
  · exact .ite (fun _ => Beside.refl s) fun _ => (beside_modDest _ _ s).trans (beside_sendCtlAll _ _ _ _)

theorem beside_announceFallback (g : BitVec 12) (s : State) : Beside s (announceFallback g s) :=
  (beside_modDest _ _ s).trans (beside_sendCtlAll _ _ _ _)

theorem beside_startFallback (g : BitVec 12) (residual win epoch : Nat) (s : State) : Beside s (startFallback g residual win epoch s) :=
  .ite (fun _ => (beside_raise _ _ s).trans (beside_announceFallback _ _)) fun _ => Beside.refl s

theorem beside_failContrib (g : BitVec 12) (j win epoch : Nat) (s : State) : Beside s (failContrib g j win epoch s) := by
  unfold failContrib
  split
  · exact Beside.refl s
  · refine .ite (fun _ => Beside.refl s) fun _ => ?_
    extract_lets u d
    have failed : Beside s u := beside_modDest _ _ s
    refine failed.trans (.ite (fun _ => ?_) fun _ => beside_raise _ _ u)
    exact (beside_raiseMulti _ _ _ _ _ u).trans (beside_announceFallback _ _)

theorem beside_takeOff (g : BitVec 12) (j : Nat) (s : State) : Beside s (takeOff g j s) := by
  unfold takeOff
  extract_lets u
  have off : Beside s u := (beside_modDest _ _ s).trans (beside_dropCtls _ _ _)
  split
  · exact off.trans (.ite (fun _ => beside_startRecal _ _ _) fun _ => Beside.refl _)
  · exact off

theorem beside_windowBegins (g : BitVec 12) (win epoch : BitVec 16) (played : Nat) (s : State) :
    Beside s (windowBegins g win epoch played s) := by
  unfold windowBegins
  split
  · exact Beside.refl s
  · exact (beside_modDest _ _ s).trans (beside_foldl (fun s _ => beside_takeOff _ _ s) _ _)

/-! ## Windows of an analog group -/

theorem beside_putRecord (d : AspDest) (epoch win : BitVec 16) (residual flags clips : Nat) (s : State) :
    Beside s (putRecord d epoch win residual flags clips s) := beside_postWrite _ _ _ _ s

theorem beside_afterWindow (g : BitVec 12) (win epoch : BitVec 16) (before : AspDest) (s : State) :
    Beside s (afterWindow g win epoch before s) := by
  unfold afterWindow
  split
  · exact Beside.refl s
  · extract_lets near u left st
    have steered : Beside s u := by
      refine beside_foldl (fun s j => ?_) _ s
      split
      · exact Beside.refl s
      · refine .ite (fun _ => Beside.refl s) fun _ => .ite (fun _ => beside_failContrib _ _ _ _ s) fun _ => ?_
        exact .ite (fun _ => beside_sendTrim _ _ _ _ s) fun _ => Beside.refl s
    exact steered.trans (.ite (fun _ => beside_startRecal _ _ u) fun _ => Beside.refl u)

theorem beside_dataWindow (g : BitVec 12) (win epoch : BitVec 16) (off n : Nat) (data : List Byte) (stale : Bool) (s : State) :
    Beside s (dataWindow g win epoch off n data stale s) := by
  unfold dataWindow
  split
  · exact Beside.refl s
  · extract_lets drawn alpha turn d1 ws valid sums ys dd d2 sq g2 dTerm residual bad d3 put breach written flags recorded told
    have tracked : Beside s put := (beside_draw s).trans (beside_modDest _ _ _)
    have out : Beside put written := .ite (fun _ => beside_postWrite _ _ _ _ put) fun _ => Beside.refl put
    have noted : Beside written recorded := beside_putRecord _ _ _ _ _ _ written
    have events : Beside recorded told := by
      refine .ite (fun _ => ?_) fun _ => .ite (fun _ => ?_) fun _ => Beside.refl recorded
      · exact (beside_raise _ _ _).trans (beside_startFallback _ _ _ _ _)
      · exact (beside_modDest _ _ _).trans (beside_raise _ _ _)
    exact ((tracked.trans out).trans (noted.trans events)).trans (beside_afterWindow _ _ _ _ told)

theorem beside_endRecal (g : BitVec 12) (win epoch : BitVec 16) (s : State) : Beside s (endRecal g win epoch s) := by
  unfold endRecal
  split
  · exact Beside.refl s
  · extract_lets drawn d want fit heal put told frm on trimmed failed
    have back : Beside s told := ((beside_draw s).trans (beside_modDest _ _ _)).trans (beside_raise _ _ _)
    have sent : Beside told trimmed := beside_foldl (fun s _ => beside_sendTrim _ _ _ _ s) _ told
    have lost : Beside trimmed failed := beside_foldl (fun s _ => beside_failContrib _ _ _ _ s) _ trimmed
    exact (back.trans (sent.trans lost)).trans (.ite (fun _ => Beside.refl failed) fun _ => beside_startFallback _ _ _ _ failed)

theorem beside_recalWindow (g : BitVec 12) (win epoch : BitVec 16) (data : List Byte) (s : State) :
    Beside s (recalWindow g win epoch data s) := by
  unfold recalWindow
  split
  · exact Beside.refl s
  · extract_lets _ drawn _ _ _ _ _ _ _ _ _ _ _ recorded
    have noted : Beside s recorded := ((beside_draw s).trans (beside_modDest _ _ _)).trans (beside_putRecord _ _ _ _ _ _ _)
    exact noted.trans (.ite (fun _ => beside_endRecal _ _ _ recorded) fun _ => Beside.refl recorded)

/-- A window's record, after which a calibration that goes on begins again. -/
theorem beside_recordRecal (d : AspDest) (g : BitVec 12) (epoch win : BitVec 16) (residual flags clips : Nat) (again : Prop)
    [Decidable again]
    (s : State) : Beside s (if again then startRecal g d.returning (putRecord d epoch win residual flags clips s)
      else putRecord d epoch win residual flags clips s) := by
  have noted := beside_putRecord d epoch win residual flags clips s
  exact .ite (fun _ => noted.trans (beside_startRecal _ _ _)) fun _ => noted

theorem beside_takeWindow (g : BitVec 12) (win epoch : BitVec 16) (off n played : Nat) (w : WindowIn) (s : State) :
    Beside s (takeWindow g win epoch off n played w s) := by
  unfold takeWindow
  split
  · exact Beside.refl s
  next d _ =>
    extract_lets stale used begun recal
    refine .ite (fun _ => Beside.refl s) fun _ => .ite (fun _ => ?_) fun _ => ?_
    · have fell : Beside used begun := .ite (fun _ => beside_modDest _ _ used) fun _ => Beside.refl used
      exact ((beside_modDest _ _ s).trans fell).trans (beside_putRecord _ _ _ _ _ _ _)
    · split
      · refine .ite (fun _ => beside_recordRecal d _ _ _ _ _ _ _ s) fun _ => .ite (fun _ => beside_recalWindow _ _ _ _ s) fun _ => ?_
        exact .ite (fun _ => beside_putRecord _ _ _ _ _ _ s) fun _ => beside_dataWindow _ _ _ _ _ _ _ s
      · exact beside_recordRecal d _ _ _ _ _ _ _ s
      · exact beside_recordRecal d _ _ _ _ _ _ _ s

theorem beside_aspRecv (g : BitVec 12) (win epoch : BitVec 16) (off n t : Nat) (w : WindowIn) (s : State) :
    Beside s (aspRecv g win epoch off n t w s) := by
  refine .ite (fun _ => ?_) fun _ => Beside.refl s
  have taken := (beside_windowBegins g win epoch (t - 64) s).trans (beside_takeWindow g win epoch off n (t - 64) w _)
  exact taken.trans (.ite (fun _ => beside_modDest _ _ _) fun _ => Beside.refl _)


end Sys2Proof.Machine
end

section
/-!
SUPPORT. What happens beside the sequencer of a timetable: it, the time and the flags set before stay (R212, R217, R248, R276, R285).
-/
namespace Sys2Proof.Machine

/-- What other units have done leaves the sequencer and the time, and the flags that are set stay set. -/
structure Aside (s t : State) : Prop where
  ttb : t.ttb = s.ttb
  rwt : t.rwt = s.rwt
  raised : ∀ c ∈ causes, Raised c s → Raised c t

section
variable {s t u : State}

theorem Aside.refl (s : State) : Aside s s := ⟨rfl, rfl, fun _ _ r => r⟩

theorem Aside.trans (h : Aside s t) (k : Aside t u) : Aside s u :=
  ⟨k.ttb.trans h.ttb, k.rwt.trans h.rwt, fun c known r => k.raised c known (h.raised c known r)⟩

theorem Aside.ite {c : Prop} [Decidable c] (ht : c → Aside s t) (hu : ¬c → Aside s u) : Aside s (if c then t else u) := by
  split
  next h => exact ht h
  next h => exact hu h

theorem aside_foldl {α : Type} {f : State → α → State} (h : ∀ s x, Aside s (f s x)) (l : List α) (s : State) :
    Aside s (l.foldl f s) := by
  induction l generalizing s with
  | nil => exact Aside.refl s
  | cons x xs ih => exact (h s x).trans (ih (f s x))

theorem OnlyChanges.aside {as : List Nat} {ps : List Part} (h : OnlyChanges ps s t) (notes : Notes as s t)
    (away : .ttb ∉ ps ∧ .rwt ∉ ps) : Aside s t := ⟨h .ttb away.1, h .rwt away.2, notes.1⟩

theorem Beside.aside (h : Beside s t) (k : Reports s t) : Aside s t := OnlyChanges.aside h k (by decide)

theorem Serves.aside (h : Serves s t) : Aside s t := h.beside.aside h.reports

theorem Joins.aside (h : Joins s t) : Aside s t := h.frame.aside h.notes (by decide)

/-- A change away from the registers too. -/
theorem OnlyChanges.asideQuiet {ps : List Part} (h : OnlyChanges ps s t) (away : .ttb ∉ ps ∧ .rwt ∉ ps)
    (regs : .regs ∉ ps ∧ .par ∉ ps) : Aside s t := h.aside (h.notes regs.1 regs.2) away

end

theorem aside_wake (w : Wait) (status : BitVec 16) (data : List Byte) (s : State) : Aside s (wake w status data s) :=
  (beside_wake w status data s).aside (reports_wake w status data s)

theorem aside_raise {c : Cause} (known : c ∈ causes) (d : BitVec 80) (s : State) : Aside s (raise c d s) :=
  (beside_raise c d s).aside (reports_raise known d s)

theorem aside_raiseAs {c : Cause} (known : c ∈ causes) (cls cost : Byte) (d : BitVec 80) (s : State) :
    Aside s (raiseAs c cls cost d s) :=
  (onlyChanges_raiseAs c cls cost d s).aside (notes_raiseAs known cls cost d s) (by decide)

theorem aside_raiseMulti {c : Cause} {others : List Cause} (known : ∀ d ∈ c :: others, d ∈ causes) (cls cost : Byte) (d : BitVec 80)
    (s : State) : Aside s (raiseMulti c others cls cost d s) :=
  (beside_raiseMulti c others cls cost d s).aside (reports_raiseMulti known cls cost d s)

theorem aside_asp (a : Asp) (s : State) : Aside s { s with asp := a } := (beside_asp a s).aside (reports_asp a s)

theorem aside_modGroup (g : BitVec 12) (f : JGroup → JGroup) (s : State) : Aside s (modGroup g f s) := (serves_modGroup g f s).aside

theorem aside_modTlr (f : Tlr → Tlr) (s : State) : Aside s (modTlr f s) :=
  (onlyChanges_modTlr f s).asideQuiet (by decide) (by decide)

/-! ## Groups of the junction and the analog sum (R216, R248, R267, R276) -/

theorem aside_endMem (g : BitVec 12) (c : Nat) (result : BitVec 4) (s : State) : Aside s (endMem g c result s) :=
  ((aside_asp _ s).trans (aside_raise (by decide) _ _)).trans (aside_wake _ _ _ _)

theorem aside_endDest (g : BitVec 12) (result : BitVec 4) (s : State) : Aside s (endDest g result s) :=
  ((aside_asp _ s).trans (aside_raise (by decide) _ _)).trans (aside_wake _ _ _ _)

theorem aside_roundOut (g : JGroup) (f off : Nat) (as : List (BitVec 384)) (s : State) : Aside s (roundOut g f off as s).2 :=
  (beside_roundOut g f off as s).aside (reports_roundOut g f off as s)

theorem aside_t6Output (num : BitVec 12) (part : Bool) (off n : Nat) (s : State) : Aside s (t6Output num part off n s).2 := by
  unfold t6Output
  split
  · exact Aside.refl s
  · split
    · exact Aside.refl s
    · exact aside_roundOut _ _ _ _ s

theorem aside_sendT5 (h : JHdr) (data : List Byte) (s : State) : Aside s (sendT5 h data s) :=
  (beside_sendT5 h data s).aside (reports_sendT5 h data s)

theorem aside_aspSend (g : BitVec 12) (c : Nat) (win epoch : BitVec 16) (off n : Nat) (input : Option (List Byte)) (s : State) :
    Aside s (aspSend g c win epoch off n input s).2 := by
  unfold aspSend
  split
  · exact Aside.refl s
  · extract_lets m u
    have put : Aside s u := aside_asp _ s
    clear_value m
    split
    · exact put.trans (.ite (fun _ => Aside.refl u) fun _ => aside_endMem _ _ _ u)
    · split
      · exact put
      · split
        · exact put.trans (aside_asp _ u)
        · split
          · exact put
          · split
            · exact put.trans (aside_sendT5 _ _ u)
            · exact put

/-! ## Reads (R216, R221, R263) -/

theorem serves_readRange (p : PortId) (addr : BitVec 64) (len : Nat) (mk : Nat → Purpose) (s : State) :
    Serves s (readRange p addr len mk s).1 := by
  unfold readRange
  split
  · exact serves_foldl (fun s _ => serves_addBreq _ _ s) _ s
  · exact Serves.refl s

/-! ## The release of a staged generation (R285) -/

theorem aside_releaseNow (s : State) : Aside s (releaseNow s) := by
  unfold releaseNow
  split
  · extract_lets cur ids rest old aged any src m n u
    have staged : Aside s { s with msh := n } := (serves_msh n s).aside
    have released : Aside { s with msh := n } u := aside_raise (by decide) 0 _
    exact (staged.trans released).trans (.ite (fun _ => aside_raise (by decide) 0 u) fun _ => Aside.refl u)
  · exact Aside.refl s

theorem aside_releaseIfDue (s : State) : Aside s (releaseIfDue s) := by
  unfold releaseIfDue
  split
  · exact .ite (fun _ => aside_releaseNow s) fun _ => Aside.refl s
  · exact Aside.refl s

theorem aside_releaseAfterHalt (s : State) : Aside s (releaseAfterHalt s) := by
  unfold releaseAfterHalt
  split
  · exact (serves_msh _ s).aside.trans (aside_releaseIfDue _)
  · exact aside_releaseIfDue s

/-! ## Sleeves woken for a reservation (R25, R92, R372) -/

theorem aside_modSeam (f : Seam → Seam) (s : State) : Aside s (modSeam f s) := (joins_modSeam f s).aside

theorem aside_modPcm (f : Pcm → Pcm) (s : State) : Aside s (modPcm f s) :=
  (onlyChanges_modPcm f s).asideQuiet (by decide) (by decide)

theorem aside_draw (s : State) : Aside s s.draw := (beside_draw s).aside (reports_draw s)

theorem aside_sendSlp (type : Byte) (ws : List Word) (s : State) : Aside s (sendSlp type ws s) :=
  (beside_sendSlp type ws s).aside (reports_sendSlp type ws s)

theorem aside_nullLane (p : Pass) (s : State) : Aside s (nullLane p s) :=
  .ite (fun _ => (aside_draw s).trans (aside_modTlr _ _)) fun _ => Aside.refl s

theorem aside_startTraining (m : Byte) (s : State) : Aside s (startTraining m s) := by
  refine aside_foldl (fun s n => ?_) _ s
  exact ((aside_modTlr _ s).trans (aside_modTlr _ _)).trans (aside_nullLane _ _)

theorem aside_senseTemp (s : State) : Aside s (senseTemp s).2 :=
  (aside_draw s).trans (aside_modTlr (fun x => { x with temp := Config.seamTemp s.free }) s.draw)

theorem aside_loadRecords (b : List Byte) (s : State) : Aside s (loadRecords b s) :=
  aside_modTlr (fun t => { t with rx := (loadImage b s).tlr.rx, tx := (loadImage b s).tlr.tx }) s

theorem aside_startWake (s : State) : Aside s (startWake s) := by
  unfold startWake
  extract_lets t b
  have sensed := aside_senseTemp s
  generalize senseTemp s = x at *
  obtain ⟨temp, u⟩ := x
  dsimp -zeta only at sensed ⊢
  extract_lets slow v w
  have waking : Aside u v := aside_modPcm _ u
  have asked : Aside v w := (aside_modSeam _ v).trans (aside_sendSlp _ _ _)
  refine ((sensed.trans waking).trans asked).trans (.ite (fun _ => ?_) fun _ => ?_)
  · exact ((aside_modTlr _ w).trans (aside_startTraining _ _)).trans (aside_raise (by decide) _ _)
  · exact (aside_modTlr _ w).trans (aside_loadRecords b _)

theorem aside_wakeTrigger (cause : BitVec 4) (s : State) : Aside s (wakeTrigger cause s) := by
  unfold wakeTrigger
  extract_lets low hold u
  have held : Aside s u := aside_modPcm _ s
  split
  · exact held.trans (.ite (fun _ => aside_startWake u) fun _ => Aside.refl u)
  · exact held.trans (.ite (fun _ => aside_startWake u) fun _ => Aside.refl u)
  · exact held
  · exact .ite (fun _ => aside_modPcm _ s) fun _ => Aside.refl s
  · exact Aside.refl s

theorem aside_reserveWake (s : State) : Aside s (reserveWake s) :=
  .ite (fun _ => Aside.refl s) fun _ => .ite (fun _ => (joins_beginWidth _ _ _ s).aside) fun _ => aside_wakeTrigger 5 s

end Sys2Proof.Machine
end

section
/-!
SUPPORT. What the paths of a timetable leave of its sequencer: its state, its place among paths and cycles, its stops, and the time (R202,
R213 to R221).
-/
namespace Sys2Proof.Machine

/-! ## The sequencer's place -/

/-- A sequencer without what a path's traffic changes: its banks' rings, its open and due entries, its staging and its log. -/
def Ttb.place (t : Ttb) : Ttb :=
  { t with
    banks := Vector.replicate 2 none, recv := [], staged := [], logged := [], due := [], upMask := 0, dnMask := 0, dlLast := 0 }

/-- The traffic of a path has gone on: the sequencer keeps its place and its cycle's length, no time has passed,
and the flags that are set stay set. -/
structure Goes (s t : State) : Prop where
  place : t.ttb.place = s.ttb.place
  cycle : t.cyclePaths = s.cyclePaths
  rwt : t.rwt = s.rwt
  raised : ∀ c ∈ causes, Raised c s → Raised c t

section
variable {s t u : State}

theorem Goes.refl (s : State) : Goes s s := ⟨rfl, rfl, rfl, fun _ _ r => r⟩

theorem Goes.trans (h : Goes s t) (k : Goes t u) : Goes s u :=
  ⟨k.place.trans h.place, k.cycle.trans h.cycle, k.rwt.trans h.rwt, fun c known r => k.raised c known (h.raised c known r)⟩

theorem Goes.ite {c : Prop} [Decidable c] (ht : c → Goes s t) (hu : ¬c → Goes s u) : Goes s (if c then t else u) := by
  split
  next h => exact ht h
  next h => exact hu h

theorem goes_foldl {α : Type} {f : State → α → State} (h : ∀ s x, Goes s (f s x)) (l : List α) (s : State) :
    Goes s (l.foldl f s) := by
  induction l generalizing s with
  | nil => exact Goes.refl s
  | cons x xs ih => exact (h s x).trans (ih (f s x))

theorem Goes.st (h : Goes s t) : t.ttb.st = s.ttb.st := congrArg (fun x => x.st) h.place

theorem Goes.active (h : Goes s t) : t.ttb.active = s.ttb.active := congrArg (fun x => x.active) h.place

theorem Goes.standby (h : Goes s t) : t.ttb.standby = s.ttb.standby := congrArg (fun x => x.standby) h.place

theorem Goes.path (h : Goes s t) : t.ttb.path = s.ttb.path := congrArg (fun x => x.path) h.place

theorem Goes.g0 (h : Goes s t) : t.ttb.g0 = s.ttb.g0 := congrArg (fun x => x.g0) h.place

theorem Goes.cycleG (h : Goes s t) : t.ttb.cycleG = s.ttb.cycleG := congrArg (fun x => x.cycleG) h.place

theorem Goes.epoch (h : Goes s t) : t.ttb.epoch = s.ttb.epoch := congrArg (fun x => x.epoch) h.place

theorem Goes.cycleNo (h : Goes s t) : t.ttb.cycleNo = s.ttb.cycleNo := congrArg (fun x => x.cycleNo) h.place

theorem Goes.haltReason (h : Goes s t) : t.ttb.haltReason = s.ttb.haltReason := congrArg (fun x => x.haltReason) h.place

theorem Goes.stops (h : Goes s t) : t.ttb.stops = s.ttb.stops := congrArg (fun x => x.stops) h.place

theorem Goes.now (h : Goes s t) : t.now = s.now := congrArg Rwt.now h.rwt

theorem cyclePaths_congr (ttb : t.ttb = s.ttb) : t.cyclePaths = s.cyclePaths := by simp only [State.cyclePaths, State.bank, ttb]

theorem Aside.goes (h : Aside s t) : Goes s t := ⟨by rw [h.ttb], cyclePaths_congr h.ttb, h.rwt, h.raised⟩

end

/-- A change of what a path's traffic changes, but for the banks. -/
theorem goes_modTtb {f : Ttb → Ttb} (s : State) (place : ∀ t, (f t).place = t.place := by exact fun _ => rfl)
    (banks : ∀ t, (f t).banks = t.banks := by exact fun _ => rfl) : Goes s (modTtb f s) := by
  have active : (f s.ttb).active = s.ttb.active := congrArg (fun x => x.active) (place s.ttb)
  exact ⟨place s.ttb, by simp only [State.cyclePaths, State.bank, modTtb, banks, active], rfl, fun _ _ r => r⟩

theorem bank_eq (s : State) : s.bank = s.bankAt s.ttb.active := rfl

theorem goes_modBank {f : Bank → Bank} (k : Bool) (s : State) (cycle : ∀ b, (f b).cycle = b.cycle := by exact fun _ => rfl) :
    Goes s (modBank k f s) := by
  refine ⟨rfl, ?_, rfl, fun _ _ r => r⟩
  have changed := bankAt_vmod (s := s) (t := modBank k f s) (a := k) (f := Option.map f) rfl s.ttb.active
  have same : ((modBank k f s).bankAt s.ttb.active).map Bank.cycle = (s.bankAt s.ttb.active).map Bank.cycle := by
    rw [changed]
    split
    · rw [Option.map_map, show Bank.cycle ∘ f = Bank.cycle from funext cycle]
    · rfl
  have active : (modBank k f s).ttb.active = s.ttb.active := rfl
  simp only [State.cyclePaths, bank_eq, active, same]

/-! ## Faults of deadlines (R218, R219) -/

theorem goes_lastShown (x : Word) (s : State) : Goes s (modTtb (fun t => { t with dlLast := x }) s) := goes_modTtb s

theorem goes_logged (x : Nat × BitVec 16 × Bool) (s : State) : Goes s (modTtb (fun t => { t with logged := t.logged ++ [x] }) s) :=
  goes_modTtb s

theorem goes_deadlineCounter {kind : Nat} (known : kind < 7) (v : Word) (s : State) :
    Goes s (s.setReg (R.TTB_DL_CNT + 4 * kind) v) := by
  have plain : ∀ k < 7, R.TTB_DL_CNT + 4 * k ∉ causeRegs := by decide +kernel
  exact ((onlyChanges_setReg _ v s).aside (notes_setReg (plain kind known) v s) (by decide)).goes

theorem goes_setCause {c : Cause} (known : c ∈ causes) (s : State) : Goes s (setCause c s) :=
  ((onlyChanges_setCause c s).aside (notes_setCause known s) (by decide)).goes

theorem goes_dlFault {kind : Nat} (known : kind < 7) (w : DlWhere) (fec : Bool) (late : Option Nat) (s : State) :
    Goes s (dlFault kind w fec late s) := by
  unfold dlFault
  extract_lets a u v d mine x y c o p
  have counted : Goes s u := goes_deadlineCounter known _ s
  have shown : Goes u v := goes_lastShown _ u
  have bumped : Goes v x := ((onlyChanges_bumpOcc mine v).asideQuiet (by decide) (by decide)).goes
  have logged : Goes v y := goes_logged _ v
  have cause : c ∈ causes := by cases fec <;> decide
  clear_value u v p o x y mine d c
  refine (counted.trans shown).trans (.ite (fun _ => bumped.trans ?_) fun _ => logged.trans ?_)
  · exact .ite (fun _ => goes_setCause (by decide) x) fun _ => Goes.refl x
  · refine Goes.trans ?_ ((onlyChanges_pushOcc _ _).asideQuiet (by decide) (by decide)).goes
    exact .ite (fun _ => (goes_setCause cause y).trans (goes_setCause (by decide) _)) fun _ => goes_setCause cause y

/-! ## Deadlines that have passed (R218, R249) -/

theorem goes_modRecv (r : OpenRecv) (f : OpenRecv → OpenRecv) (s : State) : Goes s (modRecv r f s) :=
  goes_modTtb s

theorem goes_recvBad (r : OpenRecv) (s : State) : Goes s (recvBad r s) :=
  .ite (fun _ => (aside_modGroup _ _ s).goes) fun _ => Goes.refl s

theorem goes_closeRecv (r : OpenRecv) (s : State) : Goes s (closeRecv r s) := by
  unfold closeRecv
  extract_lets u missing v whole
  have counted : Goes s v := (goes_modRecv _ _ s).trans (goes_foldl (fun s _ => goes_dlFault (by decide) _ _ _ s) _ u)
  refine counted.trans (.ite (fun _ => Goes.refl v) fun _ => .ite (fun _ => ?_) fun _ => goes_recvBad r v)
  exact ((beside_aspRecv _ _ _ _ _ _ _ v).aside (reports_aspRecv _ _ _ _ _ _ _ v)).goes

theorem goes_closeDue (s : State) : Goes s (closeDue s) :=
  (goes_foldl (fun s r => goes_closeRecv r s) _ s).trans
    (goes_foldl (fun s g => ((beside_t6Complete g s).aside (reports_t6Complete g s)).goes) _ _)

/-! ## Flits not sent (R216, R218) -/

/-- What is to be sent of an entry kept in its staging. -/
def outKept (i : Nat) (out : Option (List Byte)) (silent : Bool) (s : State) : State :=
  modTtb (fun t => { t with
    staged := s.ttb.staged.filter (fun x => !(x.bank == s.ttb.active && x.entry == i && x.g == s.ttb.path)) ++
      [{ bank := s.ttb.active, entry := i, g := s.ttb.path, need := 0, pieces := [], out := out, silent := silent }] }) s

theorem goes_outKept (i : Nat) (out : Option (List Byte)) (silent : Bool) (s : State) : Goes s (outKept i out silent s) :=
  goes_modTtb s

theorem goes_makeOut (i : Nat) (e : TtEntry) (s : State) : Goes s (makeOut i e s) := by
  unfold makeOut
  extract_lets keep made input
  have kept (out : Option (List Byte)) (silent : Bool) (s : State) : Goes s (keep out silent s) := goes_outKept i out silent s
  clear_value keep made input
  split
  · split
    · exact Goes.refl s
    · have sent := (aside_aspSend (bits e.peer 0 12) (Sys2Proof.fld e.aux 13 5) (bits e.aux 48 16) s.ttb.epoch e.aspRange.1 e.aspRange.2
        input s).goes
      dsimp only
      split
      next h => rw [h] at sent; exact sent.trans (kept _ _ _)
      next h => rw [h] at sent; exact sent.trans (kept _ _ _)
      next h => rw [h] at sent; exact sent
  · split
    · exact Goes.refl s
    · split
      · have sent := (aside_t6Output e.jctGroup (e.opx == 0x20) (Sys2Proof.fld e.aux 35 17) e.jctElems s).goes
        split
        next h => rw [h] at sent; exact sent.trans (kept _ _ _)
        next h => rw [h] at sent; exact sent
      · exact Goes.refl s

theorem goes_missDue (s : State) : Goes s (missDue s) := by
  have dropped : Goes s (modTtb (fun t => { t with due := [] }) s) := goes_modTtb s
  refine dropped.trans (goes_foldl (fun s d => ?_) _ _)
  exact Goes.trans (.ite (fun _ => goes_makeOut d.index d.e s) fun _ => Goes.refl s) (goes_dlFault (by decide) _ _ _ _)

/-! ## A path begins (R213, R221) -/

theorem goes_streamLate (b : Bool) (i : Nat) (s : State) : Goes s (streamLate b i s) := by
  refine .ite (fun _ => Goes.refl s) fun _ => ?_
  exact (goes_modBank b s).trans (aside_raise (by decide) _ _).goes

theorem goes_openEntry (b : Bank) (i : Nat) (e : TtEntry) (s : State) : Goes s (openEntry b i e s) := by
  unfold openEntry
  extract_lets g fs kind r u
  split
  · split
    · exact goes_modTtb s
    · exact (goes_dlFault (by decide) _ _ _ s).trans (goes_streamLate _ _ _)
  · have opened : Goes s u := goes_modTtb s
    exact opened.trans (.ite (fun _ => (goes_dlFault (by decide) _ _ _ u).trans (goes_streamLate _ _ _)) fun _ => Goes.refl u)

theorem goes_countGranted (s : State) : Goes s (countGranted s) := by
  unfold countGranted
  extract_lets had
  exact (aside_modTlr _ s).goes

theorem goes_openPath (s : State) : Goes s (openPath s) := by
  unfold openPath
  extract_lets u
  have counted : Goes s u := goes_countGranted s
  clear_value u
  split
  · exact counted
  · have reserved (up dn : Byte) : Goes u (modTtb (fun t => { t with
        upMask := up, dnMask := dn, staged := t.staged.filter (fun x => t.path ≤ x.g) }) u) := goes_modTtb u
    exact (counted.trans (reserved _ _)).trans (goes_foldl (fun s (x : Nat × TtEntry) => goes_openEntry _ x.1 x.2 s) _ _)

/-! ## Reads (R216, R221, R263) -/

theorem goes_readSegment (bk : Bool) (n : Nat) (s : State) : Goes s (readSegment bk n s) := by
  unfold readSegment
  split
  · exact Goes.refl s
  next b _ =>
    have read := (serves_readRange (BitVec.ofNat 3 (s.fld F.TTB_CTRL.STREAM_PORT))
      (b.base + BitVec.ofNat 64 (b.entryOff + 4096 * (n % atLeastOne b.segs))) 4096 (fun _ => .segment bk n) s).aside.goes
    dsimp only
    split
    next h => rw [h] at read; exact read
    next h => rw [h] at read; exact read.trans (goes_modBank bk _)

theorem goes_fetchPath (s : State) : Goes s (fetchPath s) := by
  unfold fetchPath
  split
  · exact Goes.refl s
  · refine .ite (fun _ => Goes.refl s) fun _ => .ite (fun _ => Goes.refl s) fun _ => ?_
    exact (goes_modBank _ s).trans (goes_readSegment _ _ _)

theorem goes_readEntry (b : Bool) (i : Nat) (e : TtEntry) (g : Nat) (port : PortId) (addr : BitVec 64) (len : Nat) (s : State) :
    Goes s (readEntry b i e g port addr len s) := by
  refine .ite (fun _ => Goes.refl s) fun _ => ?_
  have staged (st : Staged) : Goes s (modTtb (fun t => { t with staged := t.staged ++ [st] }) s) :=
    goes_modTtb s
  exact (staged _).trans (serves_readRange _ _ _ _ _).aside.goes

theorem goes_prefetch (g : Nat) (s : State) : Goes s (prefetch g s) := by
  unfold prefetch
  split
  · exact Goes.refl s
  · refine goes_foldl (fun s x => ?_) _ s
    refine .ite (fun _ => Goes.refl s) fun _ => .ite (fun _ => goes_readEntry _ _ _ _ _ _ _ s) fun _ =>
      .ite (fun _ => ?_) fun _ => Goes.refl s
    split
    · exact goes_readEntry _ _ _ _ _ _ _ s
    · exact Goes.refl s

theorem goes_catchUp (g : Nat) (s : State) : Goes s (catchUp g s) := goes_foldl (fun s i => goes_prefetch (g + i) s) _ s

theorem goes_t6Cycle (s : State) : Goes s (t6Cycle s) := (serves_jct _ s).aside.goes

end Sys2Proof.Machine
end

section
/-!
SUPPORT. An arm withdrawn and a timetable stopped: what each leaves, and which causes it raises (R210, R212).
-/
namespace Sys2Proof.Machine

/-! ## An arm withdrawn (R210) -/

theorem disarm_of_armed {s : State} (armed : s.ttb.standby = .armed) :
    disarm s = wake .arm 0x0215 [] (modTtb (fun t => { t with standby := .ready, n1 := none }) s) := if_pos (by rw [armed]; rfl)

theorem disarm_ttb_of_armed {s : State} (armed : s.ttb.standby = .armed) :
    (disarm s).ttb = { s.ttb with standby := .ready, n1 := none } := by
  rw [disarm_of_armed armed]
  exact (aside_wake _ _ _ _).ttb

theorem reports_disarm (s : State) : Reports s (disarm s) :=
  .ite (fun _ => (reports_modTtb (fun t => { t with standby := .ready, n1 := none }) s).trans (reports_wake _ _ _ _))
    fun _ => Reports.refl s

/-! ## A stop (R212) -/

/-- The timetable stopped, and the reads and windows of its path dropped. -/
def halted (x : Stop) (s : State) : State :=
  modTtb (fun t => { t with
    st := .stopped, haltReason := x.reason, stops := [], n1 := none, recv := [], staged := [], due := [], upMask := 0, dnMask := 0 }) s

/-- What has stopped for the stop `x`. -/
structure Halts (x : Stop) (t : State) : Prop where
  st : t.ttb.st = .stopped
  reason : t.ttb.haltReason = x.reason
  up : t.ttb.upMask = 0
  dn : t.ttb.dnMask = 0
  raisedHalted : x.reason = 1 → Raised C.TTB.HALTED t
  raisedStopped : x.reason = 2 → Raised C.TTB.STOPPED t

theorem Halts.aside {x : Stop} {s t : State} (h : Halts x s) (k : Aside s t) : Halts x t where
  st := k.ttb ▸ h.st
  reason := k.ttb ▸ h.reason
  up := k.ttb ▸ h.up
  dn := k.ttb ▸ h.dn
  raisedHalted one := k.raised _ (by decide) (h.raisedHalted one)
  raisedStopped two := k.raised _ (by decide) (h.raisedStopped two)

theorem aside_stopCause (x : Stop) (s : State) : Aside s (stopCause x s) :=
  .ite (fun _ => aside_raise (by decide) _ s) fun _ => .ite (fun _ => Aside.refl s) fun _ =>
    .ite (fun _ => aside_raiseAs (by decide) _ _ _ s) fun _ => aside_raiseAs (by decide) _ _ _ s

theorem raised_stopCause_one {x : Stop} (one : x.reason = 1) (s : State) : Raised C.TTB.HALTED (stopCause x s) := by
  rw [stopCause, if_pos one]
  exact raised_raise_self (by decide) _ s

theorem raised_stopCause_two {x : Stop} (two : x.reason = 2) (s : State) : Raised C.TTB.STOPPED (stopCause x s) := by
  rw [stopCause, if_neg (by rw [two]; decide), if_neg (by rw [two]; decide), if_neg (by rw [two]; decide)]
  exact raised_raiseAs_self (by decide) _ _ _ s

theorem halts_stopNow (x : Stop) (t : Nat) (s : State) : Halts x (stopNow x t s) := by
  have caused : Halts x (stopCause x (halted x (disarm s))) := by
    have ttb := (aside_stopCause x (halted x (disarm s))).ttb
    exact ⟨by rw [ttb]; rfl, by rw [ttb]; rfl, by rw [ttb]; rfl, by rw [ttb]; rfl, fun one => raised_stopCause_one one _,
      fun two => raised_stopCause_two two _⟩
  have told := caused.aside (aside_wake .halt 0 (leBytes 8 t) _)
  refine told.aside ?_
  exact .ite (fun _ => aside_wake _ _ _ _) fun _ => aside_releaseAfterHalt _

end Sys2Proof.Machine
end

section
/-!
SUPPORT. Writes of TTB_CTRL and TTB_SWITCH: starts, halts and switches of a timetable (R209, R210, R212).
-/
namespace Sys2Proof.Machine

/-! ## Starts (R209) -/

/-- TTB_CTRL as a write leaves it. -/
def ttbCtrlWritten (data : Word) (s : State) : State := s.setReg R.TTB_CTRL (data &&& 0x000F070C)

/-- G0, as the registers hold it. -/
def State.startPath (s : State) : Nat := (s.pair R.TTB_START_LO).toNat % 2 ^ 58

theorem startPath_ttbCtrlWritten (data : Word) (s : State) : (ttbCtrlWritten data s).startPath = s.startPath := by
  have low : R.TTB_START_LO ≠ R.TTB_CTRL := by decide
  have high : R.TTB_START_LO + 4 ≠ R.TTB_CTRL := by decide
  simp only [State.startPath, State.pair, ttbCtrlWritten, reg_setReg_other _ _ _ _ low, reg_setReg_other _ _ _ _ high]

/-- The ring of a streamed bank asked for again from its first segment (R221). -/
def ringRefilled (s : State) : State :=
  match s.bank with
  | some b =>
    if b.streamed then
      (List.range (min 512 b.segs)).foldl (fun u i => readSegment s.ttb.active i u)
        (modBank s.ttb.active (fun x => { x with present := [], again := [], late := [], nextSeg := min 512 b.segs }) s)
    else s
  | none => s

/-- The standby made the active bank, and the other half of the store free. -/
def banksSwapped (s : State) : State :=
  modTtb (fun t => { t with active := !t.active, standby := .empty, banks := vmod t.banks (b2n t.active) (fun _ => none) }) s

/-- A start armed for path `g0`. -/
def startArmedAt (g0 : Nat) (resume : Bool) (s : State) : State :=
  modTtb (fun t => { t with st := .startArmed, g0 := g0, resume := resume, stops := [], n1 := none, path := s.now / 64 }) s

theorem armStart_eq (g0 : Nat) (resume : Bool) (s : State) :
    armStart g0 resume s = startArmedAt g0 resume (if resume then ringRefilled s else banksSwapped s) := by
  cases resume <;> rfl

theorem goes_ringRefilled (s : State) : Goes s (ringRefilled s) := by
  unfold ringRefilled
  split
  next b _ =>
    exact .ite (fun _ => (goes_modBank s.ttb.active s).trans (goes_foldl (fun u i => goes_readSegment s.ttb.active i u) _ _))
      fun _ => Goes.refl s
  · exact Goes.refl s

/-- What a START or a RESUME does where its conditions hold, and where they do not. -/
def startAsked (g0 : Nat) (resume : Bool) (s : State) : State :=
  if s.startOk g0 resume then armStart g0 resume s else switchRefused 0 s

section
variable {data : Word} {s : State}

theorem ctrlWrite_start (start : bit data 0 = true) (resume : bit data 4 = false) (halt : bit data 1 = false) :
    ttbCtrlWrite data s = startAsked s.startPath false (ttbCtrlWritten data s) := by
  have start : data.getLsbD 0 = true := start
  have resume : data.getLsbD 4 = false := resume
  have halt : data.getLsbD 1 = false := halt
  rw [← startPath_ttbCtrlWritten data s]
  simp only [ttbCtrlWrite, start, resume, halt, Bool.and_false, Bool.or_false, Bool.false_eq_true, if_true, if_false]
  rfl

theorem ctrlWrite_resume (resume : bit data 4 = true) (start : bit data 0 = false) (halt : bit data 1 = false) :
    ttbCtrlWrite data s = startAsked s.startPath true (ttbCtrlWritten data s) := by
  have start : data.getLsbD 0 = false := start
  have resume : data.getLsbD 4 = true := resume
  have halt : data.getLsbD 1 = false := halt
  rw [← startPath_ttbCtrlWritten data s]
  simp only [ttbCtrlWrite, start, resume, halt, Bool.and_true, Bool.or_true, Bool.false_eq_true, if_true, if_false]
  rfl

theorem ctrlWrite_halt (halt : bit data 1 = true) (start : bit data 0 = false) (resume : bit data 4 = false) :
    ttbCtrlWrite data s = haltTt (bit data 2) (ttbCtrlWritten data s) := by
  have start : data.getLsbD 0 = false := start
  have resume : data.getLsbD 4 = false := resume
  have halt : data.getLsbD 1 = true := halt
  simp only [ttbCtrlWrite, start, resume, halt, Bool.and_false, Bool.or_false, Bool.false_eq_true, if_true, if_false]
  rfl

theorem startAsked_armed {g0 : Nat} {resume : Bool} (ok : s.startOk g0 resume = true) : startAsked g0 resume s = armStart g0 resume s :=
  if_pos ok

theorem startAsked_refused {g0 : Nat} {resume : Bool} (no : s.startOk g0 resume = false) : startAsked g0 resume s = switchRefused 0 s :=
  if_neg (ne_true_of_eq_false no)

/-- Where a start is refused, SWITCH_REFUSED is raised and the sequencer keeps what it holds. -/
theorem switchRefused_keeps (r : Nat) (s : State) : (switchRefused r s).ttb = s.ttb ∧ Raised C.TTB.SWITCH_REFUSED (switchRefused r s) :=
  ⟨(aside_raise (by decide) _ s).ttb, raised_raise_self (by decide) _ s⟩

theorem runs_ttbCtrlStart (hf : s.functional = true) (on : s.regOn R.TTB_CTRL = true) (start : bit data 0 = true)
    (resume : bit data 4 = false) (halt : bit data 1 = false) : Runs (.ttbCtrlStart data) s fun t =>
      t.outs.regAck = true ∧ t.outs.regErr = false ∧
      (s.startOk s.startPath false = true →
        t.ttb.st = .startArmed ∧ t.ttb.g0 = s.startPath ∧ t.ttb.active = (!s.ttb.active) ∧ t.ttb.standby = .empty ∧
          t.ttb.resume = false) ∧
      (s.startOk s.startPath false = false → t.ttb = s.ttb ∧ Raised C.TTB.SWITCH_REFUSED t) := by
  refine runs_functional (u := (startAsked s.startPath false (ttbCtrlWritten data s)).answer false) (fun _ => rfl) hf
    ((portWrite_on start on _).trans (by rw [ctrlWrite_start start resume halt])) ⟨rfl, rfl, fun ok => ?_, fun no => ?_⟩
  · rw [startAsked_armed (s := ttbCtrlWritten data s) ok]
    exact ⟨rfl, rfl, rfl, rfl, rfl⟩
  · rw [startAsked_refused (s := ttbCtrlWritten data s) no]
    exact switchRefused_keeps 0 (ttbCtrlWritten data s)

theorem runs_ttbCtrlResume (hf : s.functional = true) (on : s.regOn R.TTB_CTRL = true) (resume : bit data 4 = true)
    (start : bit data 0 = false) (halt : bit data 1 = false) : Runs (.ttbCtrlResume data) s fun t =>
      t.outs.regAck = true ∧ t.outs.regErr = false ∧
      (s.startOk s.startPath true = true →
        t.ttb.st = .startArmed ∧ t.ttb.g0 = s.startPath ∧ t.ttb.active = s.ttb.active ∧ t.ttb.resume = true) ∧
      (s.startOk s.startPath true = false → t.ttb = s.ttb ∧ Raised C.TTB.SWITCH_REFUSED t) := by
  refine runs_functional (u := (startAsked s.startPath true (ttbCtrlWritten data s)).answer false) (fun _ => rfl) hf
    ((portWrite_on resume on _).trans (by rw [ctrlWrite_resume resume start halt])) ⟨rfl, rfl, fun ok => ?_, fun no => ?_⟩
  · rw [startAsked_armed (s := ttbCtrlWritten data s) ok, armStart_eq]
    exact ⟨rfl, rfl, (goes_ringRefilled (ttbCtrlWritten data s)).active, rfl⟩
  · rw [startAsked_refused (s := ttbCtrlWritten data s) no]
    exact switchRefused_keeps 0 (ttbCtrlWritten data s)

end

/-! ## Halts (R212) -/

/-- The stop that a HALT asks for. -/
def State.haltStop (s : State) (byPath : Bool) : Stop :=
  { atG := if byPath then s.ttb.path + 1 else s.ttb.cycleG + s.cyclePaths, reason := 1, die := 0, fence := 0 }

/-- A stop put behind those asked for before. -/
def stopAdded (x : Stop) (s : State) : State := { s with ttb := { s.ttb with stops := s.ttb.stops ++ [x] } }

section
variable {x : Stop} {s : State}

/-- A running timetable stops at the boundary named. -/
theorem askStop_running (runs : s.ttb.st = .running) : askStop x s = stopAdded x s := by simp [askStop, stopAdded, runs]

/-- While a start is armed every stop but a HALT waits for its boundary. -/
theorem askStop_armed (armed : s.ttb.st = .startArmed) (other : x.reason ≠ 1) : askStop x s = stopAdded x s := by
  have waits : ¬(s.ttb.st == .startArmed && x.reason == 1) = true := by
    rw [beq_eq_false_iff_ne.mpr other, Bool.and_false]
    decide
  exact (if_neg waits).trans (if_pos (by rw [armed]; rfl))

/-- A HALT withdraws an armed start at once. -/
theorem askStop_withdrawn (armed : s.ttb.st = .startArmed) (halt : x.reason = 1) : askStop x s = stopNow x s.now s := by
  simp [askStop, armed, halt]

theorem runs_ttbCtrlHalt {data : Word} (hf : s.functional = true) (on : s.regOn R.TTB_CTRL = true) (halt : bit data 1 = true)
    (start : bit data 0 = false) (resume : bit data 4 = false) : Runs (.ttbCtrlHalt data) s fun t =>
      t.outs.regAck = true ∧ t.outs.regErr = false ∧
      (s.ttb.st = .running → t.ttb.st = .running ∧ t.ttb.stops = s.ttb.stops ++ [s.haltStop (bit data 2)]) ∧
      (s.ttb.st = .startArmed → t.ttb.st = .stopped ∧ t.ttb.haltReason = 1 ∧ Raised C.TTB.HALTED t) := by
  refine runs_functional (u := (askStop (s.haltStop (bit data 2)) (ttbCtrlWritten data s)).answer false) (fun _ => rfl) hf
    ((portWrite_on halt on _).trans (by rw [ctrlWrite_halt halt start resume]; rfl)) ⟨rfl, rfl, fun runs => ?_, fun armed => ?_⟩
  · rw [askStop_running (s := ttbCtrlWritten data s) runs]
    exact ⟨runs, rfl⟩
  · rw [askStop_withdrawn (s := ttbCtrlWritten data s) armed rfl]
    have stopped := halts_stopNow (s.haltStop (bit data 2)) s.now (ttbCtrlWritten data s)
    exact ⟨stopped.st, stopped.reason, raised_answered (stopped.raisedHalted rfl) false⟩

end

/-! ## Switches (R210) -/

theorem switch_plain : R.TTB_SWITCH ∉ causeRegs ++ deadlineCounters := by decide +kernel

/-- TTB_SWITCH with its EPOCH written. -/
def switchWritten (data : Word) (s : State) : State := s.setFld F.TTB_SWITCH.EPOCH (Sys2Proof.fld data 0 16)

/-- The RESULT of an ARM. -/
def armAnswered (r : Nat) (s : State) : State := s.setFld F.TTB_SWITCH.RESULT r

/-- The standby armed for the boundary of epoch `e`. -/
def armedFor (e : BitVec 16) (s : State) : State := modTtb (fun t => { t with standby := .armed, armEpoch := e }) (disarm s)

/-- Each RESULT of an ARM fits its field. -/
theorem armResult_lt (s : State) (e : BitVec 16) : s.armResult e < 2 ^ 8 := by
  unfold State.armResult
  split
  · decide
  · dsimp only
    split <;> decide

section
variable {data : Word} {s : State}

theorem switchWrite_arm (arm : bit data 16 = true) (cancel : bit data 17 = false) :
    switchWrite data s =
      let u := armAnswered (s.armResult (bits data 0 16)) (switchWritten data s)
      if s.armResult (bits data 0 16) = 0 then armedFor (bits data 0 16) u else u := by
  have arm : data.getLsbD 16 = true := arm
  have cancel : data.getLsbD 17 = false := cancel
  simp only [switchWrite, arm, cancel, Bool.false_eq_true, if_true, if_false]
  rfl

theorem switchWrite_cancel (cancel : bit data 17 = true) (arm : bit data 16 = false) :
    switchWrite data s = disarm (switchWritten data s) := by
  have arm : data.getLsbD 16 = false := arm
  have cancel : data.getLsbD 17 = true := cancel
  simp only [switchWrite, arm, cancel, Bool.false_eq_true, if_true, if_false]
  rfl

theorem result_armAnswered (s : State) (e : BitVec 16) (u : State) :
    (armAnswered (s.armResult e) u).fld F.TTB_SWITCH.RESULT = s.armResult e :=
  (fld_setFld_same u (by decide) _).trans (Nat.mod_eq_of_lt (armResult_lt s e))

theorem result_armedFor (e : BitVec 16) (s : State) : (armedFor e s).fld F.TTB_SWITCH.RESULT = s.fld F.TTB_SWITCH.RESULT := by
  have same : (armedFor e s).reg R.TTB_SWITCH = s.reg R.TTB_SWITCH :=
    ((reports_disarm s).trans (reports_modTtb _ _)).reg switch_plain
  exact congrArg (fun x => Sys2Proof.fld x 24 8) same

theorem runs_ttbSwitchArm (hf : s.functional = true) (on : s.regOn R.TTB_SWITCH = true) (arm : bit data 16 = true)
    (cancel : bit data 17 = false) : Runs (.ttbSwitchArm data) s fun t =>
      t.fld F.TTB_SWITCH.RESULT = s.armResult (bits data 0 16) ∧ t.outs.regAck = true ∧ t.outs.regErr = false ∧
        (s.armResult (bits data 0 16) = 0 → t.ttb.standby = .armed ∧ t.ttb.armEpoch = bits data 0 16) ∧
        (s.armResult (bits data 0 16) ≠ 0 → t.ttb = s.ttb) := by
  have eq := switchWrite_arm (s := s) arm cancel
  set u := armAnswered (s.armResult (bits data 0 16)) (switchWritten data s)
  have result : u.fld F.TTB_SWITCH.RESULT = s.armResult (bits data 0 16) := result_armAnswered s _ _
  by_cases ok : s.armResult (bits data 0 16) = 0
  · refine runs_functional (u := (armedFor (bits data 0 16) u).answer false) (fun _ => rfl) hf
      ((portWrite_on arm on _).trans (by rw [eq]; exact congrArg _ (if_pos ok))) ?_
    exact ⟨(fld_answered false _ _).trans ((result_armedFor (bits data 0 16) u).trans result), rfl, rfl, fun _ => ⟨rfl, rfl⟩, fun no => absurd ok no⟩
  · refine runs_functional (u := u.answer false) (fun _ => rfl) hf
      ((portWrite_on arm on _).trans (by rw [eq]; exact congrArg _ (if_neg ok))) ?_
    exact ⟨(fld_answered false _ _).trans result, rfl, rfl, fun yes => absurd yes ok, fun _ => rfl⟩

theorem runs_ttbSwitchCancel (hf : s.functional = true) (on : s.regOn R.TTB_SWITCH = true) (cancel : bit data 17 = true)
    (arm : bit data 16 = false) (armed : s.ttb.standby = .armed) : Runs (.ttbSwitchCancel data) s fun t =>
      t.ttb = { s.ttb with standby := .ready, n1 := none } ∧ t.outs.regAck = true ∧ t.outs.regErr = false :=
  runs_functional (u := (disarm (switchWritten data s)).answer false) (fun _ => rfl) hf
    ((portWrite_on cancel on _).trans (by rw [switchWrite_cancel cancel arm]))
    ⟨disarm_ttb_of_armed (s := switchWritten data s) armed, rfl, rfl⟩

end

/-- Settles O46: a START, a RESUME, a HALT, an ARM and a CANCEL each act where their conditions hold, and are refused otherwise. -/
theorem startsHaltsSwitches : Obligations.StartsHaltsSwitches :=
  ⟨fun _ _ hf on start resume halt => runs_ttbCtrlStart hf on start resume halt,
    fun _ _ hf on resume start halt => runs_ttbCtrlResume hf on resume start halt,
    fun _ _ hf on halt start resume => runs_ttbCtrlHalt hf on halt start resume,
    fun _ _ hf on arm cancel => runs_ttbSwitchArm hf on arm cancel,
    fun _ _ hf on cancel arm armed => runs_ttbSwitchCancel hf on cancel arm armed⟩

end Sys2Proof.Machine
end

section
/-!
SUPPORT. A path boundary: what falls at it, and the path that begins with it (R202, R209, R212, R213).
-/
namespace Sys2Proof.Machine

/-! ## The boundary's parts (R213) -/

/-- The path that ends is settled, and the sequencer stands at path `g`. -/
def pathReached (g : Nat) (s : State) : State := modTtb (fun t => { t with path := g }) (missDue (closeDue (s.reach (64 * g))))

/-- What falls at the boundary of path `g`: a stop, the start armed, or the end of a cycle. -/
def boundaryFalls (g : Nat) (s : State) : State :=
  match s.ttb.st with
  | .startArmed =>
    match s.stopDue g with
    | some x => stopNow x (64 * g) s
    | none => if s.ttb.g0 ≤ g then beginRun s else s
  | .running =>
    match s.stopDue g with
    | some x => stopNow x (64 * g) s
    | none => if s.ttb.cycleG + s.cyclePaths ≤ g then catchUp g (cycleBoundary s) else s
  | _ => s

/-- The path that begins: its entries open, and the reads of a later one are issued. -/
def pathBegins (g : Nat) (s : State) : State :=
  match s.ttb.st with
  | .running => prefetch (g + s.lead) (fetchPath (openPath s))
  | .startArmed => prefetch (g + s.lead) s
  | _ => s

theorem pathBoundary_eq (s : State) :
    pathBoundary s = pathBegins s.nextPath (boundaryFalls s.nextPath (pathReached s.nextPath s)) := by
  unfold pathBoundary
  extract_lets g u v w
  have reached : v = pathReached g s := by rfl
  clear_value v
  have falls : w = boundaryFalls g v := by rfl
  clear_value w
  rw [← reached, ← falls]
  rfl

theorem goes_pathBegins (g : Nat) (s : State) : Goes s (pathBegins g s) := by
  unfold pathBegins
  split
  · exact ((goes_openPath s).trans (goes_fetchPath _)).trans (goes_prefetch _ _)
  · exact goes_prefetch _ s
  · exact Goes.refl s

section
variable {g : Nat} {s : State}

theorem pathBegins_stopped (stopped : s.ttb.st = .stopped) : pathBegins g s = s := by
  simp only [pathBegins, stopped]

theorem boundaryFalls_stop {x : Stop} (live : s.ttb.st = .running) (due : s.stopDue g = some x) :
    boundaryFalls g s = stopNow x (64 * g) s := by
  simp only [boundaryFalls, live, due]

theorem boundaryFalls_start (armed : s.ttb.st = .startArmed) (none : s.stopDue g = none) (come : s.ttb.g0 ≤ g) :
    boundaryFalls g s = beginRun s := by
  simp only [boundaryFalls, armed, none, if_pos come]

theorem boundaryFalls_cycle (runs : s.ttb.st = .running) (none : s.stopDue g = none) (past : s.ttb.cycleG + s.cyclePaths ≤ g) :
    boundaryFalls g s = catchUp g (cycleBoundary s) := by
  simp only [boundaryFalls, runs, none, if_pos past]

theorem boundaryFalls_path (runs : s.ttb.st = .running) (none : s.stopDue g = none) (within : g < s.ttb.cycleG + s.cyclePaths) :
    boundaryFalls g s = s := by
  simp only [boundaryFalls, runs, none, if_neg (Nat.not_le.mpr within)]

/-- A boundary is one step of the sequencer, and the manager wakes the sleeves that its reservations need (R25). -/
theorem runs_pathBoundary {P : State → Prop} (hl : s.platLive = true)
    (h : P (settle (reserveWake (pathBegins s.nextPath (boundaryFalls s.nextPath (pathReached s.nextPath s)))))) :
    Runs .pathBoundary s P :=
  runs_plat (k := fun s => reserveWake (pathBoundary s)) (fun _ => rfl) hl (congrArg reserveWake (pathBoundary_eq s)) h

end

/-! ## The boundary reached -/

/-- The boundary of path `g` has come: the sequencer keeps its cycle and its stops, and the time is that of the boundary or later. -/
structure Arrives (g : Nat) (s t : State) : Prop where
  st : t.ttb.st = s.ttb.st
  g0 : t.ttb.g0 = s.ttb.g0
  path : t.ttb.path = g
  cycleG : t.ttb.cycleG = s.ttb.cycleG
  epoch : t.ttb.epoch = s.ttb.epoch
  cycleNo : t.ttb.cycleNo = s.ttb.cycleNo
  standby : t.ttb.standby = s.ttb.standby
  stops : t.ttb.stops = s.ttb.stops
  cycle : t.cyclePaths = s.cyclePaths
  late : 64 * g ≤ t.now

theorem arrives_pathReached (g : Nat) (s : State) : Arrives g s (pathReached g s) := by
  set r := s.reach (64 * g)
  have ttb : r.ttb = s.ttb := onlyChanges_reach (64 * g) s .ttb (by decide)
  have settled : Goes r (missDue (closeDue r)) := (goes_closeDue r).trans (goes_missDue _)
  show Arrives g s (modTtb (fun t => { t with path := g }) (missDue (closeDue r)))
  generalize missDue (closeDue r) = w at settled
  exact {
    st := settled.st.trans (congrArg Ttb.st ttb)
    g0 := settled.g0.trans (congrArg Ttb.g0 ttb)
    path := rfl
    cycleG := settled.cycleG.trans (congrArg Ttb.cycleG ttb)
    epoch := settled.epoch.trans (congrArg Ttb.epoch ttb)
    cycleNo := settled.cycleNo.trans (congrArg Ttb.cycleNo ttb)
    standby := settled.standby.trans (congrArg Ttb.standby ttb)
    stops := settled.stops.trans (congrArg Ttb.stops ttb)
    cycle := settled.cycle.trans (cyclePaths_congr ttb)
    late := (le_now_reach (64 * g) s).trans_eq settled.now.symm }

theorem Arrives.stopDue {g : Nat} {s t : State} (h : Arrives g s t) (p : Nat) : t.stopDue p = s.stopDue p := by
  simp only [State.stopDue, h.stops]

theorem stopDue_none {s : State} (stops : s.ttb.stops = []) (g : Nat) : s.stopDue g = none := by
  simp only [State.stopDue, stops, List.find?_nil]

theorem nextPath_running {s : State} (runs : s.ttb.st = .running) : s.nextPath = s.ttb.path + 1 := by
  simp only [State.nextPath, runs]

/-! ## A stop that falls at a boundary (R212) -/

theorem runs_pathBoundary_stop {x : Stop} {s : State} (hl : s.platLive = true) (runs : s.ttb.st = .running)
    (due : s.stopDue (s.ttb.path + 1) = some x) : Runs .pathBoundary s fun t =>
      t.ttb.st = .stopped ∧ t.ttb.haltReason = x.reason ∧ t.ttb.upMask = 0 ∧ t.ttb.dnMask = 0 ∧
        (x.reason = 1 → Raised C.TTB.HALTED t) ∧ (x.reason = 2 → Raised C.TTB.STOPPED t) := by
  refine runs_pathBoundary hl ?_
  rw [nextPath_running runs]
  have arrives := arrives_pathReached (s.ttb.path + 1) s
  generalize pathReached (s.ttb.path + 1) s = v at *
  have stopped := halts_stopNow x (64 * (s.ttb.path + 1)) v
  rw [boundaryFalls_stop (arrives.st.trans runs) ((arrives.stopDue _).trans due), pathBegins_stopped stopped.st]
  have told := stopped.aside (aside_reserveWake _)
  exact ⟨told.st, told.reason, told.up, told.dn, told.raisedHalted, told.raisedStopped⟩

/-! ## A path within a cycle (R213) -/

theorem runs_pathBoundary_path {s : State} (hl : s.platLive = true) (runs : s.ttb.st = .running) (stops : s.ttb.stops = [])
    (within : s.ttb.path + 1 < s.ttb.cycleG + s.cyclePaths) : Runs .pathBoundary s fun t =>
      t.ttb.st = .running ∧ t.ttb.epoch = s.ttb.epoch ∧ t.ttb.cycleG = s.ttb.cycleG ∧ t.ttb.path = s.ttb.path + 1 ∧
        64 * (s.ttb.path + 1) ≤ t.now := by
  refine runs_pathBoundary hl ?_
  rw [nextPath_running runs]
  have arrives := arrives_pathReached (s.ttb.path + 1) s
  generalize pathReached (s.ttb.path + 1) s = v at *
  rw [boundaryFalls_path (arrives.st.trans runs) ((arrives.stopDue _).trans (stopDue_none stops _))
    (by rw [arrives.cycleG, arrives.cycle]; exact within)]
  have goes := (goes_pathBegins (s.ttb.path + 1) v).trans (aside_reserveWake _).goes
  exact ⟨goes.st.trans (arrives.st.trans runs), goes.epoch.trans arrives.epoch, goes.cycleG.trans arrives.cycleG,
    goes.path.trans arrives.path, arrives.late.trans_eq goes.now.symm⟩

/-! ## The end of a cycle (R202) -/

/-- The next cycle begun under the same bank. -/
def cycleBegun (s : State) : State :=
  modTtb (fun t => { t with
    cycleG := s.ttb.cycleG + s.cyclePaths, epoch := s.ttb.epoch + 1, cycleNo := t.cycleNo + 1,
    logged := t.logged.filter fun x => x.2.1 == s.ttb.epoch + 1 - 1 }) (if s.releaseHere (s.ttb.epoch + 1) then releaseNow s else s)

/-- With no switch armed the bank in force goes on. -/
theorem cycleBoundary_eq {s : State} (free : s.ttb.standby ≠ .armed) :
    cycleBoundary s = t6Cycle (modBank (cycleBegun s).ttb.active (fun b => { b with late := [] }) (cycleBegun s)) := by
  have no : ¬(s.ttb.standby == .armed && s.ttb.armEpoch == s.ttb.epoch + 1) = true := by simp [free]
  exact if_neg no

theorem runs_pathBoundary_cycle {s : State} (hl : s.platLive = true) (runs : s.ttb.st = .running) (stops : s.ttb.stops = [])
    (free : s.ttb.standby ≠ .armed) (past : s.ttb.cycleG + s.cyclePaths ≤ s.ttb.path + 1) : Runs .pathBoundary s fun t =>
      t.ttb.st = .running ∧ t.ttb.epoch = s.ttb.epoch + 1 ∧ t.ttb.cycleG = s.ttb.cycleG + s.cyclePaths ∧
        t.ttb.path = s.ttb.path + 1 ∧ t.ttb.cycleNo = s.ttb.cycleNo + 1 := by
  refine runs_pathBoundary hl ?_
  rw [nextPath_running runs]
  have arrives := arrives_pathReached (s.ttb.path + 1) s
  generalize pathReached (s.ttb.path + 1) s = v at *
  rw [boundaryFalls_cycle (arrives.st.trans runs) ((arrives.stopDue _).trans (stopDue_none stops _))
    (by rw [arrives.cycleG, arrives.cycle]; exact past), cycleBoundary_eq (arrives.standby ▸ free)]
  have begun := (goes_modBank (cycleBegun v).ttb.active (cycleBegun v) (f := fun b => { b with late := [] })).trans (goes_t6Cycle _)
  have goes := ((begun.trans (goes_catchUp (s.ttb.path + 1) _)).trans (goes_pathBegins (s.ttb.path + 1) _)).trans
    (aside_reserveWake _).goes
  have released : (if v.releaseHere (v.ttb.epoch + 1) then releaseNow v else v).ttb = v.ttb :=
    (Aside.ite (fun _ => aside_releaseNow v) fun _ => Aside.refl v).ttb
  refine ⟨goes.st.trans ?_, goes.epoch.trans ?_, goes.cycleG.trans ?_, goes.path.trans ?_, goes.cycleNo.trans ?_⟩
  · exact (congrArg Ttb.st released).trans (arrives.st.trans runs)
  · exact congrArg (· + 1) arrives.epoch
  · exact congrArg₂ (· + ·) arrives.cycleG arrives.cycle
  · exact (congrArg Ttb.path released).trans arrives.path
  · exact congrArg (· + 1) ((congrArg Ttb.cycleNo released).trans arrives.cycleNo)

/-! ## The start armed (R209) -/

/-- The cycle of a run begun at G0. -/
def runBegun (s : State) : State :=
  modTtb (fun t => { t with
    st := .running, cycleG := s.ttb.g0, epoch := BitVec.ofNat 16 (s.fld F.RWT_EPOCH.START), cycleNo := 0, haltReason := 0,
    recv := [], due := [], logged := [] }) s

/-- The epoch of an N-1 switch, counted from the run's first (R222). -/
def n1Counted (s : State) : State :=
  match s.ttb.n1 with
  | some n => modTtb (fun t => { t with armEpoch := t.epoch + BitVec.ofNat 16 ((n.atG - s.ttb.cycleG) / s.cyclePaths) }) s
  | none => s

/-- What is told of a start. -/
def startTold (g0 : Nat) (s : State) : State := wake .start 0 (leBytes 8 (64 * g0)) (raise C.TTB.STARTED 0 (t6Cycle s))

section
variable {s : State} {b : Bank}

theorem beginRun_eq (bank : s.bank = some b) (checks : s.bankChecks b true = 0) (filled : b.filled = true) :
    beginRun s = startTold s.ttb.g0 (n1Counted (runBegun s)) := by
  simp only [beginRun, bank, checks, filled, bne_self_eq_false, Bool.not_true, Bool.or_self, Bool.false_eq_true, if_false]
  rfl

theorem aside_startTold (g0 : Nat) (s : State) : Aside s (startTold g0 s) :=
  ((serves_jct _ s).aside.trans (aside_raise (by decide) 0 _)).trans (aside_wake _ _ _ _)

theorem raised_startTold (g0 : Nat) (s : State) : Raised C.TTB.STARTED (startTold g0 s) :=
  (aside_wake _ _ _ _).raised _ (by decide) (raised_raise_self (by decide) 0 _)

/-- What a run begins with. -/
structure Begins (s t : State) : Prop where
  st : t.ttb.st = .running
  cycleG : t.ttb.cycleG = s.ttb.g0
  path : t.ttb.path = s.ttb.path
  reason : t.ttb.haltReason = 0
  epoch : t.ttb.epoch = BitVec.ofNat 16 (s.fld F.RWT_EPOCH.START)
  now : t.now = s.now

theorem begins_n1Counted (s : State) : Begins s (n1Counted (runBegun s)) := by
  unfold n1Counted
  split <;> exact ⟨rfl, rfl, rfl, rfl, rfl, rfl⟩

theorem bank_congr {t : State} (banks : t.ttb.banks = s.ttb.banks) (active : t.ttb.active = s.ttb.active) : t.bank = s.bank := by
  simp only [State.bank, banks, active]

/-- The checks of a bank read the sleeves in use and the binding generations alone (R211). -/
theorem bankChecks_congr {t : State} (seam : t.seam = s.seam) (msh : t.msh = s.msh) (b : Bank) (inForce : Bool) :
    t.bankChecks b inForce = s.bankChecks b inForce := by
  unfold State.bankChecks State.stagedGen
  rw [seam, msh]

theorem missDue_nothing (due : s.ttb.due = []) : missDue s = modTtb (fun t => { t with due := [] }) s := by
  rw [missDue, due]
  rfl

theorem closeDue_nothing (recv : s.ttb.recv = []) : closeDue s = s := by
  simp only [closeDue, recv, List.filter_nil, List.foldl_nil, List.map_nil, List.dedup_nil]

/-- A boundary with nothing open before it moves the sequencer's path and the time alone. -/
theorem pathReached_nothing (recv : s.ttb.recv = []) (due : s.ttb.due = []) (g : Nat) :
    pathReached g s = modTtb (fun t => { t with path := g, due := [] }) (s.reach (64 * g)) := by
  have ttb : (s.reach (64 * g)).ttb = s.ttb := onlyChanges_reach (64 * g) s .ttb (by decide)
  rw [pathReached, closeDue_nothing (by rw [ttb, recv]), missDue_nothing (by rw [ttb, due])]
  rfl

theorem runs_pathBoundary_start (hl : s.platLive = true) (armed : s.ttb.st = .startArmed) (recv : s.ttb.recv = [])
    (due : s.ttb.due = []) (stops : s.ttb.stops = []) (come : s.ttb.g0 ≤ s.nextPath) (bank : s.bank = some b)
    (checks : s.bankChecks b true = 0) (filled : b.filled = true) : Runs .pathBoundary s fun t =>
      t.ttb.st = .running ∧ t.ttb.cycleG = s.ttb.g0 ∧ t.ttb.path = s.nextPath ∧ t.ttb.haltReason = 0 ∧
        t.ttb.epoch = BitVec.ofNat 16 (s.fld F.RWT_EPOCH.START) ∧ Raised C.TTB.STARTED t ∧ 64 * s.nextPath ≤ t.now := by
  refine runs_pathBoundary hl ?_
  generalize s.nextPath = g at *
  have arrives := arrives_pathReached g s
  have reach := onlyChanges_reach (64 * g) s
  have banks : (pathReached g s).bank = some b := by
    rw [pathReached_nothing recv due, ← bank]
    have ttb : (s.reach (64 * g)).ttb = s.ttb := reach .ttb (by decide)
    have banks : (s.reach (64 * g)).ttb.banks = s.ttb.banks := congrArg Ttb.banks ttb
    have active : (s.reach (64 * g)).ttb.active = s.ttb.active := congrArg Ttb.active ttb
    exact bank_congr banks active
  have holds : (pathReached g s).bankChecks b true = 0 := by
    rw [pathReached_nothing recv due, ← checks]
    exact bankChecks_congr (reach .seam (by decide)) (reach .msh (by decide)) b true
  have epoch : (pathReached g s).fld F.RWT_EPOCH.START = s.fld F.RWT_EPOCH.START := by
    rw [pathReached_nothing recv due]
    exact (reach.notes (by decide) (by decide)).fld (by decide +kernel) (by decide)
  generalize pathReached g s = v at *
  rw [boundaryFalls_start (arrives.st.trans armed) ((arrives.stopDue _).trans (stopDue_none stops _)) (arrives.g0 ▸ come),
    beginRun_eq banks holds filled]
  have begins := begins_n1Counted v
  have told := aside_startTold v.ttb.g0 (n1Counted (runBegun v))
  have goes := (told.goes.trans (goes_pathBegins g _)).trans (aside_reserveWake _).goes
  have raised := ((goes_pathBegins g _).trans (aside_reserveWake _).goes).raised _ (by decide)
    (raised_startTold v.ttb.g0 (n1Counted (runBegun v)))
  exact ⟨goes.st.trans begins.st, (goes.cycleG.trans begins.cycleG).trans arrives.g0, (goes.path.trans begins.path).trans arrives.path,
    goes.haltReason.trans begins.reason, (goes.epoch.trans begins.epoch).trans (congrArg _ epoch), raised,
    arrives.late.trans_eq (goes.now.trans begins.now).symm⟩

end

end Sys2Proof.Machine
end

section
/-!
SUPPORT. A FENCE_NOTICE: the stop that the sequencer asks for, and what the other units make of it (R222, R253, R276, R289, R300).
-/
namespace Sys2Proof.Machine

/-! ## What the other units do -/

theorem aside_finishAt (num : BitVec 12) (result : BitVec 4) (m : Nat) (s : State) : Aside s (finishAt num result m s) :=
  (beside_finishAt num result m s).aside (reports_finishAt num result m s)

theorem aside_checkDone (num : BitVec 12) (s : State) : Aside s (checkDone num s) :=
  (beside_checkDone num s).aside (reports_checkDone num s)

theorem aside_checkExchange (num : BitVec 12) (s : State) : Aside s (checkExchange num s) := by
  unfold checkExchange
  split
  · exact Aside.refl s
  · extract_lets sent got
    exact .ite (fun _ => aside_finishAt _ _ _ s) fun _ => Aside.refl s

theorem aside_takeOff (g : BitVec 12) (j : Nat) (s : State) : Aside s (takeOff g j s) :=
  (beside_takeOff g j s).aside (reports_takeOff g j s)

theorem aside_fenceMine (f : BitVec 14) (s : State) : Aside s (fenceMine f s) := by
  unfold fenceMine
  split
  · exact Aside.refl s
  · exact .ite (fun _ => (serves_abandonMig s).aside) fun _ =>
      .ite (fun _ => ((serves_modMig _ s).trans (serves_pumpMig _)).aside) fun _ => Aside.refl s

theorem aside_fenceTheirs (f : BitVec 14) (s : State) : Aside s (fenceTheirs f s) := by
  refine aside_foldl (fun s r => ?_) _ s
  extract_lets past src u
  have seen : Serves s u := serves_msh _ s
  clear_value past u
  refine .ite (fun _ => ?_) fun _ => (seen.trans (serves_modRec _ _ u)).aside
  exact (seen.trans (serves_modRec r.slot _ u)).aside.trans (aside_raise (by decide) _ _)

theorem aside_fencePairs (f : BitVec 14) (t : Nat) (s : State) : Aside s (fencePairs f t s) := by
  unfold fencePairs
  split
  · extract_lets gen fences src base
    split
    next m sw fe _ =>
      extract_lets fresh swapped fenced rel u v
      have staged : Aside s u := (serves_msh _ s).aside
      have told : Aside u v := .ite (fun _ => aside_raiseMulti (by decide) _ _ _ u) fun _ =>
        .ite (fun _ => aside_raise (by decide) _ u) fun _ => .ite (fun _ => aside_raise (by decide) _ u) fun _ => Aside.refl u
      exact (staged.trans told).trans (aside_releaseIfDue v)
  · exact Aside.refl s

theorem aside_fenceGroups (f : BitVec 14) (s : State) : Aside s (fenceGroups f s) := by
  refine aside_foldl (fun s g => ?_) _ s
  split
  · exact aside_finishAt _ _ _ s
  · extract_lets hit
    exact .ite (fun _ => ((aside_modGroup _ _ s).trans (aside_checkDone _ _)).trans (aside_checkExchange _ _)) fun _ => Aside.refl s

theorem aside_modDest (g : BitVec 12) (f : AspDest → AspDest) (s : State) : Aside s (modDest g f s) := aside_asp _ s

theorem aside_fenceAsp (f : BitVec 14) (t : Nat) (s : State) : Aside s (fenceAsp f t s) := by
  unfold fenceAsp
  extract_lets u
  refine Aside.trans (aside_foldl (fun s d => ?_) _ s) (aside_foldl (fun s m => ?_) _ u)
  · refine .ite (fun _ => Aside.refl s) fun _ => ?_
    split
    · exact Aside.refl s
    · extract_lets v
      have left : Aside s v := aside_modDest _ _ s
      exact .ite (fun _ => left.trans (.ite (fun _ => Aside.refl v) fun _ => aside_takeOff _ _ v)) fun _ => aside_endDest _ _ s
  · exact .ite (fun _ => aside_endMem _ _ _ s) fun _ => Aside.refl s

/-- What the other units make of the notice. -/
def fenceTold (die : BitVec 14) (t : Nat) (s : State) : State :=
  fenceAsp die t (fenceGroups die (fencePairs die t (fenceTheirs die (fenceMine die s))))

theorem aside_fenceTold (die : BitVec 14) (t : Nat) (s : State) : Aside s (fenceTold die t s) :=
  ((((aside_fenceMine die s).trans (aside_fenceTheirs die _)).trans (aside_fencePairs die t _)).trans (aside_fenceGroups die _)).trans
    (aside_fenceAsp die t _)

/-! ## What the sequencer does (R222) -/

/-- The first path at or after T_FENCE + LEAD_US. -/
def State.fencePath (s : State) (t : Nat) : Nat := (t + s.leadNs + 63) / 64

/-- The stop at the first path at or after T_FENCE + LEAD_US. -/
def State.fenceStop (s : State) (die : BitVec 14) (t : Nat) : Stop := { atG := s.fencePath t, reason := 3, die := die, fence := t }

/-- The stop at the next path, where that one has begun. -/
def State.lateStop (s : State) (die : BitVec 14) (t : Nat) : Stop := { atG := s.ttb.path + 1, reason := 4, die := die, fence := t }

section
variable {die : BitVec 14} {t : Nat} {s : State}

theorem fenceTtb_elsewhere (no : s.flag F.TTB_CTRL.AUTO_N1 = false ∨ s.names die = false) : fenceTtb die t s = s := by
  unfold fenceTtb
  extract_lets runs
  refine if_pos ?_
  rcases no with off | other
  · rw [off]
    rfl
  · rw [other]
    exact Bool.or_true _

/-- Without a variant in the standby, the timetable that names the die stops. -/
theorem fenceTtb_stops (auto : s.flag F.TTB_CTRL.AUTO_N1 = true) (live : s.ttb.st = .running ∨ s.ttb.st = .startArmed)
    (names : s.names die = true) (empty : s.ttb.standby = .empty) :
    fenceTtb die t s = if s.fencePath t ≤ s.now / 64 then askStop (s.lateStop die t) s else stopAdded (s.fenceStop die t) s := by
  have acts : ¬(!s.flag F.TTB_CTRL.AUTO_N1 || !(s.ttb.st == .running || s.ttb.st == .startArmed) || !s.names die) = true := by
    rcases live with st | st <;> rw [auto, names, st] <;> decide
  unfold fenceTtb
  extract_lets runs tb armed base cyc k b g now late variant e0 stop
  have none : ¬variant = true := by simp [variant, empty]
  exact (if_neg acts).trans (if_neg none)

theorem askStop_late (live : s.ttb.st = .running ∨ s.ttb.st = .startArmed) :
    askStop (s.lateStop die t) s = stopAdded (s.lateStop die t) s := by
  rcases live with runs | armed
  · exact askStop_running runs
  · exact askStop_armed armed (by decide : (4 : BitVec 4) ≠ 1)

end

/-! ## The notice -/

/-- FENCE_SEEN raised. -/
def fenceSeen (s : State) : State := raise C.TTB.FENCE_SEEN (detTtb 0 0 0 s) s

theorem exec_fenceNotice (msg : BitVec 96) (s : State) :
    exec (.fenceNotice msg) s = whenMsg s fun s =>
      fenceTold (bits msg 0 14) (Sys2Proof.fld msg 32 64) (fenceTtb (bits msg 0 14) (Sys2Proof.fld msg 32 64) (fenceSeen s)) := rfl

/-- What the sequencer reads when it acts on a notice. -/
structure SameView (die : BitVec 14) (s t : State) : Prop where
  ttb : t.ttb = s.ttb
  now : t.now = s.now
  auto : t.flag F.TTB_CTRL.AUTO_N1 = s.flag F.TTB_CTRL.AUTO_N1
  lead : t.leadNs = s.leadNs
  names : t.names die = s.names die

theorem sameView_fenceSeen (die : BitVec 14) (s : State) : SameView die s (fenceSeen s) := by
  have frame := onlyChanges_raise C.TTB.FENCE_SEEN (detTtb 0 0 0 s) s
  have notes := notes_raise (c := C.TTB.FENCE_SEEN) (by decide) (detTtb 0 0 0 s) s
  have ttb : (fenceSeen s).ttb = s.ttb := frame .ttb (by decide)
  have msh : (fenceSeen s).msh = s.msh := frame .msh (by decide)
  have lead : (fenceSeen s).fld F.TTB_N1_CFG.LEAD_US = s.fld F.TTB_N1_CFG.LEAD_US := notes.fld (by decide +kernel) (by decide)
  refine ⟨ttb, congrArg Rwt.now (frame .rwt (by decide)), notes.flag (by decide +kernel) (by decide), congrArg (· * 1000) lead, ?_⟩
  simp only [State.names, State.bank, State.bindOf, ttb, msh]

section
variable {die : BitVec 14} {t : Nat} {s : State}

theorem reports_askStop {x : Stop} (other : x.reason ≠ 1) (s : State) : Reports s (askStop x s) := by
  have waits : ¬(s.ttb.st == .startArmed && x.reason == 1) = true := by
    rw [beq_eq_false_iff_ne.mpr other, Bool.and_false]
    decide
  rw [askStop, if_neg waits]
  exact .ite (fun _ => reports_modTtb (fun t => { t with stops := t.stops ++ [x] }) s) fun _ => Reports.refl s

theorem reports_fenceTtb (die : BitVec 14) (t : Nat) (s : State) : Reports s (fenceTtb die t s) := by
  unfold fenceTtb
  extract_lets runs tb armed base cyc k b g now late variant e0 stop
  have asked : Reports s late := reports_askStop (by decide : (4 : BitVec 4) ≠ 1) s
  have switched : Reports s (disarm s) := reports_disarm s
  clear_value late variant
  refine .ite (fun _ => Reports.refl s) fun _ => .ite (fun _ => ?_) fun _ => ?_
  · exact .ite (fun _ => asked) fun _ => switched.trans (reports_modTtb _ _)
  · exact .ite (fun _ => asked) fun _ => reports_modTtb _ s

/-- Where the timetable that names the die runs on without a variant, the notice's stop is among those asked for. -/
theorem fenceTtb_mem {s : State} (auto : s.flag F.TTB_CTRL.AUTO_N1 = true) (live : s.ttb.st = .running ∨ s.ttb.st = .startArmed)
    (names : s.names die = true) (empty : s.ttb.standby = .empty) :
    (s.now / 64 < s.fencePath t → s.fenceStop die t ∈ (fenceTtb die t s).ttb.stops) ∧
      (s.fencePath t ≤ s.now / 64 → s.lateStop die t ∈ (fenceTtb die t s).ttb.stops) := by
  rw [fenceTtb_stops auto live names empty]
  refine ⟨fun ahead => ?_, fun past => ?_⟩
  · rw [if_neg (Nat.not_le.mpr ahead)]
    exact List.mem_append_right _ (List.mem_singleton_self _)
  · rw [if_pos past, askStop_late live]
    exact List.mem_append_right _ (List.mem_singleton_self _)

theorem SameView.stops {s v : State} (h : SameView die s v) :
    v.fencePath t = s.fencePath t ∧ v.fenceStop die t = s.fenceStop die t ∧ v.lateStop die t = s.lateStop die t := by
  simp only [State.fenceStop, State.lateStop, State.fencePath, h.ttb, h.lead, and_self]

theorem runs_fenceNotice {msg : BitVec 96} (hf : s.functional = true) (lock : s.slp.lock = true) (named : bits msg 0 14 = die)
    (time : Sys2Proof.fld msg 32 64 = t) : Runs (.fenceNotice msg) s fun u =>
      Raised C.TTB.FENCE_SEEN u ∧
      (s.flag F.TTB_CTRL.AUTO_N1 = false ∨ s.names die = false → u.ttb.stops = s.ttb.stops) ∧
      (s.flag F.TTB_CTRL.AUTO_N1 = true → (s.ttb.st = .running ∨ s.ttb.st = .startArmed) → s.names die = true →
        s.ttb.standby = .empty →
          (s.now / 64 < s.fencePath t → s.fenceStop die t ∈ u.ttb.stops) ∧
          (s.fencePath t ≤ s.now / 64 → s.lateStop die t ∈ u.ttb.stops)) := by
  have seen : Raised C.TTB.FENCE_SEEN (fenceSeen s) := raised_raise_self (by decide) _ s
  have view := sameView_fenceSeen die s
  refine runs_msg (u := fenceTold die t (fenceTtb die t (fenceSeen s))) (exec_fenceNotice msg) hf lock (by rw [named, time]) ?_
  generalize fenceSeen s = v at *
  have told := aside_fenceTold die t (fenceTtb die t v)
  obtain ⟨path, fence, late⟩ := view.stops (t := t)
  have stops {x : Stop} (mem : x ∈ (fenceTtb die t v).ttb.stops) : x ∈ (settle (fenceTold die t (fenceTtb die t v))).ttb.stops :=
    (congrArg Ttb.stops told.ttb).symm ▸ mem
  refine ⟨told.raised _ (by decide) ((reports_fenceTtb die t v).1 _ (by decide) seen), fun no => ?_, fun auto live names empty => ?_⟩
  · refine (congrArg Ttb.stops told.ttb).trans ?_
    rw [fenceTtb_elsewhere (by rw [view.auto, view.names]; exact no), view.ttb]
  · have mem := fenceTtb_mem (t := t) (view.auto.trans auto) (view.ttb.symm ▸ live) (view.names.trans names)
      ((congrArg Ttb.standby view.ttb).trans empty)
    rw [path, fence, late, view.now] at mem
    exact ⟨fun ahead => stops (mem.1 ahead), fun past => stops (mem.2 past)⟩

end

/-- Settles O47: a start, a stop, a cycle's end or the next path falls at a boundary, and a FENCE_NOTICE asks for the stop of a timetable
that names its die. -/
theorem pathBoundaries : Obligations.PathBoundaries :=
  ⟨fun _ _ hl armed recv due stops come bank checks filled => runs_pathBoundary_start hl armed recv due stops come bank checks filled,
    fun _ _ hl runs due => runs_pathBoundary_stop hl runs due,
    fun _ hl runs stops free _ past => runs_pathBoundary_cycle hl runs stops free past,
    fun _ hl runs stops within => runs_pathBoundary_path hl runs stops within,
    fun _ _ hf lock => runs_fenceNotice hf lock rfl rfl⟩

end Sys2Proof.Machine
end
